-- ==== Sys2Proof/Word.lean ====
section
/-!
DEFINITION. Word.lean: the word and byte types of the block and the plainest arithmetic on them.
-/
namespace Sys2Proof

/-- A 32-bit register word (R44). -/
abbrev Word := BitVec 32

/-- A byte of a block memory. -/
abbrev Byte := BitVec 8

/-- Bits `lo` to `lo + wid - 1` of `x`. -/
def bitsAt (x lo wid : Nat) : Nat := (x >>> lo) % 2 ^ wid

/-- Bit `k` of `x`. -/
def bitAt (x k : Nat) : Bool := bitsAt x k 1 == 1

/-- `x` placed at bit `lo`. -/
def putAt (x lo : Nat) : Nat := x <<< lo

/-- One bit as a number. -/
def bnat (b : Bool) : Nat := if b then 1 else 0

/-- The two's-complement value of the low `wid` bits of `x`. -/
def signedOf (wid x : Nat) : Int :=
  if x % 2 ^ wid < 2 ^ (wid - 1) then (x % 2 ^ wid : Nat) else ((x % 2 ^ wid : Nat) : Int) - (2 ^ wid : Nat)

/-- The low `wid` bits of the two's-complement form of `i`. -/
def unsignedOf (wid : Nat) (i : Int) : Nat := (i % ((2 ^ wid : Nat) : Int)).toNat

end Sys2Proof
end

