-- ==== Sys2Proof/Access.lean ====
section
/-!
DEFINITION. Access.lean: who makes an access to the apertures (R102, R105, R106).
-/
namespace Sys2Proof

/-- The paths of R106. -/
inductive Path where
  | regPort | tblPort | steward | warden
  deriving DecidableEq, Repr

/-- The attributes an access carries: its path, master ID and the secure and privileged attributes (R44, R46, R106). -/
structure Acc where
  path : Path
  mid : BitVec 8
  sec : Bool
  priv : Bool
  deriving DecidableEq, Repr

/-- R106: the Steward's accesses carry master ID 0xF1 and the privileged attribute, never the secure one (R25). -/
def accSteward : Acc := ⟨.steward, 0xF1, false, true⟩

/-- R106: the Warden's accesses carry master ID 0xF0 and both attributes (R25). -/
def accWarden : Acc := ⟨.warden, 0xF0, true, true⟩

end Sys2Proof
end

