-- ==== Sys2Proof/Syntax.lean ====
section
/-!
DEFINITION. Syntax.lean: the commands of the block, one constructor per row of spec/opcode_table.json (223 rows). A row that
is a write of a register carries the access, the instance and the data word; a row that is an event of the surroundings
carries what arrives with it; a row that asserts that a time has passed carries what tells the event apart.
-/
namespace Sys2Proof

/-- The commands. `a` is the access, `v` a written word, `n` a rail, `p` a phase, `s` a droop satellite, `m` a clock
domain or mailbox, `c` a compute core, `k` an instance of the page, `adr` a word address. -/
inductive Instr where
  /-- COLD_RESET, R450: COLD_RST_N clears and wipes every domain, including PD_AON. -/
  | coldReset
  /-- WARM_RESET, R450: WARM_RST_N clears and wipes PD_CORE, PD_WARDEN and PD_STEWARD and keeps PD_AON. -/
  | warmReset
  /-- BLOCK_RESET_PIN, R450: BLOCK_RST_N resets the same domains as WARM and records its own cause. -/
  | blockResetPin
  /-- BLOCK_RESET, R116: A write of 0x0000_B10C to TOP.BLOCK_RESET asserts a BLOCK reset for 120 GCLK cycles. -/
  | blockReset (a : Acc) (v : BitVec 32)
  /-- TEST_DESELECT, R71: Deselecting any instrument other than BLOCK_ID performs a BLOCK reset with a full wipe. -/
  | testDeselect (x : Nat)
  /-- LIFE_CYCLE_RESET, R464: After a transition, the life-cycle reset starts at the host's TAKE of the answer or 1 ms after the answer. -/
  | lifeCycleReset
  /-- PAGE_WIPE_DONE, R455: A page's memories finish their wipe and read-back, and the page reports READY or a wipe failure. -/
  | pageWipeDone (page : Nat) (ok : Bool)
  /-- BEAT, R73: A beat strobe latches arrivals and runs the beat tasks and timers, including alignment of the beat length to global time. -/
  | beat (gt : BitVec 64) (valid : Bool) (corr : Nat) (uncorr : Option Nat)
  /-- RAIL_TICK, R81: A RAIL strobe runs the compensator, the current distribution, the credit ramp update, the fault monitor and the RAIL-tick timers. -/
  | railTick (vs : List (List Nat))
  /-- THERM_TICK, R82: A THERM strobe starts a ring sampling pass, and task 0x11 then evaluates temperatures, zones, limits and the memory cap. -/
  | thermTick (ring : List (List (BitVec 24)) × List (Option (BitVec 14))) (cs : BitVec 14 × Bool)
  /-- ISOBAR_SLOT, R337: At an ISOBAR slot start the engine builds and sends its MIN, SUM or PROBE contribution. -/
  | isobarSlot
  /-- BUDGET_TICK, R82: A BUDGET strobe runs grant intake, the power set-point, table bank swaps, ageing and window rollover. -/
  | budgetTick (load : Nat)
  /-- TICK_OVERRUN, R84: A variable task that has not finished at the end of its window is stopped, and its overrun result applies. -/
  | tickOverrun (t : Nat)
  /-- TICK_FIXED_OVERRUN, R83: A fixed task that misses its window has its outputs held at the values of its last completed run. -/
  | tickFixedOverrun (t : Nat)
  /-- GT_VALID_FALL, R78: GT_VALID falls, the scheduler enters FREE, and Isobar moves to ISO_WAIT. -/
  | gtValidFall
  /-- FORWARD_SLOT, R134: Each 50-bit forward slot of a Phase Link sends the highest-priority due frame. -/
  | forwardSlot (p : Nat) (q : Nat)
  /-- RAIL_CYCLE_START, R133: A rail's switching cycle boundary applies pending changes of the active set and the interleave. -/
  | railCycleStart (n : Nat) (c : Nat)
  /-- RETURN_FRAME, R130: A return slot is taken whole, with its sample, report, bring-up progress, link-loss and stage-fault handling. -/
  | returnFrame (p : Nat) (m : Nat) (code : BitVec 50)
  /-- LINK_STEP_TIMEOUT, R129: A bring-up step exceeds its limit and the attempt restarts, or after three failures the phase faults. -/
  | linkStepTimeout (p : Nat)
  /-- PHASE_EN_WRITE, R129: A write of PHASE CTRL.EN starts link bring-up or returns a phase to OFF. -/
  | phaseEnWrite (p : Nat) (a : Acc) (v : BitVec 32)
  /-- PHASE_RETRAIN, R129: A write of CTRL.RETRAIN = 1 in OFF runs link bring-up again. -/
  | phaseRetrain (p : Nat) (a : Acc) (v : BitVec 32)
  /-- PHASE_CLEAR, R144: A write of CTRL.CLEAR = 1 returns a FAULTED phase to OFF, directly or through a new bring-up. -/
  | phaseClear (p : Nat) (a : Acc) (v : BitVec 32)
  /-- PHASE_FORCED, R179: A write of RAIL FINJ.GO = 1 removes the named phase with cause 0x6. -/
  | phaseForced (n : Nat) (a : Acc) (v : BitVec 32)
  /-- RAIL_VS_LOST, R187: Four counted RAIL ticks without a VS sample freeze regulation and set VS_LOST. -/
  | railVsLost (n : Nat)
  /-- RAIL_VS_SQUALL, R188: 64 counted RAIL ticks without a VS sample request a Squall. -/
  | railVsSquall (n : Nat)
  /-- RAIL_RUN, R157: A write of RAIL CTRL.RUN = 1 starts the rail with soft start, or is refused. -/
  | railRun (n : Nat) (a : Acc) (v : BitVec 32)
  /-- RAIL_STOP, R157: A write of RUN = 0 stops the rail, refuses the pending command and reclaims its leases. -/
  | railStop (n : Nat) (a : Acc) (v : BitVec 32)
  /-- LOOP_OPEN, R159: A write of LOOP = 0 opens the loop, hands regulation to HOLD and copies the active coefficient bank. -/
  | loopOpen (n : Nat) (a : Acc) (v : BitVec 32)
  /-- LOOP_CLOSE, R160: A write of LOOP = 1 closes the loop bumplessly, swapping banks if the digest matches. -/
  | loopClose (n : Nat) (a : Acc) (v : BitVec 32)
  /-- RAIL_OPEN_TIMEOUT, R162: The loop closes itself after OPEN_LIMIT BUDGET strobes. -/
  | railOpenTimeout (n : Nat)
  /-- COEF_EDIT_WRITE, R159: A COEF_EDIT write updates the edit bank or, with the loop closed, is ignored and counted. -/
  | coefEditWrite (n : Nat) (k : Nat) (a : Acc) (v : BitVec 32)
  /-- RAIL_SRC_WRITE, R155: A change of CTRL.SRC switches command source, taking the governor's latest command on return to 0. -/
  | railSrcWrite (n : Nat) (a : Acc) (v : BitVec 32)
  /-- RAIL_CMD, R155: A host write of RAIL CMD issues a voltage command, or is refused as a whole. -/
  | railCmd (n : Nat) (a : Acc) (v : BitVec 32)
  /-- AVS_RESPONSE, R165: An AVSBus transaction ends with its response, a retry or AVS_ERROR. -/
  | avsResponse (n : Nat) (ok : Bool) (status : BitVec 5) (w : BitVec 16)
  /-- RAIL_AVS_TIMEOUT, R165: An AVS command that has not settled AVS.TIMEOUT µs after the ramp reached T completes AVS_TIMEOUT. -/
  | railAvsTimeout (n : Nat)
  /-- TUNE_ARM, R166: A write of TUNE CTRL.ARM = 1 starts an injection and capture run, or is refused. -/
  | tuneArm (a : Acc) (v : BitVec 32)
  /-- TUNE_STOP, R168: A write of CTRL.STOP = 1 aborts the run. -/
  | tuneStop (a : Acc) (v : BitVec 32)
  /-- TUNE_DONE, R167: The last capture sample is written and the run enters DONE. -/
  | tuneDone
  /-- DS_EVT_ACCEPT, R200: A changed DS_n_EVT value is accepted, starting or ending Gusts and persistence bubbles. -/
  | dsEvtAccept (s : Nat) (evt : BitVec 4) (cyc : Nat)
  /-- SERVO_STEP, R195: At each servo interval the satellite moves its coarse setting toward a CODE of 40. -/
  | servoStep (s : Nat)
  /-- GUST_RELEASE_WAIT_END, R204: The wait of 64 compute-core cycles after a Gust ends passes, and a withheld SWITCH may rise. -/
  | gustReleaseWaitEnd (m : Nat)
  /-- GUST_LONG, R205: At 24,000 GCLK cycles of Gust a pending increase is abandoned and a pending decrease switches. -/
  | gustLong (m : Nat)
  /-- DROOP_STUCK, R202: A satellite in Gust for STUCK.LIMIT beats is taken out of use and forces a calibration. -/
  | droopStuck (s : Nat)
  /-- MAP_USE_WRITE, R202: A write of MAP.USE = 1 returns a satellite to use and clears STUCK. -/
  | mapUseWrite (s : Nat) (a : Acc) (v : BitVec 32)
  /-- CAL_PERIOD_DUE, R208: A rail calibration becomes due every CAL_CFG.PERIOD seconds. -/
  | calPeriodDue
  /-- CAL_GO, R208: A write of CAL_CTRL.GO makes a calibration of the named rail due. -/
  | calGo (a : Acc) (v : BitVec 32)
  /-- CAL_START, R208: A due calibration starts at the first beat at which its quiet conditions and claim hold. -/
  | calStart
  /-- CAL_GAP_END, R209: The gap before a pulse ends and the reference steps down by delta. -/
  | calGapEnd
  /-- CAL_PULSE_END, R209: A pulse ends, crossing drops are recorded, and the run steps deeper or finishes with results. -/
  | calPulseEnd
  /-- WAVE_ARM, R212: A write of WAVE_CFG.ARM = 1 arms a droop waveform capture, or is refused. -/
  | waveArm (a : Acc) (v : BitVec 32)
  /-- WAVE_STOP, R212: A write of WAVE_CFG.STOP = 1 ends the capture as ABORTED. -/
  | waveStop (a : Acc) (v : BitVec 32)
  /-- DROOP_WAVE_DONE, R212: The post-trigger sample count completes and the capture is DONE. -/
  | droopWaveDone
  /-- GOV_ESC_LEVEL, R219: An escalation count reaching LEVEL_BEATS lowers L_gov by one. -/
  | govEscLevel (sc : Nat)
  /-- GOV_ESC_POOL, R219: An escalation count reaching POOL_BEATS at L0 lowers the pool factors. -/
  | govEscPool (sc : Nat)
  /-- GOV_STEP_UP, R220: A step-up count reaching STEP_UP_HOLD raises pool factors, or otherwise L_gov. -/
  | govStepUp
  /-- GOV_SAFE_POLICY, R222: After 100 ms of POLICY_STALE the governor applies SAFE.MODE and SAFE.LEVEL_MAX. -/
  | govSafePolicy
  /-- PROCHOT, R221: The filtered PROCHOT_N acts and applies the PROCHOT level cap. -/
  | prochot
  /-- LEVEL_BANK_SWAP, R223: A write of LEVEL BANK.SWAP = 1 requests a level-table bank swap. -/
  | levelBankSwap (a : Acc) (v : BitVec 32)
  /-- LEVEL_TABLE_CHECK, R223: At the next BUDGET tick the inactive level bank is checked and swapped or refused. -/
  | levelTableCheck
  /-- FITCTL_WRITE, R224: A write of FITCTL.HOLD freezes fitness needs or releases them for rereading. -/
  | fitctlWrite (a : Acc) (v : BitVec 32)
  /-- CD_PREP_ACK, R58: CD_n_PREP_ACK rises and the prepared DPLL is locked. -/
  | cdPrepAck (m : Nat)
  /-- CD_SWITCH_RAISE, R227: The governor raises CD_n_SWITCH on the first edge at which PREP_ACK, voltage and Gust conditions allow it. -/
  | cdSwitchRaise (m : Nat)
  /-- CD_SWITCH_ACK, R58: CD_n_SWITCH_ACK confirms the new frequency and ends the handshake. -/
  | cdSwitchAck (m : Nat)
  /-- CD_UNGATE, R227: A gated domain is ungated once its frequency is confirmed and its rail's command is COMPLETE. -/
  | cdUngate (m : Nat)
  /-- LEVEL_PREP_TIMEOUT, R228: PREP_ACK absent for CLOCK.PREP µs makes the governor lower PREP and retry. -/
  | levelPrepTimeout (m : Nat)
  /-- LEVEL_SWITCH_TIMEOUT, R228: SWITCH_ACK absent for CLOCK.SWITCH ns is reported while the governor goes on waiting. -/
  | levelSwitchTimeout (m : Nat)
  /-- CREDIT_REQUEST, R245: A credit request is taken and answered GRANT, WAIT or DENY. -/
  | creditRequest (reqs : List (Nat × BitVec 32)) (strobe : Bool)
  /-- CREDIT_RETURN, R243: A lease return ends the lease, or is late and ignored. -/
  | creditReturn (c : Nat) (w : BitVec 16)
  /-- CREDIT_GRANT, R248: A waiting request at the front of a rail's queue is granted once pool and bucket allow. -/
  | creditGrant
  /-- CREDIT_RECLAIM, R251: A lease that expires without a return is reclaimed. -/
  | creditReclaim (c : Nat) (slot : Nat)
  /-- FILL_TIMEOUT, R242: A FILLER request that has waited FILL_WAIT RAIL ticks is denied. -/
  | fillTimeout (c : Nat)
  /-- MEDIUM_PROMOTE, R248: A MEDIUM request that has waited PROMOTE RAIL ticks is promoted among HEAVY requests. -/
  | mediumPromote (c : Nat)
  /-- CREDIT_STARVE, R253: A front request that has waited STARVE.LIMIT RAIL ticks is reported. -/
  | creditStarve (n : Nat)
  /-- ACTIVITY_COUNTS, R244: A channel's activity counts for the beat just ended arrive. -/
  | activityCounts (ch : Nat) (late : Bool) (counts : List (BitVec 16))
  /-- HINT_TOKEN, R262: A token on an enabled hint port is written to the FIFO, dropped or refused as bad. -/
  | hintToken (toks : List (Nat × BitVec 64)) (transit : Nat) (cyc : Nat)
  /-- HINT_PTR_FAULT, R266: Duplicated FIFO pointers that differ reset the FIFO and discard its entries. -/
  | hintPtrFault
  /-- STEP_SWAP, R274: A write of STEP CTRL.SWAP = 1 requests a bank swap at the next position reset. -/
  | stepSwap (a : Acc) (v : BitVec 32)
  /-- STEP_SWAP_NOW, R274: A write of CTRL.SWAP_NOW = 1 swaps step banks at the next beat, or is refused in STEP_RUN. -/
  | stepSwapNow (a : Acc) (v : BitVec 32)
  /-- FCAST_STALE, R293: A fifth consecutive beat without a completed evaluation sets every pp_fc to 0. -/
  | fcastStale
  /-- FCAST_SWAP, R301: A write of FCAST CTRL.SWAP = 1 starts the check of the inactive model bank. -/
  | fcastSwap (a : Acc) (v : BitVec 32)
  /-- FCAST_LOAD_CHECK, R301: The model check ends in a pass or in a failure code. -/
  | fcastLoadCheck (ecc : Bool × Nat)
  /-- FCAST_SWAP_DONE, R301: At the first beat strobe after a passed check the model banks swap. -/
  | fcastSwapDone
  /-- FCAST_REARM, R296: A write of CTRL.REARM = 1 returns a degraded engine to FC_RUN. -/
  | fcastRearm (a : Acc) (v : BitVec 32)
  /-- FCAST_EN_WRITE, R296: A write of CTRL.EN enables the engine or moves it to FC_OFF. -/
  | fcastEnWrite (a : Acc) (v : BitVec 32)
  /-- THERM_RING_FAIL, R307: Eight consecutive failed passes of a segment set RING_FAIL. -/
  | thermRingFail (k : Nat)
  /-- THERM_EXCLUDED, R314: A sensor whose xcount reaches XCHK.COUNT is excluded. -/
  | thermExcluded (n : Nat)
  /-- THERM_READMIT, R314: An excluded sensor whose xcount reaches READMIT is readmitted. -/
  | thermReadmit (n : Nat)
  /-- THERM_ZONE_LOST, R315: A configured zone with no valid member for 8 passes is lost. -/
  | thermZoneLost (z : Nat)
  /-- THERM_FAST_RELEASE, R316: FAST.HOLD consecutive quiet results release fast sampling. -/
  | thermFastRelease
  /-- THERM_RELEASE, R319: After RELEASE.MS quiet BUDGET strobes the thermal cap returns to L63. -/
  | thermRelease
  /-- XT_SAMPLE, R66: A toggle of XT_n_STB delivers a new external temperature. -/
  | xtSample (x : Nat) (valid : Bool) (temp : Option (BitVec 16))
  /-- THERM_XT_STALE, R312: An XT input that has not toggled for XT_STALE.MS becomes invalid. -/
  | thermXtStale (x : Nat)
  /-- THERM_COOLANT, R322: COOLANT_FAULT_N low for 25 AONCLK samples sets the Squall latch. -/
  | thermCoolant
  /-- SQ_FORCE, R322: A write of 0x0000_5C01 to SQ_FORCE starts a Squall with cause 0x4. -/
  | sqForce (a : Acc) (v : BitVec 32)
  /-- SQUALL_GATE, R323: 1,200 GCLK cycles after S0 every domain clock is gated. -/
  | squallGate
  /-- CRIT_RECORD_PRESENT, R52: The critical record is presented on the NV port once no earlier request waits for acceptance. -/
  | critRecordPresent
  /-- CRIT_RECORD_RESPONSE, R325: The critical record's NV response sets REC_DONE, or leads to a retry or NVFAIL. -/
  | critRecordResponse (status : BitVec 2)
  /-- CRIT_WDATA_WRITE, R326: A write to CRIT_WDATA stores a word of the reported record and advances IDX. -/
  | critWdataWrite (a : Acc) (v : BitVec 32)
  /-- CRIT_IDX_DONE, R326: A write of CRIT_IDX.DONE = 1 sets CRITSTAT.VALID. -/
  | critIdxDone (a : Acc) (v : BitVec 32)
  /-- ISOBAR_APPLY_GO, R330: A write of APPLY_CTRL.GO = 1 schedules the staged group set, or is refused. -/
  | isobarApplyGo (a : Acc) (v : BitVec 32)
  /-- ISOBAR_APPLY, R331: At the apply beat the staged set takes effect and the state is chosen. -/
  | isobarApply
  /-- ISOBAR_MESSAGE, R336: A fabric message is received, validated and handled as a result, drop, DEPART or child contribution. -/
  | isobarMessage (src : BitVec 32) (w : BitVec 512)
  /-- ISOBAR_TIMEOUT, R338: A round with no result by its deadline aborts. -/
  | isobarTimeout
  /-- ISOBAR_RESULT_APPLY, R339: At s + 32 or s + 256 a pending MIN result updates AGREED. -/
  | isobarResultApply
  /-- ISOBAR_FB_SEND, R349: At s + STEP × (H − h) a member sends its partial aggregate upward. -/
  | isobarFbSend
  /-- DRIZZLE_IDLE_SET, R355: A core idle for IDLE.BEATS beats has its waiting flag set. -/
  | drizzleIdleSet (c : Nat)
  /-- DRIZZLE_WAIT_EXPIRED, R354: A waiting flag set for WAIT_MAX ms clears. -/
  | drizzleWaitExpired (c : Nat)
  /-- PRERAMP_GO, R361: A write of PRERAMP_CTRL.GO = 1 schedules a preramp, or is refused. -/
  | prerampGo (a : Acc) (v : BitVec 32)
  /-- PRERAMP_START, R361: At beat BEAT − k the masked clusters enter DZ_PRE. -/
  | prerampStart
  /-- DRIZZLE_PRERAMP_DONE, R361: The preramp reaches beat BEAT. -/
  | drizzlePrerampDone
  /-- DRIZZLE_PRERAMP_LAPSED, R362: Without JOB_BEGIN for HOLD_MS after BEAT the cluster enters DZ_FILL. -/
  | drizzlePrerampLapsed
  /-- GRANT_SUBMIT, R369: A write of BUDGET GRANT1 submits a grant. -/
  | grantSubmit (a : Acc) (v : BitVec 32)
  /-- BUDGET_EXPIRED, R371: A grant's validity ends and P_GRANT falls to FLOOR. -/
  | budgetExpired
  /-- BUDGET_ASK, R372: Every 10,000 beats an ask is published. -/
  | budgetAsk
  /-- PMB_POLL_START, R65: Every PERIOD BUDGET ticks the PMBus master starts a poll of all devices. -/
  | pmbPollStart
  /-- PMB_POLL_DONE, R373: A poll completes and updates the readings, or counts a failure. -/
  | pmbPollDone (fail : Option Nat) (r0 : List (List (BitVec 8))) (r1 : List (List (BitVec 8)))
  /-- PMB_ALERT, R65: A falling PMB_SMBALERT_N is answered through the ARA, STATUS_WORD and CLEAR_FAULTS. -/
  | pmbAlert (adr : BitVec 7) (status : BitVec 16 × BitVec 8)
  /-- PMB_TIMEOUT, R65: SCL held low for 25 ms ends the transaction as a bus timeout. -/
  | pmbTimeout (k : Nat)
  /-- LEDGER_CLOSE, R378: A write of LEDGER CLOSE.GO = 1 force-closes a tag. -/
  | ledgerClose (a : Acc) (v : BitVec 32)
  /-- LEDGER_QUERY, R387: A write of QUERY.GO = 1 requests a copy of a tag's record. -/
  | ledgerQuery (a : Acc) (v : BitVec 32)
  /-- LEDGER_QUERY_DONE, R387: Once any fetch completes the record is copied into QDATA. -/
  | ledgerQueryDone
  /-- LEDGER_FLUSH, R387: A write of CTRL.FLUSH = 1 writes back every dirty line. -/
  | ledgerFlush (a : Acc) (v : BitVec 32)
  /-- LEDGER_FLUSH_DONE, R387: The last write-back of a flush completes. -/
  | ledgerFlushDone
  /-- MEM_WIN_BASE_WRITE, R115: A write of TOP.MEM_WIN_BASE sets or clears the MEM window, starting the first zero-fill. -/
  | memWinBaseWrite (a : Acc) (v : BitVec 32)
  /-- LEDGER_INIT_DONE, R386: The zero-fill of the ledger region completes. -/
  | ledgerInitDone
  /-- MEM_READ_DATA, R385: Read data of a ledger fetch or spill read returns and is merged or moved to the head. -/
  | memReadData (w : BitVec 512)
  /-- MEM_WRITE_DONE, R48: MEM_W_DONE completes a write-back or spill write. -/
  | memWriteDone
  /-- EXPORT_RECORD_ENTER, R391: A closed tag's record enters the queue once there is room and no signature is outstanding. -/
  | exportRecordEnter
  /-- EXPORT_BATCH_CLOSE, R390: A batch closes at MAX items or CLOSE_MS and its digest goes to the Warden for signing. -/
  | exportBatchClose
  /-- EXPORT_SIGNATURE, R390: The Warden's signature completes a batch with its signature items. -/
  | exportSignature
  /-- EXPORT_SIGN_FAIL, R390: No signature within SIGN.LIMIT closes the batch unsigned. -/
  | exportSignFail
  /-- EXPORT_TRANSFER, R392: An item passes on the export stream port. -/
  | exportTransfer
  /-- EXPORT_MARK, R393: CMD.MARK sets M := T. -/
  | exportMark (a : Acc) (v : BitVec 32)
  /-- EXPORT_REWIND, R393: CMD.REWIND sets T := M. -/
  | exportRewind (a : Acc) (v : BitVec 32)
  /-- EXPORT_RELEASE, R393: CMD.RELEASE sets F := M and frees space. -/
  | exportRelease (a : Acc) (v : BitVec 32)
  /-- EXPORT_IDLE, R394: IDLE.TIMEOUT without a transfer rings the idle doorbell and closes the open batch. -/
  | exportIdle
  /-- EXPORT_PTR_FAULT, R395: Duplicated queue pointers that differ reset the queue and emit a LOST marker. -/
  | exportPtrFault
  /-- EXPORT_EN_WRITE, R390: A write of EXPORT CTRL.EN = 0 closes the open batch and stops entry. -/
  | exportEnWrite (a : Acc) (v : BitVec 32)
  /-- MBOX_DATA_WRITE, R410: A sender's DATA write stores a message word, or meets FULL and counts an overrun. -/
  | mboxDataWrite (m : Nat) (a : Acc) (v : BitVec 32)
  /-- MBOX_TAKE, R410: A write of CTRL.TAKE = 1 clears FULL. -/
  | mboxTake (m : Nat) (a : Acc) (v : BitVec 32)
  /-- MBOX_RING, R411: A write to RING sets doorbell bits. -/
  | mboxRing (m : Nat) (a : Acc) (v : BitVec 32)
  /-- MBOX_DB_CLEAR, R411: The receiver clears doorbell bits by writing 1 to them. -/
  | mboxDbClear (m : Nat) (a : Acc) (v : BitVec 32)
  /-- CORE_SLEEP, R33: A control core's sleep request gates its domain. -/
  | coreSleep (warden : Bool)
  /-- CORE_WAKE, R413: A doorbell or routed event wakes a gated control core. -/
  | coreWake (warden : Bool)
  /-- GRANT, R415: MB_HS GRANT makes the Steward submit a grant and answer after the next BUDGET tick. -/
  | grant
  /-- POLICY, R415: MB_HS POLICY makes the Steward write GOV.CTRL. -/
  | policy
  /-- TELEM_CFG, R416: MB_HS TELEM_CFG sets or stops the period of a telemetry set. -/
  | telemCfg
  /-- TELEMETRY, R416: At the end of a set's period the Steward sends a TELEMETRY notice on MB_SH. -/
  | telemetry (k : Nat)
  /-- ASK, R415: The Steward sends the ASK notice on MB_SH on each BUDGET_ASK. -/
  | ask
  /-- BARO, R415: MB_HS BARO requests Barograph management from the Steward. -/
  | baro
  /-- PING, R415: MB_HS PING is answered OK with STW_VERSION. -/
  | ping
  /-- GET_VERSION, R472: SPDM GET_VERSION is answered VERSION 1.3. -/
  | getVersion
  /-- GET_CAPABILITIES, R472: SPDM GET_CAPABILITIES is answered with the supported capabilities. -/
  | getCapabilities
  /-- NEGOTIATE_ALGORITHMS, R472: SPDM NEGOTIATE_ALGORITHMS is answered with P-384 and SHA-384. -/
  | negotiateAlgorithms
  /-- GET_DIGESTS, R472: SPDM GET_DIGESTS is answered for slot 0. -/
  | getDigests
  /-- GET_CERTIFICATE, R472: SPDM GET_CERTIFICATE returns the slot 0 chain. -/
  | getCertificate
  /-- CHALLENGE, R472: SPDM CHALLENGE is answered with a signed CHALLENGE_AUTH. -/
  | challenge
  /-- GET_MEASUREMENTS, R472: SPDM GET_MEASUREMENTS returns measurement indices 1 to 6, signed on request. -/
  | getMeasurements
  /-- SPDM_UNSUPPORTED, R472: Any other SPDM request is answered ERROR UnsupportedRequest. -/
  | spdmUnsupported
  /-- IMAGE_BEGIN, R418: MB_HW IMAGE_BEGIN wipes the staging bank and the chunk map. -/
  | imageBegin
  /-- IMAGE_CHUNK, R418: MB_HW IMAGE_CHUNK copies a chunk into the staging bank. -/
  | imageChunk
  /-- IMAGE_SWAP, R419: MB_HW IMAGE_SWAP starts the Warden's check of the staged image. -/
  | imageSwap
  /-- IMAGE_CHECK_DONE, R420: The image check fails with its code, or passes and the Warden sends SWAP_NOTICE. -/
  | imageCheckDone
  /-- SWAP_READY, R420: MB_SW SWAP_READY from the Steward lets the swap proceed. -/
  | swapReady
  /-- SWAP_GRACE_END, R420: GRACE ms without SWAP_READY lets the swap proceed. -/
  | swapGraceEnd
  /-- LC_NONCE, R463: LC_REQ NONCE is answered with a fresh nonce. -/
  | lcNonce (gt : BitVec 64)
  /-- LC_TRANSITION, R464: LC_REQ TRANSITION checks and carries out a life-cycle transition. -/
  | lcTransition
  /-- PROV_WRITE, R463: LC_REQ PROV_WRITE writes a provisioning record in RAW or TEST. -/
  | provWrite
  /-- PUBKEY, R463: LC_REQ PUBKEY returns the instance public key. -/
  | pubkey
  /-- LC_NONCE_EXPIRE, R463: A life-cycle nonce becomes invalid 60 s after its answer. -/
  | lcNonceExpire
  /-- CERT_READ, R468: MB_HW CERT_READ returns a 4 KiB part of the certificate chain. -/
  | certRead
  /-- BARO_NONCE, R444: MB_HW BARO_NONCE is answered with a clearing nonce. -/
  | baroNonce (gt : BitVec 64)
  /-- BARO_NONCE_EXPIRE, R444: A Barograph nonce becomes invalid 60 s after its answer. -/
  | baroNonceExpire
  /-- BARO_CLEAR, R446: MB_HW BARO_CLEAR verifies a signed scope and clears Barograph records. -/
  | baroClear
  /-- NV_READ, R415: MB_SW NV_READ reads Steward persistent records through the Warden. -/
  | nvRead
  /-- NV_WRITE, R415: MB_SW NV_WRITE writes Steward persistent records through the Warden. -/
  | nvWrite
  /-- SEC_WRITE, R405: MB_SW SEC_WRITE writes a SEC field only if it cannot weaken protection. -/
  | secWrite
  /-- SPDM_SIGN, R474: MB_SW SPDM_SIGN signs a digest under an SPDM context prefix. -/
  | spdmSign
  /-- NV_RESPONSE, R52: An NV response completes a read or a write request. -/
  | nvResponse (status : BitVec 2) (w : BitVec 512)
  /-- STEWARD_HALT, R406: A write of 0x0000_5E7D to FW.STW_CTRL core-resets the Steward. -/
  | stewardHalt (a : Acc) (v : BitVec 32)
  /-- WARDEN_RESTART, R407: A secure write of 0x0000_3A5D to WRD_CTRL core-resets the Warden. -/
  | wardenRestart (a : Acc) (v : BitVec 32)
  /-- HEARTBEAT, R422: A Steward write to FW.HEARTBEAT is latched and may end POLICY_STALE. -/
  | heartbeat (a : Acc) (v : BitVec 32)
  /-- FW_POLICY_STALE, R422: Three missed heartbeats put the governor in POLICY_STALE. -/
  | fwPolicyStale
  /-- WARDEN_BOOT, R457: After its RAM is wiped the Warden runs boot steps 1 to 9. -/
  | wardenBoot (nv : List (Nat × BitVec 8)) (bad : List Nat) (patchOk : Bool)
  /-- ID_SECRET, R465: The eighth beat of the secret arrives and the identity key is derived or refused. -/
  | idSecret (secret : BitVec 256)
  /-- SEC_KEY_FAIL, R465: No secret within 1 ms of ID_REQ leaves the instance without a key. -/
  | secKeyFail
  /-- LOAD_PCC, R461: A write of LOAD_PCC.GO = 1 loads the operating-seconds and power-cycle counters. -/
  | loadPcc (a : Acc) (v : BitVec 32)
  /-- OPSEC_TICK, R461: Every 25,000,000 AONCLK edges the operating-seconds counter rises. -/
  | opsecTick
  /-- LIFE_RECORD_HOURLY, R461: At each multiple of 3,600 s a life record is written. -/
  | lifeRecordHourly
  /-- LOCKALL, R471: A write of 0x0000_10CA to SEC.LOCKALL sets every LOCK bit. -/
  | lockall (a : Acc) (v : BitVec 32)
  /-- MEAS_RECOMPUTE, R473: A change of a HARD_ or SAFE word is followed by recomputing measurement 5. -/
  | measRecompute
  /-- BARO_WINDOW_CLOSE, R433: A window closes and commits a record placed under the store rules. -/
  | baroWindowClose
  /-- BARO_FREEZE_HOLD, R439: A write of FREEZE.HOLD = 1 grants the freeze to the path. -/
  | baroFreezeHold (a : Acc) (v : BitVec 32)
  /-- BARO_FREEZE_RELEASE, R439: A write of FREEZE.RELEASE = 1 by the holder ends the freeze and places the shadow. -/
  | baroFreezeRelease (a : Acc) (v : BitVec 32)
  /-- BARO_FREEZE_TIMEOUT, R439: A freeze held for 100 BUDGET strobes ends itself. -/
  | baroFreezeTimeout
  /-- BARO_SNAP, R440: A write of SNAP.GO = 1 copies slots into the capture RAM. -/
  | baroSnap (a : Acc) (v : BitVec 32)
  /-- BARO_SNAP_DONE, R440: The snapshot copy ends and shadowed commits are placed. -/
  | baroSnapDone
  /-- BARO_MIRROR_NOW, R441: A write of MIRROR.NOW starts a mirror pass. -/
  | baroMirrorNow (a : Acc) (v : BitVec 32)
  /-- BARO_MIRROR_PERIOD, R441: Every MIRROR.PERIOD seconds a mirror pass starts. -/
  | baroMirrorPeriod
  /-- BARO_MIRROR_DONE, R442: A mirror pass finishes its dirty slots. -/
  | baroMirrorDone
  /-- BARO_RESTORE_DONE, R443: A write of RESTORE.DONE = 1 sets NEXT_SEQ and RESTORED. -/
  | baroRestoreDone (a : Acc) (v : BitVec 32)
  /-- BARO_NO_RESTORE, R443: No restore one second after READY starts the recorder on an empty store. -/
  | baroNoRestore
  /-- CLAIM, R479: A CLAIM request grants or refuses ownership of a shared resource. -/
  | claim (a : Acc) (v : BitVec 32)
  /-- RELEASE, R479: A RELEASE request frees a resource its path owns. -/
  | release (a : Acc) (v : BitVec 32)
  /-- CLAIM_BREAK, R483: A secure write of BREAK.GO = 1 ends a path's claim. -/
  | claimBreak (a : Acc) (v : BitVec 32)
  /-- CAPTURE_WIPE_DONE, R481: The capture RAM wipe after a claim ends completes. -/
  | captureWipeDone
  /-- TMR_WRITE, R487: An owner's write to TMR[k] loads and starts or stops a general timer. -/
  | tmrWrite (k : Nat) (a : Acc) (v : BitVec 32)
  /-- CLAIM_TIMER, R487: A general timer expires, sets EXPIRED and reloads or stops. -/
  | claimTimer (k : Nat)
  /-- EVT_NEXT, R110: A write of EVT_NEXT.POP = 1 by the consumer discards the head event. -/
  | evtNext (a : Acc) (v : BitVec 32)
  /-- PAGE_FAULT_CLEAR, R96: A W1C write to PAGE_FAULT clears fault bits, FATAL bits only from a secure master. -/
  | pageFaultClear (page : Nat) (a : Acc) (v : BitVec 32)
  /-- AON_WRITE_DONE, R101: A posted always-on write completes and WR_PENDING falls. -/
  | aonWriteDone (page : Nat)
  /-- REGISTER_WRITE, R100: A write to a register without behaviour of its own takes effect on the next GCLK edge, subject to guards and clamps. -/
  | registerWrite (a : Acc) (adr : BitVec 15) (v : BitVec 32)
  /-- TBL_WRITE, R112: A table-port write updates the selected bytes of its window. -/
  | tblWrite (a : Acc) (adr : BitVec 17) (strb : BitVec 2) (v : BitVec 64)
  /-- DS_CLK_EDGE, R196: On each rising edge of DS_n_CLK a droop satellite latches CODE, sets its crossing level, drives DS_n_STRETCH and updates DS_n_EVT including PERSIST. -/
  | dsClkEdge (s : Nat) (code : BitVec 6)
  /-- SITE_POWER_UP, R199: At site power-up a droop satellite drives no stretch and a zero DS_n_EVT with its coarse setting at 128, and a thermal satellite reports PWR = 0 in its first frame. -/
  | sitePowerUp (droop : Bool) (s : Nat)
  /-- SATELLITE_IN_USE, R200: 100 ns after a domain's CD_n_GATE falls its satellites come into use, which can start a Gust at once from an already accepted LEVEL. -/
  | satelliteInUse (m : Nat) (cyc : Nat)
  /-- PROCHOT_RELEASE, R221: The filtered PROCHOT_N stops acting, INPUTS.PROCHOT clears and the PROCHOT cap is released at the next beat. -/
  | prochotRelease
  /-- SMBALERT_RELEASE, R486: PMB_SMBALERT_N rises, and under SMBALERT forwarding ALERT_N is released within 2 GCLK cycles. -/
  | smbalertRelease
  /-- CD_ACK_FALL, R227: CD_n_PREP_ACK or CD_n_SWITCH_ACK falls after PREP is lowered, and the governor may then prepare the new target. -/
  | cdAckFall (m : Nat) (sw : Bool)
  /-- NV_REQUEST_ACCEPT, R52: The NV port accepts a presented request, and after the critical record is accepted, other requests may be presented again. -/
  | nvRequestAccept
  /-- REGISTER_READ, R103: A register read returns its value and can take a _LO snapshot, raise TOP_NOT_READY, or count a guard miss. -/
  | registerRead (a : Acc) (adr : BitVec 15)
  /-- TBL_READ, R485: A table-port read returns window data and counts a guard miss, for example on the capture RAM from a path that does not own it. -/
  | tblRead (a : Acc) (adr : BitVec 17)
  /-- TEST_ACCESS, R70: A test-access instrument (BLOCK_ID, MBIST, PL_LOOP or RING_LOOP) is selected through the IEEE 1687 network and runs where the life-cycle state allows. -/
  | testAccess (x : Nat)
  deriving DecidableEq, Repr

end Sys2Proof
end

