-- ==== Sys2Proof/Decode.lean ====
section
/-!
DEFINITION. Decode.lean: the command that a word of the opcode table's bits spells. Every row of spec/opcode_table.json gives
no bits (its "fields" are empty): the block takes commands at its ports and pins, and no word spells one.
-/
namespace Sys2Proof

/-- No row of the table has bits, so no word spells a command. -/
def decodeTableWord (_nbits _w : Nat) : Option Instr := none

end Sys2Proof
end

