-- ==== Sys2Proof/Config.lean ====
section
/-!
DEFINITION. Config.lean: what the spec leaves open. Each constant below is opaque: nothing in Lean can evaluate it, and a
statement that mentions it holds whatever its value.
-/
namespace Sys2Proof.Config

/-- R164: the VoutTransRate data for a slew in 0.05 mV/us: the nearest rate that PMBus 1.4 part III can express (that
standard is not in the spec). Log entry 12. -/
opaque avsRate : Nat → Nat

/-- R84: how many rails task 0x07 had shared among the tags when it was stopped, by beat strobe count. -/
opaque railsShared : Nat → Nat

/-- R84, R189: how many rails' estimates task 0x07 had produced when it was stopped, by beat strobe count; never fewer than it
had shared. Log entry 86. -/
opaque railsEst : Nat → Nat

/-- R288: u(16 + n) for a beat that has no P_est, or whose mean voltage is 0, by rail and beat strobe count. Log entry 86. -/
opaque estMissing : Nat → Nat → Nat

/-- R356: the quotient over no active cores, by channel and beat strobe count. Log entry 67. -/
opaque shareNoCore : Nat → Nat → Nat

/-- R372: the mean package power over an interval that holds no beat, by beat strobe count. Log entry 68. -/
opaque powerNoBeat : Nat → Nat

/-- SHA-384 (R389, R390), of a list of bytes: the digest as a number, first byte most significant. -/
opaque sha384 : List Nat → Nat

/-- ECDSA with P-384 (R390, R474): r and s for the private key, the digest and the per-signature random value, by a counter. -/
opaque ecdsaSign : Nat → Nat → Nat → Nat × Nat

/-- Length of a pointer reset of the hint FIFO in GCLK cycles, by GCLK count (R266 bounds it and does not state it). -/
opaque ptrResetLen : Nat → Nat

/-- GT_NS at S0 (R324) above its sample at the last beat strobe (R77), in ns, by beat strobe count; a beat is at most 1,010 ns
long. Log entry 14. -/
opaque gtSince : Nat → Nat

/-- ECDSA verification with P-384 (R445, R463, R469): public key (97 B), digest, r, s. -/
opaque ecdsaOk : List Nat → Nat → Nat → Nat → Bool

/-- HMAC-SHA-384 (R466): key bytes, message bytes; first byte most significant. -/
opaque hmac384 : List Nat → List Nat → Nat

/-- The order n of P-384 (R466; FIPS 186-5 is not in the spec). -/
opaque p384Order : Nat

/-- The P-384 public key d·G (R466): X and Y. -/
opaque p384Point : Nat → Nat × Nat

/-- The ROM development key, a 97 B point (R459, R469). -/
opaque romDevKey : List Nat

/-- SHA-384 of the Warden ROM (R473, index 1). -/
opaque romHash : Nat

/-- Measurement 3 while no Steward image runs (R473 gives the running image's only). -/
opaque measNoImage : Nat

/-- The responder's nonce in a CHALLENGE_AUTH or MEASUREMENTS (R472; SPDM is not in the spec), by a counter. Log entry 53. -/
opaque spdmNonce : Nat → Nat

/-- Value type of a raw bit stream measurement (R473 gives none), by index. Log entry 53. -/
opaque spdmRawType : Nat → Nat

/-- The 48 B digest that a signed SPDM response asks the Warden to sign (R472, R474), of request and response bytes. -/
opaque spdmDigest : List Nat → List Nat → List Nat

/-- The answer to a BARO request (R415; no chapter gives its payload): STATUS and payload bytes, by the request bytes. -/
opaque baroAnswer : List Nat → Nat × List Nat

/-- Result code of a FAILED answer for which the spec gives no code (R414): NV_READ, NV_WRITE, PROV_WRITE. -/
opaque failCode : Nat → Nat

/-- What MBIST and the loopback instruments leave in the block's memories (R71), by use. -/
opaque testLeaves : Nat → List Nat

end Sys2Proof.Config
end

