-- ==== Sys2Proof/Machine/Codes.lean ====
section
/-!
DEFINITION. Machine/Codes.lean: the fault and event codes of the block (R109 and the code table of each chapter).
-/
namespace Sys2Proof.Machine

/-- A code of R109: page number (of the first instance), local code, severity (0 INFO to 4 FATAL). -/
structure Code where
  page : Nat
  loc : Nat
  sev : Nat
  deriving DecidableEq, Repr

namespace Ev
/-- R85, 03_ticks.md. -/
def TICK_OVERRUN : Code := ⟨0x01, 0x01, 1⟩
/-- R85, 03_ticks.md. -/
def TICK_FIXED_OVERRUN : Code := ⟨0x01, 0x02, 4⟩
/-- R85, 03_ticks.md. -/
def TICK_GT_LOST : Code := ⟨0x01, 0x03, 2⟩
/-- R85, 03_ticks.md. -/
def TICK_ALIGNED : Code := ⟨0x01, 0x04, 0⟩
/-- R85, 03_ticks.md. -/
def TICK_SKIPPED : Code := ⟨0x01, 0x05, 1⟩
/-- R118, 04_registers.md. -/
def TOP_EVT_LOST : Code := ⟨0x00, 0x01, 1⟩
/-- R118, 04_registers.md. -/
def TOP_NOT_READY : Code := ⟨0x00, 0x02, 1⟩
/-- R147, 05_phase_control.md. -/
def PHASE_LINK_FAIL : Code := ⟨0x06, 0x01, 2⟩
/-- R147, 05_phase_control.md. -/
def PHASE_LINK_DOWN : Code := ⟨0x06, 0x02, 3⟩
/-- R147, 05_phase_control.md. -/
def PHASE_STAGE_FAULT : Code := ⟨0x06, 0x03, 3⟩
/-- R147, 05_phase_control.md. -/
def PHASE_RX_ERR : Code := ⟨0x06, 0x04, 1⟩
/-- R147, 05_phase_control.md. -/
def PHASE_IDENT_BAD : Code := ⟨0x06, 0x05, 2⟩
/-- R147, 05_phase_control.md. -/
def PHASE_START_FAIL : Code := ⟨0x06, 0x06, 2⟩
/-- R147, 05_phase_control.md. -/
def PHASE_TRIM_LIMIT : Code := ⟨0x06, 0x07, 1⟩
/-- R172, 06_rail_loops.md. -/
def RAIL_COEF_IGNORED : Code := ⟨0x08, 0x01, 1⟩
/-- R172, 06_rail_loops.md. -/
def RAIL_OPEN_TIMEOUT : Code := ⟨0x08, 0x02, 2⟩
/-- R172, 06_rail_loops.md. -/
def RAIL_DIGEST_BAD : Code := ⟨0x08, 0x03, 2⟩
/-- R172, 06_rail_loops.md. -/
def RAIL_WAIT_FREQ : Code := ⟨0x08, 0x04, 0⟩
/-- R172, 06_rail_loops.md. -/
def RAIL_CMD_REFUSED : Code := ⟨0x08, 0x05, 1⟩
/-- R172, 06_rail_loops.md. -/
def RAIL_AVS_ERR : Code := ⟨0x08, 0x06, 2⟩
/-- R172, 06_rail_loops.md. -/
def RAIL_AVS_TIMEOUT : Code := ⟨0x08, 0x07, 2⟩
/-- R172, 06_rail_loops.md. -/
def RAIL_ICMD_SAT : Code := ⟨0x08, 0x08, 1⟩
/-- R172, 06_rail_loops.md. -/
def RAIL_START_DONE : Code := ⟨0x08, 0x09, 0⟩
/-- R174, 06_rail_loops.md. -/
def TUNE_DONE : Code := ⟨0x1e, 0x01, 0⟩
/-- R174, 06_rail_loops.md. -/
def TUNE_ABORT : Code := ⟨0x1e, 0x02, 1⟩
/-- R174, 06_rail_loops.md. -/
def TUNE_NO_CLAIM : Code := ⟨0x1e, 0x03, 1⟩
/-- R174, 06_rail_loops.md. -/
def TUNE_REFUSED : Code := ⟨0x1e, 0x04, 1⟩
/-- R193, 07_rail_faults.md. -/
def PHASE_OPEN : Code := ⟨0x06, 0x10, 3⟩
/-- R193, 07_rail_faults.md. -/
def PHASE_SENSE_FAIL : Code := ⟨0x06, 0x11, 3⟩
/-- R193, 07_rail_faults.md. -/
def PHASE_SHORT : Code := ⟨0x06, 0x12, 3⟩
/-- R193, 07_rail_faults.md. -/
def PHASE_STAGE_OT : Code := ⟨0x06, 0x13, 2⟩
/-- R193, 07_rail_faults.md. -/
def PHASE_STAGE_UV : Code := ⟨0x06, 0x14, 2⟩
/-- R193, 07_rail_faults.md. -/
def PHASE_FORCED : Code := ⟨0x06, 0x15, 1⟩
/-- R194, 07_rail_faults.md. -/
def RAIL_DERATED : Code := ⟨0x08, 0x10, 2⟩
/-- R194, 07_rail_faults.md. -/
def RAIL_SQUALL_REQ : Code := ⟨0x08, 0x11, 4⟩
/-- R194, 07_rail_faults.md. -/
def RAIL_VS_LOST : Code := ⟨0x08, 0x12, 3⟩
/-- R194, 07_rail_faults.md. -/
def RAIL_VS_RESUMED : Code := ⟨0x08, 0x13, 1⟩
/-- R194, 07_rail_faults.md. -/
def RAIL_IMPLAUSIBLE : Code := ⟨0x08, 0x14, 2⟩
/-- R194, 07_rail_faults.md. -/
def RAIL_PLAUSIBLE : Code := ⟨0x08, 0x15, 0⟩
/-- R214, 08_droop.md. -/
def DROOP_CANCEL_UP : Code := ⟨0x10, 0x01, 1⟩
/-- R214, 08_droop.md. -/
def DROOP_FORCED_DOWN : Code := ⟨0x10, 0x02, 1⟩
/-- R214, 08_droop.md. -/
def DROOP_STUCK : Code := ⟨0x10, 0x03, 2⟩
/-- R214, 08_droop.md. -/
def DROOP_SERVO_LIMIT : Code := ⟨0x10, 0x04, 2⟩
/-- R214, 08_droop.md. -/
def DROOP_CAL_RANGE : Code := ⟨0x10, 0x05, 2⟩
/-- R214, 08_droop.md. -/
def DROOP_CAL_ABORT : Code := ⟨0x10, 0x06, 1⟩
/-- R214, 08_droop.md. -/
def DROOP_CAL_DONE : Code := ⟨0x10, 0x07, 0⟩
/-- R214, 08_droop.md. -/
def DROOP_WAVE_DONE : Code := ⟨0x10, 0x08, 0⟩
/-- R235, 09_governor.md. -/
def GOV_ESC_LEVEL : Code := ⟨0x11, 0x01, 1⟩
/-- R235, 09_governor.md. -/
def GOV_ESC_POOL : Code := ⟨0x11, 0x02, 2⟩
/-- R235, 09_governor.md. -/
def GOV_PROCHOT : Code := ⟨0x11, 0x03, 1⟩
/-- R235, 09_governor.md. -/
def GOV_SAFE_POLICY : Code := ⟨0x11, 0x04, 2⟩
/-- R235, 09_governor.md. -/
def GOV_FDOWN : Code := ⟨0x11, 0x05, 0⟩
/-- R237, 09_governor.md. -/
def LEVEL_SWAP_DONE : Code := ⟨0x12, 0x01, 0⟩
/-- R237, 09_governor.md. -/
def LEVEL_TABLE_BAD : Code := ⟨0x12, 0x02, 2⟩
/-- R237, 09_governor.md. -/
def LEVEL_FIT_BAD : Code := ⟨0x12, 0x03, 2⟩
/-- R237, 09_governor.md. -/
def LEVEL_PREP_TIMEOUT : Code := ⟨0x12, 0x04, 2⟩
/-- R237, 09_governor.md. -/
def LEVEL_SWITCH_TIMEOUT : Code := ⟨0x12, 0x05, 3⟩
/-- R237, 09_governor.md. -/
def LEVEL_AGE_STEP : Code := ⟨0x12, 0x06, 0⟩
/-- R258, 10_power_credits.md. -/
def CREDIT_RECLAIM : Code := ⟨0x13, 0x01, 1⟩
/-- R258, 10_power_credits.md. -/
def CREDIT_REVOKED : Code := ⟨0x13, 0x02, 3⟩
/-- R258, 10_power_credits.md. -/
def CREDIT_SHRUNK : Code := ⟨0x13, 0x03, 1⟩
/-- R258, 10_power_credits.md. -/
def CREDIT_LATE_RET : Code := ⟨0x13, 0x04, 1⟩
/-- R258, 10_power_credits.md. -/
def CREDIT_BAD_REQ : Code := ⟨0x13, 0x05, 1⟩
/-- R258, 10_power_credits.md. -/
def CREDIT_STARVE : Code := ⟨0x13, 0x06, 2⟩
/-- R283, 11_hints_steps.md. -/
def HINT_DROP : Code := ⟨0x14, 0x01, 1⟩
/-- R283, 11_hints_steps.md. -/
def HINT_BAD : Code := ⟨0x14, 0x02, 1⟩
/-- R283, 11_hints_steps.md. -/
def HINT_PTR_FAULT : Code := ⟨0x14, 0x03, 2⟩
/-- R285, 11_hints_steps.md. -/
def STEP_SWAP_DONE : Code := ⟨0x16, 0x01, 0⟩
/-- R285, 11_hints_steps.md. -/
def STEP_OVERFLOW : Code := ⟨0x16, 0x02, 1⟩
/-- R285, 11_hints_steps.md. -/
def STEP_FF_SUSPEND : Code := ⟨0x16, 0x03, 1⟩
/-- R304, 12_forecast.md. -/
def FORECAST_DEGRADED : Code := ⟨0x15, 0x01, 2⟩
/-- R304, 12_forecast.md. -/
def FCAST_SWAP_DONE : Code := ⟨0x15, 0x02, 0⟩
/-- R304, 12_forecast.md. -/
def FCAST_LOAD_BAD : Code := ⟨0x15, 0x03, 2⟩
/-- R304, 12_forecast.md. -/
def FCAST_ECC_FAULT : Code := ⟨0x15, 0x04, 3⟩
/-- R304, 12_forecast.md. -/
def FCAST_STALE : Code := ⟨0x15, 0x05, 1⟩
/-- R304, 12_forecast.md. -/
def FCAST_REARMED : Code := ⟨0x15, 0x06, 0⟩
/-- R329, 13_thermal.md. -/
def THERM_ALARM : Code := ⟨0x17, 0x01, 2⟩
/-- R329, 13_thermal.md. -/
def THERM_ROR_WARN : Code := ⟨0x17, 0x02, 1⟩
/-- R329, 13_thermal.md. -/
def THERM_ROR_ACT : Code := ⟨0x17, 0x03, 2⟩
/-- R329, 13_thermal.md. -/
def THERM_TRIP : Code := ⟨0x17, 0x04, 4⟩
/-- R329, 13_thermal.md. -/
def THERM_COOLANT : Code := ⟨0x17, 0x05, 4⟩
/-- R329, 13_thermal.md. -/
def THERM_SQUALL : Code := ⟨0x17, 0x06, 4⟩
/-- R329, 13_thermal.md. -/
def THERM_EXCLUDED : Code := ⟨0x17, 0x07, 2⟩
/-- R329, 13_thermal.md. -/
def THERM_READMIT : Code := ⟨0x17, 0x08, 1⟩
/-- R329, 13_thermal.md. -/
def THERM_ZONE_LOST : Code := ⟨0x17, 0x09, 3⟩
/-- R329, 13_thermal.md. -/
def THERM_RING_FAIL : Code := ⟨0x17, 0x0a, 3⟩
/-- R329, 13_thermal.md. -/
def THERM_XT_STALE : Code := ⟨0x17, 0x0b, 2⟩
/-- R329, 13_thermal.md. -/
def THERM_MEMCAP : Code := ⟨0x17, 0x0c, 1⟩
/-- R329, 13_thermal.md. -/
def THERM_NV_FAIL : Code := ⟨0x17, 0x0d, 3⟩
/-- R329, 13_thermal.md. -/
def THERM_CRIT_REPORT : Code := ⟨0x17, 0x0e, 1⟩
/-- R329, 13_thermal.md. -/
def THERM_RELEASE : Code := ⟨0x17, 0x0f, 0⟩
/-- R353, 14_isobar.md. -/
def ISOBAR_TIMEOUT : Code := ⟨0x18, 0x01, 1⟩
/-- R353, 14_isobar.md. -/
def ISOBAR_MISMATCH : Code := ⟨0x18, 0x02, 1⟩
/-- R353, 14_isobar.md. -/
def ISOBAR_DEGRADED : Code := ⟨0x18, 0x03, 2⟩
/-- R353, 14_isobar.md. -/
def ISOBAR_PARTIAL : Code := ⟨0x18, 0x04, 1⟩
/-- R353, 14_isobar.md. -/
def ISOBAR_ABSENT : Code := ⟨0x18, 0x05, 2⟩
/-- R353, 14_isobar.md. -/
def ISOBAR_RETURNED : Code := ⟨0x18, 0x06, 0⟩
/-- R353, 14_isobar.md. -/
def ISOBAR_CHECK_BAD : Code := ⟨0x18, 0x07, 2⟩
/-- R353, 14_isobar.md. -/
def ISOBAR_NO_SLOT : Code := ⟨0x18, 0x08, 1⟩
/-- R353, 14_isobar.md. -/
def ISOBAR_FALLBACK : Code := ⟨0x18, 0x09, 1⟩
/-- R353, 14_isobar.md. -/
def ISOBAR_SWITCH_BACK : Code := ⟨0x18, 0x0a, 0⟩
/-- R353, 14_isobar.md. -/
def ISOBAR_STATE : Code := ⟨0x18, 0x0b, 0⟩
/-- R368, 15_drizzle.md. -/
def DRIZZLE_WAIT_EXPIRED : Code := ⟨0x19, 0x01, 1⟩
/-- R368, 15_drizzle.md. -/
def DRIZZLE_PRERAMP_DONE : Code := ⟨0x19, 0x02, 0⟩
/-- R368, 15_drizzle.md. -/
def DRIZZLE_PRERAMP_LAPSED : Code := ⟨0x19, 0x03, 1⟩
/-- R398, 16_budget_ledger.md. -/
def BUDGET_GRANT_DONE : Code := ⟨0x1a, 0x01, 0⟩
/-- R398, 16_budget_ledger.md. -/
def BUDGET_GRANT_STALE : Code := ⟨0x1a, 0x02, 1⟩
/-- R398, 16_budget_ledger.md. -/
def BUDGET_EXPIRED : Code := ⟨0x1a, 0x03, 2⟩
/-- R398, 16_budget_ledger.md. -/
def BUDGET_ASK : Code := ⟨0x1a, 0x04, 0⟩
/-- R398, 16_budget_ledger.md. -/
def BUDGET_PMB_ERR : Code := ⟨0x1a, 0x05, 1⟩
/-- R398, 16_budget_ledger.md. -/
def BUDGET_PMB_ALERT : Code := ⟨0x1a, 0x06, 1⟩
/-- R400, 16_budget_ledger.md. -/
def STREAM_TABLE_FULL : Code := ⟨0x1b, 0x01, 2⟩
/-- R400, 16_budget_ledger.md. -/
def LEDGER_TAG_BUSY : Code := ⟨0x1b, 0x02, 1⟩
/-- R400, 16_budget_ledger.md. -/
def LEDGER_END_UNKNOWN : Code := ⟨0x1b, 0x03, 1⟩
/-- R400, 16_budget_ledger.md. -/
def LEDGER_EST_LATE : Code := ⟨0x1b, 0x04, 1⟩
/-- R400, 16_budget_ledger.md. -/
def LEDGER_FLUSH_DONE : Code := ⟨0x1b, 0x05, 0⟩
/-- R402, 16_budget_ledger.md. -/
def EXPORT_IDLE : Code := ⟨0x1c, 0x01, 1⟩
/-- R402, 16_budget_ledger.md. -/
def EXPORT_PTR_FAULT : Code := ⟨0x1c, 0x02, 2⟩
/-- R402, 16_budget_ledger.md. -/
def EXPORT_SIGN_FAIL : Code := ⟨0x1c, 0x03, 2⟩
/-- R402, 16_budget_ledger.md. -/
def EXPORT_FULL : Code := ⟨0x1c, 0x04, 1⟩
/-- R428, 17_firmware.md. -/
def FW_POLICY_STALE : Code := ⟨0x04, 0x01, 2⟩
/-- R428, 17_firmware.md. -/
def FW_POLICY_OK : Code := ⟨0x04, 0x02, 0⟩
/-- R428, 17_firmware.md. -/
def FW_SWAP_START : Code := ⟨0x04, 0x03, 1⟩
/-- R428, 17_firmware.md. -/
def FW_SWAP_DONE : Code := ⟨0x04, 0x04, 0⟩
/-- R428, 17_firmware.md. -/
def FW_IMAGE_BAD : Code := ⟨0x04, 0x05, 2⟩
/-- R428, 17_firmware.md. -/
def FW_STW_RESET : Code := ⟨0x04, 0x06, 1⟩
/-- R428, 17_firmware.md. -/
def FW_WRD_RESET : Code := ⟨0x04, 0x07, 2⟩
/-- R428, 17_firmware.md. -/
def FW_SEC_REFUSED : Code := ⟨0x04, 0x08, 1⟩
/-- R428, 17_firmware.md. -/
def FW_SHED : Code := ⟨0x04, 0x09, 1⟩
/-- R430, 17_firmware.md. -/
def MBOX_DB_WH : Code := ⟨0x03, 0x01, 0⟩
/-- R430, 17_firmware.md. -/
def MBOX_DB_SH : Code := ⟨0x03, 0x02, 0⟩
/-- R430, 17_firmware.md. -/
def MBOX_OVERRUN : Code := ⟨0x03, 0x03, 1⟩
/-- R430, 17_firmware.md. -/
def MBOX_ABORTED : Code := ⟨0x03, 0x04, 1⟩
/-- R449, 18_barograph.md. -/
def BARO_DROP : Code := ⟨0x1d, 0x01, 1⟩
/-- R449, 18_barograph.md. -/
def BARO_MIRROR_ERR : Code := ⟨0x1d, 0x02, 2⟩
/-- R449, 18_barograph.md. -/
def BARO_MIRROR_DONE : Code := ⟨0x1d, 0x03, 0⟩
/-- R449, 18_barograph.md. -/
def BARO_FREEZE_TIMEOUT : Code := ⟨0x1d, 0x04, 1⟩
/-- R449, 18_barograph.md. -/
def BARO_SHADOW_FULL : Code := ⟨0x1d, 0x05, 1⟩
/-- R449, 18_barograph.md. -/
def BARO_CLEARED : Code := ⟨0x1d, 0x06, 1⟩
/-- R449, 18_barograph.md. -/
def BARO_CLEAR_DENIED : Code := ⟨0x1d, 0x07, 2⟩
/-- R449, 18_barograph.md. -/
def BARO_RESTORED : Code := ⟨0x1d, 0x08, 0⟩
/-- R449, 18_barograph.md. -/
def BARO_NO_RESTORE : Code := ⟨0x1d, 0x09, 2⟩
/-- R477, 19_bringup_security.md. -/
def SEC_BOOT_DONE : Code := ⟨0x02, 0x01, 0⟩
/-- R477, 19_bringup_security.md. -/
def SEC_KEY_READY : Code := ⟨0x02, 0x02, 0⟩
/-- R477, 19_bringup_security.md. -/
def SEC_KEY_FAIL : Code := ⟨0x02, 0x03, 3⟩
/-- R477, 19_bringup_security.md. -/
def SEC_PATCH_BAD : Code := ⟨0x02, 0x04, 2⟩
/-- R477, 19_bringup_security.md. -/
def SEC_PROFILE_BAD : Code := ⟨0x02, 0x05, 2⟩
/-- R477, 19_bringup_security.md. -/
def SEC_LIFE_BAD : Code := ⟨0x02, 0x06, 3⟩
/-- R477, 19_bringup_security.md. -/
def SEC_LC_CHANGE : Code := ⟨0x02, 0x07, 1⟩
/-- R477, 19_bringup_security.md. -/
def SEC_LC_DENIED : Code := ⟨0x02, 0x08, 2⟩
/-- R477, 19_bringup_security.md. -/
def SEC_WIPE_FAIL : Code := ⟨0x02, 0x09, 4⟩
/-- R477, 19_bringup_security.md. -/
def SEC_GUARD_MISS : Code := ⟨0x02, 0x0a, 1⟩
/-- R477, 19_bringup_security.md. -/
def SEC_PROV_BAD : Code := ⟨0x02, 0x0b, 2⟩
/-- R491, 20_shared_resources.md. -/
def CLAIM_BUSY : Code := ⟨0x05, 0x01, 1⟩
/-- R491, 20_shared_resources.md. -/
def CLAIM_PREEMPTED : Code := ⟨0x05, 0x02, 1⟩
/-- R491, 20_shared_resources.md. -/
def CLAIM_BROKEN : Code := ⟨0x05, 0x03, 2⟩
/-- R491, 20_shared_resources.md. -/
def CLAIM_TIMER : Code := ⟨0x05, 0x04, 0⟩
/-- R491, 20_shared_resources.md. -/
def CLAIM_NOT_OWNER : Code := ⟨0x05, 0x05, 1⟩
/-- The two codes common to every page (R109). -/
def clamp (page : Nat) : Code := ⟨page, 0x00, 1⟩
/-- R109. -/
def badValue (page : Nat) : Code := ⟨page, 0x1f, 1⟩

end Ev

/-- The local codes below 0x20 of page `p` and their severities, for PAGE_STATUS.FAULT_SEV and the FATAL rules
(R94, R96, R97). The common codes 0x00 and 0x1F are NOTICE in every page. -/
def pageCodes (p : Nat) : List (Nat × Nat) :=
  if p == 0x00 then [(1, 1), (2, 1)] else
  if p == 0x01 then [(1, 1), (2, 4), (3, 2), (4, 0), (5, 1)] else
  if p == 0x02 then [(1, 0), (2, 0), (3, 3), (4, 2), (5, 2), (6, 3), (7, 1), (8, 2), (9, 4), (10, 1), (11, 2)] else
  if p == 0x03 then [(1, 0), (2, 0), (3, 1), (4, 1)] else
  if p == 0x04 then [(1, 2), (2, 0), (3, 1), (4, 0), (5, 2), (6, 1), (7, 2), (8, 1), (9, 1)] else
  if p == 0x05 then [(1, 1), (2, 1), (3, 2), (4, 0), (5, 1)] else
  if 0x06 ≤ p ∧ p ≤ 0x07 then [(1, 2), (2, 3), (3, 3), (4, 1), (5, 2), (6, 2), (7, 1), (16, 3), (17, 3), (18, 3), (19, 2), (20, 2), (21, 1)] else
  if 0x08 ≤ p ∧ p ≤ 0x0f then [(1, 1), (2, 2), (3, 2), (4, 0), (5, 1), (6, 2), (7, 2), (8, 1), (9, 0), (16, 2), (17, 4), (18, 3), (19, 1), (20, 2), (21, 0)] else
  if p == 0x10 then [(1, 1), (2, 1), (3, 2), (4, 2), (5, 2), (6, 1), (7, 0), (8, 0)] else
  if p == 0x11 then [(1, 1), (2, 2), (3, 1), (4, 2), (5, 0)] else
  if p == 0x12 then [(1, 0), (2, 2), (3, 2), (4, 2), (5, 3), (6, 0)] else
  if p == 0x13 then [(1, 1), (2, 3), (3, 1), (4, 1), (5, 1), (6, 2)] else
  if p == 0x14 then [(1, 1), (2, 1), (3, 2)] else
  if p == 0x15 then [(1, 2), (2, 0), (3, 2), (4, 3), (5, 1), (6, 0)] else
  if p == 0x16 then [(1, 0), (2, 1), (3, 1)] else
  if p == 0x17 then [(1, 2), (2, 1), (3, 2), (4, 4), (5, 4), (6, 4), (7, 2), (8, 1), (9, 3), (10, 3), (11, 2), (12, 1), (13, 3), (14, 1), (15, 0)] else
  if p == 0x18 then [(1, 1), (2, 1), (3, 2), (4, 1), (5, 2), (6, 0), (7, 2), (8, 1), (9, 1), (10, 0), (11, 0)] else
  if p == 0x19 then [(1, 1), (2, 0), (3, 1)] else
  if p == 0x1a then [(1, 0), (2, 1), (3, 2), (4, 0), (5, 1), (6, 1)] else
  if p == 0x1b then [(1, 2), (2, 1), (3, 1), (4, 1), (5, 0)] else
  if p == 0x1c then [(1, 1), (2, 2), (3, 2), (4, 1)] else
  if p == 0x1d then [(1, 1), (2, 2), (3, 0), (4, 1), (5, 1), (6, 1), (7, 2), (8, 0), (9, 2)] else
  if p == 0x1e then [(1, 0), (2, 1), (3, 1), (4, 1)] else
  []

/-- Severity of local code `k` of page `p`. -/
def codeSev (p k : Nat) : Nat :=
  if k == 0 ∨ k == 0x1f then 1
  else match (pageCodes p).find? (fun c => c.1 == k) with
    | some c => c.2
    | none => 0

end Sys2Proof.Machine
end

