-- ==== Sys2Proof/Machine/StMem.lean ====
section
/-!
DEFINITION. Machine/StMem.lean: block memories and the register file as canonical sparse lists.
A memory lists the bytes that differ from zero, addresses strictly rising; an unlisted byte reads zero (every block
memory is wiped to zero before it is used, R35 and R455). The register file lists the fields that differ from their
reset value, keys strictly rising.
-/
namespace Sys2Proof.Machine

/-- A block memory. -/
abbrev Mem := List Host.Cell

/-- The register file: (field key, value). -/
abbrev RegFile := List (Nat × Nat)

/-- Every key of a sparse list is below its successor and above `lo`. -/
def risingFrom {α : Type} : Nat → List (Nat × α) → Bool
  | _, [] => true
  | lo, (a, _) :: r => decide (lo ≤ a) && risingFrom (a + 1) r

end Sys2Proof.Machine
end

