-- ==== Sys2Proof/Machine/StBaro.lean ====
section
/-!
DEFINITION. Machine/StBaro.lean: the state of the Barograph recorder (spec/18_barograph.md), beyond what the register
file holds.
-/
namespace Sys2Proof.Machine

/-- The accumulators of one window of one subject (R432). -/
structure BWin where
  /-- beats of the window so far -/
  beats : Nat := 0
  samples : Nat := 0
  lost : Nat := 0
  sum : Int := 0
  lo : Int := 0
  hi : Int := 0
  minAt : Nat := 0
  maxAt : Nat := 0
  /-- the 32 bins; empty, read as zeros -/
  bins : List Nat := []
  /-- the Squall latch was set at a beat inside the window (R434) -/
  squall : Bool := false
  deriving DecidableEq, Repr, Inhabited

/-- A mirror pass (R441, R442): the slot in hand, the write responses still due for it, all of them OK so far, a commit
has touched the slot since its copy, and the pass ends after it. -/
structure BPass where
  slot : Option Nat
  left : Nat
  ok : Bool
  touched : Bool
  stop : Bool
  deriving DecidableEq, Repr, Inhabited

/-- The Barograph (R431 to R446). -/
structure Baro where
  /-- subjects with a SUBJ register written in the beat in progress: their accumulators start at the next one (R433); reset
  empty -/
  fresh : List Nat := []
  /-- the record store: slot i from byte 256 i (R435); reset wiped -/
  ram : Mem := []
  /-- committed records that wait for a slot, oldest first, at most 64 (R439); reset empty -/
  shadow : List (List Nat) := []
  /-- dirty slots, ascending (R441); reset empty -/
  dirty : List Nat := []
  /-- open windows by 3 k + window, listed where not new (R432); reset empty -/
  wins : List (Nat × BWin) := []
  /-- event samples of the beat in progress: source, instance, value, at most 64 (R432); reset empty -/
  evs : List (Nat × Nat × Int) := []
  /-- beat index at the previous BUDGET strobe (R433); reset 0 -/
  prevB : Nat := 0
  /-- samples that task 0x08 of the beat in progress takes (R432): subject, value, beat; reset empty -/
  todo : List (Nat × Int × Nat) := []
  /-- bodies of the records of windows closed and not yet committed: bytes 0x04 to 0xFB (R433, R84); reset empty -/
  due : List (List Nat) := []
  /-- task 0x31 of this BUDGET tick has been stopped (R84); reset false -/
  held : Bool := false
  /-- freeze: 0 none, 1 register port, 2 Steward (R439); reset 0 -/
  frz : Nat := 0
  /-- BUDGET strobes since the freeze was granted; reset 0 -/
  frzMs : Nat := 0
  /-- a snapshot runs: first slot and count (R440); reset none -/
  snap : Option (Nat × Nat) := none
  /-- BUDGET strobes towards MIRROR.PERIOD (R441); reset 0 -/
  ms : Nat := 0
  /-- the mirror pass; reset none -/
  pass : Option BPass := none
  /-- a trigger has come during the pass (R441); reset false -/
  again : Bool := false
  /-- BARO_DROP raised in this BUDGET tick (R449); reset false -/
  dropSent : Bool := false
  /-- BARO_SHADOW_FULL raised in this BUDGET tick (R449); reset false -/
  fullSent : Bool := false
  deriving DecidableEq, Repr, Inhabited

end Sys2Proof.Machine
end

