-- ==== Sys2Proof/Machine/StClaim.lean ====
section
/-!
DEFINITION. Machine/StClaim.lean: the state of the claim arbiter and the general timers (spec/20_shared_resources.md).
-/
namespace Sys2Proof.Machine

/-- The owner of a shared resource (R478, R490): KIND 0 free, 1 path, 2 hardware, 3 safety owner; PATH as RES[r].PATH
codes it; master ID; feature. -/
structure Claim where
  kind : Nat := 0
  path : Nat := 0
  mid : Nat := 0
  feat : Nat := 0
  deriving DecidableEq, Repr, Inhabited

/-- The claim arbiter (R479 to R487). -/
structure Claims where
  /-- owners of RES 0 to 25 (R478); reset all free -/
  res : List Claim := List.replicate 26 {}
  /-- resources whose CLAIM_BUSY was raised in this BUDGET tick (R491); reset empty -/
  busySent : List Nat := []
  /-- resources whose CLAIM_NOT_OWNER was raised in this BUDGET tick (R491); reset empty -/
  notSent : List Nat := []
  /-- the capture RAM is being wiped since a claim ended (R481); reset false, the wipe of a reset standing in `wiping` -/
  wiping : Bool := false
  /-- some condition of THR_MASK held at the end of task 0x01 of the last beat (R486); reset false -/
  thr : Bool := false
  deriving DecidableEq, Repr, Inhabited

end Sys2Proof.Machine
end

