-- ==== Sys2Proof/Machine/StFw.lean ====
section
/-!
DEFINITION. Machine/StFw.lean: the state of the mailboxes, the two control cores, the NV port and the identity
(spec/02_ports.md, 17_firmware.md, 19_bringup_security.md), beyond what the register file holds. The words, flags and
doorbells of the mailboxes stand in the register file.
-/
namespace Sys2Proof.Machine

/-- A message a control core has to send: the word and the payload bytes (R409). -/
structure Msg where
  word : Nat
  bytes : List Nat
  deriving DecidableEq, Repr, Inhabited

/-- The mailboxes (R408 to R412). -/
structure Mbox where
  /-- payload buffers, buffer m from byte 0x1000 m (R409); reset wiped -/
  buf : Mem := []
  /-- mailboxes whose MBOX_OVERRUN was raised in this BUDGET tick (R430); reset empty -/
  ovSent : List Nat := []
  deriving DecidableEq, Repr, Inhabited

/-- States of the Steward (R427). -/
inductive StwSt where
  | empty | run | sleep | swap
  deriving DecidableEq, Repr, Inhabited

/-- The Steward (R404, R406, R415 to R424). -/
structure Steward where
  /-- STW_STAT.STATE; reset STW_EMPTY (R426) -/
  st : StwSt := .empty
  /-- it has run since the last reset (R406); reset false -/
  ran : Bool := false
  /-- STW_STAT.BANK: number of the active bank (R427); reset 0 -/
  bank : Nat := 0
  /-- the active bank, bytes from its offset 0 (R417); reset wiped -/
  active : Mem := []
  /-- the staging bank (R417); reset wiped -/
  staging : Mem := []
  /-- marked chunks of the staging bank (R418); reset empty -/
  chunks : List Nat := []
  /-- a heartbeat has been written since the last BUDGET strobe (R422); reset false -/
  hb : Bool := false
  /-- a heartbeat has been latched since the last reset (R422); reset false -/
  first : Bool := false
  /-- a heartbeat was latched in POLICY_STALE: the state ends at the next beat (R422); reset false -/
  okDue : Bool := false
  /-- the image in force came by a swap and has posted no heartbeat yet (R421); reset false -/
  newImage : Bool := false
  /-- a wake event has reached the gated core (R33, R34, R413); reset false -/
  wake : Bool := false
  /-- telemetry periods in ms by set, 0 stopped (R416); reset 0 -/
  periods : List Nat := [0, 0, 0, 0, 0]
  /-- beat strobe count at the last TELEMETRY notice (R424); reset none -/
  noticeAt : Option Nat := none
  /-- messages waiting for MB_SH (R414, R415); reset empty -/
  out : List Msg := []
  /-- TAG of a GRANT request answered after the next BUDGET tick (R415); reset none -/
  grant : Option Nat := none
  /-- an ask has been published and its ASK notice has not been sent (R415); reset false -/
  askDue : Bool := false
  /-- consecutive strobes with a target below the shed level (R423); reset 0 -/
  calm : Nat := 0
  deriving DecidableEq, Repr, Inhabited

/-- States of the Warden (R427). -/
inductive WrdSt where
  | boot | ready | sleep
  deriving DecidableEq, Repr, Inhabited

/-- A Steward swap (R419 to R421) with the TAG of the IMAGE_SWAP request, none where its answer is lost (R426). -/
inductive SwapSt where
  | none
  /-- the check runs -/
  | check (tag : Nat)
  /-- the grace runs -/
  | grace (tag : Nat)
  /-- steps 1 and 2 of R421 are done -/
  | held (tag : Option Nat)
  /-- step 3 is done -/
  | turned (tag : Option Nat)
  /-- step 4 is done, and the life record of step 5 is being written (R469) -/
  | record (tag : Option Nat)
  deriving DecidableEq, Repr, Inhabited

/-- Why a life record is written (R460, R461, R464, R469). -/
inductive LifeWhy where
  /-- step 5 of the boot, or the hour -/
  | counters
  /-- MIN_SVN raised by a swap; TAG of the IMAGE_SWAP request -/
  | svn (tag : Nat)
  /-- a transition to the state; TAG of the LC_REQ request -/
  | change (target tag : Nat)
  deriving DecidableEq, Repr, Inhabited

/-- The origin of an ordinary NV request (R50, R52, R441, R461). -/
inductive NvSrc where
  /-- a write of the critical-record ring or early slot by the Warden at boot (R326) -/
  | ring
  | life (why : LifeWhy)
  /-- PROV_WRITE: its TAG -/
  | prov (tag : Nat)
  /-- Barograph mirror -/
  | mirror
  /-- Steward NV_READ or NV_WRITE -/
  | stw
  deriving DecidableEq, Repr, Inhabited

/-- An ordinary NV request: origin, write, record index, data bytes (none for a read). -/
structure NvReq where
  src : NvSrc
  write : Bool
  idx : Nat
  data : List Nat
  deriving DecidableEq, Repr, Inhabited

/-- The NV port (R52). -/
structure NvPort where
  /-- requests not yet presented, in the order they will be; reset empty -/
  wait : List NvReq := []
  /-- the request presented and not accepted; reset none -/
  pres : Option NvReq := none
  /-- requests accepted and not answered, oldest first; reset empty -/
  out : List NvReq := []
  /-- a critical record waits for its acceptance: no other request is presented (R52); reset as the latch in PD_AON says -/
  block : Bool := false
  /-- the critical record is accepted and not answered; reset false -/
  critOut : Bool := false
  deriving DecidableEq, Repr, Inhabited

/-- An NV_READ or NV_WRITE of the Steward in progress (R415): TAG, direction, responses still due, data read so far, a
response other than OK. -/
structure NvJob where
  tag : Nat
  write : Bool
  left : Nat
  data : List Nat
  bad : Bool
  deriving DecidableEq, Repr, Inhabited

/-- The provisioned items read at boot (R467). -/
structure Prov where
  /-- certificate chain without its CRC (R468) -/
  chain : Option (List Nat) := none
  /-- ROM patch item in use, with its CRC (R457, R473) -/
  patch : Option (List Nat) := none
  /-- Barograph clear key, 97 B -/
  clearKey : Option (List Nat) := none
  /-- return key, 97 B -/
  returnKey : Option (List Nat) := none
  /-- Steward image keys: STATES and 97 B -/
  imageKeys : List (Nat × List Nat) := []
  /-- hard-limit profile: pairs of word address and value -/
  profile : List (Nat × Nat) := []
  deriving DecidableEq, Repr, Inhabited

/-- What the Warden reads from the NV store at its boot: the bytes of the NV region that differ from zero, the records
whose read ends in an error, and whether the ROM patch item verifies against the ROM's key (R26, R457). -/
structure BootIn where
  nv : Mem
  bad : List Nat
  patchOk : Bool
  deriving DecidableEq, Repr, Inhabited

/-- The Warden (R403, R407, R457 to R474). -/
structure Warden where
  /-- WRD_STAT.STATE; reset WRD_BOOT -/
  st : WrdSt := .boot
  /-- its RAM is wiped and boot has not begun (R457); reset false, the wipe still running (R455) -/
  wiped : Bool := false
  /-- the boot to come follows a core reset: steps 2, 3 and 9 only (R458); reset false -/
  restart : Bool := false
  /-- boot waits, with what it reads of the NV store; reset none -/
  waiting : Option BootIn := none
  /-- the step in which boot waits: 2, 7 and 8 for the NV port (R52), 4 and 8 for pages still being wiped (R455), 0 for step 6,
  which waits for the secret (R457); reset 0 -/
  late : Nat := 0
  /-- how the wait for the secret ended before step 6 began: the secret, or none after SEC_KEY_FAIL (R465); reset none -/
  got : Option (Option Nat) := none
  /-- ID_REQ (R53); reset 0 -/
  idReq : Bool := false
  /-- identity key d in the key slot (R466); reset none -/
  key : Option Nat := none
  /-- Transitions completed (R460); reset 0 -/
  transitions : Nat := 0
  /-- record index that holds the later life record (R460); reset 17,473, no valid record, DESIGN CHOICE 17473 -/
  lifeAt : Nat := 17473
  /-- life-record writes waiting for the one in progress, oldest first (R461); reset empty -/
  lifeQ : List LifeWhy := []
  /-- the life-record write in progress: why, and the LIFE_SEQ it carries; reset none -/
  lifeRun : Option (LifeWhy × Nat) := none
  /-- items of the provisioning area (R467); reset none read -/
  prov : Prov := {}
  /-- valid life-cycle nonce, 32 B (R463); reset none -/
  lcNonce : Option (List Nat) := none
  /-- valid Barograph nonce (R444); reset none -/
  baroNonce : Option (List Nat) := none
  /-- Steward swap (R419 to R421); reset none -/
  swap : SwapSt := .none
  /-- messages waiting for MB_WH; reset empty -/
  outH : List Msg := []
  /-- messages waiting for MB_WS; reset empty -/
  outS : List Msg := []
  /-- NV_READ or NV_WRITE in progress; reset none -/
  nvJob : Option NvJob := none
  /-- a transition is complete and its reset has not started (R464); reset false -/
  lcReset : Bool := false
  /-- a wake event has reached the gated core (R34); reset false -/
  wake : Bool := false
  /-- words of measurement 5 as last computed, empty for the reset values (R473); reset empty -/
  meas5 : List Nat := []
  /-- MEAS_SEL.BUSY (R473); reset false -/
  measBusy : Bool := false
  /-- free values taken so far (nonces, ECDSA random values); the model's own field; reset 0 DESIGN CHOICE 0 -/
  fresh : Nat := 0
  deriving DecidableEq, Repr, Inhabited

end Sys2Proof.Machine
end

