-- ==== Sys2Proof/Machine/StGov.lean ====
section
/-!
DEFINITION. Machine/StGov.lean: the state of droop detection, the governor and the credit scoreboard
(spec/08_droop.md, 09_governor.md, 10_power_credits.md), beyond what the register file holds.
-/
namespace Sys2Proof.Machine

/-- One droop satellite: the satellite itself (R195 to R199) and what the core holds about it (R200 to R210). -/
structure Sat where
  /-- coarse setting, 0 to 255 (R195); reset 128 (R199) -/
  coarse : Nat := 128
  /-- DS_n_CLK cycles since site power-up (R195); reset 0 -/
  cyc : Nat := 0
  /-- sum of CODE over the current aligned 256 cycles (R195); reset 0 DESIGN CHOICE 0 -/
  sum : Nat := 0
  /-- sum of CODE over the last complete 256 cycles (R195); reset 0 DESIGN CHOICE 0 -/
  last256 : Nat := 0
  /-- crossing levels of this cycle and the 15 before it, newest first (R196); reset empty -/
  lvs : List Nat := []
  /-- DS_n_STRETCH (R196, R60); reset 0b00 (R199) -/
  stretch : Nat := 0
  /-- consecutive cycles in which DS_n_STRETCH has been driven non-zero: complete cycles since the crossing cycle (R198);
  reset 0 -/
  run : Nat := 0
  /-- cycles since the last release, saturating at 4,096 (R195); reset 4096 -/
  sinceRel : Nat := 4096
  /-- SERVO_LIM (R195); reset false (R199) -/
  slim : Bool := false
  /-- DS_n_EVT (R198); reset 0 (R199) -/
  evt : Nat := 0
  /-- a servo interval has ended and its action has not been taken (R195); reset false -/
  servoDue : Bool := false
  /-- accepted DS_n_EVT (R200); reset 0 -/
  acc : Nat := 0
  /-- the domain's CD_n_GATE has been low for at least 100 ns (R200); reset false -/
  open100 : Bool := false
  /-- STAT.STUCK (R202); reset false -/
  stuck : Bool := false
  /-- STAT.SUSPECT (R210); reset false -/
  suspect : Bool := false
  /-- the satellite was in Gust at its last evaluation (R200); reset false -/
  gust : Bool := false
  /-- beat strobes in the present unbroken Gust (R202); reset 0 -/
  gustBeats : Nat := 0
  /-- extra length of this cycle's replica, 1/8 of a fine tap (R197); reset 0 -/
  comp : Nat := 0
  /-- deepest LEVEL of the present Gust (R200); reset 0 -/
  deep : Nat := 0
  /-- the present Gust has reached PERSIST (R213); reset false -/
  persisted : Bool := false
  /-- DROOP_SERVO_LIMIT already raised in this BUDGET tick (R214); reset false -/
  slimSent : Bool := false
  /-- highest level accepted during the present calibration pulse (R209); reset 0 -/
  pulseMax : Nat := 0
  /-- x[s][1..3] of the run in progress (R209); reset unset -/
  x1 : Option Nat := none
  /-- x1 was set by the first pulse of the run (R210); reset false -/
  x1first : Bool := false
  /-- see x1 -/
  x2 : Option Nat := none
  /-- see x1 -/
  x3 : Option Nat := none
  deriving DecidableEq, Repr, Inhabited

/-- States of a droop calibration (R213). -/
inductive CalSt where
  | idle | wait | gap | pulse
  deriving DecidableEq, Repr, Inhabited

/-- Droop calibration (R208 to R211). -/
structure Cal where
  /-- CAL_STAT.STATE; reset CAL_IDLE -/
  st : CalSt := .idle
  /-- rail of the run; reset 0 -/
  rail : Nat := 0
  /-- the run is forced; reset false -/
  forced : Bool := false
  /-- present depth, 0.25 mV (R209); reset 0 -/
  delta : Nat := 0
  /-- first pulse of the run in progress; reset false -/
  first : Bool := false
  /-- v0 of the present pulse, 0.25 mV (R209); reset 0 -/
  v0 : Nat := 0
  /-- pre-run mean I_sum: the sum of the quiet beats' means, 1/64 A (R209); reset 0 -/
  i0 : Int := 0
  /-- number of beats in that sum; reset 1 DESIGN CHOICE 1 -/
  i0n : Nat := 1
  /-- VREF of the run, 0.25 mV (R226); reset 0 -/
  vcal : Nat := 0
  /-- RAIL ticks since the present gap or pulse began (R209); reset 0 -/
  ticks : Nat := 0
  /-- VMEAS of the rail of the run in its last eight RAIL ticks, newest first (R209); reset empty -/
  vh : List Nat := []
  /-- BUDGET ticks towards CAL_CFG.PERIOD (R208); reset 0 -/
  ms : Nat := 0
  /-- beat means of I_sum by rail, newest first, at most 255, 1/64 A (R208); reset empty -/
  hist : List (List Int) := []
  /-- rails with a due ordinary calibration (R208); reset empty -/
  due : List Nat := []
  /-- rails with a due forced calibration (R208); reset empty -/
  dueF : List Nat := []
  deriving DecidableEq, Repr, Inhabited

/-- States of a waveform capture (R213). -/
inductive WaveSt where
  | idle | armed | done | aborted
  deriving DecidableEq, Repr, Inhabited

/-- Droop waveform capture (R212). -/
structure Wave where
  /-- WAVE_STAT.STATE; reset IDLE -/
  st : WaveSt := .idle
  /-- next sample index of the ring, 0 to 131,071 (R212); reset 0 -/
  pos : Nat := 0
  /-- the ring has come round since ARM, so that its oldest sample stands at `pos` (R212); reset false -/
  wrapped : Bool := false
  /-- samples still to take after the trigger, none before it (R212); reset none -/
  left : Option Nat := none
  /-- triggering satellite (WAVE_STAT.TRIG_DS); reset 0 -/
  trig : Nat := 0
  /-- word index of the oldest sample (WAVE_STAT.START); reset 0 -/
  start : Nat := 0
  deriving DecidableEq, Repr, Inhabited

/-- One clock domain: the clock-control port (R58) and what the governor and the Gust engine hold about it. -/
structure Dom where
  /-- target frequency, 250 kHz (R227); reset 0 -/
  target : Nat := 0
  /-- confirmed frequency, 250 kHz (R58); reset 0 -/
  conf : Nat := 0
  /-- CD_n_FREQ (R58); reset 0 -/
  freq : Nat := 0
  /-- CD_n_PREP (R58); reset 0 -/
  prep : Bool := false
  /-- CD_n_PREP_ACK as last seen (R58); reset false DESIGN CHOICE 0 -/
  prepAck : Bool := false
  /-- CD_n_SWITCH (R58); reset 0 -/
  sw : Bool := false
  /-- CD_n_SWITCH_ACK as last seen (R58); reset false DESIGN CHOICE 0 -/
  swAck : Bool := false
  /-- CD_n_GATE (R58); reset 1 -/
  gate : Bool := true
  /-- SWITCH_ACK is late: V_req uses the higher frequency and no other change is made (R228); reset false -/
  late : Bool := false
  /-- PREP is lowered until the next beat after a PREP_ACK timeout (R228); reset false -/
  retry : Bool := false
  /-- cached need at the confirmed frequency, 0.25 mV (DNEED.NEED); reset 0 -/
  need : Nat := 0
  /-- core setting need_d (DNEED.WEAK); reset 0 -/
  weak : Nat := 0
  /-- age target, 0.25 mV (R226); reset 0 -/
  ageT : Nat := 0
  /-- LEVEL_FIT_BAD raised for the present set of active cores (R224): the offending cores; reset empty -/
  fitBad : List Nat := []
  /-- domain in Gust (DSTAT.GUST, R200); reset false -/
  gust : Bool := false
  /-- GCLK count at which the domain's Gust started (R200); reset 0 -/
  gustAt : Nat := 0
  /-- DSTAT.LONG (R205); reset false -/
  long : Bool := false
  /-- release wait running (DSTAT.WAIT, R204); reset false -/
  wait : Bool := false
  /-- DSTAT.DEFER (R204); reset false -/
  defer_ : Bool := false
  /-- the present SWITCH has been counted in DEFERS (R204); reset false -/
  counted : Bool := false
  /-- DROOP_CANCEL_UP raised in this BUDGET tick (R205); reset false -/
  cancelSent : Bool := false
  /-- DROOP_FORCED_DOWN raised in this BUDGET tick (R205); reset false -/
  forcedSent : Bool := false
  deriving DecidableEq, Repr, Inhabited

/-- The parameter set of a mode (R230). -/
structure ModeSet where
  guard : Nat := 60
  ppcap : Nat := 96
  bgain : Nat := 64
  gustg : Nat := 2
  hold : Nat := 200
  fillMs : Nat := 3
  ramp : Nat := 24
  deriving DecidableEq, Repr, Inhabited

/-- The governor's limit windows and ratios (R215 to R218). -/
structure GovLim where
  /-- r_i of the EDC limits by rail (R218); reset 0 -/
  edc : List Nat := []
  /-- r_i of the TDC limits by rail; reset 0 -/
  tdc : List Nat := []
  /-- r_i of the di/dt limits by rail; reset 0 -/
  didt : List Nat := []
  /-- r_i of PL_FAST, PL_SUSTAIN, PL_THERMAL and BUDGET; reset 0 -/
  pkg : List Nat := []
  /-- r_i of the zone limits; reset 0 -/
  zone : List Nat := []
  /-- rail current of the last beat by rail, 0.25 A (R215); reset 0 -/
  prevI : List Nat := []
  /-- TDC windows by rail, 24 fractional bits (R216); reset 0 -/
  yTdc : List Int := []
  /-- PL_SUSTAIN window (R216); reset 0 -/
  ySus : Int := 0
  /-- PL_THERMAL window (R216); reset 0 -/
  yTh : Int := 0
  /-- package power of the last ten beats, newest first (R216); reset empty, counted as zero -/
  last10 : List Nat := []
  /-- package power of the last beat, 1/16 W (R215); reset 0 -/
  pBeat : Nat := 0
  /-- sum of the beat package power in this BUDGET tick (R231); reset 0 -/
  pSum : Nat := 0
  /-- beats in that sum (R231); reset 0 -/
  pCnt : Nat := 0
  deriving DecidableEq, Repr, Inhabited

/-- The governor (R219 to R232). -/
structure Gov where
  /-- windows and ratios -/
  lim : GovLim := {}
  /-- L_gov (R219); reset 0 (R221) -/
  lgov : Nat := 0
  /-- target level (R221); reset 0 -/
  target : Nat := 0
  /-- L_loc, the target level without the Isobar cap (R232); reset 0 -/
  lloc : Nat := 0
  /-- CAPSRC of the cap that bound L_loc, 0xF for none (R221, R334); reset 0xF -/
  llocSrc : Nat := 0xF
  /-- CAUSE of C_local (R334); reset 0x8F, no limit and no cap, DESIGN CHOICE 0x8F -/
  cCause : Nat := 0x8F
  /-- level cap CAP (R221); reset 0x3F (R234) -/
  cap : Nat := 0x3F
  /-- CAPSRC (R221); reset 0xF -/
  capSrc : Nat := 0xF
  /-- mode in force (R230); reset 0b01 -/
  mode : Nat := 1
  /-- its parameter set, latched at the beat strobe (R230); reset BALANCED -/
  set : ModeSet := {}
  /-- LEVEL_MAX in force (R222); reset 0x3F -/
  lvMax : Nat := 0x3F
  /-- POLICY_STALE in force (R222); reset false -/
  stale : Bool := false
  /-- beats in POLICY_STALE (R222); reset 0 -/
  staleBeats : Nat := 0
  /-- safe policy applied (R222); reset false -/
  safe : Bool := false
  /-- escalation counts of the rails, then of the package (R219); reset 0 -/
  esc : List Nat := []
  /-- limits above their band without a rise of r_i in the last beat, ascending IDs (R219); reset empty -/
  stuckLims : List Nat := []
  /-- step-up count (R220); reset 0 -/
  stepUp : Nat := 0
  /-- pool factor PF by rail, 1/256 (R219); reset 256 each -/
  pf : List Nat := []
  /-- the PROCHOT cap applied at the last beat (R221); reset false -/
  prochotOn : Bool := false
  /-- target of the last command to each rail, 0.25 mV (R225); reset none -/
  lastT : List (Option Nat) := []
  /-- frequency-down caps by rail: the T named (R229); reset none -/
  fdown : List (Option Nat) := []
  /-- ID of the command whose request was last taken, by rail (R229); reset 0, none -/
  fdownId : List Nat := []
  /-- V_req by rail (R225), 0.25 mV; reset 0 -/
  vreq : List Nat := []
  /-- N_n by rail (R225), 0.25 mV; reset 0 -/
  need : List Nat := []
  /-- C_local (R232); reset 0 (ISO.LOCAL) -/
  cLocal : Nat := 0
  /-- P_SET computed by the budget loop (R231); reset 0xBB80 -/
  pset : Nat := 0xBB80
  /-- P_SET latched by the governor (R231); reset 0xBB80 -/
  psetUse : Nat := 0xBB80
  /-- maxima of the configured zones in the latest THERM result, none for an unconfigured zone, 1/64 degree (R215, R315);
  reset empty, none configured -/
  zones : List (Option Int) := []
  /-- thermal level cap of the latest THERM result (R319); reset 0x3F -/
  thermCap : Nat := 0x3F
  /-- agreed ceiling in force, ISO.AGREED (R232); reset 0xFFFF -/
  agreed : Nat := 0xFFFF
  /-- PROCHOT_N as filtered: acting (R221, INPUTS.PROCHOT); reset false -/
  prochotIn : Bool := false
  /-- BUDGET ticks since the last PMBus poll that completed without error, none before the first (R231, R373); reset none -/
  pinAge : Option Nat := none
  /-- the curves must be read at the next beat (R224); reset true -/
  readFit : Bool := true
  /-- ceiling bubbles by domain (R232); reset 0 -/
  ceilB : List Nat := []
  /-- limit bubbles by compute core (R218); reset 0 -/
  limB : List Nat := []
  deriving DecidableEq, Repr, Inhabited

/-- One lease (R246, R251): compute core, slot, tag, units, drawn rail (none when no pool covers it), RESERVED or not,
and its length in GCLK cycles. -/
structure Lease where
  core : Nat
  slot : Nat
  tag : Nat
  units : Nat
  rail : Option Nat
  rsv : Bool
  fill : Bool
  len : Nat
  deriving DecidableEq, Repr, Inhabited

/-- One waiting request (R248): compute core, rail, class, DUR, units, order of taking, RAIL ticks waited, promoted,
reported by CREDIT_STARVE. -/
structure CReq where
  core : Nat
  rail : Nat
  cls : Nat
  dur : Nat
  units : Nat
  seq : Nat
  wait : Nat
  promoted : Bool
  starved : Bool
  /-- it has been answered WAIT (R253, R431) -/
  told : Bool
  deriving DecidableEq, Repr, Inhabited

/-- One rail's pool and bucket (R247, R249). -/
structure CPool where
  /-- P in force (R247); reset 0 -/
  p : Nat := 0
  /-- P_avail in force (R247); reset 0 -/
  avail : Nat := 0
  /-- RESERVE latched with them (R247); reset 0 -/
  rsv : Nat := 0
  /-- granted total outside the reserve; reset 0 -/
  g : Nat := 0
  /-- granted RESERVED total; reset 0 -/
  grsv : Nat := 0
  /-- allowance computed in the last task 0x0C, in force from the next strobe (R249, R250); reset 0 -/
  aNext : Nat := 0
  /-- allowance A in force (R249); reset 0 -/
  a : Nat := 0
  /-- bucket B (R249); reset 0 -/
  b : Nat := 0
  /-- CREDIT_RECLAIM raised in this BUDGET tick (R251); reset false -/
  recSent : Bool := false
  deriving DecidableEq, Repr, Inhabited

/-- The credit scoreboard (R239 to R255). -/
structure Credit where
  /-- pools by rail -/
  pools : List CPool := []
  /-- pool factors as committed before the last RAIL strobe, 1/256 (R76, R247); reset empty: 256 each -/
  pfUse : List Nat := []
  /-- leases in force; reset empty -/
  leases : List Lease := []
  /-- waiting requests of every rail, in queue order (R248); reset empty -/
  queue : List CReq := []
  /-- next lease tag of each compute core that has had a grant (R246); reset empty, every lane at tag 0 -/
  tags : List (Nat × Nat) := []
  /-- lanes that present a request which has not been taken: core and word, longest-waiting first (R55); reset empty -/
  port : List (Nat × Nat) := []
  /-- order number of the next request taken (R248); reset 0 -/
  seq : Nat := 0
  /-- channels whose CREDIT_LATE_RET was raised in this BUDGET tick (R243); reset empty -/
  lateSent : List Nat := []
  deriving DecidableEq, Repr, Inhabited

end Sys2Proof.Machine
end

