-- ==== Sys2Proof/Machine/StHint.lean ====
section
/-!
DEFINITION. Machine/StHint.lean: the state of the hint stream, the step tables and the Forecast engine
(spec/11_hints_steps.md, 12_forecast.md).
-/
namespace Sys2Proof.Machine

/-- A token in the FIFO: its port, its 64 bits, its due beat d (R259, R265). -/
structure HTok where
  port : Nat
  w : Nat
  due : Nat
  deriving DecidableEq, Repr, Inhabited

/-- The hint intake and FIFO (R263 to R270). -/
structure Hint where
  /-- stamped entries, head first (R265, R267); reset empty -/
  fifo : List HTok := []
  /-- tokens written since the last beat strobe, not yet stamped: port and bits (R265); reset empty -/
  fresh : List (Nat × Nat) := []
  /-- entries retired in this beat (R268); reset empty -/
  retired : List HTok := []
  /-- GCLK cycle, counted from reset, at which a pointer reset ends (PAGE_STATUS.BUSY until then, R266); reset 0 -/
  busyTo : Nat := 0
  /-- ports whose HINT_DROP was raised in this BUDGET tick (R264); reset empty -/
  dropSent : List Nat := []
  /-- ports whose HINT_BAD was raised in this BUDGET tick (R283); reset empty -/
  badSent : List Nat := []
  deriving DecidableEq, Repr, Inhabited

/-- States of the step position (R272). -/
inductive StepSt where
  | idle | run | overflow
  deriving DecidableEq, Repr, Inhabited

/-- Step position and step tables (R271 to R280). -/
structure StepTab where
  /-- STATUS.STATE; reset STEP_IDLE -/
  st : StepSt := .idle
  /-- b0, the due beat of the last reset (R271); reset 0 -/
  b0 : Nat := 0
  /-- pos of the present beat (R271); reset 0 -/
  pos : Nat := 0
  /-- W in force (STATUS.WIDTH); reset 4 -/
  w : Nat := 4
  /-- STATUS.PEND (R274); reset false -/
  pend : Bool := false
  /-- a SWAP_NOW waits for the next beat (R274); reset false -/
  now : Bool := false
  /-- active bank (STATUS.ACT); reset 0 -/
  act : Nat := 0
  /-- steps completed since the last swap or reset (R280); reset 0 -/
  warm : Nat := 0
  /-- beats of the present bin that belonged to it so far (R275); reset 0 -/
  beats : Nat := 0
  /-- rails for which a suspension touched a beat of the bin (R275, R276); reset empty -/
  susp : List Nat := []
  /-- sums of the rail currents over the bin by rail, 0.25 A (R275); reset empty -/
  sums : List Nat := []
  /-- active entries of the present bin by rail, as the last task 0x03 handed them over (R277); reset empty, read as 0 -/
  vals : List Nat := []
  /-- rails with FF_SUSP (R280); reset empty -/
  ffSusp : List Nat := []
  /-- fractions of the entries of the active bank, listed where not zero: 4,096 n + i (R273); reset empty -/
  frac : List (Nat × Nat) := []
  /-- the two banks (R273); reset all zero -/
  bank0 : Mem := []
  /-- see bank0 -/
  bank1 : Mem := []
  deriving DecidableEq, Repr, Inhabited

/-- States of the Forecast engine (R296). -/
inductive FcSt where
  | off | run | degraded | fault
  deriving DecidableEq, Repr, Inhabited

/-- The output of one evaluation (R286, R290, R292). -/
structure FcOut where
  /-- pred(n)(k) at 16 n + k; reset empty, read as 0 -/
  preds : List Nat := []
  /-- confidence; reset 0 -/
  conf : Nat := 0
  /-- NULLROW; reset false -/
  nullrow : Bool := false
  /-- use(n) by rail; reset empty, none -/
  use : List Bool := []
  /-- i_fc by rail; reset empty, 0 -/
  ifc : List Nat := []
  /-- pp_fc by rail; reset empty, 0 -/
  ppfc : List Nat := []
  deriving DecidableEq, Repr, Inhabited

/-- A recorded evaluation: the beat (beats since reset), pred(n)(S) and use(n) by rail (R294). -/
structure FcRec where
  beat : Nat
  pred : List Nat
  use : List Bool
  deriving DecidableEq, Repr, Inhabited

/-- The Forecast engine (R286 to R301). -/
structure Fcast where
  /-- STATUS.STATE; reset FC_OFF -/
  st : FcSt := .off
  /-- the active bank is valid (R296); reset false -/
  valid : Bool := false
  /-- active bank (STATUS.ACT); reset 0 -/
  act : Nat := 0
  /-- STATUS.PEND (R301); reset false -/
  pend : Bool := false
  /-- the check has passed and the swap waits for a beat strobe (R301); reset false -/
  passed : Bool := false
  /-- the window was written since the SWAP write (R301); reset false -/
  dirty : Bool := false
  /-- a REARM waits for the next beat strobe (R296); reset false -/
  rearm : Bool := false
  /-- an uncorrectable error waits for the next beat strobe (R296, R298); reset false -/
  faultDue : Bool := false
  /-- a degradation waits for the next beat strobe (R295, R296); reset false -/
  degrade : Bool := false
  /-- output in force (R286); reset all zero -/
  out : FcOut := {}
  /-- output of this beat's completed evaluation, in force from the next strobe (R286); reset none -/
  nxt : Option FcOut := none
  /-- this beat's evaluation has not finished by cycle 899 and waits to be stopped (R84, R297); reset false -/
  late : Bool := false
  /-- this beat's evaluation was stopped (R84, R293); reset false -/
  overran : Bool := false
  /-- STATUS.REUSED; reset false -/
  reused : Bool := false
  /-- consecutive beats without a completed evaluation (R293); reset 0 -/
  reuse : Nat := 0
  /-- FCAST_STALE raised in this BUDGET tick (R304); reset false -/
  staleSent : Bool := false
  /-- the last 64 evaluations, newest first (R294); reset empty -/
  hist : List FcRec := []
  /-- error sums and counts by rail (R294); reset empty -/
  errs : List (Nat × Nat) := []
  /-- a BUDGET strobe has passed since the sums were closed (R295); reset false -/
  closeDue : Bool := false
  /-- rail currents of the last four beats by rail, newest first, 0.25 A (R294); reset empty -/
  cur4 : List (List Nat) := []
  /-- ok(n) at this beat and the four before it by rail, newest first (R294); reset empty -/
  ok5 : List (List Bool) := []
  /-- the two model banks (R299); reset all zero -/
  bank0 : Mem := []
  /-- see bank0 -/
  bank1 : Mem := []
  deriving DecidableEq, Repr, Inhabited

end Sys2Proof.Machine
end

