-- ==== Sys2Proof/Machine/StIso.lean ====
section
/-!
DEFINITION. Machine/StIso.lean: the state of the Isobar engine (spec/14_isobar.md), beyond what the register file holds.
-/
namespace Sys2Proof.Machine

/-- States of R332. -/
inductive IsoSt where
  | off | wait | run | hold | degraded | departed
  deriving DecidableEq, Repr, Inhabited

/-- The group set in force (R330, R331). -/
structure IsoCfg where
  join : Bool := false
  tolerant : Bool := false
  group : Nat := 0
  epoch : Nat := 0
  count : Nat := 1
  index : Nat := 0
  rise : Nat := 0x7D
  fbDeadline : Nat := 0x60
  arity : Nat := 0x10
  deadline : Nat := 0xC
  margin : Nat := 0x28
  holdoff : Nat := 8
  late : Nat := 3
  lead : Nat := 8
  red : Nat := 0
  bcast : Nat := 0
  parent : Nat := 0
  child : List Nat := []
  deriving DecidableEq, Repr, Inhabited

/-- A round in flight: its start beat, the CEIL contributed, and the start beat of the MIN round before it (R338, R339). -/
structure IsoRound where
  s : Nat
  ceil : Nat
  prev : Option Nat
  deriving DecidableEq, Repr, Inhabited

/-- A pending result (R339): its start beat and application beat, KEY, RISE_OK, PROBES. -/
structure IsoPend where
  s : Nat
  at_ : Nat
  key : Nat
  rise : Bool
  probes : Nat
  deriving DecidableEq, Repr, Inhabited

/-- An aggregate in member combining (R349): the message so far, the children that have delivered, and whether it has
been sent on. -/
structure IsoAgg where
  s : Nat
  msg : Nat
  got : List Nat
  sent : Bool
  deriving DecidableEq, Repr, Inhabited

/-- The Isobar engine (R330 to R351). AGREED stands in the governor (R232). -/
structure Iso where
  /-- local ceiling of task 0x02 of the beat before the slot, latched at its strobe (R76, R337); reset 0 -/
  ceil : Nat := 0
  /-- CAUSE of that ceiling (R334, R337); reset 0x8F -/
  cause : Nat := 0x8F
  /-- STATUS.STATE (R332); reset ISO_OFF -/
  st : IsoSt := .off
  /-- state to which ISO_WAIT returns: ISO_RUN, ISO_HOLD or ISO_DEGRADED (R332, R345, R346); reset ISO_RUN DESIGN CHOICE -/
  back : IsoSt := .run
  /-- set in force; reset as the staged registers, JOIN 0 -/
  cfg : IsoCfg := {}
  /-- bits 31:0 of the beat of a pending apply (APPLY_CTRL.PEND, R330); reset none -/
  apply : Option Nat := none
  /-- STATUS.MODE: member combining (R348); reset false -/
  comb : Bool := false
  /-- member combining is selected and waits for b mod 128 = 0 (R348); reset false -/
  combPend : Bool := false
  /-- the MIN round in flight; reset none -/
  round : Option IsoRound := none
  /-- start beat of the last MIN round (R339); reset none -/
  last : Option Nat := none
  /-- the SUM round in flight; reset none -/
  sum : Option IsoRound := none
  /-- the probe in flight (R350); reset none -/
  probe : Option IsoRound := none
  /-- pending results, oldest first (R339); reset empty -/
  pend : List IsoPend := []
  /-- the checks of the previous round's result failed (R337); reset false -/
  checkBad : Bool := false
  /-- consecutive undisturbed beats in ISO_RUN, saturating at 4,080 (R337); reset 0 -/
  clean : Nat := 0
  /-- STATUS.MISRUN (R346); reset 0 -/
  misrun : Nat := 0
  /-- expected IDXSUM (R345); reset 0 -/
  idxExp : Nat := 0
  /-- consecutive partial MIN results with the same CONTRIB and IDXSUM: count, CONTRIB, IDXSUM (R345); reset 0 -/
  partRun : Nat × Nat × Nat := (0, 0, 0)
  /-- beat strobe count at the last SQUALL sent, none since reset (R341); reset none -/
  sqAt : Option Nat := none
  /-- beat at which a drop was last latched or adopted (R339, R351); reset none -/
  dropAt : Option Nat := none
  /-- ring of drops announced for later beats: bits 31:0 of the beat, KEY (R342); reset empty -/
  ring : List (Nat × Nat) := []
  /-- received messages waiting for the next strobe, in order of arrival; reset empty -/
  rx : List Nat := []
  /-- aggregate of the MIN round in member combining; reset none -/
  aggMin : Option IsoAgg := none
  /-- aggregate of the SUM round in member combining; reset none -/
  aggSum : Option IsoAgg := none
  /-- a SUM contribution is due (R340); reset false -/
  sumDue : Bool := false
  /-- NOTICE codes raised in this BUDGET tick (R344); reset empty -/
  sent : List Nat := []
  deriving DecidableEq, Repr, Inhabited

end Sys2Proof.Machine
end

