-- ==== Sys2Proof/Machine/StLedger.lean ====
section
/-!
DEFINITION. Machine/StLedger.lean: the state of activity counts, Drizzle, the budget, the PMBus master, the energy ledger
and the export queue (spec/15_drizzle.md, 16_budget_ledger.md), beyond what the register file holds.
-/
namespace Sys2Proof.Machine

/-- Activity counts (R56, R244, R375). -/
structure Act where
  /-- latest counts by compute core, the previous counts of R375; reset empty, read as 0 -/
  cnt : List Nat := []
  /-- channels whose counts of the beat just ended have arrived in time; reset empty -/
  got : List Nat := []
  /-- channels whose counts were late in the last latched beat (R356, R375); reset empty -/
  late : List Nat := []
  /-- LEDGER_EST_LATE raised in this BUDGET tick, by channel (R375); reset empty -/
  sent : List Nat := []
  deriving DecidableEq, Repr, Inhabited

/-- States of a cluster (R358). -/
inductive DzSt where
  | run | fill | pre
  deriving DecidableEq, Repr, Inhabited

/-- One cluster of Drizzle (R356 to R359). -/
structure DzCl where
  /-- CL_STAT.STATE; reset DZ_RUN -/
  st : DzSt := .run
  /-- envelope E, 1/65,536; reset 0 -/
  e : Nat := 0
  /-- real share h, 1/65,536; reset 0 -/
  h : Nat := 0
  /-- w as last counted (CL_STAT.WAITING); reset 0 -/
  w : Nat := 0
  /-- FILL driven (R359); reset 0 -/
  fill : Nat := 0
  /-- FILL driven in the beat before (R356, R380); reset 0 -/
  prev : Nat := 0
  /-- E still falls from an earlier wait (R366); reset false -/
  fall : Bool := false
  deriving DecidableEq, Repr, Inhabited

/-- A waiting flag that is set (R354, R355): core, set by idle detection, beat strobe count at which it was set. -/
structure DzFlag where
  core : Nat
  idle : Bool
  at_ : Nat
  deriving DecidableEq, Repr, Inhabited

/-- A preramp, pending or running (R361). -/
structure PreRamp where
  /-- bits 31:0 of the beat BEAT - k -/
  start : Nat
  /-- bits 31:0 of BEAT -/
  beat : Nat
  level : Nat
  mask : Nat
  holdMs : Nat
  /-- the start beat has come -/
  running : Bool
  /-- BEAT has come -/
  done : Bool
  /-- beat strobe count at BEAT -/
  doneAt : Nat
  deriving DecidableEq, Repr, Inhabited

/-- Drizzle (R354 to R366). -/
structure Drizzle where
  /-- clusters by credit channel -/
  cl : List DzCl := []
  /-- waiting flags that are set, ascending core; reset empty -/
  flags : List DzFlag := []
  /-- consecutive idle beats by core, saturating at 255 (R355); reset empty, 0 -/
  quiet : List Nat := []
  /-- cores whose flag R354 has cleared since the last idle detection, ascending (R355); reset empty -/
  cleared : List Nat := []
  /-- the preramp (R361); reset none -/
  pre : Option PreRamp := none
  /-- DRIZZLE_WAIT_EXPIRED raised in this BUDGET tick (R354); reset false -/
  sent : Bool := false
  deriving DecidableEq, Repr, Inhabited

/-- Grants, ask and PMBus polls (R369 to R373). -/
structure Budget where
  /-- the latest submission not yet latched: WATTS, VALID_MS, SEQ (R369); reset none -/
  sub : Option (Nat × Nat × Nat) := none
  /-- a grant has been applied since reset (R370); reset false -/
  first : Bool := false
  /-- WATTS of the grant in force, as written (R23, R370); reset 0 -/
  watts : Nat := 0
  /-- sum of the beat package power since the previous ask (R372); reset 0 -/
  sum : Nat := 0
  /-- beats in that sum; reset 0 -/
  cnt : Nat := 0
  /-- an ask is due at the BUDGET tick in progress (R372); reset false -/
  askDue : Bool := false
  /-- limit 0x1B was above its band in some of those beats (R372); reset false -/
  above : Bool := false
  /-- BUDGET ticks towards PMB_CFG.PERIOD (R65); reset 0 -/
  pollMs : Nat := 0
  /-- a poll runs (PAGE_STATUS.BUSY); reset false -/
  poll : Bool := false
  /-- first device of the poll that has failed (R65, R373); reset none -/
  bad : Option Nat := none
  /-- PMBUS_REVISION has been read since reset, by device (R64); reset false each -/
  revRead : List Bool := [false, false]
  /-- PMB_SMBALERT_N is low (R65, R486); reset false DESIGN CHOICE false -/
  alertLow : Bool := false
  deriving DecidableEq, Repr, Inhabited

/-- States of a stream tag (R376). -/
inductive TagSt where
  | free | open_ | closed
  deriving DecidableEq, Repr, Inhabited

/-- One cache line of the ledger (R384, R385). -/
structure Line where
  tag : Nat
  /-- E_CORE, nJ modulo 2^64 -/
  eCore : Nat := 0
  /-- E_REST -/
  eRest : Nat := 0
  /-- OPEN_BEAT, 48 bits; for a line whose fetch is outstanding the beat of the binding -/
  openB : Nat := 0
  /-- PEAK, 1/16 W -/
  peak : Nat := 0
  /-- FILL, 42 bits -/
  fill : Nat := 0
  st : TagSt := .free
  overrun : Bool := false
  /-- ALIGNED at open -/
  alO : Bool := false
  /-- ALIGNED at close -/
  alC : Bool := false
  forced : Bool := false
  /-- CLOSE_BEAT -/
  closeB : Nat := 0
  /-- beat strobe count of the close -/
  closeM : Nat := 0
  /-- its fetch is outstanding (R385) -/
  fetch : Bool := false
  /-- the tag is to close once its fetch completes: FORCED (R378) -/
  endReq : Option Bool := none
  /-- the line differs from its slot -/
  dirty : Bool := false
  /-- a flush waits for the fetch of this line (R387) -/
  flush : Bool := false
  deriving DecidableEq, Repr, Inhabited

/-- A request on the MEM port (R47, R48, R385, R387, R391). -/
inductive MemReq where
  /-- fetch of a ledger slot -/
  | fetch (tag : Nat)
  /-- read of a ledger slot for a query -/
  | query (tag : Nat)
  /-- read of a ledger slot whose record lacks OVERRUN, for a flush (R384, R387) -/
  | mend (tag : Nat)
  /-- write of a ledger slot: record, part of a flush -/
  | slot (tag rec_ : Nat) (flush : Bool)
  /-- write of zeros to a 64 B part of the ledger region (R386) -/
  | fill (part : Nat)
  /-- write of a spill slot: item count and item -/
  | spill (item data : Nat)
  /-- read of a spill slot -/
  | unspill (item : Nat)
  deriving DecidableEq, Repr, Inhabited

/-- The request is a write. -/
def MemReq.isWrite : MemReq → Bool
  | .slot _ _ _ => true
  | .fill _ => true
  | .spill _ _ => true
  | _ => false

/-- The request is the ledger's; the others are the export spill's (R488). -/
def MemReq.ledger : MemReq → Bool
  | .spill _ _ => false
  | .unspill _ => false
  | _ => true

/-- The MEM port (R47, R48, R488). -/
structure MemPort where
  /-- reads issued and not answered, oldest first; reset empty -/
  reads : List MemReq := []
  /-- writes issued and not done, oldest first; reset empty -/
  writes : List MemReq := []
  /-- requests not yet issued, in order; reset empty -/
  wait : List MemReq := []
  /-- place in the round robin of R488: 0 to 2 the ledger's turn, 3 the spill's; reset 0 DESIGN CHOICE 0 -/
  turn : Nat := 0
  deriving DecidableEq, Repr, Inhabited

/-- The energy ledger (R374 to R387). -/
structure Ledger where
  /-- cache lines, in order of allocation; reset the four permanent lines of tags 0 to 3 -/
  lines : List Line := [{ tag := 0, st := .open_ }, { tag := 1, st := .open_ }, { tag := 2, st := .open_ },
    { tag := 3, st := .open_ }]
  /-- tags OPEN in the store without a line, and whether an overrun fell meanwhile (R384); reset empty -/
  away : List (Nat × Bool) := []
  /-- ends of tags OPEN in the store for which no line was free (R378): lines that wait for one, oldest first; reset empty -/
  ends : List Line := []
  /-- binding of each compute core, none for no stream: charged to tag 1 (R377, R380); reset empty, none -/
  bind : List (Option Nat) := []
  /-- the bindings of the beat before (R377); reset empty, none -/
  bindPrev : List (Option Nat) := []
  /-- measured energy by rail of the last beat that has ended and is not yet shared, none for a rail that did not run
  (R380); reset empty -/
  eBeat : List (Option Nat) := []
  /-- the set-points that task 0x07 of the beat latched at its strobe (R15): the register file then; the model's own field;
  reset empty -/
  seen : RegFile := []
  /-- task 0x07 has been stopped in this beat (R84); reset false -/
  cutShort : Bool := false
  /-- CLOSE writes waiting for the next beat (R378, R396); reset empty -/
  closes : List Nat := []
  /-- a query is waiting (R387); reset false -/
  query : Bool := false
  /-- a flush is running (STATUS.FLUSHING, R387); reset false -/
  flushing : Bool := false
  /-- the zero-fill is running (STATUS.INIT, R386); reset false -/
  init : Bool := false
  /-- the zero-fill has been started since reset (R386); reset false -/
  filled : Bool := false
  /-- 64 B parts of the ledger region that the zero-fill has issued (R386, R488); reset 0 -/
  fillAt : Nat := 0
  /-- measured energy of the BUDGET interval in progress, nJ (R340); reset 0 -/
  iv : Nat := 0
  /-- measured energy of the last complete BUDGET interval; reset 0 -/
  ivLast : Nat := 0
  /-- once-per-BUDGET-tick events raised (R400): local codes; reset empty -/
  sent : List Nat := []
  deriving DecidableEq, Repr, Inhabited

/-- Where an export item is held (R391). -/
inductive XLoc where
  | head | tail | spill
  deriving DecidableEq, Repr, Inhabited

/-- One export item (R388 to R391): EX_KIND, EX_LAST, its 64 B as a number, where it is held, whether its spill slot
holds it, whether its read is outstanding. -/
structure XItem where
  kind : Nat
  last : Bool
  data : Nat
  loc : XLoc
  copy : Bool
  rd : Bool
  deriving DecidableEq, Repr, Inhabited

/-- An open batch (R390): its number, items of kind 0 or 2, BUDGET strobes since its header, the items to hash. -/
structure XBatch where
  no : Nat
  n : Nat
  ms : Nat
  items : List Nat
  deriving DecidableEq, Repr, Inhabited

/-- An outstanding signature (R390): the batch number, the metadata bytes 0x30 to 0x3F, the items to hash, BUDGET strobes
since the close. -/
structure XSign where
  no : Nat
  meta_ : Nat
  items : List Nat
  ms : Nat
  deriving DecidableEq, Repr, Inhabited

/-- The export queue (R388 to R395). -/
structure Export where
  /-- F, items released since the last reset of the queue; reset 0 -/
  f : Nat := 0
  /-- T - F; reset 0 -/
  t : Nat := 0
  /-- M - F; reset 0 -/
  m : Nat := 0
  /-- items F to W - 1; reset empty -/
  items : List XItem := []
  /-- an item presented before a REWIND and not yet transferred (R393): EX_KIND, EX_LAST, data; reset none -/
  pres : Option (Nat × Bool × Nat) := none
  /-- the open batch; reset none -/
  batch : Option XBatch := none
  /-- the outstanding signature; reset none -/
  sign : Option XSign := none
  /-- signature items waiting for room (R390, R391): EX_LAST and data; reset empty -/
  sigs : List (Bool × Nat) := []
  /-- BUDGET strobes since the idle timer restarted (R394); reset 0 -/
  idleMs : Nat := 0
  /-- STATUS.IDLE; reset false -/
  idle : Bool := false
  /-- EXPORT_FULL raised in this BUDGET tick (R402); reset false -/
  fullSent : Bool := false
  deriving DecidableEq, Repr, Inhabited

end Sys2Proof.Machine
end

