-- ==== Sys2Proof/Machine/StRail.lean ====
section
/-!
DEFINITION. Machine/StRail.lean: the state of the phase controllers, the rail loops, the fault monitor and the TUNE run
(spec/05_phase_control.md, 06_rail_loops.md, 07_rail_faults.md). Registers that hold configuration or a plain count live
in the register file; what stands here is the state the rules name beyond them.
-/
namespace Sys2Proof.Machine

/-- Link states of R129. -/
inductive LinkSt where
  | down | train | config | up
  deriving DecidableEq, Repr

/-- Phase states of R143. -/
inductive PhSt where
  | off | softstart | active | shed | brake | faulted
  deriving DecidableEq, Repr

/-- One phase controller and its end of the Phase Link. -/
structure Phase where
  /-- phase state (R143); reset OFF (R146) -/
  st : PhSt := .off
  /-- link state (R129); reset DOWN (R146) -/
  link : LinkSt := .down
  /-- bring-up step in progress, 0 none, 1 to 4 (R129); reset 0 -/
  step : Nat := 0
  /-- failed bring-up attempts (R129); reset 0 -/
  attempts : Nat := 0
  /-- return slots since the forward slot of the step's first frame (R129); reset 0 -/
  slots : Nat := 0
  /-- forward slot in which the step sent its first frame, none before it (R129); reset none -/
  sentAt : Option Nat := none
  /-- consecutive valid TRAIN returns (R129 step 1); reset 0 -/
  trainRun : Nat := 0
  /-- the bring-up was started by a CLEAR (R144); reset false -/
  clearing : Bool := false
  /-- STATUS.FCAUSE (R144, R175); reset 0 -/
  fcause : Nat := 0
  /-- trim, 1/1024 (R136); reset 0 -/
  trim : Int := 0
  /-- avg of the last RAIL tick with enough samples, 1/16 A (R136, R137); reset 0 -/
  avg : Int := 0
  /-- ok[p] of R136: at least four valid samples in the tick; reset false -/
  ok : Bool := false
  /-- on-time of the last HI or BURST cycle with a valid report since entry to the active set (R135); reset 0 -/
  ontUse : Nat := 0
  /-- PHASE_RX_ERR already raised in this BUDGET tick (R130); reset false -/
  rxErrSent : Bool := false
  /-- validity of the last return slots, newest first, at most 8 (R130); reset empty -/
  hist : List Bool := []
  /-- last valid ISAMP, 1/16 A (R130); reset 0 -/
  lastSamp : Int := 0
  /-- sum of the valid samples since the previous RAIL strobe (R136); reset 0 -/
  accSum : Int := 0
  /-- number of those samples (R136); reset 0 -/
  accCnt : Nat := 0
  /-- LO half of a pair waiting for its HI half: KIND and byte (R126); reset none -/
  lo : Option (Nat × Nat) := none
  /-- return slots since a TEMP_LO and TEMP_HI pair completed, saturating at 64, none before the first (R312); reset none -/
  tempAge : Option Nat := none
  /-- WRITE and READ frames waiting for a free slot, oldest first (R134); reset empty -/
  tx : List Nat := []
  /-- MODE of an immediate TURN_ON waiting for the next slot (R134); reset none -/
  imm : Option Nat := none
  /-- rank and N of the OFF turn-on still owed after entering SHED (R137); reset none -/
  offRank : Option (Nat × Nat) := none
  /-- turn-on instant of the THRESHOLD sent in the slot before (R132); reset none -/
  thrFor : Option Nat := none
  /-- instant of the previous turn-on, bit times since beat 0 (R133); reset none -/
  prevOn : Option Nat := none
  /-- instant of a burst turn-on, for the LO rule of R140; reset none -/
  burstOn : Option Nat := none
  /-- turn-ons sent whose ONT_LO has not arrived, oldest first: the instant, and whether it is HI or BURST (R126, R140); reset
  empty -/
  ons : List (Nat × Bool) := []
  /-- largest valid ISAMP since the previous on-time report (R177); reset none -/
  ripMax : Option Int := none
  /-- smallest valid ISAMP since the previous on-time report (R177); reset none -/
  ripMin : Option Int := none
  /-- result of the last ripple test: disagrees (R177); reset false -/
  ripBad : Bool := false
  /-- on-times of the HI and BURST reports since the previous strobe (R176); reset empty -/
  reps : List Nat := []
  /-- open count (R176); reset 0 -/
  openCnt : Nat := 0
  /-- sense count (R177); reset 0 -/
  senseCnt : Nat := 0
  /-- removal decided by the fault monitor, acting in task 0x0B of the next tick: the cause (R175); reset none -/
  removal : Option Nat := none
  /-- TMAX written in the bring-up (R129 step 4); reset 0 -/
  tmaxWr : Nat := 0
  /-- frame sent in the last forward slot, none while the transmitter is static (PL_n_TX, R61); reset none -/
  out : Option Nat := none
  /-- the fifty coded bits of that slot, 0 while the transmitter is static (R120); reset 0 -/
  code : Nat := 0
  /-- number of the last forward slot sent (R120); reset none -/
  fwd : Option Nat := none
  /-- running disparity of the transmitter is positive (R120); reset false DESIGN CHOICE false -/
  txRd : Bool := false
  /-- running disparity of the receiver is positive (R120, R122); reset false DESIGN CHOICE false -/
  rxRd : Bool := false
  deriving DecidableEq, Repr, Inhabited

/-- Command states of R151. -/
inductive CmdSt where
  | stopped | starting | settled | slewing | waitFreq | retention
  deriving DecidableEq, Repr

/-- A voltage command accepted by the rail: its ID, clamped target in fine units, slew, whether it is rising, whether it
was clamped, and whether it has posted its frequency-down request (R151 to R154). -/
structure RCmd where
  id : Nat := 0
  t : Int := 0
  slew : Nat := 0
  rising : Bool := false
  clamped : Bool := false
  posted : Bool := false
  deriving DecidableEq, Repr, Inhabited

/-- The rail command state machine (R149 to R157). -/
structure RailCmd where
  /-- CMD_STAT.STATE (R151); reset STOPPED (R170) -/
  st : CmdSt := .stopped
  /-- the command ramp, 1/64 mV (R151); reset 0 DESIGN CHOICE 0 -/
  ramp : Int := 0
  /-- soft-start reference, 1/320 mV (R142); reset 0 DESIGN CHOICE 0 -/
  soft : Int := 0
  /-- target t in force, 1/64 mV (R151); reset 0 DESIGN CHOICE 0 -/
  t : Int := 0
  /-- slew of the command in force or last completed, 0.25 mV/us (R150, R151); reset 8, the reset SLEW of CMD, DESIGN CHOICE 8 -/
  slew : Nat := 8
  /-- the pending command (R151, R152); reset none (CUR_ID 0) -/
  pend : Option RCmd := none
  /-- commands issued and not yet latched by a RAIL tick, oldest first: target and slew (R151, R152, R155); reset empty -/
  arr : List (Nat × Nat) := []
  /-- a command held in STARTING: ID, target, slew (R152, R155); reset none -/
  held : Option (Nat × Nat × Nat) := none
  /-- the governor's latest command, for the return of SRC to 0 (R155); reset none -/
  govLast : Option (Nat × Nat) := none
  /-- governor command written at a beat and not yet committed to the rail (R15); reset none -/
  govNew : Option (Nat × Nat) := none
  /-- next command ID (R152); reset 0x01 -/
  nextId : Nat := 1
  /-- CMD_STAT.LAST_ID (R152); reset 0 -/
  lastId : Nat := 0
  /-- CMD_STAT.LAST_STATUS (R170); reset 0 -/
  lastStatus : Nat := 0
  /-- target of the last command to complete COMPLETE, 0.25 mV (R227); reset none -/
  doneT : Option Nat := none
  /-- V_req in force, 0.25 mV (R153); reset 0 -/
  vreq : Nat := 0
  /-- V_req supplied by the latest beat (R15); reset 0 -/
  vreqNew : Nat := 0
  /-- latest clamped pre-position request, 0.25 mV (R150); reset 0 -/
  ppReq : Nat := 0
  /-- applied pre-position pp, 1/64 mV (R150); reset 0 -/
  pp : Int := 0
  /-- pp as latched at the last RAIL strobe, for the credit ramp allowance (R250); reset 0 -/
  ppLat : Int := 0
  /-- frequency-down request posted to the governor: T in 0.25 mV (R153); reset none -/
  fdown : Option Nat := none
  deriving DecidableEq, Repr, Inhabited

/-- The compensator, HOLD and the coefficient banks (R148, R149, R158 to R163). -/
structure RailLoop where
  /-- measured voltage v, 1/64 mV (R148); reset 0 -/
  v : Int := 0
  /-- latest converted VS sample, 1/64 mV (R138); reset 0 -/
  vLast : Int := 0
  /-- reference r, 1/64 mV (R149); reset 0 -/
  r : Int := 0
  /-- I_sum of the last RAIL tick, 1/16 A (R137); reset 0 -/
  isum : Int := 0
  /-- e1 of R158; reset 0 -/
  e1 : Int := 0
  /-- e2 of R158; reset 0 -/
  e2 : Int := 0
  /-- w1 of R158; reset 0 -/
  w1 : Int := 0
  /-- w2 of R158; reset 0 -/
  w2 : Int := 0
  /-- integrator acc of R158; reset 0 -/
  acc : Int := 0
  /-- u of R158; reset 0 -/
  u : Int := 0
  /-- y of R158; reset 0 -/
  y : Int := 0
  /-- sat_hi of the previous tick (R158); reset false -/
  satHi : Bool := false
  /-- sat_lo of the previous tick (R158); reset false -/
  satLo : Bool := false
  /-- I_cmd, 0.25 A (R158, R163); reset 0 -/
  icmd : Nat := 0
  /-- I_cmd as latched at the last RAIL strobe, for the forward frames (R74); reset 0 -/
  icmdLat : Nat := 0
  /-- consecutive ticks with I_cmd at ICMD_MAX (R158); reset 0 -/
  satRun : Nat := 0
  /-- RAIL_ICMD_SAT already raised in this BUDGET tick (R158); reset false -/
  satSent : Bool := false
  /-- the loop is open (R159); reset false (CTRL.LOOP resets to 1) -/
  opened : Bool := false
  /-- open request waiting for the next RAIL tick (R159); reset false -/
  openReq : Bool := false
  /-- close request waiting for the next RAIL tick (R160); reset false -/
  closeReq : Bool := false
  /-- OPEN_LIMIT has expired, acting at the next RAIL tick (R162); reset false -/
  openDue : Bool := false
  /-- edit bank written since the open (BANKSTAT.DIRTY, R160); reset false -/
  dirty : Bool := false
  /-- active bank, 0 or 1 (BANKSTAT.ACT_BANK); reset 0 -/
  actBank : Nat := 0
  /-- coefficient bank 0, eight words (R159, R171); reset KI 8, INT_LIM 0x03200000, others 0 -/
  bank0 : List Nat := [0, 0, 0, 0, 0, 8, 0, 0x03200000]
  /-- coefficient bank 1 (R159, R171); reset as bank 0 -/
  bank1 : List Nat := [0, 0, 0, 0, 0, 8, 0, 0x03200000]
  /-- HOLD centre c, 0.25 A (R163); reset 0 -/
  holdC : Nat := 0
  /-- HOLD side HI (R163); reset false -/
  side : Bool := false
  deriving DecidableEq, Repr, Inhabited

/-- A change of the active set waiting for its cycle boundary: the phase, add or remove, the REFCLK count of the
boundary from which it holds (R133), and whether it is the fall of N by a faulted phase, which braking does not suspend
(R141). -/
structure SetChg where
  ph : Nat
  add : Bool
  at_ : Nat
  fault : Bool := false
  deriving DecidableEq, Repr, Inhabited

/-- The switching side of a rail: active set, braking, bursts, add and shed (R131 to R141). -/
structure RailSw where
  /-- phases of the active set in force, ascending (R131); reset empty -/
  grid : List Nat := []
  /-- changes waiting for their cycle boundary (R133); reset empty -/
  chg : List SetChg := []
  /-- braking in progress (R138); reset false -/
  braking : Bool := false
  /-- RAIL ticks since braking started (R139); reset 0 -/
  brakeT : Nat := 0
  /-- RAIL ticks since the last braking ended, saturating at 4 (R138); reset 4 -/
  sinceBrake : Nat := 4
  /-- RAIL ticks since the last burst, saturating at 4 (R140); reset 4 -/
  sinceBurst : Nat := 4
  /-- consecutive ticks of the shed condition (R137); reset 0 -/
  shedCnt : Nat := 0
  /-- N changed since the last RAIL tick (R136, R180); reset false -/
  nChanged : Bool := false
  /-- N changed before the RAIL tick in progress: trims, open and sense checks pause in it (R136, R180); reset false -/
  nPause : Bool := false
  deriving DecidableEq, Repr, Inhabited

/-- Accumulated means of one beat for the plausibility check (R189). -/
structure BeatAcc where
  /-- RAIL ticks accumulated -/
  n : Nat := 0
  /-- sum of VMEAS, 0.25 mV -/
  sv : Nat := 0
  /-- sum of I_sum, 1/16 A (for a rail in AVS mode the reading of R165) -/
  si : Int := 0
  /-- the rail ran, out of STOPPED and RETENTION, in every tick (R189, R380) -/
  ran : Bool := true
  /-- the rail ran, or was in RETENTION, in some tick (R380) -/
  any : Bool := false
  /-- VS_LOST was set in some tick -/
  lost : Bool := false
  /-- a suspension of learning held at some tick, or at the strobe that started or ended the beat (R276) -/
  susp : Bool := false
  deriving DecidableEq, Repr, Inhabited

/-- The fault monitor's state of a rail (R176 to R190). -/
structure RailFlt where
  /-- counted RAIL ticks without a VS sample (R187, R188); reset 0 -/
  vsMiss : Nat := 0
  /-- FSTAT.VS_LOST (R187); reset false -/
  vsLost : Bool := false
  /-- FSTAT.SQUALL_REQ (R186); reset false -/
  sqReq : Bool := false
  /-- FSTAT.IMPLAUS (R189); reset false -/
  implaus : Bool := false
  /-- healthy count H (R181); reset 0 -/
  h : Nat := 0
  /-- H_start, none before the first RAIL_START_DONE since RUN = 1 (R181); reset none -/
  hStart : Option Nat := none
  /-- a RAIL_START_DONE occurred in the tick in progress (R181); reset false -/
  startTick : Bool := false
  /-- phases named by accepted FINJ writes, ascending, waiting for task 0x0D (R179); reset empty -/
  finj : List Nat := []
  /-- consecutive disagreeing beats (R189); reset 0 -/
  badRun : Nat := 0
  /-- consecutive agreeing beats (R189); reset 0 -/
  goodRun : Nat := 0
  /-- P_est of the last beat that task 0x07 has estimated, 1/16 W, none without one (R189); reset none -/
  pest : Option Nat := none
  /-- some lane of the rail's cores was late in that beat (R189); reset false -/
  pestLate : Bool := false
  /-- means of the beat in progress (R189); reset empty -/
  acc : BeatAcc := {}
  /-- means of the last completed beat; reset empty -/
  accB1 : BeatAcc := {}
  /-- means of the beat before it (R189); reset empty -/
  accB2 : BeatAcc := {}
  deriving DecidableEq, Repr, Inhabited

/-- An AVSBus transaction: command code, data, 1 for a write (R63). -/
structure AvsTx where
  code : Nat
  data : Nat
  wr : Bool
  deriving DecidableEq, Repr, Inhabited

/-- The AVSBus master of a rail (R63, R164, R165). -/
structure RailAvs where
  /-- transactions in order, the head in progress (R63); reset empty -/
  q : List AvsTx := []
  /-- failures of the head transaction so far (R165); reset 0 -/
  tries : Nat := 0
  /-- last slew written, 0.05 mV/us, none since reset (R164); reset none -/
  slewWr : Option Nat := none
  /-- last Voltage written in mV, none since reset or the last start (R164); reset none -/
  voltWr : Option Nat := none
  /-- version has been read since reset (R63); reset false -/
  verRead : Bool := false
  /-- last Voltage in mV whose write has succeeded, none since reset (R207); reset none -/
  voltAck : Option Nat := none
  /-- latest Current reading, 0.25 A (R165); reset 0 -/
  cur : Nat := 0
  /-- latest Temperature reading, as the bus gives it (R63); reset 0 -/
  temp : Nat := 0
  /-- latest Voltage read back, mV (R63); reset 0 -/
  volt : Nat := 0
  /-- RAIL ticks since the modelled ramp reached T with the pending command not complete, none while the AVS timer stands
  (R165); reset none -/
  timer : Option Nat := none
  deriving DecidableEq, Repr, Inhabited

/-- One rail. -/
structure Rail where
  /-- command state machine -/
  cmd : RailCmd := {}
  /-- compensator and HOLD -/
  loop : RailLoop := {}
  /-- switching -/
  sw : RailSw := {}
  /-- fault monitor -/
  flt : RailFlt := {}
  /-- AVSBus master -/
  avs : RailAvs := {}
  deriving DecidableEq, Repr, Inhabited

/-- States of a TUNE run (R173). -/
inductive TuneSt where
  | idle | settling | capturing | done | aborted
  deriving DecidableEq, Repr

/-- The TUNE run (R166 to R168). -/
structure Tune where
  /-- STATUS.STATE; reset IDLE -/
  st : TuneSt := .idle
  /-- rail of the run; reset 0 -/
  rail : Nat := 0
  /-- STATUS.REASON; reset 0 -/
  reason : Nat := 0
  /-- samples written (STATUS.COUNT); reset 0 -/
  count : Nat := 0
  /-- RAIL ticks since ARM; reset 0 -/
  ticks : Nat := 0
  /-- phase of the sine, 32 bits (R166); reset 0 -/
  phi : Nat := 0
  /-- frequency word of the chirp (R166); reset 0 -/
  ftwk : Nat := 0
  /-- PRBS-15 register (R166); reset 0x7FFF DESIGN CHOICE (seeded at ARM) -/
  lfsr : Nat := 0x7FFF
  /-- injection value d of the tick in progress (R166); reset 0 -/
  d : Int := 0
  /-- r of the ARM tick, 1/64 mV (R167); reset 0 -/
  rArm : Int := 0
  /-- the previous tick was outside ABORT.BAND (R168); reset false -/
  out1 : Bool := false
  deriving DecidableEq, Repr, Inhabited

end Sys2Proof.Machine
end

