-- ==== Sys2Proof/Machine/StTherm.lean ====
section
/-!
DEFINITION. Machine/StTherm.lean: the state of the thermal monitor and of the Squall sequencer (spec/13_thermal.md),
beyond what the register file holds.
-/
namespace Sys2Proof.Machine

/-- One thermal sensor: a thermal satellite or the core sensor CS (R307, R309, R313, R321). -/
structure Sens where
  /-- valid in the last pass (SENS_DATA.VALID, INVAL); reset false -/
  valid : Bool := false
  /-- own temperature, 1/64 degree (SENS_DATA.TEMP); reset 0 -/
  temp : Int := 0
  /-- excluded (R314); reset false -/
  excl : Bool := false
  /-- xcount (R313); reset 0 -/
  xcount : Nat := 0
  /-- consecutive results at or above HARD_TTRIP while the sensor names no zone, saturating at 3 (R321); reset 0 -/
  run : Nat := 0
  /-- the satellite's sensing site is powered (R308); reset false DESIGN CHOICE false -/
  powered : Bool := false
  /-- the satellite's site has powered up and its first frame since has not returned: PWR = 0 (R308); reset false DESIGN
  CHOICE false -/
  powerUp : Bool := false
  /-- the satellite's ring register: the 24-bit word it loaded at the last frame (R306); reset 0 DESIGN CHOICE 0 -/
  reg : Nat := 0
  /-- RAW of the satellite's word in the last ring sampling pass, none without a valid word (R306, R307, task 0x10); reset none -/
  raw : Option Nat := none
  /-- result of the conversion that the satellite started at the last frame, none when none has completed (R306, FRESH);
  reset none DESIGN CHOICE none -/
  conv : Option Nat := none
  deriving DecidableEq, Repr, Inhabited

/-- One ring segment (R307). -/
structure Seg where
  /-- consecutive failed passes, saturating at 8; reset 0 -/
  bad : Nat := 0
  /-- consecutive good passes, saturating at 8; reset 0 -/
  good : Nat := 0
  /-- STATUS.RING_FAIL; reset false -/
  fail : Bool := false
  deriving DecidableEq, Repr, Inhabited

/-- One zone (R315 to R321). -/
structure Zone where
  /-- at least one source names it (R315); reset false -/
  conf : Bool := false
  /-- maximum, 1/64 degree (ZSTAT.MAX); reset 0 -/
  max_ : Int := 0
  /-- ZSTAT.SRC; reset 0 -/
  src : Nat := 0
  /-- ZSTAT.LOST; reset false -/
  lost : Bool := false
  /-- ZSTAT.IDLE; reset false -/
  idle : Bool := false
  /-- ZSTAT.ALARM: the alarm condition of R319 holds, at or above T_ALARM or lost; reset false -/
  alarm : Bool := false
  /-- consecutive passes without a valid member while not idle (R315); reset 0 -/
  miss : Nat := 0
  /-- history values, newest first, at most 16 (R317); reset empty -/
  ring : List Int := []
  /-- rate of rise (ZROR); reset 0 -/
  ror : Int := 0
  /-- the rate of rise was at or above ROR_WARN at the last result (R316); reset false -/
  warn : Bool := false
  /-- THERM_ROR_WARN raised in this BUDGET tick (R316); reset false -/
  warnSent : Bool := false
  /-- consecutive results at or above T_TRIP, saturating at 3 (R321); reset 0 -/
  run : Nat := 0
  deriving DecidableEq, Repr, Inhabited

/-- One external temperature input (R66, R312). -/
structure Xt where
  /-- XT_x_VALID as the block last saw it; reset false -/
  pin : Bool := false
  /-- latest value, 1/64 degree; reset 0 -/
  temp : Int := 0
  /-- beat strobe count at the last toggle of XT_x_STB, none since reset; reset none -/
  at_ : Option Nat := none
  /-- the input was valid in the last pass (SENS_DATA.VALID); reset false -/
  ok : Bool := false
  /-- the input was valid when it was last looked at (R312); reset false -/
  live : Bool := false
  /-- THERM_XT_STALE raised in this BUDGET tick; reset false -/
  sent : Bool := false
  deriving DecidableEq, Repr, Inhabited

/-- What a pass of the thermal monitor reads, as latched at its strobe (R15, R86): set-points, XT and stage values, gates
and the target level; the model's own record of them. -/
structure ThermLatch where
  /-- the register file; reset empty, all set-points at their reset values -/
  regs : RegFile := []
  /-- external inputs: the value of each, none while it is not valid (R312); reset empty -/
  xt : List (Option Int) := []
  /-- stage temperatures by phase, none while not valid (R312); reset empty -/
  stage : List (Option Int) := []
  /-- gated domains (R315); reset empty -/
  gates : List Bool := []
  /-- the governor's target level (R319); reset 0 -/
  target : Nat := 0
  /-- this is the first THERM tick at or after a beat with b mod 64 = 8 (R317); reset false -/
  push : Bool := false
  deriving DecidableEq, Repr, Inhabited

/-- The thermal monitor (R305 to R321). -/
structure Therm where
  /-- thermal satellites in order -/
  ts : List Sens := []
  /-- the core sensor -/
  cs : Sens := {}
  /-- a pass has produced T_cs since reset (R309); reset false -/
  csRun : Bool := false
  /-- reference gain g (R309, REFCOMP.G); reset 65536 -/
  g : Int := 65536
  /-- ring segments -/
  segs : List Seg := []
  /-- the 32 zones -/
  zones : List Zone := []
  /-- external inputs -/
  xt : List Xt := []
  /-- calibration and adjacency window, bytes from TBL offset 0xA_C000 (R310); reset wiped -/
  cal : Mem := []
  /-- a beat with b mod 64 = 8 has passed and no THERM tick has started since (R317); reset false -/
  rorDue : Bool := false
  /-- consecutive results without a reason for fast sampling (R316); reset 0 -/
  quiet : Nat := 0
  /-- what the pass of the last strobe reads (R15) -/
  latch : ThermLatch := {}
  /-- thermal cap (STATUS.CAP, R319); reset 0x3F -/
  cap : Nat := 0x3F
  /-- beat strobe count at the last rate-of-rise step of the cap, none since reset (R319); reset none -/
  rorAt : Option Nat := none
  /-- BUDGET strobes since the first result of an unbroken series at which the release conditions held, none while they
  do not hold (R319); reset none -/
  relMs : Option Nat := none
  /-- MEMTHR_CAP (R320); reset 0xFF -/
  memCap : Nat := 0xFF
  /-- MEMCAP.SRC (R320); reset 0 -/
  memSrc : Nat := 0
  /-- THERM_MEMCAP raised in this BUDGET tick (R320); reset false -/
  memSent : Bool := false
  deriving DecidableEq, Repr, Inhabited

/-- Where the critical record stands on its way through the NV port (R52, R325). -/
inductive RecSt where
  | none | waiting | presented | accepted
  deriving DecidableEq, Repr, Inhabited

/-- The Squall latch and its record in PD_AON (R322 to R326): cleared by a COLD reset only. -/
structure Squall where
  /-- the latch, SQ_STAT.ACTIVE; COLD reset false -/
  active : Bool := false
  /-- SQ_STAT.CAUSE; COLD reset 0 -/
  cause : Nat := 0
  /-- SQ_STAT.TRIGMASK; COLD reset 0 -/
  trigs : Nat := 0
  /-- SQ_STAT.REC_DONE; COLD reset false -/
  recDone : Bool := false
  /-- SQ_STAT.NVFAIL; COLD reset false -/
  nvFail : Bool := false
  /-- the critical record (R324), 64 bytes once composed; COLD reset empty -/
  bytes : List Nat := []
  /-- NV record index of the record (R325); COLD reset 0 DESIGN CHOICE 0 -/
  idx : Nat := 0
  /-- its place on the NV port; COLD reset none -/
  st : RecSt := .none
  /-- responses other than OK so far (R325); COLD reset 0 -/
  fails : Nat := 0
  deriving DecidableEq, Repr, Inhabited

end Sys2Proof.Machine
end

