-- ==== Sys2Proof/Machine/StTick.lean ====
section
/-!
DEFINITION. Machine/StTick.lean: the state of the tick scheduler and the event record (spec/03_ticks.md, 04_registers.md).
-/
namespace Sys2Proof.Machine

/-- Alignment states of R77. -/
inductive Align where
  | free | aligning | aligned
  deriving DecidableEq, Repr, Inhabited

/-- The tick scheduler (R73 to R79). -/
structure Tick where
  /-- beat index b, 64 bits (R73); reset 0 (R78) -/
  b : Nat := 0
  /-- beat strobes since reset, never relabelled (R74, R79); reset 0 -/
  mono : Nat := 0
  /-- REFCLK count at the last beat strobe, from the edge that starts beat 0 (R74); reset 0 -/
  ref : Nat := 0
  /-- length in REFCLK cycles of the beat in progress (R77); reset 100 -/
  len : Nat := 100
  /-- a beat strobe has occurred since reset (R78); reset false -/
  started : Bool := false
  /-- RAIL ticks started since the beat strobe, 0 to 4 (R73); reset 0 -/
  railIdx : Nat := 0
  /-- GCLK cycle of the beat that the last command with a cycle of its own, or the last RAIL strobe, named; the model's own
  field, reset 0 -/
  cyc : Nat := 0
  /-- alignment state (R77); reset FREE (R78) -/
  align : Align := .free
  /-- synchronised GT_VALID (R43, R119); reset false -/
  gtValid : Bool := false
  /-- GT_VALID has been high since the previous beat strobe (R78); reset false -/
  gtWhole : Bool := false
  /-- GT_NS sampled at the last beat strobe (R77); reset 0 DESIGN CHOICE 0 -/
  gt : Nat := 0
  /-- signed e of R77 at the last strobe, zero while GT_VALID is low (R119); reset 0 -/
  err : Int := 0
  /-- fast THERM sampling in force (R75, R119); reset false -/
  thermFast : Bool := false
  /-- a THERM tick in progress whose task 0x11 has not run: 0 none, 1 in the beat of its strobe, 2 in the next beat, where
  the task runs (R73, R82); reset 0 -/
  thermDue : Nat := 0
  /-- an ISOBAR slot has started and has not run (R73); reset false -/
  isoDue : Bool := false
  /-- a BUDGET tick has started and has not run (R73); reset false -/
  budDue : Bool := false
  /-- task 0x09 of the beat has still to run, after every tick that started at the beat's strobe (R82); reset false -/
  timersDue : Bool := false
  /-- a BUDGET tick started at the beat's strobe (R82); reset false -/
  timersBud : Bool := false
  /-- task 0x31 owes the ageing steps of this many BUDGET ticks (R82, R84); reset 0 -/
  ageDue : Nat := 0
  /-- fixed tasks that will miss their window in the tick to come (R83); reset empty -/
  missed : List Nat := []
  /-- beats since reset at the last THERM tick, none before the first (R79); reset none -/
  lastTherm : Option Nat := none
  /-- beats since reset at the last ISOBAR slot (R79); reset none -/
  lastIso : Option Nat := none
  /-- beats since reset at the last BUDGET tick (R79); reset none -/
  lastBud : Option Nat := none
  deriving DecidableEq, Repr, Inhabited

/-- One event: page number, local code, severity, parameter, and the low word of the beat index at detection
(R109, R110, R114). -/
structure Event where
  page : Nat
  loc : Nat
  sev : Nat
  param : Nat
  beat : Nat
  deriving DecidableEq, Repr, Inhabited

end Sys2Proof.Machine
end

