-- ==== Sys2Proof/Machine/Device.lean ====
section
/-!
DEFINITION. Machine/Device.lean: the core-domain and satellite state of the block, as plain data.
-/
namespace Sys2Proof.Machine

/-- What the integrator fixes when the block is built (R113, R200, R305). -/
structure Build where
  cores : Nat := 256
  phases : Nat := 72
  rails : Nat := 8
  domains : Nat := 17
  creditCh : Nat := 16
  hintPorts : Nat := 16
  vsPresent : Nat := 0xFF
  /-- domain and rail of each droop satellite (R200) -/
  dsMap : List (Nat × Nat) := []
  /-- satellites on each of the four ring segments (R305) -/
  segs : List Nat := []
  /-- external temperature inputs (R113) -/
  xts : Nat := 16
  deriving DecidableEq, Repr, Inhabited

/-- What a command makes the block send at its ports. -/
inductive Out where
  /-- answer word on CC_n_RSP (R241): compute core, word -/
  | ccRsp (core : Nat) (word : Nat)
  /-- request on the MEM port (R47, R48): byte offset in the window, length in bytes, write data -/
  | memRead (off len : Nat)
  /-- see memRead -/
  | memWrite (off len data : Nat)
  /-- a transaction starts on AVS_n (R63): rail, the 32-bit frame -/
  | avs (n : Nat) (fr : Nat)
  /-- a transaction on the PMBus (R64, R65): the bytes the master sends, address bytes included, and how many it then reads,
  the PEC last -/
  | pmbus (bytes : List Nat) (read : Nat)
  /-- message on FAB_TX (R68, R336): 64 B as a number, destination, FAB_TX_REDUCE, FAB_TX_CLASS -/
  | fabTx (msg dest : Nat) (reduce : Bool) (cls : Nat)
  /-- a request is presented on the NV port (R52): write, CRIT, record index, data bytes -/
  | nvReq (write crit : Bool) (idx : Nat) (data : List Nat)
  /-- ordinary reads that the booting Warden presents on the NV port one after the other (R52, R457): first record, how many -/
  | nvReads (first n : Nat)
  /-- an item passes on the export stream port (R49): EX_KIND, EX_LAST, EX_DATA -/
  | exItem (kind : Nat) (last : Bool) (data : Nat)
  /-- TR_n_FRM is driven for one REFCLK cycle (R306): segment -/
  | trFrm (n : Nat)
  /-- response of the register port or TBL port (R44), or what a control core's access reads -/
  | rdata (v : Nat)
  deriving DecidableEq, Repr

/-- Core-domain state. -/
structure Dev where
  /-- what the integrator fixed when the block was built -/
  bld : Build := {}
  /-- the register file, sparse: a field not listed reads its reset value (R98); reset empty -/
  regs : RegFile := []
  /-- the tick scheduler -/
  tick : Tick := {}
  /-- the phase controllers, PH_00 on -/
  phases : List Phase := []
  /-- the rails, RAIL_0 on -/
  rails : List Rail := []
  /-- the TUNE run -/
  tune : Tune := {}
  /-- the droop satellites, DS_0 on -/
  sats : List Sat := []
  /-- droop calibration -/
  cal : Cal := {}
  /-- droop waveform capture -/
  wave : Wave := {}
  /-- the clock domains, CD_0 on -/
  doms : List Dom := []
  /-- the governor -/
  gov : Gov := {}
  /-- the credit scoreboard -/
  credit : Credit := {}
  /-- the claim arbiter -/
  claims : Claims := {}
  /-- hint intake and FIFO -/
  hint : Hint := {}
  /-- step position and step tables -/
  step : StepTab := {}
  /-- the Forecast engine -/
  fc : Fcast := {}
  /-- the thermal monitor -/
  therm : Therm := {}
  /-- the Isobar engine -/
  iso : Iso := {}
  /-- activity counts -/
  act : Act := {}
  /-- Drizzle -/
  dz : Drizzle := {}
  /-- grants, ask and PMBus polls -/
  bud : Budget := {}
  /-- the MEM port -/
  memPort : MemPort := {}
  /-- the energy ledger -/
  led : Ledger := {}
  /-- the export queue -/
  ex : Export := {}
  /-- the mailboxes -/
  mbox : Mbox := {}
  /-- the Steward -/
  stw : Steward := {}
  /-- the Warden -/
  wrd : Warden := {}
  /-- the NV port -/
  nv : NvPort := {}
  /-- the Barograph -/
  baro : Baro := {}
  /-- _LO snapshots by path (register port 0, TBL port 1, Steward 2, Warden 3): the upper half taken, by register (R103);
  reset empty -/
  snaps : List (Nat × Nat × Nat) := []
  /-- PAGE_STATUS.READY: pages whose memories are not wiped yet (R455); the Steward side of FW is listed as 0x104 -/
  wiping : List Nat := []
  /-- pages of `wiping` whose wipe has failed (R456); reset empty -/
  wipeBad : List Nat := []
  /-- SEC_GUARD_MISS raised in this BUDGET tick (R477); reset false -/
  missSent : Bool := false
  /-- the capture RAM (R168, R212, R481); reset empty, wiped to zeros -/
  capRam : Mem := []
  /-- bank 0 of the level table (R223); reset empty, wiped to zeros -/
  lvl0 : Mem := []
  /-- bank 1 of the level table (R223); reset empty, wiped to zeros -/
  lvl1 : Mem := []
  /-- the fitness curves (R224); reset empty, wiped to zeros -/
  fit : Mem := []
  /-- the fitness curves that FITCTL.HOLD keeps in use (R224); reset empty -/
  fitUse : Mem := []
  /-- a Squall is in force (R322); reset as the latch in PD_AON says (R32) -/
  sqActive : Bool := false
  /-- the Squall has gated the clocks (R323); reset as sqActive -/
  sqGated : Bool := false
  /-- events of the edge in progress; empty between commands; the model's own field, reset empty -/
  evq : List Event := []
  /-- events of the earlier edges of the command, in order; empty between commands; the model's own field, reset empty -/
  evd : List Event := []
  /-- Squall triggers of the command: cause and parameter (R322); empty between commands; the model's own field, reset empty -/
  sqReq : List (Nat × Nat) := []
  /-- Barograph samples taken by the command: statistic, instance, value (R431); empty between commands; the model's own field, reset empty -/
  smp : List (Nat × Nat × Int) := []
  /-- what the last command made the block send at its ports -/
  out : List Out := []
  deriving DecidableEq, Repr, Inhabited

end Sys2Proof.Machine
end

