-- ==== Sys2Proof/Machine/Regs.lean ====
section
/-!
DEFINITION. Machine/Regs.lean: the register map of the block, one `Fld` per field of the spec's register tables
(spec/04_registers.md R92 to R119 and the page table of each chapter), and for every page the list of its registers.
-/
namespace Sys2Proof.Machine

/-- Access codes of R98. `rs` is the shadow of an always-on register. -/
inductive Access where
  | rw | ro | w1c | wo | rs
  deriving DecidableEq, Repr

/-- Guard classes of R104, with the mailbox sides of R408/R429 and the two path-bound PRIV guards of R427. -/
inductive Guard where
  | open_ | priv | sec | send | recv | either | sendRead | privPort | privStw
  deriving DecidableEq, Repr

/-- One register field: first page, byte offset of instance 0, distance between instances, lowest bit, width,
access code, guard, reset value per instance (the last entry repeats) and the range a write must lie in (R108). -/
structure Fld where
  page : Nat
  off : Nat
  stride : Nat
  lo : Nat
  wid : Nat
  acc : Access
  grd : Guard
  rst : List Nat
  rmin : Nat
  rmax : Nat
  deriving DecidableEq, Repr

/-- One register of a page: its byte offset, how many instances it has, their distance, and its fields. -/
structure Reg where
  off : Nat
  cnt : Nat
  stride : Nat
  flds : List Fld
  deriving DecidableEq, Repr

namespace TOP
/-- R1, 00_scope.md. -/
def BLOCK_ID_FAMILY_TAG : Fld := ⟨0x00, 0x040, 0, 16, 16, .ro, .open_, [21337], 0, 65535⟩
/-- R1, 00_scope.md. -/
def BLOCK_ID_MAJOR : Fld := ⟨0x00, 0x040, 0, 8, 8, .ro, .open_, [4], 0, 255⟩
/-- R1, 00_scope.md. -/
def BLOCK_ID_MINOR : Fld := ⟨0x00, 0x040, 0, 0, 8, .ro, .open_, [1], 0, 255⟩
/-- R114, 04_registers.md. -/
def INST_CFG0_CORES : Fld := ⟨0x00, 0x044, 0, 16, 16, .ro, .open_, [0], 0, 65535⟩
/-- R114, 04_registers.md. -/
def INST_CFG0_PHASES : Fld := ⟨0x00, 0x044, 0, 8, 8, .ro, .open_, [0], 0, 255⟩
/-- R114, 04_registers.md. -/
def INST_CFG0_RAILS : Fld := ⟨0x00, 0x044, 0, 0, 4, .ro, .open_, [0], 0, 15⟩
/-- R114, 04_registers.md. -/
def INST_CFG1_TS : Fld := ⟨0x00, 0x048, 0, 16, 16, .ro, .open_, [0], 0, 65535⟩
/-- R114, 04_registers.md. -/
def INST_CFG1_DS : Fld := ⟨0x00, 0x048, 0, 8, 8, .ro, .open_, [0], 0, 255⟩
/-- R114, 04_registers.md. -/
def INST_CFG1_DOMAINS : Fld := ⟨0x00, 0x048, 0, 0, 8, .ro, .open_, [0], 0, 255⟩
/-- R114, 04_registers.md. -/
def INST_CFG2_VS_PRESENT : Fld := ⟨0x00, 0x04c, 0, 16, 8, .ro, .open_, [0], 0, 255⟩
/-- R114, 04_registers.md. -/
def INST_CFG2_CREDIT_CH : Fld := ⟨0x00, 0x04c, 0, 8, 8, .ro, .open_, [0], 0, 255⟩
/-- R114, 04_registers.md. -/
def INST_CFG2_HINT_PORTS : Fld := ⟨0x00, 0x04c, 0, 0, 8, .ro, .open_, [0], 0, 255⟩
/-- R114, 04_registers.md. -/
def RESET_CAUSE_COUNT : Fld := ⟨0x00, 0x050, 0, 16, 16, .rs, .open_, [0], 0, 65535⟩
/-- R114, 04_registers.md. -/
def RESET_CAUSE_LAST : Fld := ⟨0x00, 0x050, 0, 0, 4, .rs, .open_, [1], 0, 15⟩
/-- R114, 04_registers.md. -/
def BLOCK_RESET_KEY : Fld := ⟨0x00, 0x054, 0, 0, 32, .wo, .priv, [0], 0, 4294967295⟩
/-- R114, 04_registers.md. -/
def MEM_WIN_BASE_VALID : Fld := ⟨0x00, 0x060, 0, 31, 1, .rw, .priv, [0], 0, 1⟩
/-- R114, 04_registers.md. -/
def MEM_WIN_BASE_BUSY : Fld := ⟨0x00, 0x060, 0, 30, 1, .ro, .priv, [0], 0, 1⟩
/-- R114, 04_registers.md. -/
def MEM_WIN_BASE_BASE : Fld := ⟨0x00, 0x060, 0, 0, 22, .rw, .priv, [0], 0, 4194303⟩
/-- R114, 04_registers.md. -/
def EVT_CFG_CONSUMER : Fld := ⟨0x00, 0x070, 0, 0, 1, .rw, .priv, [0], 0, 1⟩
/-- R114, 04_registers.md. -/
def EVT_STATUS_LOST : Fld := ⟨0x00, 0x074, 0, 16, 16, .ro, .priv, [0], 0, 65535⟩
/-- R114, 04_registers.md. -/
def EVT_STATUS_COUNT : Fld := ⟨0x00, 0x074, 0, 0, 6, .ro, .priv, [0], 0, 63⟩
/-- R114, 04_registers.md. -/
def EVT_HEAD_PARAM : Fld := ⟨0x00, 0x078, 0, 24, 8, .ro, .priv, [0], 0, 255⟩
/-- R114, 04_registers.md. -/
def EVT_HEAD_VALID : Fld := ⟨0x00, 0x078, 0, 23, 1, .ro, .priv, [0], 0, 1⟩
/-- R114, 04_registers.md. -/
def EVT_HEAD_SEV : Fld := ⟨0x00, 0x078, 0, 16, 3, .ro, .priv, [0], 0, 7⟩
/-- R114, 04_registers.md. -/
def EVT_HEAD_CODE : Fld := ⟨0x00, 0x078, 0, 0, 16, .ro, .priv, [0], 0, 65535⟩
/-- R114, 04_registers.md. -/
def EVT_BEAT_BEAT : Fld := ⟨0x00, 0x07c, 0, 0, 32, .ro, .priv, [0], 0, 4294967295⟩
/-- R114, 04_registers.md. -/
def EVT_NEXT_POP : Fld := ⟨0x00, 0x080, 0, 0, 1, .wo, .priv, [0], 0, 1⟩
/-- The registers of page TOP. -/
def regs : List Reg := [
  ⟨0x040, 1, 0, [BLOCK_ID_FAMILY_TAG, BLOCK_ID_MAJOR, BLOCK_ID_MINOR]⟩,
  ⟨0x044, 1, 0, [INST_CFG0_CORES, INST_CFG0_PHASES, INST_CFG0_RAILS]⟩,
  ⟨0x048, 1, 0, [INST_CFG1_TS, INST_CFG1_DS, INST_CFG1_DOMAINS]⟩,
  ⟨0x04c, 1, 0, [INST_CFG2_VS_PRESENT, INST_CFG2_CREDIT_CH, INST_CFG2_HINT_PORTS]⟩,
  ⟨0x050, 1, 0, [RESET_CAUSE_COUNT, RESET_CAUSE_LAST]⟩,
  ⟨0x054, 1, 0, [BLOCK_RESET_KEY]⟩,
  ⟨0x060, 1, 0, [MEM_WIN_BASE_VALID, MEM_WIN_BASE_BUSY, MEM_WIN_BASE_BASE]⟩,
  ⟨0x070, 1, 0, [EVT_CFG_CONSUMER]⟩,
  ⟨0x074, 1, 0, [EVT_STATUS_LOST, EVT_STATUS_COUNT]⟩,
  ⟨0x078, 1, 0, [EVT_HEAD_PARAM, EVT_HEAD_VALID, EVT_HEAD_SEV, EVT_HEAD_CODE]⟩,
  ⟨0x07c, 1, 0, [EVT_BEAT_BEAT]⟩,
  ⟨0x080, 1, 0, [EVT_NEXT_POP]⟩]

end TOP

namespace TICK
/-- R119, 04_registers.md. -/
def STATE_THERM_FAST : Fld := ⟨0x01, 0x040, 0, 3, 1, .ro, .open_, [0], 0, 1⟩
/-- R119, 04_registers.md. -/
def STATE_GT_VALID : Fld := ⟨0x01, 0x040, 0, 2, 1, .ro, .open_, [0], 0, 1⟩
/-- R119, 04_registers.md. -/
def STATE_ALIGN : Fld := ⟨0x01, 0x040, 0, 0, 2, .ro, .open_, [0], 0, 3⟩
/-- R119, 04_registers.md. -/
def GT_ERR_ERR : Fld := ⟨0x01, 0x044, 0, 0, 16, .ro, .open_, [0], 0, 65535⟩
/-- R119, 04_registers.md. -/
def BEAT_LO_BEAT : Fld := ⟨0x01, 0x048, 0, 0, 32, .ro, .open_, [0], 0, 4294967295⟩
/-- R119, 04_registers.md. -/
def BEAT_HI_BEAT : Fld := ⟨0x01, 0x04c, 0, 0, 32, .ro, .open_, [0], 0, 4294967295⟩
/-- R119, 04_registers.md. -/
def OVR_FCAST_COUNT : Fld := ⟨0x01, 0x050, 0, 0, 32, .ro, .open_, [0], 0, 4294967295⟩
/-- R119, 04_registers.md. -/
def OVR_LEDGER_COUNT : Fld := ⟨0x01, 0x054, 0, 0, 32, .ro, .open_, [0], 0, 4294967295⟩
/-- R119, 04_registers.md. -/
def OVR_BARO_COUNT : Fld := ⟨0x01, 0x058, 0, 0, 32, .ro, .open_, [0], 0, 4294967295⟩
/-- R119, 04_registers.md. -/
def OVR_ISOBAR_COUNT : Fld := ⟨0x01, 0x05c, 0, 0, 32, .ro, .open_, [0], 0, 4294967295⟩
/-- R119, 04_registers.md. -/
def OVR_AGEING_COUNT : Fld := ⟨0x01, 0x060, 0, 0, 32, .ro, .open_, [0], 0, 4294967295⟩
/-- R119, 04_registers.md. -/
def FIXED_OVR_COUNT : Fld := ⟨0x01, 0x064, 0, 16, 16, .ro, .priv, [0], 0, 65535⟩
/-- R119, 04_registers.md. -/
def FIXED_OVR_LAST_TASK : Fld := ⟨0x01, 0x064, 0, 0, 8, .ro, .priv, [0], 0, 255⟩
/-- R119, 04_registers.md. -/
def SKIPS_COUNT : Fld := ⟨0x01, 0x068, 0, 0, 32, .ro, .open_, [0], 0, 4294967295⟩
/-- R119, 04_registers.md. -/
def GT_LOSSES_COUNT : Fld := ⟨0x01, 0x06c, 0, 0, 32, .ro, .open_, [0], 0, 4294967295⟩
/-- The registers of page TICK. -/
def regs : List Reg := [
  ⟨0x040, 1, 0, [STATE_THERM_FAST, STATE_GT_VALID, STATE_ALIGN]⟩,
  ⟨0x044, 1, 0, [GT_ERR_ERR]⟩,
  ⟨0x048, 1, 0, [BEAT_LO_BEAT]⟩,
  ⟨0x04c, 1, 0, [BEAT_HI_BEAT]⟩,
  ⟨0x050, 1, 0, [OVR_FCAST_COUNT]⟩,
  ⟨0x054, 1, 0, [OVR_LEDGER_COUNT]⟩,
  ⟨0x058, 1, 0, [OVR_BARO_COUNT]⟩,
  ⟨0x05c, 1, 0, [OVR_ISOBAR_COUNT]⟩,
  ⟨0x060, 1, 0, [OVR_AGEING_COUNT]⟩,
  ⟨0x064, 1, 0, [FIXED_OVR_COUNT, FIXED_OVR_LAST_TASK]⟩,
  ⟨0x068, 1, 0, [SKIPS_COUNT]⟩,
  ⟨0x06c, 1, 0, [GT_LOSSES_COUNT]⟩]

end TICK

namespace SEC
/-- R476, 19_bringup_security.md. -/
def LC_VALID : Fld := ⟨0x02, 0x040, 0, 31, 1, .ro, .open_, [0], 0, 1⟩
/-- R476, 19_bringup_security.md. -/
def LC_BROKEN : Fld := ⟨0x02, 0x040, 0, 30, 1, .ro, .open_, [0], 0, 1⟩
/-- R476, 19_bringup_security.md. -/
def LC_DEBUG_AUTH : Fld := ⟨0x02, 0x040, 0, 29, 1, .ro, .open_, [0], 0, 1⟩
/-- R476, 19_bringup_security.md. -/
def LC_STATE : Fld := ⟨0x02, 0x040, 0, 0, 3, .ro, .open_, [0], 0, 7⟩
/-- R476, 19_bringup_security.md. -/
def BOOT_DONE : Fld := ⟨0x02, 0x044, 0, 31, 1, .ro, .open_, [0], 0, 1⟩
/-- R476, 19_bringup_security.md. -/
def BOOT_PROFILE : Fld := ⟨0x02, 0x044, 0, 30, 1, .ro, .open_, [0], 0, 1⟩
/-- R476, 19_bringup_security.md. -/
def BOOT_PROV : Fld := ⟨0x02, 0x044, 0, 29, 1, .ro, .priv, [0], 0, 1⟩
/-- R476, 19_bringup_security.md. -/
def BOOT_WIPE_FAIL : Fld := ⟨0x02, 0x044, 0, 28, 1, .ro, .priv, [0], 0, 1⟩
/-- R476, 19_bringup_security.md. -/
def BOOT_STEP : Fld := ⟨0x02, 0x044, 0, 0, 4, .ro, .priv, [0], 0, 15⟩
/-- R476, 19_bringup_security.md. -/
def GUARD_MISS_COUNT : Fld := ⟨0x02, 0x048, 0, 0, 32, .ro, .priv, [0], 0, 4294967295⟩
/-- R476, 19_bringup_security.md. -/
def GUARD_LAST_PATH : Fld := ⟨0x02, 0x04c, 0, 30, 2, .ro, .priv, [0], 0, 3⟩
/-- R476, 19_bringup_security.md. -/
def GUARD_LAST_APERTURE : Fld := ⟨0x02, 0x04c, 0, 29, 1, .ro, .priv, [0], 0, 1⟩
/-- R476, 19_bringup_security.md. -/
def GUARD_LAST_MID : Fld := ⟨0x02, 0x04c, 0, 21, 8, .ro, .priv, [0], 0, 255⟩
/-- R476, 19_bringup_security.md. -/
def GUARD_LAST_ADDR : Fld := ⟨0x02, 0x04c, 0, 0, 17, .ro, .priv, [0], 0, 131071⟩
/-- R476, 19_bringup_security.md. -/
def OPSEC_LO_SECONDS : Fld := ⟨0x02, 0x050, 0, 0, 32, .rs, .open_, [0], 0, 4294967295⟩
/-- R476, 19_bringup_security.md. -/
def OPSEC_HI_LOADED : Fld := ⟨0x02, 0x054, 0, 31, 1, .rs, .open_, [0], 0, 1⟩
/-- R476, 19_bringup_security.md. -/
def OPSEC_HI_SECONDS : Fld := ⟨0x02, 0x054, 0, 0, 8, .rs, .open_, [0], 0, 255⟩
/-- R476, 19_bringup_security.md. -/
def PCC_COUNT : Fld := ⟨0x02, 0x058, 0, 0, 24, .rs, .open_, [0], 0, 16777215⟩
/-- R476, 19_bringup_security.md. -/
def LOAD_OPS_LO_SECONDS : Fld := ⟨0x02, 0x060, 0, 0, 32, .wo, .sec, [0], 0, 4294967295⟩
/-- R476, 19_bringup_security.md. -/
def LOAD_OPS_HI_SECONDS : Fld := ⟨0x02, 0x064, 0, 0, 8, .wo, .sec, [0], 0, 255⟩
/-- R476, 19_bringup_security.md. -/
def LOAD_PCC_GO : Fld := ⟨0x02, 0x068, 0, 31, 1, .wo, .sec, [0], 0, 1⟩
/-- R476, 19_bringup_security.md. -/
def LOAD_PCC_COUNT : Fld := ⟨0x02, 0x068, 0, 0, 24, .wo, .sec, [0], 0, 16777215⟩
/-- R476, 19_bringup_security.md. -/
def MIN_SVN_SVN : Fld := ⟨0x02, 0x070, 0, 0, 16, .ro, .priv, [0], 0, 65535⟩
/-- R476, 19_bringup_security.md. -/
def KEY_STAT_VALID : Fld := ⟨0x02, 0x074, 0, 31, 1, .ro, .open_, [0], 0, 1⟩
/-- R476, 19_bringup_security.md. -/
def KEY_STAT_CLASS : Fld := ⟨0x02, 0x074, 0, 0, 8, .ro, .open_, [0], 0, 255⟩
/-- R476, 19_bringup_security.md. -/
def KEY_ID_LO_KEY_ID : Fld := ⟨0x02, 0x078, 0, 0, 32, .ro, .open_, [0], 0, 4294967295⟩
/-- R476, 19_bringup_security.md. -/
def KEY_ID_HI_KEY_ID : Fld := ⟨0x02, 0x07c, 0, 0, 32, .ro, .open_, [0], 0, 4294967295⟩
/-- R476, 19_bringup_security.md. -/
def LIFE_SEQ_SEQ : Fld := ⟨0x02, 0x080, 0, 0, 32, .ro, .priv, [0], 0, 4294967295⟩
/-- R476, 19_bringup_security.md. -/
def LOCKALL_KEY : Fld := ⟨0x02, 0x084, 0, 0, 32, .wo, .sec, [0], 0, 4294967295⟩
/-- R476, 19_bringup_security.md. -/
def MEAS_SEL_BUSY : Fld := ⟨0x02, 0x088, 0, 31, 1, .ro, .priv, [0], 0, 1⟩
/-- R476, 19_bringup_security.md. -/
def MEAS_SEL_INDEX : Fld := ⟨0x02, 0x088, 0, 8, 4, .rw, .priv, [1], 1, 6⟩
/-- R476, 19_bringup_security.md. -/
def MEAS_SEL_WORD : Fld := ⟨0x02, 0x088, 0, 0, 4, .rw, .priv, [0], 0, 11⟩
/-- R476, 19_bringup_security.md. -/
def MEAS_DATA_WORD : Fld := ⟨0x02, 0x08c, 0, 0, 32, .ro, .priv, [0], 0, 4294967295⟩
/-- The registers of page SEC. -/
def regs : List Reg := [
  ⟨0x040, 1, 0, [LC_VALID, LC_BROKEN, LC_DEBUG_AUTH, LC_STATE]⟩,
  ⟨0x044, 1, 0, [BOOT_DONE, BOOT_PROFILE, BOOT_PROV, BOOT_WIPE_FAIL, BOOT_STEP]⟩,
  ⟨0x048, 1, 0, [GUARD_MISS_COUNT]⟩,
  ⟨0x04c, 1, 0, [GUARD_LAST_PATH, GUARD_LAST_APERTURE, GUARD_LAST_MID, GUARD_LAST_ADDR]⟩,
  ⟨0x050, 1, 0, [OPSEC_LO_SECONDS]⟩,
  ⟨0x054, 1, 0, [OPSEC_HI_LOADED, OPSEC_HI_SECONDS]⟩,
  ⟨0x058, 1, 0, [PCC_COUNT]⟩,
  ⟨0x060, 1, 0, [LOAD_OPS_LO_SECONDS]⟩,
  ⟨0x064, 1, 0, [LOAD_OPS_HI_SECONDS]⟩,
  ⟨0x068, 1, 0, [LOAD_PCC_GO, LOAD_PCC_COUNT]⟩,
  ⟨0x070, 1, 0, [MIN_SVN_SVN]⟩,
  ⟨0x074, 1, 0, [KEY_STAT_VALID, KEY_STAT_CLASS]⟩,
  ⟨0x078, 1, 0, [KEY_ID_LO_KEY_ID]⟩,
  ⟨0x07c, 1, 0, [KEY_ID_HI_KEY_ID]⟩,
  ⟨0x080, 1, 0, [LIFE_SEQ_SEQ]⟩,
  ⟨0x084, 1, 0, [LOCKALL_KEY]⟩,
  ⟨0x088, 1, 0, [MEAS_SEL_BUSY, MEAS_SEL_INDEX, MEAS_SEL_WORD]⟩,
  ⟨0x08c, 1, 0, [MEAS_DATA_WORD]⟩]

end SEC

namespace MBOX
/-- R429, 17_firmware.md. -/
def DATA_WORD : Fld := ⟨0x03, 0x100, 32, 0, 32, .rw, .sendRead, [0], 0, 4294967295⟩
/-- R429, 17_firmware.md. -/
def STAT_FULL : Fld := ⟨0x03, 0x104, 32, 31, 1, .ro, .either, [0], 0, 1⟩
/-- R429, 17_firmware.md. -/
def STAT_ABORTED : Fld := ⟨0x03, 0x104, 32, 30, 1, .ro, .either, [0], 0, 1⟩
/-- R429, 17_firmware.md. -/
def STAT_OVERRUNS : Fld := ⟨0x03, 0x104, 32, 0, 16, .ro, .either, [0], 0, 65535⟩
/-- R429, 17_firmware.md. -/
def RING_RING : Fld := ⟨0x03, 0x108, 32, 1, 29, .wo, .send, [0], 0, 536870911⟩
/-- R429, 17_firmware.md. -/
def DB_DB : Fld := ⟨0x03, 0x10c, 32, 0, 32, .w1c, .recv, [0], 0, 4294967295⟩
/-- R429, 17_firmware.md. -/
def DB_MASK_MASK : Fld := ⟨0x03, 0x110, 32, 0, 32, .rw, .recv, [4294967295], 0, 4294967295⟩
/-- R429, 17_firmware.md. -/
def CTRL_TAKE : Fld := ⟨0x03, 0x114, 32, 0, 1, .wo, .recv, [0], 0, 1⟩
/-- R429, 17_firmware.md. -/
def WAKE_WAKE : Fld := ⟨0x03, 0x118, 32, 0, 1, .rs, .recv, [0], 0, 1⟩
/-- The registers of page MBOX. -/
def regs : List Reg := [
  ⟨0x100, 6, 32, [DATA_WORD]⟩,
  ⟨0x104, 6, 32, [STAT_FULL, STAT_ABORTED, STAT_OVERRUNS]⟩,
  ⟨0x108, 6, 32, [RING_RING]⟩,
  ⟨0x10c, 6, 32, [DB_DB]⟩,
  ⟨0x110, 6, 32, [DB_MASK_MASK]⟩,
  ⟨0x114, 6, 32, [CTRL_TAKE]⟩,
  ⟨0x118, 6, 32, [WAKE_WAKE]⟩]

end MBOX

namespace FW
/-- R427, 17_firmware.md. -/
def STW_CTRL_HALT : Fld := ⟨0x04, 0x040, 0, 0, 32, .wo, .privPort, [0], 0, 4294967295⟩
/-- R427, 17_firmware.md. -/
def STW_STAT_STATE : Fld := ⟨0x04, 0x044, 0, 30, 2, .ro, .open_, [0], 0, 3⟩
/-- R427, 17_firmware.md. -/
def STW_STAT_BANK : Fld := ⟨0x04, 0x044, 0, 29, 1, .ro, .priv, [0], 0, 1⟩
/-- R427, 17_firmware.md. -/
def STW_STAT_SVN : Fld := ⟨0x04, 0x044, 0, 0, 16, .ro, .priv, [0], 0, 65535⟩
/-- R427, 17_firmware.md. -/
def STW_VERSION_VERSION : Fld := ⟨0x04, 0x048, 0, 0, 32, .ro, .priv, [0], 0, 4294967295⟩
/-- R427, 17_firmware.md. -/
def HEARTBEAT_BEAT : Fld := ⟨0x04, 0x04c, 0, 0, 32, .wo, .privStw, [0], 0, 4294967295⟩
/-- R427, 17_firmware.md. -/
def HB_STAT_COUNT : Fld := ⟨0x04, 0x050, 0, 16, 16, .ro, .priv, [0], 0, 65535⟩
/-- R427, 17_firmware.md. -/
def HB_STAT_MISS : Fld := ⟨0x04, 0x050, 0, 0, 2, .ro, .priv, [0], 0, 3⟩
/-- R427, 17_firmware.md. -/
def STW_LOAD_SHED : Fld := ⟨0x04, 0x054, 0, 8, 2, .ro, .priv, [0], 0, 3⟩
/-- R427, 17_firmware.md. -/
def STW_LOAD_LOAD : Fld := ⟨0x04, 0x054, 0, 0, 8, .ro, .priv, [0], 0, 255⟩
/-- R427, 17_firmware.md. -/
def SHED_L2 : Fld := ⟨0x04, 0x058, 0, 24, 8, .rw, .priv, [230], 0, 255⟩
/-- R427, 17_firmware.md. -/
def SHED_L1 : Fld := ⟨0x04, 0x058, 0, 16, 8, .rw, .priv, [192], 0, 255⟩
/-- R427, 17_firmware.md. -/
def SHED_HOLD : Fld := ⟨0x04, 0x058, 0, 8, 8, .rw, .priv, [10], 1, 255⟩
/-- R427, 17_firmware.md. -/
def SHED_RETRY : Fld := ⟨0x04, 0x058, 0, 0, 5, .rw, .priv, [9], 0, 31⟩
/-- R427, 17_firmware.md. -/
def SHED_T_TSLOW : Fld := ⟨0x04, 0x05c, 0, 0, 16, .rw, .priv, [1000], 1, 65535⟩
/-- R427, 17_firmware.md. -/
def SWAP_GRACE : Fld := ⟨0x04, 0x060, 0, 0, 8, .rw, .priv, [5], 1, 255⟩
/-- R427, 17_firmware.md. -/
def SWAP_STAT_BUSY : Fld := ⟨0x04, 0x064, 0, 31, 1, .ro, .priv, [0], 0, 1⟩
/-- R427, 17_firmware.md. -/
def SWAP_STAT_RESULT : Fld := ⟨0x04, 0x064, 0, 16, 4, .ro, .priv, [0], 0, 15⟩
/-- R427, 17_firmware.md. -/
def SWAP_STAT_SWAPS : Fld := ⟨0x04, 0x064, 0, 0, 16, .ro, .priv, [0], 0, 65535⟩
/-- R427, 17_firmware.md. -/
def WRD_CTRL_RESTART : Fld := ⟨0x04, 0x070, 0, 0, 32, .wo, .sec, [0], 0, 4294967295⟩
/-- R427, 17_firmware.md. -/
def WRD_STAT_STATE : Fld := ⟨0x04, 0x074, 0, 30, 2, .ro, .open_, [0], 0, 3⟩
/-- R427, 17_firmware.md. -/
def WRD_STAT_PATCH_OK : Fld := ⟨0x04, 0x074, 0, 29, 1, .ro, .priv, [0], 0, 1⟩
/-- R427, 17_firmware.md. -/
def WRD_STAT_RESTARTS : Fld := ⟨0x04, 0x074, 0, 0, 16, .ro, .priv, [0], 0, 65535⟩
/-- R427, 17_firmware.md. -/
def SEC_REFUSED_COUNT : Fld := ⟨0x04, 0x078, 0, 0, 32, .ro, .priv, [0], 0, 4294967295⟩
/-- The registers of page FW. -/
def regs : List Reg := [
  ⟨0x040, 1, 0, [STW_CTRL_HALT]⟩,
  ⟨0x044, 1, 0, [STW_STAT_STATE, STW_STAT_BANK, STW_STAT_SVN]⟩,
  ⟨0x048, 1, 0, [STW_VERSION_VERSION]⟩,
  ⟨0x04c, 1, 0, [HEARTBEAT_BEAT]⟩,
  ⟨0x050, 1, 0, [HB_STAT_COUNT, HB_STAT_MISS]⟩,
  ⟨0x054, 1, 0, [STW_LOAD_SHED, STW_LOAD_LOAD]⟩,
  ⟨0x058, 1, 0, [SHED_L2, SHED_L1, SHED_HOLD, SHED_RETRY]⟩,
  ⟨0x05c, 1, 0, [SHED_T_TSLOW]⟩,
  ⟨0x060, 1, 0, [SWAP_GRACE]⟩,
  ⟨0x064, 1, 0, [SWAP_STAT_BUSY, SWAP_STAT_RESULT, SWAP_STAT_SWAPS]⟩,
  ⟨0x070, 1, 0, [WRD_CTRL_RESTART]⟩,
  ⟨0x074, 1, 0, [WRD_STAT_STATE, WRD_STAT_PATCH_OK, WRD_STAT_RESTARTS]⟩,
  ⟨0x078, 1, 0, [SEC_REFUSED_COUNT]⟩]

end FW

namespace CLAIM
/-- R490, 20_shared_resources.md. -/
def REQ_OP : Fld := ⟨0x05, 0x040, 0, 30, 2, .wo, .priv, [0], 0, 3⟩
/-- R490, 20_shared_resources.md. -/
def REQ_FEATURE : Fld := ⟨0x05, 0x040, 0, 8, 4, .wo, .priv, [0], 0, 15⟩
/-- R490, 20_shared_resources.md. -/
def REQ_RES : Fld := ⟨0x05, 0x040, 0, 0, 5, .wo, .priv, [0], 0, 31⟩
/-- R490, 20_shared_resources.md. -/
def BREAK_GO : Fld := ⟨0x05, 0x044, 0, 31, 1, .wo, .sec, [0], 0, 1⟩
/-- R490, 20_shared_resources.md. -/
def BREAK_RES : Fld := ⟨0x05, 0x044, 0, 0, 5, .wo, .sec, [0], 0, 31⟩
/-- R490, 20_shared_resources.md. -/
def RESULT_CODE : Fld := ⟨0x05, 0x048, 4, 28, 4, .ro, .priv, [0], 0, 15⟩
/-- R490, 20_shared_resources.md. -/
def RESULT_RES : Fld := ⟨0x05, 0x048, 4, 0, 5, .ro, .priv, [0], 0, 31⟩
/-- R490, 20_shared_resources.md. -/
def ALERT_CFG_THR_MASK : Fld := ⟨0x05, 0x058, 0, 0, 4, .rw, .priv, [3], 0, 15⟩
/-- R490, 20_shared_resources.md. -/
def MEMW_LEDGER : Fld := ⟨0x05, 0x05c, 0, 8, 8, .ro, .open_, [3], 0, 255⟩
/-- R490, 20_shared_resources.md. -/
def MEMW_SPILL : Fld := ⟨0x05, 0x05c, 0, 0, 8, .ro, .open_, [1], 0, 255⟩
/-- R490, 20_shared_resources.md. -/
def BUSY_CNT_COUNT : Fld := ⟨0x05, 0x060, 0, 0, 32, .ro, .priv, [0], 0, 4294967295⟩
/-- R490, 20_shared_resources.md. -/
def PREEMPTS_COUNT : Fld := ⟨0x05, 0x064, 0, 0, 32, .ro, .priv, [0], 0, 4294967295⟩
/-- R490, 20_shared_resources.md. -/
def RES_KIND : Fld := ⟨0x05, 0x100, 4, 30, 2, .ro, .priv, [0], 0, 3⟩
/-- R490, 20_shared_resources.md. -/
def RES_PATH : Fld := ⟨0x05, 0x100, 4, 28, 2, .ro, .priv, [0], 0, 3⟩
/-- R490, 20_shared_resources.md. -/
def RES_MID : Fld := ⟨0x05, 0x100, 4, 20, 8, .ro, .priv, [0], 0, 255⟩
/-- R490, 20_shared_resources.md. -/
def RES_FEATURE : Fld := ⟨0x05, 0x100, 4, 16, 4, .ro, .priv, [0], 0, 15⟩
/-- R490, 20_shared_resources.md. -/
def RES_WIPING : Fld := ⟨0x05, 0x100, 4, 15, 1, .ro, .priv, [0], 0, 1⟩
/-- R490, 20_shared_resources.md. -/
def TMR_RUN : Fld := ⟨0x05, 0x200, 8, 31, 1, .rw, .priv, [0], 0, 1⟩
/-- R490, 20_shared_resources.md. -/
def TMR_PERIODIC : Fld := ⟨0x05, 0x200, 8, 30, 1, .rw, .priv, [0], 0, 1⟩
/-- R490, 20_shared_resources.md. -/
def TMR_EXPIRED : Fld := ⟨0x05, 0x200, 8, 29, 1, .w1c, .priv, [0], 0, 1⟩
/-- R490, 20_shared_resources.md. -/
def TMR_LOAD : Fld := ⟨0x05, 0x200, 8, 0, 24, .rw, .priv, [0], 1, 16777215⟩
/-- R490, 20_shared_resources.md. -/
def TMR_REM_REMAIN : Fld := ⟨0x05, 0x204, 8, 0, 24, .ro, .priv, [0], 0, 16777215⟩
/-- The registers of page CLAIM. -/
def regs : List Reg := [
  ⟨0x040, 1, 0, [REQ_OP, REQ_FEATURE, REQ_RES]⟩,
  ⟨0x044, 1, 0, [BREAK_GO, BREAK_RES]⟩,
  ⟨0x048, 3, 4, [RESULT_CODE, RESULT_RES]⟩,
  ⟨0x058, 1, 0, [ALERT_CFG_THR_MASK]⟩,
  ⟨0x05c, 1, 0, [MEMW_LEDGER, MEMW_SPILL]⟩,
  ⟨0x060, 1, 0, [BUSY_CNT_COUNT]⟩,
  ⟨0x064, 1, 0, [PREEMPTS_COUNT]⟩,
  ⟨0x100, 26, 4, [RES_KIND, RES_PATH, RES_MID, RES_FEATURE, RES_WIPING]⟩,
  ⟨0x200, 16, 8, [TMR_RUN, TMR_PERIODIC, TMR_EXPIRED, TMR_LOAD]⟩,
  ⟨0x204, 16, 8, [TMR_REM_REMAIN]⟩]

end CLAIM

namespace PHASE
/-- R146, 05_phase_control.md. -/
def CTRL_RAIL : Fld := ⟨0x06, 0x040, 32, 16, 3, .rw, .priv, [0], 0, 7⟩
/-- R146, 05_phase_control.md. -/
def CTRL_RETRAIN : Fld := ⟨0x06, 0x040, 32, 2, 1, .wo, .priv, [0], 0, 1⟩
/-- R146, 05_phase_control.md. -/
def CTRL_CLEAR : Fld := ⟨0x06, 0x040, 32, 1, 1, .wo, .priv, [0], 0, 1⟩
/-- R146, 05_phase_control.md. -/
def CTRL_EN : Fld := ⟨0x06, 0x040, 32, 0, 1, .rw, .priv, [0], 0, 1⟩
/-- R146, 05_phase_control.md. -/
def CFG_IPK_MAX : Fld := ⟨0x06, 0x044, 32, 16, 12, .rw, .priv, [1600], 0, 4095⟩
/-- R146, 05_phase_control.md. -/
def CFG_SLOPE : Fld := ⟨0x06, 0x044, 32, 0, 8, .rw, .priv, [16], 0, 255⟩
/-- R146, 05_phase_control.md. -/
def STATUS_FLAGS : Fld := ⟨0x06, 0x048, 32, 24, 8, .ro, .priv, [0], 0, 255⟩
/-- R146, 05_phase_control.md. -/
def STATUS_RATING : Fld := ⟨0x06, 0x048, 32, 16, 8, .ro, .priv, [0], 0, 255⟩
/-- R146, 05_phase_control.md. -/
def STATUS_FCAUSE : Fld := ⟨0x06, 0x048, 32, 8, 4, .ro, .priv, [0], 0, 15⟩
/-- R146, 05_phase_control.md. -/
def STATUS_LINK : Fld := ⟨0x06, 0x048, 32, 4, 2, .ro, .priv, [0], 0, 3⟩
/-- R146, 05_phase_control.md. -/
def STATUS_STATE : Fld := ⟨0x06, 0x048, 32, 0, 3, .ro, .priv, [0], 0, 7⟩
/-- R146, 05_phase_control.md. -/
def MEAS_TRIM : Fld := ⟨0x06, 0x04c, 32, 16, 16, .ro, .priv, [0], 0, 65535⟩
/-- R146, 05_phase_control.md. -/
def MEAS_IAVG : Fld := ⟨0x06, 0x04c, 32, 0, 12, .ro, .priv, [0], 0, 4095⟩
/-- R146, 05_phase_control.md. -/
def LASTCYC_IPK : Fld := ⟨0x06, 0x050, 32, 16, 12, .ro, .priv, [0], 0, 4095⟩
/-- R146, 05_phase_control.md. -/
def LASTCYC_MODE : Fld := ⟨0x06, 0x050, 32, 14, 2, .ro, .priv, [0], 0, 3⟩
/-- R146, 05_phase_control.md. -/
def LASTCYC_ONT : Fld := ⟨0x06, 0x050, 32, 0, 14, .ro, .priv, [0], 0, 16383⟩
/-- R146, 05_phase_control.md. -/
def TEMP_TEMP : Fld := ⟨0x06, 0x054, 32, 0, 16, .ro, .priv, [0], 0, 65535⟩
/-- R146, 05_phase_control.md. -/
def ERRCNT_RX_BAD : Fld := ⟨0x06, 0x058, 32, 16, 16, .ro, .priv, [0], 0, 65535⟩
/-- R146, 05_phase_control.md. -/
def ERRCNT_STAGE_CRC : Fld := ⟨0x06, 0x058, 32, 0, 16, .ro, .priv, [0], 0, 65535⟩
/-- The registers of page PHASE. -/
def regs : List Reg := [
  ⟨0x040, 40, 32, [CTRL_RAIL, CTRL_RETRAIN, CTRL_CLEAR, CTRL_EN]⟩,
  ⟨0x044, 40, 32, [CFG_IPK_MAX, CFG_SLOPE]⟩,
  ⟨0x048, 40, 32, [STATUS_FLAGS, STATUS_RATING, STATUS_FCAUSE, STATUS_LINK, STATUS_STATE]⟩,
  ⟨0x04c, 40, 32, [MEAS_TRIM, MEAS_IAVG]⟩,
  ⟨0x050, 40, 32, [LASTCYC_IPK, LASTCYC_MODE, LASTCYC_ONT]⟩,
  ⟨0x054, 40, 32, [TEMP_TEMP]⟩,
  ⟨0x058, 40, 32, [ERRCNT_RX_BAD, ERRCNT_STAGE_CRC]⟩]

end PHASE

namespace RAIL
/-- R145, 05_phase_control.md. -/
def PWM_TMAX : Fld := ⟨0x08, 0x200, 0, 16, 14, .rw, .priv, [400], 16, 16383⟩
/-- R145, 05_phase_control.md. -/
def PWM_PERIOD : Fld := ⟨0x08, 0x200, 0, 0, 8, .rw, .priv, [100], 50, 250⟩
/-- R145, 05_phase_control.md. -/
def BAL_EN : Fld := ⟨0x08, 0x204, 0, 8, 1, .rw, .priv, [1], 0, 1⟩
/-- R145, 05_phase_control.md. -/
def BAL_SHIFT : Fld := ⟨0x08, 0x204, 0, 0, 3, .rw, .priv, [3], 0, 7⟩
/-- R145, 05_phase_control.md. -/
def ADDSHED_ADD_I : Fld := ⟨0x08, 0x208, 0, 16, 12, .rw, .priv, [640], 0, 4095⟩
/-- R145, 05_phase_control.md. -/
def ADDSHED_SHED_I : Fld := ⟨0x08, 0x208, 0, 0, 12, .rw, .priv, [320], 0, 4095⟩
/-- R145, 05_phase_control.md. -/
def PHCOUNT_SHED_HOLD : Fld := ⟨0x08, 0x20c, 0, 16, 8, .rw, .priv, [64], 1, 255⟩
/-- R145, 05_phase_control.md. -/
def PHCOUNT_MIN_ACTIVE : Fld := ⟨0x08, 0x20c, 0, 0, 6, .rw, .priv, [1], 1, 32⟩
/-- R145, 05_phase_control.md. -/
def SOFTSTART_RATE : Fld := ⟨0x08, 0x210, 0, 0, 7, .rw, .priv, [10], 1, 100⟩
/-- R145, 05_phase_control.md. -/
def BRAKE_BRAKE_EN : Fld := ⟨0x08, 0x214, 0, 31, 1, .rw, .priv, [1], 0, 1⟩
/-- R145, 05_phase_control.md. -/
def BRAKE_BURST_EN : Fld := ⟨0x08, 0x214, 0, 30, 1, .rw, .priv, [1], 0, 1⟩
/-- R145, 05_phase_control.md. -/
def BRAKE_BRAKE_VH : Fld := ⟨0x08, 0x214, 0, 16, 8, .rw, .priv, [80], 0, 255⟩
/-- R145, 05_phase_control.md. -/
def BRAKE_BRAKE_VL : Fld := ⟨0x08, 0x214, 0, 8, 8, .rw, .priv, [16], 0, 255⟩
/-- R145, 05_phase_control.md. -/
def BRAKE_BURST_V : Fld := ⟨0x08, 0x214, 0, 0, 8, .rw, .priv, [80], 0, 255⟩
/-- R145, 05_phase_control.md. -/
def IBAND_IBAND : Fld := ⟨0x08, 0x218, 0, 0, 16, .rw, .priv, [40], 0, 65535⟩
/-- R145, 05_phase_control.md. -/
def PHSTAT_N_ACTIVE : Fld := ⟨0x08, 0x21c, 0, 24, 6, .ro, .priv, [0], 0, 63⟩
/-- R145, 05_phase_control.md. -/
def PHSTAT_N_UP : Fld := ⟨0x08, 0x21c, 0, 16, 6, .ro, .priv, [0], 0, 63⟩
/-- R145, 05_phase_control.md. -/
def PHSTAT_SOFTSTART : Fld := ⟨0x08, 0x21c, 0, 1, 1, .ro, .priv, [0], 0, 1⟩
/-- R145, 05_phase_control.md. -/
def PHSTAT_BRAKING : Fld := ⟨0x08, 0x21c, 0, 0, 1, .ro, .priv, [0], 0, 1⟩
/-- R145, 05_phase_control.md. -/
def BURSTS_COUNT : Fld := ⟨0x08, 0x220, 0, 0, 32, .ro, .priv, [0], 0, 4294967295⟩
/-- R145, 05_phase_control.md. -/
def BRAKES_COUNT : Fld := ⟨0x08, 0x224, 0, 0, 32, .ro, .priv, [0], 0, 4294967295⟩
/-- R170, 06_rail_loops.md. -/
def CTRL_SRC : Fld := ⟨0x08, 0x040, 0, 4, 1, .rw, .priv, [0], 0, 1⟩
/-- R170, 06_rail_loops.md. -/
def CTRL_LOOP : Fld := ⟨0x08, 0x040, 0, 2, 1, .rw, .priv, [1], 0, 1⟩
/-- R170, 06_rail_loops.md. -/
def CTRL_MODE : Fld := ⟨0x08, 0x040, 0, 1, 1, .rw, .priv, [0], 0, 1⟩
/-- R170, 06_rail_loops.md. -/
def CTRL_RUN : Fld := ⟨0x08, 0x040, 0, 0, 1, .rw, .priv, [0], 0, 1⟩
/-- R170, 06_rail_loops.md. -/
def STATUS_PP_ACTIVE : Fld := ⟨0x08, 0x044, 0, 3, 1, .ro, .priv, [0], 0, 1⟩
/-- R170, 06_rail_loops.md. -/
def STATUS_HOLD_ACTIVE : Fld := ⟨0x08, 0x044, 0, 2, 1, .ro, .priv, [0], 0, 1⟩
/-- R170, 06_rail_loops.md. -/
def STATUS_SIDE : Fld := ⟨0x08, 0x044, 0, 1, 1, .ro, .priv, [0], 0, 1⟩
/-- R170, 06_rail_loops.md. -/
def STATUS_AVS_BUSY : Fld := ⟨0x08, 0x044, 0, 0, 1, .ro, .priv, [0], 0, 1⟩
/-- R170, 06_rail_loops.md. -/
def VOLT_VREF : Fld := ⟨0x08, 0x048, 0, 16, 16, .ro, .priv, [0], 0, 65535⟩
/-- R170, 06_rail_loops.md. -/
def VOLT_VMEAS : Fld := ⟨0x08, 0x048, 0, 0, 16, .ro, .priv, [0], 0, 65535⟩
/-- R170, 06_rail_loops.md. -/
def CURR_ICMD : Fld := ⟨0x08, 0x04c, 0, 16, 16, .ro, .priv, [0], 0, 65535⟩
/-- R170, 06_rail_loops.md. -/
def CURR_ISUM : Fld := ⟨0x08, 0x04c, 0, 0, 16, .ro, .priv, [0], 0, 65535⟩
/-- R170, 06_rail_loops.md. -/
def VSTART_TARGET : Fld := ⟨0x08, 0x050, 0, 0, 16, .rw, .priv, [3000], 0, 65535⟩
/-- R170, 06_rail_loops.md. -/
def VLIM_VMAX : Fld := ⟨0x08, 0x054, 0, 16, 16, .rw, .priv, [3600], 0, 65535⟩
/-- R170, 06_rail_loops.md. -/
def VLIM_VMIN : Fld := ⟨0x08, 0x054, 0, 0, 16, .rw, .priv, [2400], 0, 65535⟩
/-- R170, 06_rail_loops.md. -/
def HARD_V_LOCK : Fld := ⟨0x08, 0x058, 0, 31, 1, .rw, .sec, [0], 0, 1⟩
/-- R170, 06_rail_loops.md. -/
def HARD_V_HARD_VMAX : Fld := ⟨0x08, 0x058, 0, 16, 13, .rw, .sec, [6400], 0, 8191⟩
/-- R170, 06_rail_loops.md. -/
def HARD_V_HARD_VMIN : Fld := ⟨0x08, 0x058, 0, 0, 13, .rw, .sec, [0], 0, 8191⟩
/-- R170, 06_rail_loops.md. -/
def LL_LL : Fld := ⟨0x08, 0x05c, 0, 0, 8, .rw, .priv, [0], 0, 128⟩
/-- R170, 06_rail_loops.md. -/
def PREPOS_PP_APPLIED : Fld := ⟨0x08, 0x060, 0, 16, 16, .ro, .priv, [0], 0, 65535⟩
/-- R170, 06_rail_loops.md. -/
def PREPOS_PP_REQ : Fld := ⟨0x08, 0x060, 0, 0, 16, .ro, .priv, [0], 0, 65535⟩
/-- R170, 06_rail_loops.md. -/
def VREQ_VREQ : Fld := ⟨0x08, 0x064, 0, 0, 16, .ro, .priv, [0], 0, 65535⟩
/-- R170, 06_rail_loops.md. -/
def CMD_SLEW : Fld := ⟨0x08, 0x070, 0, 24, 8, .rw, .priv, [8], 1, 200⟩
/-- R170, 06_rail_loops.md. -/
def CMD_TARGET : Fld := ⟨0x08, 0x070, 0, 0, 16, .rw, .priv, [3000], 0, 65535⟩
/-- R170, 06_rail_loops.md. -/
def CMD_STAT_CUR_ID : Fld := ⟨0x08, 0x074, 0, 24, 8, .ro, .priv, [0], 0, 255⟩
/-- R170, 06_rail_loops.md. -/
def CMD_STAT_LAST_ID : Fld := ⟨0x08, 0x074, 0, 16, 8, .ro, .priv, [0], 0, 255⟩
/-- R170, 06_rail_loops.md. -/
def CMD_STAT_LAST_STATUS : Fld := ⟨0x08, 0x074, 0, 12, 4, .ro, .priv, [0], 0, 15⟩
/-- R170, 06_rail_loops.md. -/
def CMD_STAT_CLAMPED : Fld := ⟨0x08, 0x074, 0, 3, 1, .ro, .priv, [0], 0, 1⟩
/-- R170, 06_rail_loops.md. -/
def CMD_STAT_STATE : Fld := ⟨0x08, 0x074, 0, 0, 3, .ro, .priv, [0], 0, 7⟩
/-- R170, 06_rail_loops.md. -/
def CMD_CFG_SETTLE_BAND : Fld := ⟨0x08, 0x078, 0, 0, 8, .rw, .priv, [32], 0, 255⟩
/-- R170, 06_rail_loops.md. -/
def ICMD_MAX_ICMD_MAX : Fld := ⟨0x08, 0x07c, 0, 0, 16, .rw, .priv, [12800], 0, 65535⟩
/-- R170, 06_rail_loops.md. -/
def SUPERSEDED_COUNT : Fld := ⟨0x08, 0x080, 0, 0, 32, .ro, .priv, [0], 0, 4294967295⟩
/-- R170, 06_rail_loops.md. -/
def WAITFREQ_COUNT : Fld := ⟨0x08, 0x084, 0, 0, 32, .ro, .priv, [0], 0, 4294967295⟩
/-- R170, 06_rail_loops.md. -/
def COEF_ACT_W : Fld := ⟨0x08, 0x100, 4, 0, 32, .ro, .priv, [0], 0, 4294967295⟩
/-- R170, 06_rail_loops.md. -/
def COEF_EDIT_W : Fld := ⟨0x08, 0x120, 4, 0, 32, .rw, .priv, [0], 0, 4294967295⟩
/-- R170, 06_rail_loops.md. -/
def EDIT_DIGEST_DIGEST : Fld := ⟨0x08, 0x140, 0, 0, 32, .rw, .priv, [0], 0, 4294967295⟩
/-- R170, 06_rail_loops.md. -/
def EDIT_CRC_CRC : Fld := ⟨0x08, 0x144, 0, 0, 32, .ro, .priv, [0], 0, 4294967295⟩
/-- R170, 06_rail_loops.md. -/
def BANKSTAT_DIRTY : Fld := ⟨0x08, 0x148, 0, 1, 1, .ro, .priv, [0], 0, 1⟩
/-- R170, 06_rail_loops.md. -/
def BANKSTAT_ACT_BANK : Fld := ⟨0x08, 0x148, 0, 0, 1, .ro, .priv, [0], 0, 1⟩
/-- R170, 06_rail_loops.md. -/
def HOLD_BAND : Fld := ⟨0x08, 0x160, 0, 16, 8, .rw, .priv, [48], 0, 255⟩
/-- R170, 06_rail_loops.md. -/
def HOLD_STEP : Fld := ⟨0x08, 0x160, 0, 0, 16, .rw, .priv, [80], 0, 65535⟩
/-- R170, 06_rail_loops.md. -/
def HOLD_LIMIT_OPEN_MS : Fld := ⟨0x08, 0x164, 0, 16, 10, .ro, .priv, [0], 0, 1023⟩
/-- R170, 06_rail_loops.md. -/
def HOLD_LIMIT_OPEN_LIMIT : Fld := ⟨0x08, 0x164, 0, 0, 10, .rw, .priv, [50], 1, 1000⟩
/-- R170, 06_rail_loops.md. -/
def COUNTS_IGNORED : Fld := ⟨0x08, 0x168, 0, 16, 16, .ro, .priv, [0], 0, 65535⟩
/-- R170, 06_rail_loops.md. -/
def COUNTS_TIMEOUTS : Fld := ⟨0x08, 0x168, 0, 0, 16, .ro, .priv, [0], 0, 65535⟩
/-- R170, 06_rail_loops.md. -/
def AVS_TIMEOUT : Fld := ⟨0x08, 0x180, 0, 16, 16, .rw, .priv, [100], 0, 65535⟩
/-- R170, 06_rail_loops.md. -/
def AVS_CLKDIV : Fld := ⟨0x08, 0x180, 0, 8, 1, .rw, .priv, [0], 0, 1⟩
/-- R170, 06_rail_loops.md. -/
def AVS_RAILSEL : Fld := ⟨0x08, 0x180, 0, 0, 4, .rw, .priv, [0], 0, 14⟩
/-- R170, 06_rail_loops.md. -/
def AVS_BAND_DONE_BAND : Fld := ⟨0x08, 0x184, 0, 0, 8, .rw, .priv, [16], 0, 255⟩
/-- R170, 06_rail_loops.md. -/
def AVS_STAT_ERRORS : Fld := ⟨0x08, 0x188, 0, 16, 16, .ro, .priv, [0], 0, 65535⟩
/-- R170, 06_rail_loops.md. -/
def AVS_STAT_VERSION : Fld := ⟨0x08, 0x188, 0, 8, 8, .ro, .priv, [0], 0, 255⟩
/-- R170, 06_rail_loops.md. -/
def AVS_STAT_STATUS : Fld := ⟨0x08, 0x188, 0, 0, 8, .ro, .priv, [0], 0, 255⟩
/-- R170, 06_rail_loops.md. -/
def VSCAL_GAIN_GAIN : Fld := ⟨0x08, 0x1a0, 0, 0, 32, .rw, .priv, [409600], 0, 4294967295⟩
/-- R170, 06_rail_loops.md. -/
def VSCAL_OFF_OFFSET : Fld := ⟨0x08, 0x1a4, 0, 0, 16, .rw, .priv, [0], 0, 65535⟩
/-- R170, 06_rail_loops.md. -/
def SQUALL_RET_OFF : Fld := ⟨0x08, 0x1c0, 0, 31, 1, .rw, .priv, [0], 0, 1⟩
/-- R170, 06_rail_loops.md. -/
def SQUALL_SLEW : Fld := ⟨0x08, 0x1c0, 0, 16, 8, .rw, .priv, [40], 1, 200⟩
/-- R170, 06_rail_loops.md. -/
def SQUALL_VRET : Fld := ⟨0x08, 0x1c0, 0, 0, 16, .rw, .priv, [2000], 0, 65535⟩
/-- R192, 07_rail_faults.md. -/
def OPENDET_OPEN_ONT : Fld := ⟨0x08, 0x300, 0, 16, 10, .rw, .priv, [32], 16, 1023⟩
/-- R192, 07_rail_faults.md. -/
def OPENDET_OPEN_I : Fld := ⟨0x08, 0x300, 0, 0, 12, .rw, .priv, [32], 16, 2047⟩
/-- R192, 07_rail_faults.md. -/
def SENSEDET_REL : Fld := ⟨0x08, 0x304, 0, 24, 8, .rw, .priv, [64], 0, 255⟩
/-- R192, 07_rail_faults.md. -/
def SENSEDET_ABS : Fld := ⟨0x08, 0x304, 0, 12, 12, .rw, .priv, [64], 0, 4095⟩
/-- R192, 07_rail_faults.md. -/
def SENSEDET_RIP_ABS : Fld := ⟨0x08, 0x304, 0, 0, 12, .rw, .priv, [16], 0, 4095⟩
/-- R192, 07_rail_faults.md. -/
def MODEL_RAMP_K : Fld := ⟨0x08, 0x308, 0, 0, 16, .rw, .priv, [4608], 1, 65535⟩
/-- R192, 07_rail_faults.md. -/
def DERATE_MIN_PHASES : Fld := ⟨0x08, 0x30c, 0, 8, 6, .rw, .priv, [1], 1, 32⟩
/-- R192, 07_rail_faults.md. -/
def DERATE_NOMINAL : Fld := ⟨0x08, 0x30c, 0, 0, 6, .rw, .priv, [0], 0, 32⟩
/-- R192, 07_rail_faults.md. -/
def HARD_FDET_LOCK : Fld := ⟨0x08, 0x310, 0, 31, 1, .rw, .sec, [0], 0, 1⟩
/-- R192, 07_rail_faults.md. -/
def HARD_FDET_HARD_MINPH : Fld := ⟨0x08, 0x310, 0, 24, 6, .rw, .sec, [1], 1, 32⟩
/-- R192, 07_rail_faults.md. -/
def HARD_FDET_HARD_SREL : Fld := ⟨0x08, 0x310, 0, 16, 8, .rw, .sec, [128], 0, 255⟩
/-- R192, 07_rail_faults.md. -/
def HARD_FDET_HARD_SABS : Fld := ⟨0x08, 0x310, 0, 0, 12, .rw, .sec, [256], 0, 4095⟩
/-- R192, 07_rail_faults.md. -/
def FSTAT_H : Fld := ⟨0x08, 0x314, 0, 24, 6, .ro, .priv, [0], 0, 63⟩
/-- R192, 07_rail_faults.md. -/
def FSTAT_H0 : Fld := ⟨0x08, 0x314, 0, 16, 6, .ro, .priv, [0], 0, 63⟩
/-- R192, 07_rail_faults.md. -/
def FSTAT_SQUALL_REQ : Fld := ⟨0x08, 0x314, 0, 3, 1, .ro, .priv, [0], 0, 1⟩
/-- R192, 07_rail_faults.md. -/
def FSTAT_IMPLAUS : Fld := ⟨0x08, 0x314, 0, 2, 1, .ro, .priv, [0], 0, 1⟩
/-- R192, 07_rail_faults.md. -/
def FSTAT_VS_LOST : Fld := ⟨0x08, 0x314, 0, 1, 1, .ro, .priv, [0], 0, 1⟩
/-- R192, 07_rail_faults.md. -/
def FSTAT_DERATED : Fld := ⟨0x08, 0x314, 0, 0, 1, .ro, .priv, [0], 0, 1⟩
/-- R192, 07_rail_faults.md. -/
def FLOG_LAST_PHASE : Fld := ⟨0x08, 0x318, 0, 16, 8, .ro, .priv, [0], 0, 255⟩
/-- R192, 07_rail_faults.md. -/
def FLOG_LAST_CAUSE : Fld := ⟨0x08, 0x318, 0, 8, 4, .ro, .priv, [0], 0, 15⟩
/-- R192, 07_rail_faults.md. -/
def FLOG_REMOVED : Fld := ⟨0x08, 0x318, 0, 0, 8, .ro, .priv, [0], 0, 255⟩
/-- R192, 07_rail_faults.md. -/
def FINJ_GO : Fld := ⟨0x08, 0x31c, 0, 31, 1, .wo, .priv, [0], 0, 1⟩
/-- R192, 07_rail_faults.md. -/
def FINJ_PHASE : Fld := ⟨0x08, 0x31c, 0, 0, 7, .wo, .priv, [0], 0, 127⟩
/-- R192, 07_rail_faults.md. -/
def PLAUS_CFG_EN : Fld := ⟨0x08, 0x320, 0, 31, 1, .rw, .priv, [0], 0, 1⟩
/-- R192, 07_rail_faults.md. -/
def PLAUS_CFG_BEATS : Fld := ⟨0x08, 0x320, 0, 16, 8, .rw, .priv, [64], 1, 255⟩
/-- R192, 07_rail_faults.md. -/
def PLAUS_CFG_REL : Fld := ⟨0x08, 0x320, 0, 8, 8, .rw, .priv, [64], 0, 255⟩
/-- R192, 07_rail_faults.md. -/
def PLAUS_ABS_ABS : Fld := ⟨0x08, 0x324, 0, 0, 16, .rw, .priv, [320], 0, 65535⟩
/-- R192, 07_rail_faults.md. -/
def PLAUS_STAT_IEST : Fld := ⟨0x08, 0x328, 0, 16, 16, .ro, .priv, [0], 0, 65535⟩
/-- R192, 07_rail_faults.md. -/
def PLAUS_STAT_IMEAS : Fld := ⟨0x08, 0x328, 0, 0, 16, .ro, .priv, [0], 0, 65535⟩
/-- R192, 07_rail_faults.md. -/
def FCOUNTS_VS_LOSSES : Fld := ⟨0x08, 0x32c, 0, 16, 16, .ro, .priv, [0], 0, 65535⟩
/-- R192, 07_rail_faults.md. -/
def FCOUNTS_IMPLAUS : Fld := ⟨0x08, 0x32c, 0, 0, 16, .ro, .priv, [0], 0, 65535⟩
/-- The registers of page RAIL. -/
def regs : List Reg := [
  ⟨0x200, 1, 0, [PWM_TMAX, PWM_PERIOD]⟩,
  ⟨0x204, 1, 0, [BAL_EN, BAL_SHIFT]⟩,
  ⟨0x208, 1, 0, [ADDSHED_ADD_I, ADDSHED_SHED_I]⟩,
  ⟨0x20c, 1, 0, [PHCOUNT_SHED_HOLD, PHCOUNT_MIN_ACTIVE]⟩,
  ⟨0x210, 1, 0, [SOFTSTART_RATE]⟩,
  ⟨0x214, 1, 0, [BRAKE_BRAKE_EN, BRAKE_BURST_EN, BRAKE_BRAKE_VH, BRAKE_BRAKE_VL, BRAKE_BURST_V]⟩,
  ⟨0x218, 1, 0, [IBAND_IBAND]⟩,
  ⟨0x21c, 1, 0, [PHSTAT_N_ACTIVE, PHSTAT_N_UP, PHSTAT_SOFTSTART, PHSTAT_BRAKING]⟩,
  ⟨0x220, 1, 0, [BURSTS_COUNT]⟩,
  ⟨0x224, 1, 0, [BRAKES_COUNT]⟩,
  ⟨0x040, 1, 0, [CTRL_SRC, CTRL_LOOP, CTRL_MODE, CTRL_RUN]⟩,
  ⟨0x044, 1, 0, [STATUS_PP_ACTIVE, STATUS_HOLD_ACTIVE, STATUS_SIDE, STATUS_AVS_BUSY]⟩,
  ⟨0x048, 1, 0, [VOLT_VREF, VOLT_VMEAS]⟩,
  ⟨0x04c, 1, 0, [CURR_ICMD, CURR_ISUM]⟩,
  ⟨0x050, 1, 0, [VSTART_TARGET]⟩,
  ⟨0x054, 1, 0, [VLIM_VMAX, VLIM_VMIN]⟩,
  ⟨0x058, 1, 0, [HARD_V_LOCK, HARD_V_HARD_VMAX, HARD_V_HARD_VMIN]⟩,
  ⟨0x05c, 1, 0, [LL_LL]⟩,
  ⟨0x060, 1, 0, [PREPOS_PP_APPLIED, PREPOS_PP_REQ]⟩,
  ⟨0x064, 1, 0, [VREQ_VREQ]⟩,
  ⟨0x070, 1, 0, [CMD_SLEW, CMD_TARGET]⟩,
  ⟨0x074, 1, 0, [CMD_STAT_CUR_ID, CMD_STAT_LAST_ID, CMD_STAT_LAST_STATUS, CMD_STAT_CLAMPED, CMD_STAT_STATE]⟩,
  ⟨0x078, 1, 0, [CMD_CFG_SETTLE_BAND]⟩,
  ⟨0x07c, 1, 0, [ICMD_MAX_ICMD_MAX]⟩,
  ⟨0x080, 1, 0, [SUPERSEDED_COUNT]⟩,
  ⟨0x084, 1, 0, [WAITFREQ_COUNT]⟩,
  ⟨0x100, 8, 4, [COEF_ACT_W]⟩,
  ⟨0x120, 8, 4, [COEF_EDIT_W]⟩,
  ⟨0x140, 1, 0, [EDIT_DIGEST_DIGEST]⟩,
  ⟨0x144, 1, 0, [EDIT_CRC_CRC]⟩,
  ⟨0x148, 1, 0, [BANKSTAT_DIRTY, BANKSTAT_ACT_BANK]⟩,
  ⟨0x160, 1, 0, [HOLD_BAND, HOLD_STEP]⟩,
  ⟨0x164, 1, 0, [HOLD_LIMIT_OPEN_MS, HOLD_LIMIT_OPEN_LIMIT]⟩,
  ⟨0x168, 1, 0, [COUNTS_IGNORED, COUNTS_TIMEOUTS]⟩,
  ⟨0x180, 1, 0, [AVS_TIMEOUT, AVS_CLKDIV, AVS_RAILSEL]⟩,
  ⟨0x184, 1, 0, [AVS_BAND_DONE_BAND]⟩,
  ⟨0x188, 1, 0, [AVS_STAT_ERRORS, AVS_STAT_VERSION, AVS_STAT_STATUS]⟩,
  ⟨0x1a0, 1, 0, [VSCAL_GAIN_GAIN]⟩,
  ⟨0x1a4, 1, 0, [VSCAL_OFF_OFFSET]⟩,
  ⟨0x1c0, 1, 0, [SQUALL_RET_OFF, SQUALL_SLEW, SQUALL_VRET]⟩,
  ⟨0x300, 1, 0, [OPENDET_OPEN_ONT, OPENDET_OPEN_I]⟩,
  ⟨0x304, 1, 0, [SENSEDET_REL, SENSEDET_ABS, SENSEDET_RIP_ABS]⟩,
  ⟨0x308, 1, 0, [ MODEL_RAMP_K]⟩,
  ⟨0x30c, 1, 0, [DERATE_MIN_PHASES, DERATE_NOMINAL]⟩,
  ⟨0x310, 1, 0, [HARD_FDET_LOCK, HARD_FDET_HARD_MINPH, HARD_FDET_HARD_SREL, HARD_FDET_HARD_SABS]⟩,
  ⟨0x314, 1, 0, [FSTAT_H, FSTAT_H0, FSTAT_SQUALL_REQ, FSTAT_IMPLAUS, FSTAT_VS_LOST, FSTAT_DERATED]⟩,
  ⟨0x318, 1, 0, [FLOG_LAST_PHASE, FLOG_LAST_CAUSE, FLOG_REMOVED]⟩,
  ⟨0x31c, 1, 0, [FINJ_GO, FINJ_PHASE]⟩,
  ⟨0x320, 1, 0, [PLAUS_CFG_EN, PLAUS_CFG_BEATS, PLAUS_CFG_REL]⟩,
  ⟨0x324, 1, 0, [PLAUS_ABS_ABS]⟩,
  ⟨0x328, 1, 0, [PLAUS_STAT_IEST, PLAUS_STAT_IMEAS]⟩,
  ⟨0x32c, 1, 0, [FCOUNTS_VS_LOSSES, FCOUNTS_IMPLAUS]⟩]

end RAIL

namespace DROOP
/-- R213, 08_droop.md. -/
def GBUB_GBUB3 : Fld := ⟨0x10, 0x040, 0, 18, 9, .rw, .priv, [128], 0, 256⟩
/-- R213, 08_droop.md. -/
def GBUB_GBUB2 : Fld := ⟨0x10, 0x040, 0, 9, 9, .rw, .priv, [64], 0, 511⟩
/-- R213, 08_droop.md. -/
def GBUB_GBUB1 : Fld := ⟨0x10, 0x040, 0, 0, 9, .rw, .priv, [32], 0, 511⟩
/-- R213, 08_droop.md. -/
def STUCK_LIMIT : Fld := ⟨0x10, 0x044, 0, 0, 16, .rw, .priv, [1000], 1, 65535⟩
/-- R213, 08_droop.md. -/
def STATUS_GUST_LEVEL : Fld := ⟨0x10, 0x048, 0, 0, 2, .ro, .priv, [2], 0, 3⟩
/-- R213, 08_droop.md. -/
def CAL_CFG_EN : Fld := ⟨0x10, 0x050, 0, 31, 1, .rw, .priv, [1], 0, 1⟩
/-- R213, 08_droop.md. -/
def CAL_CFG_PERIOD : Fld := ⟨0x10, 0x050, 0, 16, 8, .rw, .priv, [10], 1, 255⟩
/-- R213, 08_droop.md. -/
def CAL_CFG_PULSE : Fld := ⟨0x10, 0x050, 0, 8, 8, .rw, .priv, [20], 4, 255⟩
/-- R213, 08_droop.md. -/
def CAL_CFG_GAP : Fld := ⟨0x10, 0x050, 0, 0, 8, .rw, .priv, [20], 4, 255⟩
/-- R213, 08_droop.md. -/
def CAL_STEP_MAX : Fld := ⟨0x10, 0x054, 0, 16, 8, .rw, .priv, [160], 0, 255⟩
/-- R213, 08_droop.md. -/
def CAL_STEP_STEP : Fld := ⟨0x10, 0x054, 0, 8, 8, .rw, .priv, [8], 1, 255⟩
/-- R213, 08_droop.md. -/
def CAL_STEP_START : Fld := ⟨0x10, 0x054, 0, 0, 8, .rw, .priv, [16], 1, 255⟩
/-- R213, 08_droop.md. -/
def CAL_QUIET_BEATS : Fld := ⟨0x10, 0x058, 0, 16, 8, .rw, .priv, [32], 1, 255⟩
/-- R213, 08_droop.md. -/
def CAL_QUIET_QUIET_I : Fld := ⟨0x10, 0x058, 0, 0, 16, .rw, .priv, [40], 0, 65535⟩
/-- R213, 08_droop.md. -/
def CAL_CTRL_GO : Fld := ⟨0x10, 0x05c, 0, 31, 1, .wo, .priv, [0], 0, 1⟩
/-- R213, 08_droop.md. -/
def CAL_CTRL_RAIL : Fld := ⟨0x10, 0x05c, 0, 0, 3, .wo, .priv, [0], 0, 7⟩
/-- R213, 08_droop.md. -/
def CAL_STAT_DELTA : Fld := ⟨0x10, 0x060, 0, 16, 8, .ro, .priv, [0], 0, 255⟩
/-- R213, 08_droop.md. -/
def CAL_STAT_FORCED : Fld := ⟨0x10, 0x060, 0, 11, 1, .ro, .priv, [0], 0, 1⟩
/-- R213, 08_droop.md. -/
def CAL_STAT_RAIL : Fld := ⟨0x10, 0x060, 0, 8, 3, .ro, .priv, [0], 0, 7⟩
/-- R213, 08_droop.md. -/
def CAL_STAT_STATE : Fld := ⟨0x10, 0x060, 0, 0, 2, .ro, .priv, [0], 0, 3⟩
/-- R213, 08_droop.md. -/
def CAL_COUNT_DONE : Fld := ⟨0x10, 0x064, 0, 16, 16, .ro, .priv, [0], 0, 65535⟩
/-- R213, 08_droop.md. -/
def CAL_COUNT_ABORTS : Fld := ⟨0x10, 0x064, 0, 8, 8, .ro, .priv, [0], 0, 255⟩
/-- R213, 08_droop.md. -/
def CAL_COUNT_BUSY_SKIPS : Fld := ⟨0x10, 0x064, 0, 0, 8, .ro, .priv, [0], 0, 255⟩
/-- R213, 08_droop.md. -/
def HARD_CAL_LOCK : Fld := ⟨0x10, 0x068, 0, 31, 1, .rw, .sec, [0], 0, 1⟩
/-- R213, 08_droop.md. -/
def HARD_CAL_HARD_CALMAX : Fld := ⟨0x10, 0x068, 0, 0, 8, .rw, .sec, [64], 0, 255⟩
/-- R213, 08_droop.md. -/
def WAVE_CFG_ARM : Fld := ⟨0x10, 0x070, 0, 31, 1, .wo, .priv, [0], 0, 1⟩
/-- R213, 08_droop.md. -/
def WAVE_CFG_STOP : Fld := ⟨0x10, 0x070, 0, 30, 1, .wo, .priv, [0], 0, 1⟩
/-- R213, 08_droop.md. -/
def WAVE_CFG_RAIL : Fld := ⟨0x10, 0x070, 0, 16, 3, .rw, .priv, [0], 0, 7⟩
/-- R213, 08_droop.md. -/
def WAVE_CFG_PRE : Fld := ⟨0x10, 0x070, 0, 0, 16, .rw, .priv, [16384], 0, 65535⟩
/-- R213, 08_droop.md. -/
def WAVE_STAT_STATE : Fld := ⟨0x10, 0x074, 0, 30, 2, .ro, .priv, [0], 0, 3⟩
/-- R213, 08_droop.md. -/
def WAVE_STAT_TRIG_DS : Fld := ⟨0x10, 0x074, 0, 24, 6, .ro, .priv, [0], 0, 63⟩
/-- R213, 08_droop.md. -/
def WAVE_STAT_START : Fld := ⟨0x10, 0x074, 0, 0, 16, .ro, .priv, [0], 0, 65535⟩
/-- R213, 08_droop.md. -/
def DSTAT_GUSTS : Fld := ⟨0x10, 0x100, 8, 16, 16, .ro, .priv, [0], 0, 65535⟩
/-- R213, 08_droop.md. -/
def DSTAT_WAIT : Fld := ⟨0x10, 0x100, 8, 3, 1, .ro, .priv, [0], 0, 1⟩
/-- R213, 08_droop.md. -/
def DSTAT_DEFER : Fld := ⟨0x10, 0x100, 8, 2, 1, .ro, .priv, [0], 0, 1⟩
/-- R213, 08_droop.md. -/
def DSTAT_LONG : Fld := ⟨0x10, 0x100, 8, 1, 1, .ro, .priv, [0], 0, 1⟩
/-- R213, 08_droop.md. -/
def DSTAT_GUST : Fld := ⟨0x10, 0x100, 8, 0, 1, .ro, .priv, [0], 0, 1⟩
/-- R213, 08_droop.md. -/
def DCNT_DEFERS : Fld := ⟨0x10, 0x104, 8, 16, 16, .ro, .priv, [0], 0, 65535⟩
/-- R213, 08_droop.md. -/
def DCNT_CANCELS : Fld := ⟨0x10, 0x104, 8, 8, 8, .ro, .priv, [0], 0, 255⟩
/-- R213, 08_droop.md. -/
def DCNT_FORCED : Fld := ⟨0x10, 0x104, 8, 0, 8, .ro, .priv, [0], 0, 255⟩
/-- R213, 08_droop.md. -/
def MAP_USE : Fld := ⟨0x10, 0x200, 16, 31, 1, .rw, .priv, [1], 0, 1⟩
/-- R213, 08_droop.md. -/
def MAP_RAIL : Fld := ⟨0x10, 0x200, 16, 8, 3, .ro, .priv, [0], 0, 7⟩
/-- R213, 08_droop.md. -/
def MAP_DOMAIN : Fld := ⟨0x10, 0x200, 16, 0, 5, .ro, .priv, [0], 0, 31⟩
/-- R213, 08_droop.md. -/
def STAT_STUCK : Fld := ⟨0x10, 0x204, 16, 7, 1, .ro, .priv, [0], 0, 1⟩
/-- R213, 08_droop.md. -/
def STAT_SUSPECT : Fld := ⟨0x10, 0x204, 16, 6, 1, .ro, .priv, [0], 0, 1⟩
/-- R213, 08_droop.md. -/
def STAT_LEVEL : Fld := ⟨0x10, 0x204, 16, 2, 2, .ro, .priv, [0], 0, 3⟩
/-- R213, 08_droop.md. -/
def STAT_PERSIST : Fld := ⟨0x10, 0x204, 16, 1, 1, .ro, .priv, [0], 0, 1⟩
/-- R213, 08_droop.md. -/
def STAT_SERVO_LIM : Fld := ⟨0x10, 0x204, 16, 0, 1, .ro, .priv, [0], 0, 1⟩
/-- R213, 08_droop.md. -/
def CAL_VALID : Fld := ⟨0x10, 0x208, 16, 31, 1, .ro, .priv, [0], 0, 1⟩
/-- R213, 08_droop.md. -/
def CAL_X3 : Fld := ⟨0x10, 0x208, 16, 16, 8, .ro, .priv, [255], 0, 255⟩
/-- R213, 08_droop.md. -/
def CAL_X2 : Fld := ⟨0x10, 0x208, 16, 8, 8, .ro, .priv, [255], 0, 255⟩
/-- R213, 08_droop.md. -/
def CAL_X1 : Fld := ⟨0x10, 0x208, 16, 0, 8, .ro, .priv, [255], 0, 255⟩
/-- R213, 08_droop.md. -/
def COUNT_GUSTS : Fld := ⟨0x10, 0x20c, 16, 16, 16, .ro, .priv, [0], 0, 65535⟩
/-- R213, 08_droop.md. -/
def COUNT_PERSISTS : Fld := ⟨0x10, 0x20c, 16, 0, 16, .ro, .priv, [0], 0, 65535⟩
/-- The registers of page DROOP. -/
def regs : List Reg := [
  ⟨0x040, 1, 0, [GBUB_GBUB3, GBUB_GBUB2, GBUB_GBUB1]⟩,
  ⟨0x044, 1, 0, [STUCK_LIMIT]⟩,
  ⟨0x048, 1, 0, [STATUS_GUST_LEVEL]⟩,
  ⟨0x050, 1, 0, [CAL_CFG_EN, CAL_CFG_PERIOD, CAL_CFG_PULSE, CAL_CFG_GAP]⟩,
  ⟨0x054, 1, 0, [CAL_STEP_MAX, CAL_STEP_STEP, CAL_STEP_START]⟩,
  ⟨0x058, 1, 0, [CAL_QUIET_BEATS, CAL_QUIET_QUIET_I]⟩,
  ⟨0x05c, 1, 0, [CAL_CTRL_GO, CAL_CTRL_RAIL]⟩,
  ⟨0x060, 1, 0, [CAL_STAT_DELTA, CAL_STAT_FORCED, CAL_STAT_RAIL, CAL_STAT_STATE]⟩,
  ⟨0x064, 1, 0, [CAL_COUNT_DONE, CAL_COUNT_ABORTS, CAL_COUNT_BUSY_SKIPS]⟩,
  ⟨0x068, 1, 0, [HARD_CAL_LOCK, HARD_CAL_HARD_CALMAX]⟩,
  ⟨0x070, 1, 0, [WAVE_CFG_ARM, WAVE_CFG_STOP, WAVE_CFG_RAIL, WAVE_CFG_PRE]⟩,
  ⟨0x074, 1, 0, [WAVE_STAT_STATE, WAVE_STAT_TRIG_DS, WAVE_STAT_START]⟩,
  ⟨0x100, 32, 8, [DSTAT_GUSTS, DSTAT_WAIT, DSTAT_DEFER, DSTAT_LONG, DSTAT_GUST]⟩,
  ⟨0x104, 32, 8, [DCNT_DEFERS, DCNT_CANCELS, DCNT_FORCED]⟩,
  ⟨0x200, 64, 16, [MAP_USE, MAP_RAIL, MAP_DOMAIN]⟩,
  ⟨0x204, 64, 16, [STAT_STUCK, STAT_SUSPECT, STAT_LEVEL, STAT_PERSIST, STAT_SERVO_LIM]⟩,
  ⟨0x208, 64, 16, [CAL_VALID, CAL_X3, CAL_X2, CAL_X1]⟩,
  ⟨0x20c, 64, 16, [COUNT_GUSTS, COUNT_PERSISTS]⟩]

end DROOP

namespace GOV
/-- R234, 09_governor.md. -/
def CTRL_MODE : Fld := ⟨0x11, 0x040, 0, 24, 2, .rw, .priv, [1], 0, 3⟩
/-- R234, 09_governor.md. -/
def CTRL_LEVEL_MAX : Fld := ⟨0x11, 0x040, 0, 16, 6, .rw, .priv, [63], 0, 63⟩
/-- R234, 09_governor.md. -/
def CTRL_HOLD_LEVEL_CAP : Fld := ⟨0x11, 0x040, 0, 0, 6, .rw, .priv, [32], 0, 63⟩
/-- R234, 09_governor.md. -/
def STATE_CAPSRC : Fld := ⟨0x11, 0x044, 0, 28, 4, .ro, .priv, [15], 0, 15⟩
/-- R234, 09_governor.md. -/
def STATE_STALE : Fld := ⟨0x11, 0x044, 0, 27, 1, .ro, .priv, [0], 0, 1⟩
/-- R234, 09_governor.md. -/
def STATE_SAFE : Fld := ⟨0x11, 0x044, 0, 26, 1, .ro, .priv, [0], 0, 1⟩
/-- R234, 09_governor.md. -/
def STATE_MODE_ACT : Fld := ⟨0x11, 0x044, 0, 24, 2, .ro, .open_, [1], 0, 3⟩
/-- R234, 09_governor.md. -/
def STATE_CAP : Fld := ⟨0x11, 0x044, 0, 16, 6, .ro, .open_, [63], 0, 63⟩
/-- R234, 09_governor.md. -/
def STATE_TARGET : Fld := ⟨0x11, 0x044, 0, 8, 6, .ro, .open_, [0], 0, 63⟩
/-- R234, 09_governor.md. -/
def STATE_LGOV : Fld := ⟨0x11, 0x044, 0, 0, 6, .ro, .priv, [0], 0, 63⟩
/-- R234, 09_governor.md. -/
def BAND_T_LO : Fld := ⟨0x11, 0x048, 0, 24, 8, .rw, .priv, [128], 0, 255⟩
/-- R234, 09_governor.md. -/
def BAND_T_HI : Fld := ⟨0x11, 0x048, 0, 16, 8, .rw, .priv, [0], 0, 255⟩
/-- R234, 09_governor.md. -/
def BAND_LO : Fld := ⟨0x11, 0x048, 0, 8, 8, .rw, .priv, [13], 0, 255⟩
/-- R234, 09_governor.md. -/
def BAND_HI : Fld := ⟨0x11, 0x048, 0, 0, 8, .rw, .priv, [2], 0, 255⟩
/-- R234, 09_governor.md. -/
def BUB_DECAY : Fld := ⟨0x11, 0x04c, 0, 0, 8, .rw, .priv, [4], 1, 255⟩
/-- R234, 09_governor.md. -/
def ESC_POOL_MIN : Fld := ⟨0x11, 0x050, 0, 24, 8, .rw, .priv, [128], 0, 255⟩
/-- R234, 09_governor.md. -/
def ESC_POOL_STEP : Fld := ⟨0x11, 0x050, 0, 16, 8, .rw, .priv, [16], 1, 255⟩
/-- R234, 09_governor.md. -/
def ESC_POOL_BEATS : Fld := ⟨0x11, 0x050, 0, 8, 8, .rw, .priv, [32], 1, 255⟩
/-- R234, 09_governor.md. -/
def ESC_LEVEL_BEATS : Fld := ⟨0x11, 0x050, 0, 0, 8, .rw, .priv, [8], 1, 255⟩
/-- R234, 09_governor.md. -/
def WIN_TDC_MS : Fld := ⟨0x11, 0x054, 0, 0, 10, .rw, .priv, [10], 1, 1000⟩
/-- R234, 09_governor.md. -/
def CMD_HYS : Fld := ⟨0x11, 0x058, 0, 8, 8, .rw, .priv, [4], 0, 255⟩
/-- R234, 09_governor.md. -/
def CMD_SLEW : Fld := ⟨0x11, 0x058, 0, 0, 8, .rw, .priv, [24], 1, 200⟩
/-- R234, 09_governor.md. -/
def PLIM0_PL_SUSTAIN : Fld := ⟨0x11, 0x060, 0, 16, 16, .rw, .priv, [48000], 0, 65535⟩
/-- R234, 09_governor.md. -/
def PLIM0_PL_FAST : Fld := ⟨0x11, 0x060, 0, 0, 16, .rw, .priv, [48000], 0, 65535⟩
/-- R234, 09_governor.md. -/
def PLIM1_PL_THERMAL : Fld := ⟨0x11, 0x064, 0, 0, 16, .rw, .priv, [48000], 0, 65535⟩
/-- R234, 09_governor.md. -/
def PROCHOT_EN : Fld := ⟨0x11, 0x068, 0, 31, 1, .rw, .priv, [1], 0, 1⟩
/-- R234, 09_governor.md. -/
def PROCHOT_LEVEL : Fld := ⟨0x11, 0x068, 0, 0, 6, .rw, .priv, [16], 0, 63⟩
/-- R234, 09_governor.md. -/
def SAFE_MODE : Fld := ⟨0x11, 0x06c, 0, 24, 2, .rw, .sec, [2], 0, 3⟩
/-- R234, 09_governor.md. -/
def SAFE_LEVEL_MAX : Fld := ⟨0x11, 0x06c, 0, 0, 6, .rw, .sec, [16], 0, 63⟩
/-- R234, 09_governor.md. -/
def HARD_PL0_HARD_SUSTAIN : Fld := ⟨0x11, 0x070, 0, 16, 16, .rw, .sec, [48000], 0, 65535⟩
/-- R234, 09_governor.md. -/
def HARD_PL0_HARD_FAST : Fld := ⟨0x11, 0x070, 0, 0, 16, .rw, .sec, [48000], 0, 65535⟩
/-- R234, 09_governor.md. -/
def HARD_PL1_HARD_GUARD : Fld := ⟨0x11, 0x074, 0, 24, 8, .rw, .sec, [32], 0, 255⟩
/-- R234, 09_governor.md. -/
def HARD_PL1_HARD_LEVEL : Fld := ⟨0x11, 0x074, 0, 16, 6, .rw, .sec, [63], 0, 63⟩
/-- R234, 09_governor.md. -/
def HARD_PL1_HARD_THERMAL : Fld := ⟨0x11, 0x074, 0, 0, 16, .rw, .sec, [48000], 0, 65535⟩
/-- R234, 09_governor.md. -/
def HARD_LOCK_LOCK : Fld := ⟨0x11, 0x078, 0, 0, 1, .rw, .sec, [0], 0, 1⟩
/-- R234, 09_governor.md. -/
def ISO_AGREED : Fld := ⟨0x11, 0x07c, 0, 16, 16, .ro, .open_, [65535], 0, 65535⟩
/-- R234, 09_governor.md. -/
def ISO_LOCAL : Fld := ⟨0x11, 0x07c, 0, 0, 16, .ro, .open_, [0], 0, 65535⟩
/-- R234, 09_governor.md. -/
def BLOOP_SHIFT : Fld := ⟨0x11, 0x080, 0, 27, 5, .rw, .priv, [8], 0, 31⟩
/-- R234, 09_governor.md. -/
def BLOOP_KB : Fld := ⟨0x11, 0x080, 0, 0, 16, .rw, .priv, [64], 0, 65535⟩
/-- R234, 09_governor.md. -/
def PSET_PSET_MIN : Fld := ⟨0x11, 0x084, 0, 16, 16, .rw, .priv, [3200], 0, 65535⟩
/-- R234, 09_governor.md. -/
def PSET_P_SET : Fld := ⟨0x11, 0x084, 0, 0, 16, .ro, .priv, [48000], 0, 65535⟩
/-- R234, 09_governor.md. -/
def PMEAS0_SUSTAIN : Fld := ⟨0x11, 0x088, 0, 16, 16, .ro, .priv, [0], 0, 65535⟩
/-- R234, 09_governor.md. -/
def PMEAS0_FAST : Fld := ⟨0x11, 0x088, 0, 0, 16, .ro, .priv, [0], 0, 65535⟩
/-- R234, 09_governor.md. -/
def PMEAS1_BEAT : Fld := ⟨0x11, 0x08c, 0, 16, 16, .ro, .priv, [0], 0, 65535⟩
/-- R234, 09_governor.md. -/
def PMEAS1_THERMAL : Fld := ⟨0x11, 0x08c, 0, 0, 16, .ro, .priv, [0], 0, 65535⟩
/-- R234, 09_governor.md. -/
def STEPS_DOWN : Fld := ⟨0x11, 0x090, 0, 16, 16, .ro, .priv, [0], 0, 65535⟩
/-- R234, 09_governor.md. -/
def STEPS_UP : Fld := ⟨0x11, 0x090, 0, 0, 16, .ro, .priv, [0], 0, 65535⟩
/-- R234, 09_governor.md. -/
def MPA_GUARD : Fld := ⟨0x11, 0x100, 8, 24, 8, .rw, .priv, [40, 60, 32, 200], 0, 255⟩
/-- R234, 09_governor.md. -/
def MPA_PPCAP : Fld := ⟨0x11, 0x100, 8, 16, 8, .rw, .priv, [160, 96, 48, 0], 0, 160⟩
/-- R234, 09_governor.md. -/
def MPA_BGAIN : Fld := ⟨0x11, 0x100, 8, 8, 8, .rw, .priv, [48, 64, 96, 128], 1, 255⟩
/-- R234, 09_governor.md. -/
def MPA_GUSTG : Fld := ⟨0x11, 0x100, 8, 0, 2, .rw, .priv, [3, 2, 1, 1], 1, 3⟩
/-- R234, 09_governor.md. -/
def MPB_STEP_UP_HOLD : Fld := ⟨0x11, 0x104, 8, 16, 16, .rw, .priv, [50, 200, 1000, 5000], 1, 65535⟩
/-- R234, 09_governor.md. -/
def MPB_FILL_MS : Fld := ⟨0x11, 0x104, 8, 8, 8, .rw, .priv, [2, 3, 4, 8], 1, 255⟩
/-- R234, 09_governor.md. -/
def MPB_RAMP : Fld := ⟨0x11, 0x104, 8, 0, 8, .rw, .priv, [32, 24, 16, 8], 1, 255⟩
/-- R234, 09_governor.md. -/
def RLIM_TDC : Fld := ⟨0x11, 0x200, 16, 16, 16, .rw, .priv, [12800], 0, 65535⟩
/-- R234, 09_governor.md. -/
def RLIM_EDC : Fld := ⟨0x11, 0x200, 16, 0, 16, .rw, .priv, [12800], 0, 65535⟩
/-- R234, 09_governor.md. -/
def RHARD_HARD_TDC : Fld := ⟨0x11, 0x204, 16, 16, 16, .rw, .sec, [12800], 0, 65535⟩
/-- R234, 09_governor.md. -/
def RHARD_HARD_EDC : Fld := ⟨0x11, 0x204, 16, 0, 16, .rw, .sec, [12800], 0, 65535⟩
/-- R234, 09_governor.md. -/
def RDIDT_DIDT : Fld := ⟨0x11, 0x208, 16, 0, 16, .rw, .priv, [65535], 0, 65535⟩
/-- R234, 09_governor.md. -/
def RSTAT_PF : Fld := ⟨0x11, 0x20c, 16, 23, 9, .ro, .priv, [256], 0, 511⟩
/-- R234, 09_governor.md. -/
def RSTAT_TDCW : Fld := ⟨0x11, 0x20c, 16, 0, 16, .ro, .priv, [0], 0, 65535⟩
/-- The registers of page GOV. -/
def regs : List Reg := [
  ⟨0x040, 1, 0, [CTRL_MODE, CTRL_LEVEL_MAX, CTRL_HOLD_LEVEL_CAP]⟩,
  ⟨0x044, 1, 0, [STATE_CAPSRC, STATE_STALE, STATE_SAFE, STATE_MODE_ACT, STATE_CAP, STATE_TARGET, STATE_LGOV]⟩,
  ⟨0x048, 1, 0, [BAND_T_LO, BAND_T_HI, BAND_LO, BAND_HI]⟩,
  ⟨0x04c, 1, 0, [BUB_DECAY]⟩,
  ⟨0x050, 1, 0, [ESC_POOL_MIN, ESC_POOL_STEP, ESC_POOL_BEATS, ESC_LEVEL_BEATS]⟩,
  ⟨0x054, 1, 0, [WIN_TDC_MS]⟩,
  ⟨0x058, 1, 0, [CMD_HYS, CMD_SLEW]⟩,
  ⟨0x060, 1, 0, [PLIM0_PL_SUSTAIN, PLIM0_PL_FAST]⟩,
  ⟨0x064, 1, 0, [PLIM1_PL_THERMAL]⟩,
  ⟨0x068, 1, 0, [PROCHOT_EN, PROCHOT_LEVEL]⟩,
  ⟨0x06c, 1, 0, [SAFE_MODE, SAFE_LEVEL_MAX]⟩,
  ⟨0x070, 1, 0, [HARD_PL0_HARD_SUSTAIN, HARD_PL0_HARD_FAST]⟩,
  ⟨0x074, 1, 0, [HARD_PL1_HARD_GUARD, HARD_PL1_HARD_LEVEL, HARD_PL1_HARD_THERMAL]⟩,
  ⟨0x078, 1, 0, [HARD_LOCK_LOCK]⟩,
  ⟨0x07c, 1, 0, [ISO_AGREED, ISO_LOCAL]⟩,
  ⟨0x080, 1, 0, [BLOOP_SHIFT, BLOOP_KB]⟩,
  ⟨0x084, 1, 0, [PSET_PSET_MIN, PSET_P_SET]⟩,
  ⟨0x088, 1, 0, [PMEAS0_SUSTAIN, PMEAS0_FAST]⟩,
  ⟨0x08c, 1, 0, [PMEAS1_BEAT, PMEAS1_THERMAL]⟩,
  ⟨0x090, 1, 0, [STEPS_DOWN, STEPS_UP]⟩,
  ⟨0x100, 4, 8, [MPA_GUARD, MPA_PPCAP, MPA_BGAIN, MPA_GUSTG]⟩,
  ⟨0x104, 4, 8, [MPB_STEP_UP_HOLD, MPB_FILL_MS, MPB_RAMP]⟩,
  ⟨0x200, 8, 16, [RLIM_TDC, RLIM_EDC]⟩,
  ⟨0x204, 8, 16, [RHARD_HARD_TDC, RHARD_HARD_EDC]⟩,
  ⟨0x208, 8, 16, [RDIDT_DIDT]⟩,
  ⟨0x20c, 8, 16, [RSTAT_PF, RSTAT_TDCW]⟩]

end GOV

namespace LEVEL
/-- R236, 09_governor.md. -/
def BANK_SWAP : Fld := ⟨0x12, 0x040, 0, 31, 1, .wo, .priv, [0], 0, 1⟩
/-- R236, 09_governor.md. -/
def BANK_VALID : Fld := ⟨0x12, 0x040, 0, 2, 1, .ro, .priv, [0], 0, 1⟩
/-- R236, 09_governor.md. -/
def BANK_PEND : Fld := ⟨0x12, 0x040, 0, 1, 1, .ro, .priv, [0], 0, 1⟩
/-- R236, 09_governor.md. -/
def BANK_ACT : Fld := ⟨0x12, 0x040, 0, 0, 1, .ro, .priv, [0], 0, 1⟩
/-- R236, 09_governor.md. -/
def FITCTL_HOLD : Fld := ⟨0x12, 0x044, 0, 0, 1, .rw, .priv, [0], 0, 1⟩
/-- R236, 09_governor.md. -/
def CLOCK_PREP : Fld := ⟨0x12, 0x048, 0, 16, 8, .rw, .priv, [20], 1, 255⟩
/-- R236, 09_governor.md. -/
def CLOCK_SWITCH : Fld := ⟨0x12, 0x048, 0, 0, 16, .rw, .priv, [200], 0, 65535⟩
/-- R236, 09_governor.md. -/
def HARD_F_LOCK : Fld := ⟨0x12, 0x04c, 0, 31, 1, .rw, .sec, [0], 0, 1⟩
/-- R236, 09_governor.md. -/
def HARD_F_HARD_FMAX : Fld := ⟨0x12, 0x04c, 0, 0, 16, .rw, .sec, [65535], 0, 65535⟩
/-- R236, 09_governor.md. -/
def AGE_CFG_EN : Fld := ⟨0x12, 0x050, 0, 31, 1, .rw, .priv, [1], 0, 1⟩
/-- R236, 09_governor.md. -/
def AGE_CFG_GAIN : Fld := ⟨0x12, 0x050, 0, 16, 8, .rw, .priv, [16], 0, 255⟩
/-- R236, 09_governor.md. -/
def AGE_CFG_STEP : Fld := ⟨0x12, 0x050, 0, 8, 8, .rw, .priv, [1], 0, 255⟩
/-- R236, 09_governor.md. -/
def AGE_CFG_MAX : Fld := ⟨0x12, 0x050, 0, 0, 8, .rw, .priv, [80], 0, 255⟩
/-- R236, 09_governor.md. -/
def AGE_VWIN_VWIN : Fld := ⟨0x12, 0x054, 0, 0, 8, .rw, .priv, [40], 0, 255⟩
/-- R236, 09_governor.md. -/
def CORE_EN_EN : Fld := ⟨0x12, 0x080, 4, 0, 32, .rw, .priv, [4294967295], 0, 4294967295⟩
/-- R236, 09_governor.md. -/
def CHDOM_DOM3 : Fld := ⟨0x12, 0x0c0, 4, 24, 5, .rw, .priv, [3, 7, 11, 15, 19, 23, 27, 31], 0, 31⟩
/-- R236, 09_governor.md. -/
def CHDOM_DOM2 : Fld := ⟨0x12, 0x0c0, 4, 16, 5, .rw, .priv, [2, 6, 10, 14, 18, 22, 26, 30], 0, 31⟩
/-- R236, 09_governor.md. -/
def CHDOM_DOM1 : Fld := ⟨0x12, 0x0c0, 4, 8, 5, .rw, .priv, [1, 5, 9, 13, 17, 21, 25, 29], 0, 31⟩
/-- R236, 09_governor.md. -/
def CHDOM_DOM0 : Fld := ⟨0x12, 0x0c0, 4, 0, 5, .rw, .priv, [0, 4, 8, 12, 16, 20, 24, 28], 0, 31⟩
/-- R236, 09_governor.md. -/
def DOM_SYNC : Fld := ⟨0x12, 0x100, 4, 31, 1, .rw, .priv, [1], 0, 1⟩
/-- R236, 09_governor.md. -/
def DOM_RAIL : Fld := ⟨0x12, 0x100, 4, 24, 4, .rw, .priv, [15], 0, 15⟩
/-- R236, 09_governor.md. -/
def DOM_DFIT : Fld := ⟨0x12, 0x100, 4, 0, 9, .rw, .priv, [0], 0, 511⟩
/-- R236, 09_governor.md. -/
def DFREQ_TARGET : Fld := ⟨0x12, 0x180, 4, 16, 16, .ro, .priv, [0], 0, 65535⟩
/-- R236, 09_governor.md. -/
def DFREQ_CONF : Fld := ⟨0x12, 0x180, 4, 0, 16, .ro, .priv, [0], 0, 65535⟩
/-- R236, 09_governor.md. -/
def DNEED_HS : Fld := ⟨0x12, 0x200, 4, 30, 2, .ro, .priv, [0], 0, 3⟩
/-- R236, 09_governor.md. -/
def DNEED_WEAK : Fld := ⟨0x12, 0x200, 4, 16, 9, .ro, .priv, [0], 0, 511⟩
/-- R236, 09_governor.md. -/
def DNEED_NEED : Fld := ⟨0x12, 0x200, 4, 0, 16, .ro, .priv, [0], 0, 65535⟩
/-- R236, 09_governor.md. -/
def AGE_OFFSET : Fld := ⟨0x12, 0x280, 4, 24, 8, .rw, .priv, [0], 0, 255⟩
/-- R236, 09_governor.md. -/
def AGE_BASE : Fld := ⟨0x12, 0x280, 4, 16, 8, .rw, .priv, [255], 0, 255⟩
/-- R236, 09_governor.md. -/
def AGE_BASE_V : Fld := ⟨0x12, 0x280, 4, 0, 16, .rw, .priv, [0], 0, 65535⟩
/-- The registers of page LEVEL. -/
def regs : List Reg := [
  ⟨0x040, 1, 0, [BANK_SWAP, BANK_VALID, BANK_PEND, BANK_ACT]⟩,
  ⟨0x044, 1, 0, [FITCTL_HOLD]⟩,
  ⟨0x048, 1, 0, [CLOCK_PREP, CLOCK_SWITCH]⟩,
  ⟨0x04c, 1, 0, [HARD_F_LOCK, HARD_F_HARD_FMAX]⟩,
  ⟨0x050, 1, 0, [AGE_CFG_EN, AGE_CFG_GAIN, AGE_CFG_STEP, AGE_CFG_MAX]⟩,
  ⟨0x054, 1, 0, [AGE_VWIN_VWIN]⟩,
  ⟨0x080, 16, 4, [CORE_EN_EN]⟩,
  ⟨0x0c0, 8, 4, [CHDOM_DOM3, CHDOM_DOM2, CHDOM_DOM1, CHDOM_DOM0]⟩,
  ⟨0x100, 32, 4, [DOM_SYNC, DOM_RAIL, DOM_DFIT]⟩,
  ⟨0x180, 32, 4, [DFREQ_TARGET, DFREQ_CONF]⟩,
  ⟨0x200, 32, 4, [DNEED_HS, DNEED_WEAK, DNEED_NEED]⟩,
  ⟨0x280, 32, 4, [AGE_OFFSET, AGE_BASE, AGE_BASE_V]⟩]

end LEVEL

namespace CREDIT
/-- R257, 10_power_credits.md. -/
def CH_EN_EN : Fld := ⟨0x13, 0x040, 0, 0, 32, .rw, .priv, [4294967295], 0, 4294967295⟩
/-- R257, 10_power_credits.md. -/
def LEASE_GRACE : Fld := ⟨0x13, 0x044, 0, 0, 16, .rw, .priv, [1200], 0, 65535⟩
/-- R257, 10_power_credits.md. -/
def AGE_FILL_WAIT : Fld := ⟨0x13, 0x048, 0, 16, 16, .rw, .priv, [400], 1, 65535⟩
/-- R257, 10_power_credits.md. -/
def AGE_PROMOTE : Fld := ⟨0x13, 0x048, 0, 0, 16, .rw, .priv, [40], 1, 65535⟩
/-- R257, 10_power_credits.md. -/
def BOOST_BOOST : Fld := ⟨0x13, 0x04c, 0, 8, 8, .rw, .priv, [32], 16, 64⟩
/-- R257, 10_power_credits.md. -/
def BOOST_PP_FULL : Fld := ⟨0x13, 0x04c, 0, 0, 8, .rw, .priv, [48], 1, 160⟩
/-- R257, 10_power_credits.md. -/
def HARD_RAMP_LOCK : Fld := ⟨0x13, 0x050, 0, 31, 1, .rw, .sec, [0], 0, 1⟩
/-- R257, 10_power_credits.md. -/
def HARD_RAMP_HARD_AMAX : Fld := ⟨0x13, 0x050, 0, 0, 8, .rw, .sec, [255], 0, 255⟩
/-- R257, 10_power_credits.md. -/
def MAXREQ_MAX_UNITS : Fld := ⟨0x13, 0x054, 0, 0, 12, .rw, .priv, [4095], 1, 4095⟩
/-- R257, 10_power_credits.md. -/
def STARVE_LIMIT : Fld := ⟨0x13, 0x058, 0, 0, 16, .rw, .priv, [512], 1, 65535⟩
/-- R257, 10_power_credits.md. -/
def LANE_SEL_CORE : Fld := ⟨0x13, 0x060, 0, 0, 9, .rw, .priv, [0], 0, 511⟩
/-- R257, 10_power_credits.md. -/
def LANE_STAT_WAITING : Fld := ⟨0x13, 0x064, 0, 31, 1, .ro, .priv, [0], 0, 1⟩
/-- R257, 10_power_credits.md. -/
def LANE_STAT_CLASS : Fld := ⟨0x13, 0x064, 0, 29, 2, .ro, .priv, [0], 0, 3⟩
/-- R257, 10_power_credits.md. -/
def LANE_STAT_HELD1 : Fld := ⟨0x13, 0x064, 0, 28, 1, .ro, .priv, [0], 0, 1⟩
/-- R257, 10_power_credits.md. -/
def LANE_STAT_HELD0 : Fld := ⟨0x13, 0x064, 0, 27, 1, .ro, .priv, [0], 0, 1⟩
/-- R257, 10_power_credits.md. -/
def LANE_STAT_WAIT_TICKS : Fld := ⟨0x13, 0x064, 0, 0, 16, .ro, .priv, [0], 0, 65535⟩
/-- R257, 10_power_credits.md. -/
def LANE_UNITS_UNITS1 : Fld := ⟨0x13, 0x068, 0, 16, 12, .ro, .priv, [0], 0, 4095⟩
/-- R257, 10_power_credits.md. -/
def LANE_UNITS_UNITS0 : Fld := ⟨0x13, 0x068, 0, 0, 12, .ro, .priv, [0], 0, 4095⟩
/-- R257, 10_power_credits.md. -/
def POOL_RESERVE : Fld := ⟨0x13, 0x100, 32, 16, 16, .rw, .priv, [0], 0, 65535⟩
/-- R257, 10_power_credits.md. -/
def POOL_POOL : Fld := ⟨0x13, 0x100, 32, 0, 16, .rw, .priv, [0], 0, 65535⟩
/-- R257, 10_power_credits.md. -/
def HARD_LOCK : Fld := ⟨0x13, 0x104, 32, 31, 1, .rw, .sec, [0], 0, 1⟩
/-- R257, 10_power_credits.md. -/
def HARD_HARD_POOL : Fld := ⟨0x13, 0x104, 32, 0, 16, .rw, .sec, [65535], 0, 65535⟩
/-- R257, 10_power_credits.md. -/
def EFF_AVAIL : Fld := ⟨0x13, 0x108, 32, 16, 16, .ro, .priv, [0], 0, 65535⟩
/-- R257, 10_power_credits.md. -/
def EFF_P : Fld := ⟨0x13, 0x108, 32, 0, 16, .ro, .priv, [0], 0, 65535⟩
/-- R257, 10_power_credits.md. -/
def GRANTED_G_RSV : Fld := ⟨0x13, 0x10c, 32, 16, 16, .ro, .priv, [0], 0, 65535⟩
/-- R257, 10_power_credits.md. -/
def GRANTED_G : Fld := ⟨0x13, 0x10c, 32, 0, 16, .ro, .priv, [0], 0, 65535⟩
/-- R257, 10_power_credits.md. -/
def RAMPST_A : Fld := ⟨0x13, 0x110, 32, 16, 8, .ro, .priv, [0], 0, 255⟩
/-- R257, 10_power_credits.md. -/
def RAMPST_B : Fld := ⟨0x13, 0x110, 32, 0, 16, .ro, .priv, [0], 0, 65535⟩
/-- R257, 10_power_credits.md. -/
def QUEUE_HEAD_WAIT : Fld := ⟨0x13, 0x114, 32, 16, 16, .ro, .priv, [0], 0, 65535⟩
/-- R257, 10_power_credits.md. -/
def QUEUE_DEPTH : Fld := ⟨0x13, 0x114, 32, 0, 10, .ro, .priv, [0], 0, 1023⟩
/-- R257, 10_power_credits.md. -/
def GRANTS_COUNT : Fld := ⟨0x13, 0x200, 32, 0, 32, .ro, .priv, [0], 0, 4294967295⟩
/-- R257, 10_power_credits.md. -/
def WAITS_COUNT : Fld := ⟨0x13, 0x204, 32, 0, 32, .ro, .priv, [0], 0, 4294967295⟩
/-- R257, 10_power_credits.md. -/
def DENIES_COUNT : Fld := ⟨0x13, 0x208, 32, 0, 32, .ro, .priv, [0], 0, 4294967295⟩
/-- R257, 10_power_credits.md. -/
def RECLAIMS_COUNT : Fld := ⟨0x13, 0x20c, 32, 0, 32, .ro, .priv, [0], 0, 4294967295⟩
/-- R257, 10_power_credits.md. -/
def LATE_RET_COUNT : Fld := ⟨0x13, 0x210, 32, 0, 32, .ro, .priv, [0], 0, 4294967295⟩
/-- R257, 10_power_credits.md. -/
def PROMOTED_COUNT : Fld := ⟨0x13, 0x214, 32, 0, 32, .ro, .priv, [0], 0, 4294967295⟩
/-- R257, 10_power_credits.md. -/
def MAXWAIT_TICKS : Fld := ⟨0x13, 0x218, 32, 0, 32, .ro, .priv, [0], 0, 4294967295⟩
/-- R257, 10_power_credits.md. -/
def FILL_DENY_COUNT : Fld := ⟨0x13, 0x21c, 32, 0, 32, .ro, .priv, [0], 0, 4294967295⟩
/-- The registers of page CREDIT. -/
def regs : List Reg := [
  ⟨0x040, 1, 0, [CH_EN_EN]⟩,
  ⟨0x044, 1, 0, [LEASE_GRACE]⟩,
  ⟨0x048, 1, 0, [AGE_FILL_WAIT, AGE_PROMOTE]⟩,
  ⟨0x04c, 1, 0, [BOOST_BOOST, BOOST_PP_FULL]⟩,
  ⟨0x050, 1, 0, [HARD_RAMP_LOCK, HARD_RAMP_HARD_AMAX]⟩,
  ⟨0x054, 1, 0, [MAXREQ_MAX_UNITS]⟩,
  ⟨0x058, 1, 0, [STARVE_LIMIT]⟩,
  ⟨0x060, 1, 0, [LANE_SEL_CORE]⟩,
  ⟨0x064, 1, 0, [LANE_STAT_WAITING, LANE_STAT_CLASS, LANE_STAT_HELD1, LANE_STAT_HELD0, LANE_STAT_WAIT_TICKS]⟩,
  ⟨0x068, 1, 0, [LANE_UNITS_UNITS1, LANE_UNITS_UNITS0]⟩,
  ⟨0x100, 8, 32, [POOL_RESERVE, POOL_POOL]⟩,
  ⟨0x104, 8, 32, [HARD_LOCK, HARD_HARD_POOL]⟩,
  ⟨0x108, 8, 32, [EFF_AVAIL, EFF_P]⟩,
  ⟨0x10c, 8, 32, [GRANTED_G_RSV, GRANTED_G]⟩,
  ⟨0x110, 8, 32, [RAMPST_A, RAMPST_B]⟩,
  ⟨0x114, 8, 32, [QUEUE_HEAD_WAIT, QUEUE_DEPTH]⟩,
  ⟨0x200, 8, 32, [GRANTS_COUNT]⟩,
  ⟨0x204, 8, 32, [WAITS_COUNT]⟩,
  ⟨0x208, 8, 32, [DENIES_COUNT]⟩,
  ⟨0x20c, 8, 32, [RECLAIMS_COUNT]⟩,
  ⟨0x210, 8, 32, [LATE_RET_COUNT]⟩,
  ⟨0x214, 8, 32, [PROMOTED_COUNT]⟩,
  ⟨0x218, 8, 32, [MAXWAIT_TICKS]⟩,
  ⟨0x21c, 8, 32, [FILL_DENY_COUNT]⟩]

end CREDIT

namespace HINT
/-- R282, 11_hints_steps.md. -/
def PORT_EN_EN : Fld := ⟨0x14, 0x040, 0, 0, 32, .rw, .priv, [4294967295], 0, 4294967295⟩
/-- R282, 11_hints_steps.md. -/
def FIFO_HWM : Fld := ⟨0x14, 0x044, 0, 16, 13, .ro, .priv, [0], 0, 8191⟩
/-- R282, 11_hints_steps.md. -/
def FIFO_COUNT : Fld := ⟨0x14, 0x044, 0, 0, 13, .ro, .priv, [0], 0, 8191⟩
/-- R282, 11_hints_steps.md. -/
def ACCEPTED_COUNT : Fld := ⟨0x14, 0x048, 0, 0, 32, .ro, .priv, [0], 0, 4294967295⟩
/-- R282, 11_hints_steps.md. -/
def DROP_FULL_COUNT : Fld := ⟨0x14, 0x04c, 0, 0, 32, .ro, .priv, [0], 0, 4294967295⟩
/-- R282, 11_hints_steps.md. -/
def DROP_BAD_COUNT : Fld := ⟨0x14, 0x050, 0, 0, 32, .ro, .priv, [0], 0, 4294967295⟩
/-- R282, 11_hints_steps.md. -/
def PTR_LOST : Fld := ⟨0x14, 0x054, 0, 16, 16, .ro, .priv, [0], 0, 65535⟩
/-- R282, 11_hints_steps.md. -/
def PTR_RESETS : Fld := ⟨0x14, 0x054, 0, 0, 16, .ro, .priv, [0], 0, 65535⟩
/-- R282, 11_hints_steps.md. -/
def RETIRE_LATE_COUNT : Fld := ⟨0x14, 0x058, 0, 0, 32, .ro, .priv, [0], 0, 4294967295⟩
/-- R282, 11_hints_steps.md. -/
def PEEK_LO_TOKEN : Fld := ⟨0x14, 0x060, 0, 0, 32, .ro, .priv, [0], 0, 4294967295⟩
/-- R282, 11_hints_steps.md. -/
def PEEK_HI_TOKEN : Fld := ⟨0x14, 0x064, 0, 0, 32, .ro, .priv, [0], 0, 4294967295⟩
/-- R282, 11_hints_steps.md. -/
def PEEK_DUE_DUE : Fld := ⟨0x14, 0x068, 0, 0, 32, .ro, .priv, [0], 0, 4294967295⟩
/-- R282, 11_hints_steps.md. -/
def PORT_DROP_BAD : Fld := ⟨0x14, 0x100, 4, 16, 16, .ro, .priv, [0], 0, 65535⟩
/-- R282, 11_hints_steps.md. -/
def PORT_DROP_FULL : Fld := ⟨0x14, 0x100, 4, 0, 16, .ro, .priv, [0], 0, 65535⟩
/-- The registers of page HINT. -/
def regs : List Reg := [
  ⟨0x040, 1, 0, [PORT_EN_EN]⟩,
  ⟨0x044, 1, 0, [FIFO_HWM, FIFO_COUNT]⟩,
  ⟨0x048, 1, 0, [ACCEPTED_COUNT]⟩,
  ⟨0x04c, 1, 0, [DROP_FULL_COUNT]⟩,
  ⟨0x050, 1, 0, [DROP_BAD_COUNT]⟩,
  ⟨0x054, 1, 0, [PTR_LOST, PTR_RESETS]⟩,
  ⟨0x058, 1, 0, [RETIRE_LATE_COUNT]⟩,
  ⟨0x060, 1, 0, [PEEK_LO_TOKEN]⟩,
  ⟨0x064, 1, 0, [PEEK_HI_TOKEN]⟩,
  ⟨0x068, 1, 0, [PEEK_DUE_DUE]⟩,
  ⟨0x100, 32, 4, [PORT_DROP_BAD, PORT_DROP_FULL]⟩]

end HINT

namespace FCAST
/-- R303, 12_forecast.md. -/
def CTRL_SWAP : Fld := ⟨0x15, 0x040, 0, 31, 1, .wo, .priv, [0], 0, 1⟩
/-- R303, 12_forecast.md. -/
def CTRL_REARM : Fld := ⟨0x15, 0x040, 0, 30, 1, .wo, .priv, [0], 0, 1⟩
/-- R303, 12_forecast.md. -/
def CTRL_EN : Fld := ⟨0x15, 0x040, 0, 0, 1, .rw, .priv, [1], 0, 1⟩
/-- R303, 12_forecast.md. -/
def CFG_CONF_MIN : Fld := ⟨0x15, 0x044, 0, 24, 8, .rw, .priv, [128], 0, 255⟩
/-- R303, 12_forecast.md. -/
def CFG_FGAIN : Fld := ⟨0x15, 0x044, 0, 16, 8, .rw, .priv, [16], 0, 64⟩
/-- R303, 12_forecast.md. -/
def CFG_K_HI : Fld := ⟨0x15, 0x044, 0, 12, 4, .rw, .priv, [15], 0, 15⟩
/-- R303, 12_forecast.md. -/
def CFG_K_LO : Fld := ⟨0x15, 0x044, 0, 8, 4, .rw, .priv, [0], 0, 15⟩
/-- R303, 12_forecast.md. -/
def CFG_SCORE_SLOT : Fld := ⟨0x15, 0x044, 0, 4, 4, .rw, .priv, [4], 0, 15⟩
/-- R303, 12_forecast.md. -/
def ERR_LIMIT : Fld := ⟨0x15, 0x048, 0, 16, 16, .rw, .priv, [120], 0, 65535⟩
/-- R303, 12_forecast.md. -/
def ERR_MIN_COUNT : Fld := ⟨0x15, 0x048, 0, 0, 16, .rw, .priv, [250], 1, 1000⟩
/-- R303, 12_forecast.md. -/
def HARD_FC_LOCK : Fld := ⟨0x15, 0x04c, 0, 31, 1, .rw, .sec, [0], 0, 1⟩
/-- R303, 12_forecast.md. -/
def HARD_FC_HARD_PPMAX : Fld := ⟨0x15, 0x04c, 0, 0, 8, .rw, .sec, [160], 0, 255⟩
/-- R303, 12_forecast.md. -/
def STATUS_STATE : Fld := ⟨0x15, 0x050, 0, 30, 2, .ro, .priv, [0], 0, 3⟩
/-- R303, 12_forecast.md. -/
def STATUS_PEND : Fld := ⟨0x15, 0x050, 0, 29, 1, .ro, .priv, [0], 0, 1⟩
/-- R303, 12_forecast.md. -/
def STATUS_ACT : Fld := ⟨0x15, 0x050, 0, 28, 1, .ro, .priv, [0], 0, 1⟩
/-- R303, 12_forecast.md. -/
def STATUS_NULLROW : Fld := ⟨0x15, 0x050, 0, 27, 1, .ro, .priv, [0], 0, 1⟩
/-- R303, 12_forecast.md. -/
def STATUS_USED : Fld := ⟨0x15, 0x050, 0, 26, 1, .ro, .priv, [0], 0, 1⟩
/-- R303, 12_forecast.md. -/
def STATUS_REUSED : Fld := ⟨0x15, 0x050, 0, 25, 1, .ro, .priv, [0], 0, 1⟩
/-- R303, 12_forecast.md. -/
def STATUS_CONF : Fld := ⟨0x15, 0x050, 0, 16, 8, .ro, .priv, [0], 0, 255⟩
/-- R303, 12_forecast.md. -/
def STATUS_LOAD_RESULT : Fld := ⟨0x15, 0x050, 0, 12, 4, .ro, .priv, [0], 0, 15⟩
/-- R303, 12_forecast.md. -/
def STATUS_DEG_RAILS : Fld := ⟨0x15, 0x050, 0, 0, 8, .ro, .priv, [0], 0, 255⟩
/-- R303, 12_forecast.md. -/
def MODEL_ID_ID : Fld := ⟨0x15, 0x054, 0, 0, 32, .ro, .priv, [0], 0, 4294967295⟩
/-- R303, 12_forecast.md. -/
def DIGEST_DIGEST : Fld := ⟨0x15, 0x058, 0, 0, 32, .ro, .priv, [0], 0, 4294967295⟩
/-- R303, 12_forecast.md. -/
def CYCLES_MAX : Fld := ⟨0x15, 0x05c, 0, 16, 16, .ro, .priv, [0], 0, 65535⟩
/-- R303, 12_forecast.md. -/
def CYCLES_LAST : Fld := ⟨0x15, 0x05c, 0, 0, 16, .ro, .priv, [0], 0, 65535⟩
/-- R303, 12_forecast.md. -/
def PRED_SEL_RAIL : Fld := ⟨0x15, 0x060, 0, 4, 3, .rw, .priv, [0], 0, 7⟩
/-- R303, 12_forecast.md. -/
def PRED_SEL_SLOT : Fld := ⟨0x15, 0x060, 0, 0, 4, .rw, .priv, [0], 0, 15⟩
/-- R303, 12_forecast.md. -/
def PRED_DATA_PRED : Fld := ⟨0x15, 0x064, 0, 0, 16, .ro, .priv, [0], 0, 65535⟩
/-- R303, 12_forecast.md. -/
def DBG_STALL : Fld := ⟨0x15, 0x068, 0, 0, 10, .rw, .priv, [0], 0, 1023⟩
/-- R303, 12_forecast.md. -/
def EVALS_COUNT : Fld := ⟨0x15, 0x070, 0, 0, 32, .ro, .priv, [0], 0, 4294967295⟩
/-- R303, 12_forecast.md. -/
def NULLROWS_COUNT : Fld := ⟨0x15, 0x074, 0, 0, 32, .ro, .priv, [0], 0, 4294967295⟩
/-- R303, 12_forecast.md. -/
def LOWCONF_COUNT : Fld := ⟨0x15, 0x078, 0, 0, 32, .ro, .priv, [0], 0, 4294967295⟩
/-- R303, 12_forecast.md. -/
def REUSES_COUNT : Fld := ⟨0x15, 0x07c, 0, 0, 32, .ro, .priv, [0], 0, 4294967295⟩
/-- R303, 12_forecast.md. -/
def ECC_UNCORR : Fld := ⟨0x15, 0x080, 0, 16, 16, .ro, .priv, [0], 0, 65535⟩
/-- R303, 12_forecast.md. -/
def ECC_CORR : Fld := ⟨0x15, 0x080, 0, 0, 16, .ro, .priv, [0], 0, 65535⟩
/-- R303, 12_forecast.md. -/
def LOADS_FAILED : Fld := ⟨0x15, 0x084, 0, 16, 16, .ro, .priv, [0], 0, 65535⟩
/-- R303, 12_forecast.md. -/
def LOADS_PASSED : Fld := ⟨0x15, 0x084, 0, 0, 16, .ro, .priv, [0], 0, 65535⟩
/-- R303, 12_forecast.md. -/
def DEGRADES_COUNT : Fld := ⟨0x15, 0x088, 0, 0, 32, .ro, .priv, [0], 0, 4294967295⟩
/-- R303, 12_forecast.md. -/
def RAILFC_IFC : Fld := ⟨0x15, 0x100, 8, 16, 16, .ro, .priv, [0], 0, 65535⟩
/-- R303, 12_forecast.md. -/
def RAILFC_PPFC : Fld := ⟨0x15, 0x100, 8, 0, 16, .ro, .priv, [0], 0, 65535⟩
/-- R303, 12_forecast.md. -/
def RAILERR_MAE : Fld := ⟨0x15, 0x104, 8, 16, 16, .ro, .priv, [0], 0, 65535⟩
/-- R303, 12_forecast.md. -/
def RAILERR_COUNT : Fld := ⟨0x15, 0x104, 8, 0, 16, .ro, .priv, [0], 0, 65535⟩
/-- The registers of page FCAST. -/
def regs : List Reg := [
  ⟨0x040, 1, 0, [CTRL_SWAP, CTRL_REARM, CTRL_EN]⟩,
  ⟨0x044, 1, 0, [CFG_CONF_MIN, CFG_FGAIN, CFG_K_HI, CFG_K_LO, CFG_SCORE_SLOT]⟩,
  ⟨0x048, 1, 0, [ERR_LIMIT, ERR_MIN_COUNT]⟩,
  ⟨0x04c, 1, 0, [HARD_FC_LOCK, HARD_FC_HARD_PPMAX]⟩,
  ⟨0x050, 1, 0, [STATUS_STATE, STATUS_PEND, STATUS_ACT, STATUS_NULLROW, STATUS_USED, STATUS_REUSED, STATUS_CONF, STATUS_LOAD_RESULT, STATUS_DEG_RAILS]⟩,
  ⟨0x054, 1, 0, [ MODEL_ID_ID]⟩,
  ⟨0x058, 1, 0, [DIGEST_DIGEST]⟩,
  ⟨0x05c, 1, 0, [CYCLES_MAX, CYCLES_LAST]⟩,
  ⟨0x060, 1, 0, [PRED_SEL_RAIL, PRED_SEL_SLOT]⟩,
  ⟨0x064, 1, 0, [PRED_DATA_PRED]⟩,
  ⟨0x068, 1, 0, [DBG_STALL]⟩,
  ⟨0x070, 1, 0, [EVALS_COUNT]⟩,
  ⟨0x074, 1, 0, [NULLROWS_COUNT]⟩,
  ⟨0x078, 1, 0, [LOWCONF_COUNT]⟩,
  ⟨0x07c, 1, 0, [REUSES_COUNT]⟩,
  ⟨0x080, 1, 0, [ECC_UNCORR, ECC_CORR]⟩,
  ⟨0x084, 1, 0, [LOADS_FAILED, LOADS_PASSED]⟩,
  ⟨0x088, 1, 0, [DEGRADES_COUNT]⟩,
  ⟨0x100, 8, 8, [RAILFC_IFC, RAILFC_PPFC]⟩,
  ⟨0x104, 8, 8, [RAILERR_MAE, RAILERR_COUNT]⟩]

end FCAST

namespace STEP
/-- R284, 11_hints_steps.md. -/
def CTRL_SWAP : Fld := ⟨0x16, 0x040, 0, 31, 1, .wo, .priv, [0], 0, 1⟩
/-- R284, 11_hints_steps.md. -/
def CTRL_SWAP_NOW : Fld := ⟨0x16, 0x040, 0, 30, 1, .wo, .priv, [0], 0, 1⟩
/-- R284, 11_hints_steps.md. -/
def CTRL_FREEZE : Fld := ⟨0x16, 0x040, 0, 16, 8, .rw, .priv, [0], 0, 255⟩
/-- R284, 11_hints_steps.md. -/
def CTRL_SRC_PORT : Fld := ⟨0x16, 0x040, 0, 8, 5, .rw, .priv, [0], 0, 31⟩
/-- R284, 11_hints_steps.md. -/
def CTRL_LEARN_K : Fld := ⟨0x16, 0x040, 0, 4, 4, .rw, .priv, [3], 0, 8⟩
/-- R284, 11_hints_steps.md. -/
def CTRL_WIDTH_NEXT : Fld := ⟨0x16, 0x040, 0, 0, 4, .rw, .priv, [4], 0, 10⟩
/-- R284, 11_hints_steps.md. -/
def STATUS_STATE : Fld := ⟨0x16, 0x044, 0, 30, 2, .ro, .priv, [0], 0, 3⟩
/-- R284, 11_hints_steps.md. -/
def STATUS_PEND : Fld := ⟨0x16, 0x044, 0, 29, 1, .ro, .priv, [0], 0, 1⟩
/-- R284, 11_hints_steps.md. -/
def STATUS_ACT : Fld := ⟨0x16, 0x044, 0, 28, 1, .ro, .priv, [0], 0, 1⟩
/-- R284, 11_hints_steps.md. -/
def STATUS_WIDTH : Fld := ⟨0x16, 0x044, 0, 24, 4, .ro, .priv, [4], 0, 15⟩
/-- R284, 11_hints_steps.md. -/
def STATUS_FF_SUSP : Fld := ⟨0x16, 0x044, 0, 16, 8, .ro, .priv, [0], 0, 255⟩
/-- R284, 11_hints_steps.md. -/
def STATUS_BIN : Fld := ⟨0x16, 0x044, 0, 0, 12, .ro, .priv, [0], 0, 4095⟩
/-- R284, 11_hints_steps.md. -/
def POS_POS : Fld := ⟨0x16, 0x048, 0, 0, 32, .ro, .priv, [0], 0, 4294967295⟩
/-- R284, 11_hints_steps.md. -/
def LAST_LEN_BEATS : Fld := ⟨0x16, 0x04c, 0, 0, 32, .ro, .priv, [0], 0, 4294967295⟩
/-- R284, 11_hints_steps.md. -/
def STEPS_COUNT : Fld := ⟨0x16, 0x050, 0, 0, 32, .ro, .priv, [0], 0, 4294967295⟩
/-- R284, 11_hints_steps.md. -/
def FF_CFG_LOOK : Fld := ⟨0x16, 0x054, 0, 24, 8, .rw, .priv, [64], 4, 255⟩
/-- R284, 11_hints_steps.md. -/
def FF_CFG_SGAIN : Fld := ⟨0x16, 0x054, 0, 16, 8, .rw, .priv, [16], 0, 64⟩
/-- R284, 11_hints_steps.md. -/
def FF_CFG_WARM : Fld := ⟨0x16, 0x054, 0, 8, 8, .rw, .priv, [1], 0, 255⟩
/-- R284, 11_hints_steps.md. -/
def TRUST_REL : Fld := ⟨0x16, 0x058, 0, 24, 8, .rw, .priv, [64], 0, 255⟩
/-- R284, 11_hints_steps.md. -/
def TRUST_MISS : Fld := ⟨0x16, 0x058, 0, 16, 8, .rw, .priv, [8], 1, 255⟩
/-- R284, 11_hints_steps.md. -/
def TRUST_ABS : Fld := ⟨0x16, 0x058, 0, 0, 16, .rw, .priv, [80], 0, 65535⟩
/-- R284, 11_hints_steps.md. -/
def MIN_GAP_BEATS : Fld := ⟨0x16, 0x05c, 0, 0, 16, .rw, .priv, [1000], 1, 65535⟩
/-- R284, 11_hints_steps.md. -/
def IGNORED_COUNT : Fld := ⟨0x16, 0x060, 0, 0, 32, .ro, .priv, [0], 0, 4294967295⟩
/-- R284, 11_hints_steps.md. -/
def ACT_SEL_RAIL : Fld := ⟨0x16, 0x064, 0, 12, 3, .rw, .priv, [0], 0, 7⟩
/-- R284, 11_hints_steps.md. -/
def ACT_SEL_BIN : Fld := ⟨0x16, 0x064, 0, 0, 12, .rw, .priv, [0], 0, 4095⟩
/-- R284, 11_hints_steps.md. -/
def ACT_DATA_VALUE : Fld := ⟨0x16, 0x068, 0, 0, 16, .ro, .priv, [0], 0, 65535⟩
/-- R284, 11_hints_steps.md. -/
def OVERFLOWS_COUNT : Fld := ⟨0x16, 0x06c, 0, 0, 32, .ro, .priv, [0], 0, 4294967295⟩
/-- R284, 11_hints_steps.md. -/
def FF_IAHD : Fld := ⟨0x16, 0x100, 8, 16, 16, .ro, .priv, [0], 0, 65535⟩
/-- R284, 11_hints_steps.md. -/
def FF_PPSTEP : Fld := ⟨0x16, 0x100, 8, 0, 16, .ro, .priv, [0], 0, 65535⟩
/-- R284, 11_hints_steps.md. -/
def MISS_MISSES : Fld := ⟨0x16, 0x104, 8, 16, 16, .ro, .priv, [0], 0, 65535⟩
/-- R284, 11_hints_steps.md. -/
def MISS_RUN : Fld := ⟨0x16, 0x104, 8, 0, 8, .ro, .priv, [0], 0, 255⟩
/-- The registers of page STEP. -/
def regs : List Reg := [
  ⟨0x040, 1, 0, [CTRL_SWAP, CTRL_SWAP_NOW, CTRL_FREEZE, CTRL_SRC_PORT, CTRL_LEARN_K, CTRL_WIDTH_NEXT]⟩,
  ⟨0x044, 1, 0, [STATUS_STATE, STATUS_PEND, STATUS_ACT, STATUS_WIDTH, STATUS_FF_SUSP, STATUS_BIN]⟩,
  ⟨0x048, 1, 0, [POS_POS]⟩,
  ⟨0x04c, 1, 0, [LAST_LEN_BEATS]⟩,
  ⟨0x050, 1, 0, [STEPS_COUNT]⟩,
  ⟨0x054, 1, 0, [FF_CFG_LOOK, FF_CFG_SGAIN, FF_CFG_WARM]⟩,
  ⟨0x058, 1, 0, [TRUST_REL, TRUST_MISS, TRUST_ABS]⟩,
  ⟨0x05c, 1, 0, [MIN_GAP_BEATS]⟩,
  ⟨0x060, 1, 0, [IGNORED_COUNT]⟩,
  ⟨0x064, 1, 0, [ACT_SEL_RAIL, ACT_SEL_BIN]⟩,
  ⟨0x068, 1, 0, [ACT_DATA_VALUE]⟩,
  ⟨0x06c, 1, 0, [OVERFLOWS_COUNT]⟩,
  ⟨0x100, 8, 8, [FF_IAHD, FF_PPSTEP]⟩,
  ⟨0x104, 8, 8, [MISS_MISSES, MISS_RUN]⟩]

end STEP

namespace THERM
/-- R328, 13_thermal.md. -/
def CTRL_FAST_FORCE : Fld := ⟨0x17, 0x040, 0, 1, 1, .rw, .priv, [0], 0, 1⟩
/-- R328, 13_thermal.md. -/
def CTRL_XCHK_EN : Fld := ⟨0x17, 0x040, 0, 0, 1, .rw, .priv, [1], 0, 1⟩
/-- R328, 13_thermal.md. -/
def STATUS_RING_FAIL : Fld := ⟨0x17, 0x044, 0, 28, 4, .ro, .priv, [0], 0, 15⟩
/-- R328, 13_thermal.md. -/
def STATUS_CAP : Fld := ⟨0x17, 0x044, 0, 16, 6, .ro, .priv, [63], 0, 63⟩
/-- R328, 13_thermal.md. -/
def STATUS_HOT_ZONE : Fld := ⟨0x17, 0x044, 0, 8, 5, .ro, .priv, [0], 0, 31⟩
/-- R328, 13_thermal.md. -/
def STATUS_LOST_ANY : Fld := ⟨0x17, 0x044, 0, 2, 1, .ro, .priv, [0], 0, 1⟩
/-- R328, 13_thermal.md. -/
def STATUS_ALARM_ANY : Fld := ⟨0x17, 0x044, 0, 1, 1, .ro, .priv, [0], 0, 1⟩
/-- R328, 13_thermal.md. -/
def STATUS_FAST : Fld := ⟨0x17, 0x044, 0, 0, 1, .ro, .priv, [0], 0, 1⟩
/-- R328, 13_thermal.md. -/
def FAST_HOLD : Fld := ⟨0x17, 0x048, 0, 16, 16, .rw, .priv, [256], 1, 65535⟩
/-- R328, 13_thermal.md. -/
def FAST_BAND : Fld := ⟨0x17, 0x048, 0, 0, 16, .rw, .priv, [384], 0, 65535⟩
/-- R328, 13_thermal.md. -/
def XCHK_READMIT : Fld := ⟨0x17, 0x04c, 0, 24, 8, .rw, .priv, [128], 1, 255⟩
/-- R328, 13_thermal.md. -/
def XCHK_COUNT : Fld := ⟨0x17, 0x04c, 0, 16, 8, .rw, .priv, [8], 1, 255⟩
/-- R328, 13_thermal.md. -/
def XCHK_DEV : Fld := ⟨0x17, 0x04c, 0, 0, 16, .rw, .priv, [768], 0, 65535⟩
/-- R328, 13_thermal.md. -/
def ROR_ROR_ACT : Fld := ⟨0x17, 0x050, 0, 16, 16, .rw, .priv, [256], 0, 65535⟩
/-- R328, 13_thermal.md. -/
def ROR_ROR_WARN : Fld := ⟨0x17, 0x050, 0, 0, 16, .rw, .priv, [128], 0, 65535⟩
/-- R328, 13_thermal.md. -/
def ALARM_HYS : Fld := ⟨0x17, 0x054, 0, 16, 16, .rw, .priv, [128], 0, 65535⟩
/-- R328, 13_thermal.md. -/
def ALARM_ROR_STEP : Fld := ⟨0x17, 0x054, 0, 8, 6, .rw, .priv, [4], 1, 63⟩
/-- R328, 13_thermal.md. -/
def ALARM_ALARM_LEVEL : Fld := ⟨0x17, 0x054, 0, 0, 6, .rw, .priv, [16], 0, 63⟩
/-- R328, 13_thermal.md. -/
def RELEASE_MS : Fld := ⟨0x17, 0x058, 0, 0, 16, .rw, .priv, [10], 1, 65535⟩
/-- R328, 13_thermal.md. -/
def HARD_T_LOCK : Fld := ⟨0x17, 0x05c, 0, 31, 1, .rw, .sec, [0], 0, 1⟩
/-- R328, 13_thermal.md. -/
def HARD_T_HARD_RORACT : Fld := ⟨0x17, 0x05c, 0, 16, 12, .rw, .sec, [1024], 0, 4095⟩
/-- R328, 13_thermal.md. -/
def HARD_T_HARD_TTRIP : Fld := ⟨0x17, 0x05c, 0, 0, 16, .rw, .sec, [8000], 0, 65535⟩
/-- R328, 13_thermal.md. -/
def XT_STALE_MS : Fld := ⟨0x17, 0x060, 0, 0, 16, .rw, .priv, [4], 1, 65535⟩
/-- R328, 13_thermal.md. -/
def MEMCAP_SRC : Fld := ⟨0x17, 0x064, 0, 16, 4, .ro, .priv, [0], 0, 15⟩
/-- R328, 13_thermal.md. -/
def MEMCAP_CAP : Fld := ⟨0x17, 0x064, 0, 0, 8, .ro, .priv, [255], 0, 255⟩
/-- R328, 13_thermal.md. -/
def STGMAP_Z3 : Fld := ⟨0x17, 0x068, 4, 24, 6, .rw, .priv, [63], 0, 63⟩
/-- R328, 13_thermal.md. -/
def STGMAP_Z2 : Fld := ⟨0x17, 0x068, 4, 16, 6, .rw, .priv, [63], 0, 63⟩
/-- R328, 13_thermal.md. -/
def STGMAP_Z1 : Fld := ⟨0x17, 0x068, 4, 8, 6, .rw, .priv, [63], 0, 63⟩
/-- R328, 13_thermal.md. -/
def STGMAP_Z0 : Fld := ⟨0x17, 0x068, 4, 0, 6, .rw, .priv, [63], 0, 63⟩
/-- R328, 13_thermal.md. -/
def SENS_SEL_INDEX : Fld := ⟨0x17, 0x070, 0, 0, 9, .rw, .priv, [0], 0, 511⟩
/-- R328, 13_thermal.md. -/
def SENS_DATA_VALID : Fld := ⟨0x17, 0x074, 0, 31, 1, .ro, .priv, [0], 0, 1⟩
/-- R328, 13_thermal.md. -/
def SENS_DATA_EXCL : Fld := ⟨0x17, 0x074, 0, 30, 1, .ro, .priv, [0], 0, 1⟩
/-- R328, 13_thermal.md. -/
def SENS_DATA_XCOUNT : Fld := ⟨0x17, 0x074, 0, 16, 8, .ro, .priv, [0], 0, 255⟩
/-- R328, 13_thermal.md. -/
def SENS_DATA_TEMP : Fld := ⟨0x17, 0x074, 0, 0, 16, .ro, .priv, [0], 0, 65535⟩
/-- R328, 13_thermal.md. -/
def CS_TEMP_TEMP : Fld := ⟨0x17, 0x078, 0, 0, 16, .ro, .priv, [0], 0, 65535⟩
/-- R328, 13_thermal.md. -/
def REFCOMP_G : Fld := ⟨0x17, 0x07c, 0, 0, 32, .ro, .priv, [65536], 0, 4294967295⟩
/-- R328, 13_thermal.md. -/
def RINGERR_SEG3 : Fld := ⟨0x17, 0x080, 0, 24, 8, .ro, .priv, [0], 0, 255⟩
/-- R328, 13_thermal.md. -/
def RINGERR_SEG2 : Fld := ⟨0x17, 0x080, 0, 16, 8, .ro, .priv, [0], 0, 255⟩
/-- R328, 13_thermal.md. -/
def RINGERR_SEG1 : Fld := ⟨0x17, 0x080, 0, 8, 8, .ro, .priv, [0], 0, 255⟩
/-- R328, 13_thermal.md. -/
def RINGERR_SEG0 : Fld := ⟨0x17, 0x080, 0, 0, 8, .ro, .priv, [0], 0, 255⟩
/-- R328, 13_thermal.md. -/
def SQ_FORCE_KEY : Fld := ⟨0x17, 0x088, 0, 0, 32, .wo, .sec, [0], 0, 4294967295⟩
/-- R328, 13_thermal.md. -/
def SQ_STAT_ACTIVE : Fld := ⟨0x17, 0x08c, 0, 31, 1, .rs, .open_, [0], 0, 1⟩
/-- R328, 13_thermal.md. -/
def SQ_STAT_REC_DONE : Fld := ⟨0x17, 0x08c, 0, 30, 1, .rs, .open_, [0], 0, 1⟩
/-- R328, 13_thermal.md. -/
def SQ_STAT_NVFAIL : Fld := ⟨0x17, 0x08c, 0, 29, 1, .rs, .open_, [0], 0, 1⟩
/-- R328, 13_thermal.md. -/
def SQ_STAT_CAUSE : Fld := ⟨0x17, 0x08c, 0, 24, 4, .rs, .open_, [0], 0, 15⟩
/-- R328, 13_thermal.md. -/
def SQ_STAT_TRIGMASK : Fld := ⟨0x17, 0x08c, 0, 16, 4, .rs, .open_, [0], 0, 15⟩
/-- R328, 13_thermal.md. -/
def INPUTS_PROCHOT : Fld := ⟨0x17, 0x090, 0, 1, 1, .rs, .open_, [0], 0, 1⟩
/-- R328, 13_thermal.md. -/
def INPUTS_COOLANT : Fld := ⟨0x17, 0x090, 0, 0, 1, .rs, .open_, [0], 0, 1⟩
/-- R328, 13_thermal.md. -/
def CRIT_HEAD_VALID : Fld := ⟨0x17, 0x094, 0, 31, 1, .rw, .sec, [0], 0, 1⟩
/-- R328, 13_thermal.md. -/
def CRIT_HEAD_SLOT : Fld := ⟨0x17, 0x094, 0, 0, 6, .rw, .sec, [0], 0, 62⟩
/-- R328, 13_thermal.md. -/
def CRIT_SEQ_SEQ : Fld := ⟨0x17, 0x098, 0, 0, 32, .rw, .sec, [0], 0, 4294967295⟩
/-- R328, 13_thermal.md. -/
def CRIT_IDX_DONE : Fld := ⟨0x17, 0x09c, 0, 31, 1, .wo, .sec, [0], 0, 1⟩
/-- R328, 13_thermal.md. -/
def CRIT_IDX_IDX : Fld := ⟨0x17, 0x09c, 0, 0, 4, .rw, .sec, [0], 0, 15⟩
/-- R328, 13_thermal.md. -/
def CRIT_WDATA_DATA : Fld := ⟨0x17, 0x0a0, 0, 0, 32, .wo, .sec, [0], 0, 4294967295⟩
/-- R328, 13_thermal.md. -/
def CRITSTAT_VALID : Fld := ⟨0x17, 0x0a4, 0, 31, 1, .ro, .priv, [0], 0, 1⟩
/-- R328, 13_thermal.md. -/
def CRITREC_WORD : Fld := ⟨0x17, 0x0c0, 4, 0, 32, .ro, .priv, [0], 0, 4294967295⟩
/-- R328, 13_thermal.md. -/
def ZLIM_T_ALARM : Fld := ⟨0x17, 0x100, 16, 16, 16, .rw, .priv, [6720], 0, 65535⟩
/-- R328, 13_thermal.md. -/
def ZLIM_T_CTRL : Fld := ⟨0x17, 0x100, 16, 0, 16, .rw, .priv, [6080], 0, 65535⟩
/-- R328, 13_thermal.md. -/
def ZTRIP_T_TRIP : Fld := ⟨0x17, 0x104, 16, 0, 16, .rw, .priv, [7360], 0, 65535⟩
/-- R328, 13_thermal.md. -/
def ZMAP_CH : Fld := ⟨0x17, 0x108, 16, 0, 32, .rw, .priv, [0], 0, 4294967295⟩
/-- R328, 13_thermal.md. -/
def ZSTAT_LOST : Fld := ⟨0x17, 0x10c, 16, 31, 1, .ro, .priv, [0], 0, 1⟩
/-- R328, 13_thermal.md. -/
def ZSTAT_IDLE : Fld := ⟨0x17, 0x10c, 16, 30, 1, .ro, .priv, [0], 0, 1⟩
/-- R328, 13_thermal.md. -/
def ZSTAT_ALARM : Fld := ⟨0x17, 0x10c, 16, 29, 1, .ro, .priv, [0], 0, 1⟩
/-- R328, 13_thermal.md. -/
def ZSTAT_SRC : Fld := ⟨0x17, 0x10c, 16, 16, 10, .ro, .priv, [0], 0, 1023⟩
/-- R328, 13_thermal.md. -/
def ZSTAT_MAX : Fld := ⟨0x17, 0x10c, 16, 0, 16, .ro, .priv, [0], 0, 65535⟩
/-- R328, 13_thermal.md. -/
def ZROR_ROR : Fld := ⟨0x17, 0x300, 4, 0, 16, .ro, .priv, [0], 0, 65535⟩
/-- R328, 13_thermal.md. -/
def XTCFG_MEM : Fld := ⟨0x17, 0x380, 8, 31, 1, .rw, .priv, [0], 0, 1⟩
/-- R328, 13_thermal.md. -/
def XTCFG_ZONE : Fld := ⟨0x17, 0x380, 8, 24, 6, .rw, .priv, [63], 0, 63⟩
/-- R328, 13_thermal.md. -/
def XTCFG_FLOOR : Fld := ⟨0x17, 0x380, 8, 0, 8, .rw, .priv, [63], 0, 255⟩
/-- R328, 13_thermal.md. -/
def XTMEM_T1 : Fld := ⟨0x17, 0x384, 8, 16, 16, .rw, .priv, [6080], 0, 65535⟩
/-- R328, 13_thermal.md. -/
def XTMEM_T0 : Fld := ⟨0x17, 0x384, 8, 0, 16, .rw, .priv, [5440], 0, 65535⟩
/-- R328, 13_thermal.md. -/
def EXCL_EXCL : Fld := ⟨0x17, 0x400, 4, 0, 32, .ro, .priv, [0], 0, 4294967295⟩
/-- R328, 13_thermal.md. -/
def INVAL_INVAL : Fld := ⟨0x17, 0x420, 4, 0, 32, .ro, .priv, [0], 0, 4294967295⟩
/-- The registers of page THERM. -/
def regs : List Reg := [
  ⟨0x040, 1, 0, [CTRL_FAST_FORCE, CTRL_XCHK_EN]⟩,
  ⟨0x044, 1, 0, [STATUS_RING_FAIL, STATUS_CAP, STATUS_HOT_ZONE, STATUS_LOST_ANY, STATUS_ALARM_ANY, STATUS_FAST]⟩,
  ⟨0x048, 1, 0, [FAST_HOLD, FAST_BAND]⟩,
  ⟨0x04c, 1, 0, [XCHK_READMIT, XCHK_COUNT, XCHK_DEV]⟩,
  ⟨0x050, 1, 0, [ROR_ROR_ACT, ROR_ROR_WARN]⟩,
  ⟨0x054, 1, 0, [ALARM_HYS, ALARM_ROR_STEP, ALARM_ALARM_LEVEL]⟩,
  ⟨0x058, 1, 0, [RELEASE_MS]⟩,
  ⟨0x05c, 1, 0, [HARD_T_LOCK, HARD_T_HARD_RORACT, HARD_T_HARD_TTRIP]⟩,
  ⟨0x060, 1, 0, [XT_STALE_MS]⟩,
  ⟨0x064, 1, 0, [MEMCAP_SRC, MEMCAP_CAP]⟩,
  ⟨0x068, 2, 4, [STGMAP_Z3, STGMAP_Z2, STGMAP_Z1, STGMAP_Z0]⟩,
  ⟨0x070, 1, 0, [SENS_SEL_INDEX]⟩,
  ⟨0x074, 1, 0, [SENS_DATA_VALID, SENS_DATA_EXCL, SENS_DATA_XCOUNT, SENS_DATA_TEMP]⟩,
  ⟨0x078, 1, 0, [CS_TEMP_TEMP]⟩,
  ⟨0x07c, 1, 0, [REFCOMP_G]⟩,
  ⟨0x080, 1, 0, [RINGERR_SEG3, RINGERR_SEG2, RINGERR_SEG1, RINGERR_SEG0]⟩,
  ⟨0x088, 1, 0, [SQ_FORCE_KEY]⟩,
  ⟨0x08c, 1, 0, [SQ_STAT_ACTIVE, SQ_STAT_REC_DONE, SQ_STAT_NVFAIL, SQ_STAT_CAUSE, SQ_STAT_TRIGMASK]⟩,
  ⟨0x090, 1, 0, [INPUTS_PROCHOT, INPUTS_COOLANT]⟩,
  ⟨0x094, 1, 0, [CRIT_HEAD_VALID, CRIT_HEAD_SLOT]⟩,
  ⟨0x098, 1, 0, [CRIT_SEQ_SEQ]⟩,
  ⟨0x09c, 1, 0, [CRIT_IDX_DONE, CRIT_IDX_IDX]⟩,
  ⟨0x0a0, 1, 0, [CRIT_WDATA_DATA]⟩,
  ⟨0x0a4, 1, 0, [CRITSTAT_VALID]⟩,
  ⟨0x0c0, 16, 4, [CRITREC_WORD]⟩,
  ⟨0x100, 32, 16, [ZLIM_T_ALARM, ZLIM_T_CTRL]⟩,
  ⟨0x104, 32, 16, [ZTRIP_T_TRIP]⟩,
  ⟨0x108, 32, 16, [ZMAP_CH]⟩,
  ⟨0x10c, 32, 16, [ZSTAT_LOST, ZSTAT_IDLE, ZSTAT_ALARM, ZSTAT_SRC, ZSTAT_MAX]⟩,
  ⟨0x300, 32, 4, [ZROR_ROR]⟩,
  ⟨0x380, 16, 8, [XTCFG_MEM, XTCFG_ZONE, XTCFG_FLOOR]⟩,
  ⟨0x384, 16, 8, [XTMEM_T1, XTMEM_T0]⟩,
  ⟨0x400, 8, 4, [EXCL_EXCL]⟩,
  ⟨0x420, 8, 4, [INVAL_INVAL]⟩]

end THERM

namespace ISOBAR
/-- R352, 14_isobar.md. -/
def CTRL_POLICY : Fld := ⟨0x18, 0x040, 0, 1, 1, .rw, .priv, [0], 0, 1⟩
/-- R352, 14_isobar.md. -/
def CTRL_JOIN : Fld := ⟨0x18, 0x040, 0, 0, 1, .rw, .priv, [0], 0, 1⟩
/-- R352, 14_isobar.md. -/
def GROUP_ID : Fld := ⟨0x18, 0x044, 0, 0, 32, .rw, .priv, [0], 0, 4294967295⟩
/-- R352, 14_isobar.md. -/
def EPOCH_COUNT_EPOCH : Fld := ⟨0x18, 0x048, 0, 16, 16, .rw, .priv, [0], 0, 65535⟩
/-- R352, 14_isobar.md. -/
def EPOCH_COUNT_COUNT : Fld := ⟨0x18, 0x048, 0, 0, 15, .rw, .priv, [1], 1, 16384⟩
/-- R352, 14_isobar.md. -/
def INDEX_INDEX : Fld := ⟨0x18, 0x04c, 0, 0, 14, .rw, .priv, [0], 0, 16383⟩
/-- R352, 14_isobar.md. -/
def FAB_CLASS_CLASS : Fld := ⟨0x18, 0x050, 0, 0, 4, .rw, .priv, [0], 0, 15⟩
/-- R352, 14_isobar.md. -/
def RED_ADDR_ADDR : Fld := ⟨0x18, 0x054, 0, 0, 32, .rw, .priv, [0], 0, 4294967295⟩
/-- R352, 14_isobar.md. -/
def BCAST_ADDR_ADDR : Fld := ⟨0x18, 0x058, 0, 0, 32, .rw, .priv, [0], 0, 4294967295⟩
/-- R352, 14_isobar.md. -/
def PARENT_ADDR_ADDR : Fld := ⟨0x18, 0x05c, 0, 0, 32, .rw, .priv, [0], 0, 4294967295⟩
/-- R352, 14_isobar.md. -/
def APPLY_BEAT : Fld := ⟨0x18, 0x060, 0, 0, 32, .rw, .priv, [0], 0, 4294967295⟩
/-- R352, 14_isobar.md. -/
def APPLY_CTRL_GO : Fld := ⟨0x18, 0x064, 0, 31, 1, .wo, .priv, [0], 0, 1⟩
/-- R352, 14_isobar.md. -/
def APPLY_CTRL_PEND : Fld := ⟨0x18, 0x064, 0, 0, 1, .ro, .priv, [0], 0, 1⟩
/-- R352, 14_isobar.md. -/
def ROUND_CFG_RISE_SLOTS : Fld := ⟨0x18, 0x068, 0, 24, 8, .rw, .priv, [125], 1, 255⟩
/-- R352, 14_isobar.md. -/
def ROUND_CFG_FB_DEADLINE : Fld := ⟨0x18, 0x068, 0, 16, 8, .rw, .priv, [96], 16, 127⟩
/-- R352, 14_isobar.md. -/
def ROUND_CFG_FB_ARITY : Fld := ⟨0x18, 0x068, 0, 8, 5, .rw, .priv, [16], 2, 16⟩
/-- R352, 14_isobar.md. -/
def ROUND_CFG_DEADLINE : Fld := ⟨0x18, 0x068, 0, 0, 4, .rw, .priv, [12], 2, 15⟩
/-- R352, 14_isobar.md. -/
def DROP_CFG_MARGIN : Fld := ⟨0x18, 0x06c, 0, 16, 16, .rw, .priv, [40], 0, 65535⟩
/-- R352, 14_isobar.md. -/
def DROP_CFG_HOLDOFF : Fld := ⟨0x18, 0x06c, 0, 8, 8, .rw, .priv, [8], 1, 255⟩
/-- R352, 14_isobar.md. -/
def DROP_CFG_LATE : Fld := ⟨0x18, 0x06c, 0, 4, 4, .rw, .priv, [3], 0, 7⟩
/-- R352, 14_isobar.md. -/
def DROP_CFG_LEAD : Fld := ⟨0x18, 0x06c, 0, 0, 4, .rw, .priv, [8], 4, 12⟩
/-- R352, 14_isobar.md. -/
def STATUS_ACT_EPOCH : Fld := ⟨0x18, 0x070, 0, 16, 16, .ro, .priv, [0], 0, 65535⟩
/-- R352, 14_isobar.md. -/
def STATUS_MISRUN : Fld := ⟨0x18, 0x070, 0, 10, 2, .ro, .priv, [0], 0, 3⟩
/-- R352, 14_isobar.md. -/
def STATUS_RISE_OK : Fld := ⟨0x18, 0x070, 0, 9, 1, .ro, .priv, [0], 0, 1⟩
/-- R352, 14_isobar.md. -/
def STATUS_MODE : Fld := ⟨0x18, 0x070, 0, 8, 1, .ro, .priv, [0], 0, 1⟩
/-- R352, 14_isobar.md. -/
def STATUS_STATE : Fld := ⟨0x18, 0x070, 0, 0, 3, .ro, .open_, [0], 0, 7⟩
/-- R352, 14_isobar.md. -/
def ACT_GROUP_ID : Fld := ⟨0x18, 0x074, 0, 0, 32, .ro, .priv, [0], 0, 4294967295⟩
/-- R352, 14_isobar.md. -/
def CEIL_AGREED : Fld := ⟨0x18, 0x078, 0, 16, 16, .ro, .open_, [65535], 0, 65535⟩
/-- R352, 14_isobar.md. -/
def CEIL_SENT : Fld := ⟨0x18, 0x078, 0, 0, 16, .ro, .priv, [0], 0, 65535⟩
/-- R352, 14_isobar.md. -/
def PEND_RES_CEIL : Fld := ⟨0x18, 0x07c, 0, 16, 16, .ro, .priv, [0], 0, 65535⟩
/-- R352, 14_isobar.md. -/
def PEND_RES_VALID : Fld := ⟨0x18, 0x07c, 0, 0, 1, .ro, .priv, [0], 0, 1⟩
/-- R352, 14_isobar.md. -/
def LAST_RES_CEIL : Fld := ⟨0x18, 0x080, 0, 16, 16, .ro, .priv, [0], 0, 65535⟩
/-- R352, 14_isobar.md. -/
def LAST_RES_ARGMIN : Fld := ⟨0x18, 0x080, 0, 0, 14, .ro, .priv, [0], 0, 16383⟩
/-- R352, 14_isobar.md. -/
def LAST_RES_INFO_CAUSE : Fld := ⟨0x18, 0x084, 0, 24, 8, .ro, .priv, [0], 0, 255⟩
/-- R352, 14_isobar.md. -/
def LAST_RES_INFO_CONTRIB : Fld := ⟨0x18, 0x084, 0, 0, 15, .ro, .priv, [0], 0, 32767⟩
/-- R352, 14_isobar.md. -/
def EXPECT_ABSENT_N : Fld := ⟨0x18, 0x088, 0, 16, 16, .ro, .priv, [0], 0, 65535⟩
/-- R352, 14_isobar.md. -/
def EXPECT_EXPECT : Fld := ⟨0x18, 0x088, 0, 0, 15, .ro, .priv, [0], 0, 32767⟩
/-- R352, 14_isobar.md. -/
def ABSENT_LAST : Fld := ⟨0x18, 0x08c, 0, 0, 16, .ro, .priv, [65535], 0, 65535⟩
/-- R352, 14_isobar.md. -/
def LAST_DROP_CEIL : Fld := ⟨0x18, 0x090, 0, 16, 16, .ro, .priv, [0], 0, 65535⟩
/-- R352, 14_isobar.md. -/
def LAST_DROP_ORIGIN : Fld := ⟨0x18, 0x090, 0, 0, 14, .ro, .priv, [0], 0, 16383⟩
/-- R352, 14_isobar.md. -/
def DROP_INFO_LATE : Fld := ⟨0x18, 0x094, 0, 9, 1, .ro, .priv, [0], 0, 1⟩
/-- R352, 14_isobar.md. -/
def DROP_INFO_ROUND : Fld := ⟨0x18, 0x094, 0, 8, 1, .ro, .priv, [0], 0, 1⟩
/-- R352, 14_isobar.md. -/
def DROP_INFO_CAUSE : Fld := ⟨0x18, 0x094, 0, 0, 8, .ro, .priv, [0], 0, 255⟩
/-- R352, 14_isobar.md. -/
def THROTTLE_COUNT : Fld := ⟨0x18, 0x098, 0, 0, 32, .ro, .priv, [0], 0, 4294967295⟩
/-- R352, 14_isobar.md. -/
def DROPS_SENT_COUNT : Fld := ⟨0x18, 0x09c, 0, 0, 32, .ro, .priv, [0], 0, 4294967295⟩
/-- R352, 14_isobar.md. -/
def ROUNDS_COUNT : Fld := ⟨0x18, 0x0a0, 0, 0, 32, .ro, .priv, [0], 0, 4294967295⟩
/-- R352, 14_isobar.md. -/
def ERR0_TIMEOUTS : Fld := ⟨0x18, 0x0a4, 0, 16, 16, .ro, .priv, [0], 0, 65535⟩
/-- R352, 14_isobar.md. -/
def ERR0_MISMATCHES : Fld := ⟨0x18, 0x0a4, 0, 0, 16, .ro, .priv, [0], 0, 65535⟩
/-- R352, 14_isobar.md. -/
def ERR1_PARTIALS : Fld := ⟨0x18, 0x0a8, 0, 16, 16, .ro, .priv, [0], 0, 65535⟩
/-- R352, 14_isobar.md. -/
def ERR1_CHECKS : Fld := ⟨0x18, 0x0a8, 0, 0, 16, .ro, .priv, [0], 0, 65535⟩
/-- R352, 14_isobar.md. -/
def ERR2_LATE_RX : Fld := ⟨0x18, 0x0ac, 0, 16, 16, .ro, .priv, [0], 0, 65535⟩
/-- R352, 14_isobar.md. -/
def ERR2_RX_BAD : Fld := ⟨0x18, 0x0ac, 0, 0, 16, .ro, .priv, [0], 0, 65535⟩
/-- R352, 14_isobar.md. -/
def PROBE_NOSLOTS : Fld := ⟨0x18, 0x0b0, 0, 16, 16, .ro, .priv, [0], 0, 65535⟩
/-- R352, 14_isobar.md. -/
def PROBE_RUN : Fld := ⟨0x18, 0x0b0, 0, 0, 16, .ro, .priv, [0], 0, 65535⟩
/-- R352, 14_isobar.md. -/
def FB_STAT_H : Fld := ⟨0x18, 0x0b4, 0, 24, 8, .ro, .priv, [0], 0, 255⟩
/-- R352, 14_isobar.md. -/
def FB_STAT_STEP : Fld := ⟨0x18, 0x0b4, 0, 16, 8, .ro, .priv, [0], 0, 255⟩
/-- R352, 14_isobar.md. -/
def FB_STAT_DEPTH : Fld := ⟨0x18, 0x0b4, 0, 8, 8, .ro, .priv, [0], 0, 255⟩
/-- R352, 14_isobar.md. -/
def FB_STAT_CHILDREN : Fld := ⟨0x18, 0x0b4, 0, 0, 5, .ro, .priv, [0], 0, 31⟩
/-- R352, 14_isobar.md. -/
def JOB_ENERGY_LO_ENERGY : Fld := ⟨0x18, 0x0b8, 0, 0, 32, .ro, .priv, [0], 0, 4294967295⟩
/-- R352, 14_isobar.md. -/
def JOB_ENERGY_HI_ENERGY : Fld := ⟨0x18, 0x0bc, 0, 0, 32, .ro, .priv, [0], 0, 4294967295⟩
/-- R352, 14_isobar.md. -/
def JOB_INFO_PARTIAL : Fld := ⟨0x18, 0x0c0, 0, 31, 1, .ro, .priv, [0], 0, 1⟩
/-- R352, 14_isobar.md. -/
def JOB_INFO_CONTRIB : Fld := ⟨0x18, 0x0c0, 0, 0, 15, .ro, .priv, [0], 0, 32767⟩
/-- R352, 14_isobar.md. -/
def CHILD_ADDR_ADDR : Fld := ⟨0x18, 0x100, 4, 0, 32, .rw, .priv, [0], 0, 4294967295⟩
/-- The registers of page ISOBAR. -/
def regs : List Reg := [
  ⟨0x040, 1, 0, [CTRL_POLICY, CTRL_JOIN]⟩,
  ⟨0x044, 1, 0, [GROUP_ID]⟩,
  ⟨0x048, 1, 0, [EPOCH_COUNT_EPOCH, EPOCH_COUNT_COUNT]⟩,
  ⟨0x04c, 1, 0, [INDEX_INDEX]⟩,
  ⟨0x050, 1, 0, [FAB_CLASS_CLASS]⟩,
  ⟨0x054, 1, 0, [RED_ADDR_ADDR]⟩,
  ⟨0x058, 1, 0, [BCAST_ADDR_ADDR]⟩,
  ⟨0x05c, 1, 0, [PARENT_ADDR_ADDR]⟩,
  ⟨0x060, 1, 0, [APPLY_BEAT]⟩,
  ⟨0x064, 1, 0, [APPLY_CTRL_GO, APPLY_CTRL_PEND]⟩,
  ⟨0x068, 1, 0, [ROUND_CFG_RISE_SLOTS, ROUND_CFG_FB_DEADLINE, ROUND_CFG_FB_ARITY, ROUND_CFG_DEADLINE]⟩,
  ⟨0x06c, 1, 0, [DROP_CFG_MARGIN, DROP_CFG_HOLDOFF, DROP_CFG_LATE, DROP_CFG_LEAD]⟩,
  ⟨0x070, 1, 0, [STATUS_ACT_EPOCH, STATUS_MISRUN, STATUS_RISE_OK, STATUS_MODE, STATUS_STATE]⟩,
  ⟨0x074, 1, 0, [ACT_GROUP_ID]⟩,
  ⟨0x078, 1, 0, [CEIL_AGREED, CEIL_SENT]⟩,
  ⟨0x07c, 1, 0, [PEND_RES_CEIL, PEND_RES_VALID]⟩,
  ⟨0x080, 1, 0, [LAST_RES_CEIL, LAST_RES_ARGMIN]⟩,
  ⟨0x084, 1, 0, [LAST_RES_INFO_CAUSE, LAST_RES_INFO_CONTRIB]⟩,
  ⟨0x088, 1, 0, [EXPECT_ABSENT_N, EXPECT_EXPECT]⟩,
  ⟨0x08c, 1, 0, [ABSENT_LAST]⟩,
  ⟨0x090, 1, 0, [LAST_DROP_CEIL, LAST_DROP_ORIGIN]⟩,
  ⟨0x094, 1, 0, [DROP_INFO_LATE, DROP_INFO_ROUND, DROP_INFO_CAUSE]⟩,
  ⟨0x098, 1, 0, [THROTTLE_COUNT]⟩,
  ⟨0x09c, 1, 0, [DROPS_SENT_COUNT]⟩,
  ⟨0x0a0, 1, 0, [ROUNDS_COUNT]⟩,
  ⟨0x0a4, 1, 0, [ERR0_TIMEOUTS, ERR0_MISMATCHES]⟩,
  ⟨0x0a8, 1, 0, [ERR1_PARTIALS, ERR1_CHECKS]⟩,
  ⟨0x0ac, 1, 0, [ERR2_LATE_RX, ERR2_RX_BAD]⟩,
  ⟨0x0b0, 1, 0, [PROBE_NOSLOTS, PROBE_RUN]⟩,
  ⟨0x0b4, 1, 0, [FB_STAT_H, FB_STAT_STEP, FB_STAT_DEPTH, FB_STAT_CHILDREN]⟩,
  ⟨0x0b8, 1, 0, [JOB_ENERGY_LO_ENERGY]⟩,
  ⟨0x0bc, 1, 0, [JOB_ENERGY_HI_ENERGY]⟩,
  ⟨0x0c0, 1, 0, [JOB_INFO_PARTIAL, JOB_INFO_CONTRIB]⟩,
  ⟨0x100, 16, 4, [CHILD_ADDR_ADDR]⟩]

end ISOBAR

namespace DRIZZLE
/-- R367, 15_drizzle.md. -/
def CTRL_HEAD : Fld := ⟨0x19, 0x040, 0, 8, 8, .rw, .priv, [64], 0, 255⟩
/-- R367, 15_drizzle.md. -/
def CTRL_IDLE_EN : Fld := ⟨0x19, 0x040, 0, 1, 1, .rw, .priv, [0], 0, 1⟩
/-- R367, 15_drizzle.md. -/
def CTRL_EN : Fld := ⟨0x19, 0x040, 0, 0, 1, .rw, .priv, [0], 0, 1⟩
/-- R367, 15_drizzle.md. -/
def ACT_FULL : Fld := ⟨0x19, 0x044, 0, 0, 16, .rw, .priv, [0], 0, 65535⟩
/-- R367, 15_drizzle.md. -/
def IDLE_BEATS : Fld := ⟨0x19, 0x048, 0, 16, 8, .rw, .priv, [16], 1, 255⟩
/-- R367, 15_drizzle.md. -/
def IDLE_COUNT : Fld := ⟨0x19, 0x048, 0, 0, 16, .rw, .priv, [0], 0, 65535⟩
/-- R367, 15_drizzle.md. -/
def DZ_WAIT_MAX : Fld := ⟨0x19, 0x04c, 0, 0, 16, .rw, .priv, [50], 1, 65535⟩
/-- R367, 15_drizzle.md. -/
def PRERAMP_BEAT : Fld := ⟨0x19, 0x050, 0, 0, 32, .rw, .priv, [0], 0, 4294967295⟩
/-- R367, 15_drizzle.md. -/
def PRERAMP_CTRL_GO : Fld := ⟨0x19, 0x054, 0, 31, 1, .wo, .priv, [0], 0, 1⟩
/-- R367, 15_drizzle.md. -/
def PRERAMP_CTRL_PEND : Fld := ⟨0x19, 0x054, 0, 30, 1, .ro, .priv, [0], 0, 1⟩
/-- R367, 15_drizzle.md. -/
def PRERAMP_CTRL_HOLD_MS : Fld := ⟨0x19, 0x054, 0, 16, 8, .rw, .priv, [10], 1, 255⟩
/-- R367, 15_drizzle.md. -/
def PRERAMP_CTRL_LEVEL : Fld := ⟨0x19, 0x054, 0, 0, 8, .rw, .priv, [0], 1, 255⟩
/-- R367, 15_drizzle.md. -/
def PRERAMP_MASK_CH : Fld := ⟨0x19, 0x058, 0, 0, 32, .rw, .priv, [0], 0, 4294967295⟩
/-- R367, 15_drizzle.md. -/
def ENTRIES_COUNT : Fld := ⟨0x19, 0x060, 0, 0, 32, .ro, .priv, [0], 0, 4294967295⟩
/-- R367, 15_drizzle.md. -/
def FILL_BEATS_COUNT : Fld := ⟨0x19, 0x064, 0, 0, 32, .ro, .priv, [0], 0, 4294967295⟩
/-- R367, 15_drizzle.md. -/
def HELD_COUNT : Fld := ⟨0x19, 0x068, 0, 0, 32, .ro, .priv, [0], 0, 4294967295⟩
/-- R367, 15_drizzle.md. -/
def CL_CFG_FULL_UNITS : Fld := ⟨0x19, 0x100, 8, 0, 16, .rw, .priv, [0], 0, 65535⟩
/-- R367, 15_drizzle.md. -/
def CL_STAT_STATE : Fld := ⟨0x19, 0x104, 8, 30, 2, .ro, .priv, [0], 0, 3⟩
/-- R367, 15_drizzle.md. -/
def CL_STAT_ENV : Fld := ⟨0x19, 0x104, 8, 16, 8, .ro, .priv, [0], 0, 255⟩
/-- R367, 15_drizzle.md. -/
def CL_STAT_WAITING : Fld := ⟨0x19, 0x104, 8, 8, 8, .ro, .priv, [0], 0, 255⟩
/-- R367, 15_drizzle.md. -/
def CL_STAT_FILL : Fld := ⟨0x19, 0x104, 8, 0, 8, .ro, .priv, [0], 0, 255⟩
/-- The registers of page DRIZZLE. -/
def regs : List Reg := [
  ⟨0x040, 1, 0, [CTRL_HEAD, CTRL_IDLE_EN, CTRL_EN]⟩,
  ⟨0x044, 1, 0, [ACT_FULL]⟩,
  ⟨0x048, 1, 0, [IDLE_BEATS, IDLE_COUNT]⟩,
  ⟨0x04c, 1, 0, [DZ_WAIT_MAX]⟩,
  ⟨0x050, 1, 0, [PRERAMP_BEAT]⟩,
  ⟨0x054, 1, 0, [PRERAMP_CTRL_GO, PRERAMP_CTRL_PEND, PRERAMP_CTRL_HOLD_MS, PRERAMP_CTRL_LEVEL]⟩,
  ⟨0x058, 1, 0, [PRERAMP_MASK_CH]⟩,
  ⟨0x060, 1, 0, [ENTRIES_COUNT]⟩,
  ⟨0x064, 1, 0, [FILL_BEATS_COUNT]⟩,
  ⟨0x068, 1, 0, [HELD_COUNT]⟩,
  ⟨0x100, 32, 8, [CL_CFG_FULL_UNITS]⟩,
  ⟨0x104, 32, 8, [CL_STAT_STATE, CL_STAT_ENV, CL_STAT_WAITING, CL_STAT_FILL]⟩]

end DRIZZLE

namespace BUDGET
/-- R397, 16_budget_ledger.md. -/
def GRANT0_VALID_MS : Fld := ⟨0x1a, 0x040, 0, 16, 16, .rw, .priv, [0], 1, 65535⟩
/-- R397, 16_budget_ledger.md. -/
def GRANT0_WATTS : Fld := ⟨0x1a, 0x040, 0, 0, 16, .rw, .priv, [0], 0, 65535⟩
/-- R397, 16_budget_ledger.md. -/
def GRANT1_SEQ : Fld := ⟨0x1a, 0x044, 0, 0, 16, .rw, .priv, [0], 0, 65535⟩
/-- R397, 16_budget_ledger.md. -/
def GRANT_STAT_SEQ : Fld := ⟨0x1a, 0x048, 0, 16, 16, .ro, .priv, [0], 0, 65535⟩
/-- R397, 16_budget_ledger.md. -/
def GRANT_STAT_IN_FORCE : Fld := ⟨0x1a, 0x048, 0, 15, 1, .ro, .priv, [0], 0, 1⟩
/-- R397, 16_budget_ledger.md. -/
def GRANT_STAT_PENDING : Fld := ⟨0x1a, 0x048, 0, 14, 1, .ro, .priv, [0], 0, 1⟩
/-- R397, 16_budget_ledger.md. -/
def GRANT_STAT_LAST : Fld := ⟨0x1a, 0x048, 0, 12, 2, .ro, .priv, [0], 0, 3⟩
/-- R397, 16_budget_ledger.md. -/
def GRANT_LEFT_MS : Fld := ⟨0x1a, 0x04c, 0, 0, 16, .ro, .priv, [0], 0, 65535⟩
/-- R397, 16_budget_ledger.md. -/
def P_GRANT_P_GRANT : Fld := ⟨0x1a, 0x050, 0, 0, 16, .ro, .priv, [48000], 0, 65535⟩
/-- R397, 16_budget_ledger.md. -/
def FLOOR_FLOOR : Fld := ⟨0x1a, 0x054, 0, 0, 16, .rw, .priv, [48000], 0, 65535⟩
/-- R397, 16_budget_ledger.md. -/
def HARD_GRANT_LOCK : Fld := ⟨0x1a, 0x058, 0, 31, 1, .rw, .sec, [0], 0, 1⟩
/-- R397, 16_budget_ledger.md. -/
def HARD_GRANT_HARD_GRANT : Fld := ⟨0x1a, 0x058, 0, 0, 16, .rw, .sec, [48000], 0, 65535⟩
/-- R397, 16_budget_ledger.md. -/
def ASK_CFG_STEP : Fld := ⟨0x1a, 0x05c, 0, 16, 16, .rw, .priv, [1600], 0, 65535⟩
/-- R397, 16_budget_ledger.md. -/
def ASK_CFG_HEAD : Fld := ⟨0x1a, 0x05c, 0, 0, 16, .rw, .priv, [800], 0, 65535⟩
/-- R397, 16_budget_ledger.md. -/
def ASK_SEQ : Fld := ⟨0x1a, 0x060, 0, 16, 16, .ro, .priv, [0], 0, 65535⟩
/-- R397, 16_budget_ledger.md. -/
def ASK_W : Fld := ⟨0x1a, 0x060, 0, 0, 16, .ro, .priv, [0], 0, 65535⟩
/-- R397, 16_budget_ledger.md. -/
def PMB_CFG_EN : Fld := ⟨0x1a, 0x070, 0, 31, 1, .rw, .priv, [0], 0, 1⟩
/-- R397, 16_budget_ledger.md. -/
def PMB_CFG_SPEED : Fld := ⟨0x1a, 0x070, 0, 8, 2, .rw, .priv, [1], 0, 2⟩
/-- R397, 16_budget_ledger.md. -/
def PMB_CFG_PERIOD : Fld := ⟨0x1a, 0x070, 0, 0, 8, .rw, .priv, [2], 1, 255⟩
/-- R397, 16_budget_ledger.md. -/
def PMB_DEV_EN : Fld := ⟨0x1a, 0x074, 4, 31, 1, .rw, .priv, [0], 0, 1⟩
/-- R397, 16_budget_ledger.md. -/
def PMB_DEV_PAGED : Fld := ⟨0x1a, 0x074, 4, 30, 1, .rw, .priv, [0], 0, 1⟩
/-- R397, 16_budget_ledger.md. -/
def PMB_DEV_PAGE : Fld := ⟨0x1a, 0x074, 4, 8, 8, .rw, .priv, [0], 0, 255⟩
/-- R397, 16_budget_ledger.md. -/
def PMB_DEV_ADDR : Fld := ⟨0x1a, 0x074, 4, 0, 7, .rw, .priv, [0], 0, 127⟩
/-- R397, 16_budget_ledger.md. -/
def PMB_PIN_PIN : Fld := ⟨0x1a, 0x080, 16, 0, 32, .ro, .priv, [0], 0, 4294967295⟩
/-- R397, 16_budget_ledger.md. -/
def PMB_VI_IIN : Fld := ⟨0x1a, 0x084, 16, 16, 16, .ro, .priv, [0], 0, 65535⟩
/-- R397, 16_budget_ledger.md. -/
def PMB_VI_VIN : Fld := ⟨0x1a, 0x084, 16, 0, 16, .ro, .priv, [0], 0, 65535⟩
/-- R397, 16_budget_ledger.md. -/
def PMB_ST_STATUS_WORD : Fld := ⟨0x1a, 0x088, 16, 16, 16, .ro, .priv, [0], 0, 65535⟩
/-- R397, 16_budget_ledger.md. -/
def PMB_ST_STATUS_INPUT : Fld := ⟨0x1a, 0x088, 16, 8, 8, .ro, .priv, [0], 0, 255⟩
/-- R397, 16_budget_ledger.md. -/
def PMB_ST_REVISION : Fld := ⟨0x1a, 0x088, 16, 0, 8, .ro, .priv, [0], 0, 255⟩
/-- R397, 16_budget_ledger.md. -/
def CARD_PIN_PIN : Fld := ⟨0x1a, 0x0a0, 0, 0, 32, .ro, .priv, [0], 0, 4294967295⟩
/-- R397, 16_budget_ledger.md. -/
def PMB_ERR_FAILED : Fld := ⟨0x1a, 0x0a4, 0, 16, 16, .ro, .priv, [0], 0, 65535⟩
/-- R397, 16_budget_ledger.md. -/
def PMB_ERR_TIMEOUTS : Fld := ⟨0x1a, 0x0a4, 0, 0, 16, .ro, .priv, [0], 0, 65535⟩
/-- R397, 16_budget_ledger.md. -/
def PMB_STAT_LAST_OK : Fld := ⟨0x1a, 0x0a8, 0, 31, 1, .ro, .priv, [0], 0, 1⟩
/-- R397, 16_budget_ledger.md. -/
def PMB_STAT_ALERT_ADDR : Fld := ⟨0x1a, 0x0a8, 0, 16, 7, .ro, .priv, [0], 0, 127⟩
/-- R397, 16_budget_ledger.md. -/
def PMB_STAT_ALERTS : Fld := ⟨0x1a, 0x0a8, 0, 0, 16, .ro, .priv, [0], 0, 65535⟩
/-- The registers of page BUDGET. -/
def regs : List Reg := [
  ⟨0x040, 1, 0, [GRANT0_VALID_MS, GRANT0_WATTS]⟩,
  ⟨0x044, 1, 0, [GRANT1_SEQ]⟩,
  ⟨0x048, 1, 0, [GRANT_STAT_SEQ, GRANT_STAT_IN_FORCE, GRANT_STAT_PENDING, GRANT_STAT_LAST]⟩,
  ⟨0x04c, 1, 0, [GRANT_LEFT_MS]⟩,
  ⟨0x050, 1, 0, [P_GRANT_P_GRANT]⟩,
  ⟨0x054, 1, 0, [FLOOR_FLOOR]⟩,
  ⟨0x058, 1, 0, [HARD_GRANT_LOCK, HARD_GRANT_HARD_GRANT]⟩,
  ⟨0x05c, 1, 0, [ASK_CFG_STEP, ASK_CFG_HEAD]⟩,
  ⟨0x060, 1, 0, [ASK_SEQ, ASK_W]⟩,
  ⟨0x070, 1, 0, [PMB_CFG_EN, PMB_CFG_SPEED, PMB_CFG_PERIOD]⟩,
  ⟨0x074, 2, 4, [PMB_DEV_EN, PMB_DEV_PAGED, PMB_DEV_PAGE, PMB_DEV_ADDR]⟩,
  ⟨0x080, 2, 16, [PMB_PIN_PIN]⟩,
  ⟨0x084, 2, 16, [PMB_VI_IIN, PMB_VI_VIN]⟩,
  ⟨0x088, 2, 16, [PMB_ST_STATUS_WORD, PMB_ST_STATUS_INPUT, PMB_ST_REVISION]⟩,
  ⟨0x0a0, 1, 0, [CARD_PIN_PIN]⟩,
  ⟨0x0a4, 1, 0, [PMB_ERR_FAILED, PMB_ERR_TIMEOUTS]⟩,
  ⟨0x0a8, 1, 0, [PMB_STAT_LAST_OK, PMB_STAT_ALERT_ADDR, PMB_STAT_ALERTS]⟩]

end BUDGET

namespace LEDGER
/-- R399, 16_budget_ledger.md. -/
def CTRL_FLUSH : Fld := ⟨0x1b, 0x040, 0, 1, 1, .wo, .priv, [0], 0, 1⟩
/-- R399, 16_budget_ledger.md. -/
def LIMIT_MAX_TAGS : Fld := ⟨0x1b, 0x044, 0, 0, 21, .rw, .priv, [1048560], 1, 1048560⟩
/-- R399, 16_budget_ledger.md. -/
def RCLASS_CORE : Fld := ⟨0x1b, 0x048, 0, 0, 8, .rw, .priv, [15], 0, 255⟩
/-- R399, 16_budget_ledger.md. -/
def STATUS_INIT : Fld := ⟨0x1b, 0x04c, 0, 31, 1, .ro, .priv, [0], 0, 1⟩
/-- R399, 16_budget_ledger.md. -/
def STATUS_FLUSHING : Fld := ⟨0x1b, 0x04c, 0, 30, 1, .ro, .priv, [0], 0, 1⟩
/-- R399, 16_budget_ledger.md. -/
def STATUS_TAGS : Fld := ⟨0x1b, 0x04c, 0, 0, 21, .ro, .priv, [0], 0, 2097151⟩
/-- R399, 16_budget_ledger.md. -/
def CACHE_PINNED : Fld := ⟨0x1b, 0x050, 0, 16, 14, .ro, .priv, [4], 0, 16383⟩
/-- R399, 16_budget_ledger.md. -/
def CACHE_USED : Fld := ⟨0x1b, 0x050, 0, 0, 14, .ro, .priv, [4], 0, 16383⟩
/-- R399, 16_budget_ledger.md. -/
def REFUSED_FULL : Fld := ⟨0x1b, 0x054, 0, 16, 16, .ro, .priv, [0], 0, 65535⟩
/-- R399, 16_budget_ledger.md. -/
def REFUSED_BUSY : Fld := ⟨0x1b, 0x054, 0, 0, 16, .ro, .priv, [0], 0, 65535⟩
/-- R399, 16_budget_ledger.md. -/
def ENDS_UNKNOWN : Fld := ⟨0x1b, 0x058, 0, 16, 16, .ro, .priv, [0], 0, 65535⟩
/-- R399, 16_budget_ledger.md. -/
def ENDS_FORCED : Fld := ⟨0x1b, 0x058, 0, 0, 16, .ro, .priv, [0], 0, 65535⟩
/-- R399, 16_budget_ledger.md. -/
def EST_LATE_COUNT : Fld := ⟨0x1b, 0x05c, 0, 0, 32, .ro, .priv, [0], 0, 4294967295⟩
/-- R399, 16_budget_ledger.md. -/
def CLOSE_GO : Fld := ⟨0x1b, 0x060, 0, 31, 1, .wo, .priv, [0], 0, 1⟩
/-- R399, 16_budget_ledger.md. -/
def CLOSE_TAG : Fld := ⟨0x1b, 0x060, 0, 0, 20, .wo, .priv, [0], 16, 1048575⟩
/-- R399, 16_budget_ledger.md. -/
def QUERY_GO : Fld := ⟨0x1b, 0x064, 0, 31, 1, .wo, .priv, [0], 0, 1⟩
/-- R399, 16_budget_ledger.md. -/
def QUERY_VALID : Fld := ⟨0x1b, 0x064, 0, 30, 1, .ro, .priv, [0], 0, 1⟩
/-- R399, 16_budget_ledger.md. -/
def QUERY_STATE : Fld := ⟨0x1b, 0x064, 0, 20, 2, .ro, .priv, [0], 0, 3⟩
/-- R399, 16_budget_ledger.md. -/
def QUERY_TAG : Fld := ⟨0x1b, 0x064, 0, 0, 20, .rw, .priv, [0], 0, 1048575⟩
/-- R399, 16_budget_ledger.md. -/
def BIND_SEL_CORE : Fld := ⟨0x1b, 0x068, 0, 0, 9, .rw, .priv, [0], 0, 511⟩
/-- R399, 16_budget_ledger.md. -/
def BIND_DATA_PENDING : Fld := ⟨0x1b, 0x06c, 0, 31, 1, .ro, .priv, [0], 0, 1⟩
/-- R399, 16_budget_ledger.md. -/
def BIND_DATA_TAG : Fld := ⟨0x1b, 0x06c, 0, 0, 20, .ro, .priv, [1], 0, 1048575⟩
/-- R399, 16_budget_ledger.md. -/
def TOTAL_LO_ENERGY : Fld := ⟨0x1b, 0x070, 0, 0, 32, .ro, .priv, [0], 0, 4294967295⟩
/-- R399, 16_budget_ledger.md. -/
def TOTAL_HI_ENERGY : Fld := ⟨0x1b, 0x074, 0, 0, 32, .ro, .priv, [0], 0, 4294967295⟩
/-- R399, 16_budget_ledger.md. -/
def QDATA_WORD : Fld := ⟨0x1b, 0x080, 4, 0, 32, .ro, .priv, [0], 0, 4294967295⟩
/-- R399, 16_budget_ledger.md. -/
def EST_GAIN : Fld := ⟨0x1b, 0x100, 8, 16, 16, .rw, .priv, [0], 0, 65535⟩
/-- R399, 16_budget_ledger.md. -/
def EST_SHIFT : Fld := ⟨0x1b, 0x100, 8, 0, 5, .rw, .priv, [0], 0, 31⟩
/-- R399, 16_budget_ledger.md. -/
def EST_S_PEST : Fld := ⟨0x1b, 0x104, 8, 16, 16, .ro, .priv, [0], 0, 65535⟩
/-- R399, 16_budget_ledger.md. -/
def EST_S_STATIC : Fld := ⟨0x1b, 0x104, 8, 0, 16, .rw, .priv, [0], 0, 65535⟩
/-- The registers of page LEDGER. -/
def regs : List Reg := [
  ⟨0x040, 1, 0, [CTRL_FLUSH]⟩,
  ⟨0x044, 1, 0, [LIMIT_MAX_TAGS]⟩,
  ⟨0x048, 1, 0, [RCLASS_CORE]⟩,
  ⟨0x04c, 1, 0, [STATUS_INIT, STATUS_FLUSHING, STATUS_TAGS]⟩,
  ⟨0x050, 1, 0, [CACHE_PINNED, CACHE_USED]⟩,
  ⟨0x054, 1, 0, [REFUSED_FULL, REFUSED_BUSY]⟩,
  ⟨0x058, 1, 0, [ENDS_UNKNOWN, ENDS_FORCED]⟩,
  ⟨0x05c, 1, 0, [EST_LATE_COUNT]⟩,
  ⟨0x060, 1, 0, [CLOSE_GO, CLOSE_TAG]⟩,
  ⟨0x064, 1, 0, [QUERY_GO, QUERY_VALID, QUERY_STATE, QUERY_TAG]⟩,
  ⟨0x068, 1, 0, [BIND_SEL_CORE]⟩,
  ⟨0x06c, 1, 0, [BIND_DATA_PENDING, BIND_DATA_TAG]⟩,
  ⟨0x070, 1, 0, [TOTAL_LO_ENERGY]⟩,
  ⟨0x074, 1, 0, [TOTAL_HI_ENERGY]⟩,
  ⟨0x080, 8, 4, [QDATA_WORD]⟩,
  ⟨0x100, 8, 8, [EST_GAIN, EST_SHIFT]⟩,
  ⟨0x104, 8, 8, [EST_S_PEST, EST_S_STATIC]⟩]

end LEDGER

namespace EXPORT
/-- R401, 16_budget_ledger.md. -/
def CTRL_EN : Fld := ⟨0x1c, 0x040, 0, 0, 1, .rw, .priv, [1], 0, 1⟩
/-- R401, 16_budget_ledger.md. -/
def CMD_RELEASE : Fld := ⟨0x1c, 0x044, 0, 2, 1, .wo, .priv, [0], 0, 1⟩
/-- R401, 16_budget_ledger.md. -/
def CMD_REWIND : Fld := ⟨0x1c, 0x044, 0, 1, 1, .wo, .priv, [0], 0, 1⟩
/-- R401, 16_budget_ledger.md. -/
def CMD_MARK : Fld := ⟨0x1c, 0x044, 0, 0, 1, .wo, .priv, [0], 0, 1⟩
/-- R401, 16_budget_ledger.md. -/
def IDLE_TIMEOUT : Fld := ⟨0x1c, 0x048, 0, 0, 16, .rw, .priv, [2], 1, 65535⟩
/-- R401, 16_budget_ledger.md. -/
def BATCH_CLOSE_MS : Fld := ⟨0x1c, 0x04c, 0, 16, 16, .rw, .priv, [10], 1, 65535⟩
/-- R401, 16_budget_ledger.md. -/
def BATCH_MAX : Fld := ⟨0x1c, 0x04c, 0, 0, 9, .rw, .priv, [256], 1, 256⟩
/-- R401, 16_budget_ledger.md. -/
def SIGN_LIMIT : Fld := ⟨0x1c, 0x050, 0, 0, 16, .rw, .priv, [20], 1, 65535⟩
/-- R401, 16_budget_ledger.md. -/
def LEVEL_ITEMS : Fld := ⟨0x1c, 0x054, 0, 0, 19, .ro, .priv, [0], 0, 524287⟩
/-- R401, 16_budget_ledger.md. -/
def UNREAD_ITEMS : Fld := ⟨0x1c, 0x058, 0, 0, 19, .ro, .priv, [0], 0, 524287⟩
/-- R401, 16_budget_ledger.md. -/
def SINCE_MARK_ITEMS : Fld := ⟨0x1c, 0x05c, 0, 0, 19, .ro, .priv, [0], 0, 524287⟩
/-- R401, 16_budget_ledger.md. -/
def STATUS_IDLE : Fld := ⟨0x1c, 0x060, 0, 31, 1, .ro, .priv, [0], 0, 1⟩
/-- R401, 16_budget_ledger.md. -/
def STATUS_FULL : Fld := ⟨0x1c, 0x060, 0, 30, 1, .ro, .priv, [0], 0, 1⟩
/-- R401, 16_budget_ledger.md. -/
def STATUS_BATCH_OPEN : Fld := ⟨0x1c, 0x060, 0, 29, 1, .ro, .priv, [0], 0, 1⟩
/-- R401, 16_budget_ledger.md. -/
def STATUS_SIGNING : Fld := ⟨0x1c, 0x060, 0, 28, 1, .ro, .priv, [0], 0, 1⟩
/-- R401, 16_budget_ledger.md. -/
def STATUS_SPILL_WAIT : Fld := ⟨0x1c, 0x060, 0, 27, 1, .ro, .priv, [0], 0, 1⟩
/-- R401, 16_budget_ledger.md. -/
def SEQ_SEQ : Fld := ⟨0x1c, 0x064, 0, 0, 32, .ro, .priv, [0], 0, 4294967295⟩
/-- R401, 16_budget_ledger.md. -/
def BATCH_SEQ_BATCH : Fld := ⟨0x1c, 0x068, 0, 0, 32, .ro, .priv, [0], 0, 4294967295⟩
/-- R401, 16_budget_ledger.md. -/
def KEY_ID_LO_KEY_ID : Fld := ⟨0x1c, 0x06c, 0, 0, 32, .ro, .priv, [0], 0, 4294967295⟩
/-- R401, 16_budget_ledger.md. -/
def KEY_ID_HI_KEY_ID : Fld := ⟨0x1c, 0x070, 0, 0, 32, .ro, .priv, [0], 0, 4294967295⟩
/-- R401, 16_budget_ledger.md. -/
def RECORDS_COUNT : Fld := ⟨0x1c, 0x080, 0, 0, 32, .ro, .priv, [0], 0, 4294967295⟩
/-- R401, 16_budget_ledger.md. -/
def BATCHES_COUNT : Fld := ⟨0x1c, 0x084, 0, 0, 32, .ro, .priv, [0], 0, 4294967295⟩
/-- R401, 16_budget_ledger.md. -/
def UNSIGNED_COUNT : Fld := ⟨0x1c, 0x088, 0, 0, 32, .ro, .priv, [0], 0, 4294967295⟩
/-- R401, 16_budget_ledger.md. -/
def LOST_REC_COUNT : Fld := ⟨0x1c, 0x08c, 0, 0, 32, .ro, .priv, [0], 0, 4294967295⟩
/-- R401, 16_budget_ledger.md. -/
def PTR_RESETS_COUNT : Fld := ⟨0x1c, 0x090, 0, 0, 32, .ro, .priv, [0], 0, 4294967295⟩
/-- R401, 16_budget_ledger.md. -/
def SPILLED_COUNT : Fld := ⟨0x1c, 0x094, 0, 0, 32, .ro, .priv, [0], 0, 4294967295⟩
/-- The registers of page EXPORT. -/
def regs : List Reg := [
  ⟨0x040, 1, 0, [CTRL_EN]⟩,
  ⟨0x044, 1, 0, [CMD_RELEASE, CMD_REWIND, CMD_MARK]⟩,
  ⟨0x048, 1, 0, [IDLE_TIMEOUT]⟩,
  ⟨0x04c, 1, 0, [BATCH_CLOSE_MS, BATCH_MAX]⟩,
  ⟨0x050, 1, 0, [SIGN_LIMIT]⟩,
  ⟨0x054, 1, 0, [LEVEL_ITEMS]⟩,
  ⟨0x058, 1, 0, [UNREAD_ITEMS]⟩,
  ⟨0x05c, 1, 0, [SINCE_MARK_ITEMS]⟩,
  ⟨0x060, 1, 0, [STATUS_IDLE, STATUS_FULL, STATUS_BATCH_OPEN, STATUS_SIGNING, STATUS_SPILL_WAIT]⟩,
  ⟨0x064, 1, 0, [SEQ_SEQ]⟩,
  ⟨0x068, 1, 0, [BATCH_SEQ_BATCH]⟩,
  ⟨0x06c, 1, 0, [KEY_ID_LO_KEY_ID]⟩,
  ⟨0x070, 1, 0, [KEY_ID_HI_KEY_ID]⟩,
  ⟨0x080, 1, 0, [RECORDS_COUNT]⟩,
  ⟨0x084, 1, 0, [BATCHES_COUNT]⟩,
  ⟨0x088, 1, 0, [UNSIGNED_COUNT]⟩,
  ⟨0x08c, 1, 0, [LOST_REC_COUNT]⟩,
  ⟨0x090, 1, 0, [PTR_RESETS_COUNT]⟩,
  ⟨0x094, 1, 0, [SPILLED_COUNT]⟩]

end EXPORT

namespace BARO
/-- R448, 18_barograph.md. -/
def CTRL_MIRROR_EN : Fld := ⟨0x1d, 0x040, 0, 1, 1, .rw, .priv, [1], 0, 1⟩
/-- R448, 18_barograph.md. -/
def CTRL_EN : Fld := ⟨0x1d, 0x040, 0, 0, 1, .rw, .priv, [1], 0, 1⟩
/-- R448, 18_barograph.md. -/
def STATUS_RESTORED : Fld := ⟨0x1d, 0x044, 0, 31, 1, .ro, .priv, [0], 0, 1⟩
/-- R448, 18_barograph.md. -/
def STATUS_NO_RESTORE : Fld := ⟨0x1d, 0x044, 0, 30, 1, .ro, .priv, [0], 0, 1⟩
/-- R448, 18_barograph.md. -/
def STATUS_FRZ_OWNER : Fld := ⟨0x1d, 0x044, 0, 28, 2, .ro, .priv, [0], 0, 3⟩
/-- R448, 18_barograph.md. -/
def STATUS_SNAP_BUSY : Fld := ⟨0x1d, 0x044, 0, 27, 1, .ro, .priv, [0], 0, 1⟩
/-- R448, 18_barograph.md. -/
def STATUS_MIRROR_BUSY : Fld := ⟨0x1d, 0x044, 0, 26, 1, .ro, .priv, [0], 0, 1⟩
/-- R448, 18_barograph.md. -/
def STATUS_DIRTY : Fld := ⟨0x1d, 0x044, 0, 12, 11, .ro, .priv, [0], 0, 2047⟩
/-- R448, 18_barograph.md. -/
def STATUS_USED : Fld := ⟨0x1d, 0x044, 0, 0, 12, .ro, .priv, [0], 0, 4095⟩
/-- R448, 18_barograph.md. -/
def FREEZE_RELEASE : Fld := ⟨0x1d, 0x048, 0, 1, 1, .wo, .priv, [0], 0, 1⟩
/-- R448, 18_barograph.md. -/
def FREEZE_HOLD : Fld := ⟨0x1d, 0x048, 0, 0, 1, .wo, .priv, [0], 0, 1⟩
/-- R448, 18_barograph.md. -/
def WIN_PAGE : Fld := ⟨0x1d, 0x04c, 0, 0, 3, .rw, .priv, [0], 0, 7⟩
/-- R448, 18_barograph.md. -/
def NEXT_SEQ_SEQ : Fld := ⟨0x1d, 0x050, 0, 0, 32, .ro, .priv, [0], 0, 4294967295⟩
/-- R448, 18_barograph.md. -/
def MIRROR_NOW : Fld := ⟨0x1d, 0x054, 0, 31, 1, .wo, .priv, [0], 0, 1⟩
/-- R448, 18_barograph.md. -/
def MIRROR_PERIOD : Fld := ⟨0x1d, 0x054, 0, 0, 16, .rw, .priv, [3600], 1, 65535⟩
/-- R448, 18_barograph.md. -/
def MIRROR_STAT_PASSES : Fld := ⟨0x1d, 0x058, 0, 16, 16, .ro, .priv, [0], 0, 65535⟩
/-- R448, 18_barograph.md. -/
def MIRROR_STAT_ERRORS : Fld := ⟨0x1d, 0x058, 0, 0, 16, .ro, .priv, [0], 0, 65535⟩
/-- R448, 18_barograph.md. -/
def RESTORE_DONE : Fld := ⟨0x1d, 0x05c, 0, 31, 1, .wo, .sec, [0], 0, 1⟩
/-- R448, 18_barograph.md. -/
def RST_SEQ_SEQ : Fld := ⟨0x1d, 0x060, 0, 0, 32, .rw, .sec, [0], 0, 4294967295⟩
/-- R448, 18_barograph.md. -/
def RESTORE_STAT_BAD : Fld := ⟨0x1d, 0x064, 0, 16, 16, .ro, .priv, [0], 0, 65535⟩
/-- R448, 18_barograph.md. -/
def RESTORE_STAT_SLOTS : Fld := ⟨0x1d, 0x064, 0, 0, 16, .ro, .priv, [0], 0, 65535⟩
/-- R448, 18_barograph.md. -/
def SNAP_GO : Fld := ⟨0x1d, 0x068, 0, 31, 1, .wo, .priv, [0], 0, 1⟩
/-- R448, 18_barograph.md. -/
def SNAP_FIRST : Fld := ⟨0x1d, 0x068, 0, 16, 11, .rw, .priv, [0], 0, 2047⟩
/-- R448, 18_barograph.md. -/
def SNAP_COUNT : Fld := ⟨0x1d, 0x068, 0, 0, 11, .rw, .priv, [1024], 1, 1024⟩
/-- R448, 18_barograph.md. -/
def DROPS0_INFO : Fld := ⟨0x1d, 0x070, 0, 16, 16, .ro, .priv, [0], 0, 65535⟩
/-- R448, 18_barograph.md. -/
def DROPS0_NOTICE : Fld := ⟨0x1d, 0x070, 0, 0, 16, .ro, .priv, [0], 0, 65535⟩
/-- R448, 18_barograph.md. -/
def DROPS1_WARN : Fld := ⟨0x1d, 0x074, 0, 16, 16, .ro, .priv, [0], 0, 65535⟩
/-- R448, 18_barograph.md. -/
def DROPS1_CRIT : Fld := ⟨0x1d, 0x074, 0, 0, 16, .ro, .priv, [0], 0, 65535⟩
/-- R448, 18_barograph.md. -/
def DROPS2_SHADOW : Fld := ⟨0x1d, 0x078, 0, 16, 16, .ro, .priv, [0], 0, 65535⟩
/-- R448, 18_barograph.md. -/
def DROPS2_FATAL : Fld := ⟨0x1d, 0x078, 0, 0, 16, .ro, .priv, [0], 0, 65535⟩
/-- R448, 18_barograph.md. -/
def LOSTBEATS_COUNT : Fld := ⟨0x1d, 0x07c, 0, 0, 32, .ro, .priv, [0], 0, 4294967295⟩
/-- R448, 18_barograph.md. -/
def LOSTSAMP_COUNT : Fld := ⟨0x1d, 0x080, 0, 0, 32, .ro, .priv, [0], 0, 4294967295⟩
/-- R448, 18_barograph.md. -/
def CLEARS_COUNT : Fld := ⟨0x1d, 0x084, 0, 0, 32, .ro, .priv, [0], 0, 4294967295⟩
/-- R448, 18_barograph.md. -/
def COMMITS_COUNT : Fld := ⟨0x1d, 0x088, 0, 0, 32, .ro, .priv, [0], 0, 4294967295⟩
/-- R448, 18_barograph.md. -/
def SUBJ_CFG_W1H : Fld := ⟨0x1d, 0x100, 16, 31, 1, .rw, .priv, [0], 0, 1⟩
/-- R448, 18_barograph.md. -/
def SUBJ_CFG_W1M : Fld := ⟨0x1d, 0x100, 16, 30, 1, .rw, .priv, [0], 0, 1⟩
/-- R448, 18_barograph.md. -/
def SUBJ_CFG_W1S : Fld := ⟨0x1d, 0x100, 16, 29, 1, .rw, .priv, [0], 0, 1⟩
/-- R448, 18_barograph.md. -/
def SUBJ_CFG_DIR : Fld := ⟨0x1d, 0x100, 16, 28, 1, .rw, .priv, [0], 0, 1⟩
/-- R448, 18_barograph.md. -/
def SUBJ_CFG_BASE : Fld := ⟨0x1d, 0x100, 16, 27, 1, .rw, .priv, [0], 0, 1⟩
/-- R448, 18_barograph.md. -/
def SUBJ_CFG_SHIFT : Fld := ⟨0x1d, 0x100, 16, 16, 5, .rw, .priv, [0], 0, 31⟩
/-- R448, 18_barograph.md. -/
def SUBJ_CFG_SOURCE : Fld := ⟨0x1d, 0x100, 16, 8, 8, .rw, .priv, [0], 0, 255⟩
/-- R448, 18_barograph.md. -/
def SUBJ_CFG_INSTANCE : Fld := ⟨0x1d, 0x100, 16, 0, 8, .rw, .priv, [0], 0, 255⟩
/-- R448, 18_barograph.md. -/
def SUBJ_ORG_ORIGIN : Fld := ⟨0x1d, 0x104, 16, 0, 32, .rw, .priv, [0], 0, 4294967295⟩
/-- R448, 18_barograph.md. -/
def SUBJ_TW_TW : Fld := ⟨0x1d, 0x108, 16, 0, 32, .rw, .priv, [2147483647], 0, 4294967295⟩
/-- R448, 18_barograph.md. -/
def SUBJ_TC_TC : Fld := ⟨0x1d, 0x10c, 16, 0, 32, .rw, .priv, [2147483647], 0, 4294967295⟩
/-- The registers of page BARO. -/
def regs : List Reg := [
  ⟨0x040, 1, 0, [CTRL_MIRROR_EN, CTRL_EN]⟩,
  ⟨0x044, 1, 0, [STATUS_RESTORED, STATUS_NO_RESTORE, STATUS_FRZ_OWNER, STATUS_SNAP_BUSY, STATUS_MIRROR_BUSY, STATUS_DIRTY, STATUS_USED]⟩,
  ⟨0x048, 1, 0, [FREEZE_RELEASE, FREEZE_HOLD]⟩,
  ⟨0x04c, 1, 0, [WIN_PAGE]⟩,
  ⟨0x050, 1, 0, [NEXT_SEQ_SEQ]⟩,
  ⟨0x054, 1, 0, [MIRROR_NOW, MIRROR_PERIOD]⟩,
  ⟨0x058, 1, 0, [MIRROR_STAT_PASSES, MIRROR_STAT_ERRORS]⟩,
  ⟨0x05c, 1, 0, [RESTORE_DONE]⟩,
  ⟨0x060, 1, 0, [RST_SEQ_SEQ]⟩,
  ⟨0x064, 1, 0, [RESTORE_STAT_BAD, RESTORE_STAT_SLOTS]⟩,
  ⟨0x068, 1, 0, [SNAP_GO, SNAP_FIRST, SNAP_COUNT]⟩,
  ⟨0x070, 1, 0, [DROPS0_INFO, DROPS0_NOTICE]⟩,
  ⟨0x074, 1, 0, [DROPS1_WARN, DROPS1_CRIT]⟩,
  ⟨0x078, 1, 0, [DROPS2_SHADOW, DROPS2_FATAL]⟩,
  ⟨0x07c, 1, 0, [LOSTBEATS_COUNT]⟩,
  ⟨0x080, 1, 0, [LOSTSAMP_COUNT]⟩,
  ⟨0x084, 1, 0, [CLEARS_COUNT]⟩,
  ⟨0x088, 1, 0, [COMMITS_COUNT]⟩,
  ⟨0x100, 32, 16, [SUBJ_CFG_W1H, SUBJ_CFG_W1M, SUBJ_CFG_W1S, SUBJ_CFG_DIR, SUBJ_CFG_BASE, SUBJ_CFG_SHIFT, SUBJ_CFG_SOURCE, SUBJ_CFG_INSTANCE]⟩,
  ⟨0x104, 32, 16, [SUBJ_ORG_ORIGIN]⟩,
  ⟨0x108, 32, 16, [SUBJ_TW_TW]⟩,
  ⟨0x10c, 32, 16, [SUBJ_TC_TC]⟩]

end BARO

namespace TUNE
/-- R173, 06_rail_loops.md. -/
def CTRL_ARM : Fld := ⟨0x1e, 0x040, 0, 31, 1, .wo, .priv, [0], 0, 1⟩
/-- R173, 06_rail_loops.md. -/
def CTRL_STOP : Fld := ⟨0x1e, 0x040, 0, 30, 1, .wo, .priv, [0], 0, 1⟩
/-- R173, 06_rail_loops.md. -/
def CTRL_WAVE : Fld := ⟨0x1e, 0x040, 0, 10, 2, .rw, .priv, [0], 0, 3⟩
/-- R173, 06_rail_loops.md. -/
def CTRL_POINT : Fld := ⟨0x1e, 0x040, 0, 8, 1, .rw, .priv, [0], 0, 1⟩
/-- R173, 06_rail_loops.md. -/
def CTRL_RAIL : Fld := ⟨0x1e, 0x040, 0, 0, 3, .rw, .priv, [0], 0, 7⟩
/-- R173, 06_rail_loops.md. -/
def AMP_AMP : Fld := ⟨0x1e, 0x044, 0, 0, 16, .rw, .priv, [0], 0, 32767⟩
/-- R173, 06_rail_loops.md. -/
def FTW_FTW : Fld := ⟨0x1e, 0x048, 0, 0, 32, .rw, .priv, [0], 0, 4294967295⟩
/-- R173, 06_rail_loops.md. -/
def FTW_END_FTW_END : Fld := ⟨0x1e, 0x04c, 0, 0, 32, .rw, .priv, [0], 0, 4294967295⟩
/-- R173, 06_rail_loops.md. -/
def DFTW_DFTW : Fld := ⟨0x1e, 0x050, 0, 0, 32, .rw, .priv, [0], 0, 4294967295⟩
/-- R173, 06_rail_loops.md. -/
def PRBS_HOLD : Fld := ⟨0x1e, 0x054, 0, 0, 4, .rw, .priv, [0], 0, 15⟩
/-- R173, 06_rail_loops.md. -/
def CAP_CFG_SEL_B : Fld := ⟨0x1e, 0x058, 0, 28, 4, .rw, .priv, [3], 0, 15⟩
/-- R173, 06_rail_loops.md. -/
def CAP_CFG_SEL_A : Fld := ⟨0x1e, 0x058, 0, 24, 4, .rw, .priv, [4], 0, 15⟩
/-- R173, 06_rail_loops.md. -/
def CAP_CFG_DECIM : Fld := ⟨0x1e, 0x058, 0, 16, 4, .rw, .priv, [0], 0, 15⟩
/-- R173, 06_rail_loops.md. -/
def CAP_CFG_LEN : Fld := ⟨0x1e, 0x058, 0, 0, 16, .rw, .priv, [65535], 0, 65535⟩
/-- R173, 06_rail_loops.md. -/
def CAP_SETTLE_SETTLE : Fld := ⟨0x1e, 0x05c, 0, 0, 16, .rw, .priv, [4000], 0, 65535⟩
/-- R173, 06_rail_loops.md. -/
def ABORT_BAND : Fld := ⟨0x1e, 0x060, 0, 0, 8, .rw, .priv, [48], 0, 255⟩
/-- R173, 06_rail_loops.md. -/
def STATUS_REASON : Fld := ⟨0x1e, 0x064, 0, 24, 4, .ro, .priv, [0], 0, 15⟩
/-- R173, 06_rail_loops.md. -/
def STATUS_STATE : Fld := ⟨0x1e, 0x064, 0, 20, 3, .ro, .priv, [0], 0, 7⟩
/-- R173, 06_rail_loops.md. -/
def STATUS_COUNT : Fld := ⟨0x1e, 0x064, 0, 0, 17, .ro, .priv, [0], 0, 131071⟩
/-- The registers of page TUNE. -/
def regs : List Reg := [
  ⟨0x040, 1, 0, [CTRL_ARM, CTRL_STOP, CTRL_WAVE, CTRL_POINT, CTRL_RAIL]⟩,
  ⟨0x044, 1, 0, [AMP_AMP]⟩,
  ⟨0x048, 1, 0, [FTW_FTW]⟩,
  ⟨0x04c, 1, 0, [FTW_END_FTW_END]⟩,
  ⟨0x050, 1, 0, [DFTW_DFTW]⟩,
  ⟨0x054, 1, 0, [PRBS_HOLD]⟩,
  ⟨0x058, 1, 0, [CAP_CFG_SEL_B, CAP_CFG_SEL_A, CAP_CFG_DECIM, CAP_CFG_LEN]⟩,
  ⟨0x05c, 1, 0, [CAP_SETTLE_SETTLE]⟩,
  ⟨0x060, 1, 0, [ABORT_BAND]⟩,
  ⟨0x064, 1, 0, [STATUS_REASON, STATUS_STATE, STATUS_COUNT]⟩]

end TUNE

/-- The page-specific registers of page number `p` (R93, R114 and the chapter of each page). -/
def regsOfPage (p : Nat) : List Reg :=
  if p == 0x00 then TOP.regs else
  if p == 0x01 then TICK.regs else
  if p == 0x02 then SEC.regs else
  if p == 0x03 then MBOX.regs else
  if p == 0x04 then FW.regs else
  if p == 0x05 then CLAIM.regs else
  if 0x06 ≤ p ∧ p ≤ 0x07 then PHASE.regs else
  if 0x08 ≤ p ∧ p ≤ 0x0f then RAIL.regs else
  if p == 0x10 then DROOP.regs else
  if p == 0x11 then GOV.regs else
  if p == 0x12 then LEVEL.regs else
  if p == 0x13 then CREDIT.regs else
  if p == 0x14 then HINT.regs else
  if p == 0x15 then FCAST.regs else
  if p == 0x16 then STEP.regs else
  if p == 0x17 then THERM.regs else
  if p == 0x18 then ISOBAR.regs else
  if p == 0x19 then DRIZZLE.regs else
  if p == 0x1a then BUDGET.regs else
  if p == 0x1b then LEDGER.regs else
  if p == 0x1c then EXPORT.regs else
  if p == 0x1d then BARO.regs else
  if p == 0x1e then TUNE.regs else
  []

end Sys2Proof.Machine
end

