-- ==== Sys2Proof/Machine/Ops.lean ====
section
/-!
DEFINITION. Machine/Ops.lean: the named operations over the register file, the memories and the device state that every
meaning uses, and the arithmetic the spec fixes for all of them (R9, R121).
-/
namespace Sys2Proof.Machine

/-! ### Arithmetic -/

/-- Saturation to the signed 32-bit range (R9, R158). -/
def sat32 (x : Int) : Int := min 2147483647 (max (-2147483648) x)

/-- Saturation to the signed 16-bit range (R167, R212). -/
def sat16 (x : Int) : Int := min 32767 (max (-32768) x)

/-- Arithmetic right shift with the rounding of R9: `(x + 2^(s-1)) >> s`, no rounding term when `s` is 0. -/
def rshift (x : Int) (s : Nat) : Int :=
  if s == 0 then x else (x + ((2 ^ (s - 1) : Nat) : Int)) / ((2 ^ s : Nat) : Int)

/-- R9: the product of a signal and a coefficient with right shift `s`. -/
def mulCoef (x c : Int) (s : Nat) : Int := sat32 (rshift (x * c) s)

/-- Nearest integer to `a / b`, ties upward (R131, R135); 0 for `b = 0`. -/
def roundDiv (a : Int) (b : Nat) : Int := if b == 0 then 0 else (2 * a + (b : Int)) / ((2 * b : Nat) : Int)

/-- `roundDiv` on naturals. -/
def roundDivN (a b : Nat) : Nat := if b == 0 then 0 else (2 * a + b) / (2 * b)

/-- Least integer not below `a / b`; 0 for `b = 0`. -/
def ceilDiv (a b : Nat) : Nat := if b == 0 then 0 else (a + b - 1) / b

/-- Saturating count of a `w`-bit field. -/
def satAdd (w v k : Nat) : Nat := min (2 ^ w - 1) (v + k)

/-- Clamp to `[lo, hi]`, the larger of the argument and `lo` first (R231). -/
def clampI (x lo hi : Int) : Int := min hi (max lo x)

/-! ### CRC -/

/-- One bit of the CRC-8 of R121 (polynomial 0x07, most significant bit first). -/
def crc8Bit (c : Nat) : Nat := if c ≥ 128 then ((2 * c) ^^^ 0x107) % 256 else (2 * c) % 256

/-- One byte of the CRC-8 of R121. -/
def crc8Byte (c byte : Nat) : Nat :=
  crc8Bit (crc8Bit (crc8Bit (crc8Bit (crc8Bit (crc8Bit (crc8Bit (crc8Bit (c ^^^ byte))))))))

/-- The CRC-8 of R121 over the 24 bits 31:8 of a frame, given as a 24-bit number. -/
def crc8 (x : Nat) : Nat :=
  crc8Byte (crc8Byte (crc8Byte 0xFF (bitsAt x 16 8)) (bitsAt x 8 8)) (bitsAt x 0 8)

/-- A Phase Link frame with its CRC (R121): bits 31:8 given. -/
def frame (x : Nat) : Nat := x * 256 + crc8 x

/-- `n` shift steps of a reflected CRC register with polynomial `poly`. -/
def crcShift (poly : Nat) : Nat → Nat → Nat
  | 0, c => c
  | n + 1, c => crcShift poly n (if c % 2 == 1 then (c / 2) ^^^ poly else c / 2)

/-- CRC-32C (R160): reflected polynomial 0x82F63B78, initial value and final XOR all ones. -/
def crc32c (bytes : List Nat) : Nat :=
  (bytes.foldl (fun c b => crcShift 0x82F63B78 8 (c ^^^ b)) 0xFFFFFFFF) ^^^ 0xFFFFFFFF

/-- The `n` bytes of `x`, least significant first. -/
def leBytes : Nat → Nat → List Nat
  | 0, _ => []
  | n + 1, x => x % 256 :: leBytes n (x / 256)

/-- The number whose bytes, least significant first, are `bs`. -/
def ofLe : List Nat → Nat
  | [] => 0
  | b :: r => b % 256 + 256 * ofLe r

/-! ### Sparse lists -/

/-- The value listed under `k`, or `dflt`. -/
def sparseGet {α : Type} (dflt : α) (k : Nat) : List (Nat × α) → α
  | [] => dflt
  | (a, v) :: r => if a == k then v else if k < a then dflt else sparseGet dflt k r

/-- The list from its first key above `k` on. -/
def sparseAbove {α : Type} (k : Nat) : List (Nat × α) → List (Nat × α)
  | [] => []
  | (a, v) :: r => if k < a then (a, v) :: r else sparseAbove k r

/-- The list with `v` under `k`; writing the default removes the entry, so equal contents are equal lists. -/
def sparseSet {α : Type} [DecidableEq α] (dflt : α) (k : Nat) (v : α) : List (Nat × α) → List (Nat × α)
  | [] => if v = dflt then [] else [(k, v)]
  | (a, w) :: r =>
    if a == k then (if v = dflt then sparseAbove k r else (k, v) :: r)
    else if k < a then (if v = dflt then (a, w) :: r else (k, v) :: (a, w) :: r)
    else (a, w) :: sparseSet dflt k v r

/-! ### Memories -/

/-- The byte at `a`; an unlisted byte reads zero (R455). -/
def Mem.read (m : Mem) (a : Nat) : Byte := sparseGet 0 a m

/-- Write one byte. -/
def Mem.write (m : Mem) (a : Nat) (v : Byte) : Mem := sparseSet 0 a v m

/-- Every entry of the list differs from zero. -/
def allNonzero : Mem → Bool
  | [] => true
  | (_, v) :: r => decide (v ≠ 0) && allNonzero r

/-- The canonical form of a memory: addresses strictly rising, no zero byte listed. -/
def Mem.wf (m : Mem) : Bool := risingFrom 0 m && allNonzero m

/-- `n` bytes from `a`, least significant first, as a number (R8). -/
def Mem.readLE (m : Mem) (a : Nat) : Nat → Nat
  | 0 => 0
  | n + 1 => (m.read a).toNat + 256 * Mem.readLE m (a + 1) n

/-- Write the low `n` bytes of `v` at `a`, least significant first. -/
def Mem.writeLE (m : Mem) (a : Nat) : Nat → Nat → Mem
  | 0, _ => m
  | n + 1, v => Mem.writeLE (m.write a (BitVec.ofNat 8 v)) (a + 1) n (v / 256)

/-- Write a list of bytes from `a` up. -/
def Mem.writeBytes (m : Mem) (a : Nat) : List Nat → Mem
  | [] => m
  | b :: r => Mem.writeBytes (m.write a (BitVec.ofNat 8 b)) (a + 1) r

/-- Zero the `n` bytes from `a` up. -/
def Mem.clear (m : Mem) (a n : Nat) : Mem := m.filter (fun c => decide (c.1 < a) || decide (a + n ≤ c.1))

/-- `n` bytes from `a` up. -/
def Mem.bytes (m : Mem) (a : Nat) : Nat → List Nat
  | 0 => []
  | n + 1 => (m.read a).toNat :: Mem.bytes m (a + 1) n

/-! ### The register file -/

/-- The key of instance `(i, j)` of a field: eight times its byte address, plus its lowest bit. -/
def Fld.key (f : Fld) (i j : Nat) : Nat := ((f.page + i) * 0x1000 + f.off + f.stride * j) * 8 + f.lo

/-- Word address of a field's register. -/
def Fld.adr (f : Fld) (i j : Nat) : Nat := ((f.page + i) * 0x1000 + f.off + f.stride * j) / 4

/-- The reset value of instance `j` of a field. -/
def Fld.reset (f : Fld) (j : Nat) : Nat := f.rst.getD j (f.rst.getLastD 0)

/-- The value of a field. `i` counts pages of the kind (RAIL, PHASE), `j` instances within the page. -/
def RegFile.get (r : RegFile) (f : Fld) (i j : Nat) : Nat := sparseGet (f.reset j) (f.key i j) r

/-- Put `v` into a field. -/
def RegFile.put (r : RegFile) (f : Fld) (i j v : Nat) : RegFile :=
  sparseSet (f.reset j) (f.key i j) (v % 2 ^ f.wid) r

/-- Read a register field. -/
def Dev.rd (d : Dev) (f : Fld) (i : Nat := 0) (j : Nat := 0) : Nat := d.regs.get f i j

/-- Write a register field. -/
def Dev.wr (d : Dev) (f : Fld) (v : Nat) (i : Nat := 0) (j : Nat := 0) : Dev := { d with regs := d.regs.put f i j v }

/-- A field as a flag. -/
def Dev.on (d : Dev) (f : Fld) (i : Nat := 0) (j : Nat := 0) : Bool := d.rd f i j == 1

/-- Add to a saturating counter field (R119 and the counters of every page). -/
def Dev.bump (d : Dev) (f : Fld) (i : Nat := 0) (j : Nat := 0) (by_ : Nat := 1) : Dev :=
  d.wr f (satAdd f.wid (d.rd f i j) by_) i j

/-! ### Lists of instances -/

/-- Change entry `i` of a list. -/
def modAt {α : Type} (l : List α) (i : Nat) (f : α → α) : List α :=
  match l, i with
  | [], _ => []
  | a :: r, 0 => f a :: r
  | a :: r, i + 1 => a :: modAt r i f

/-- Put `v` at entry `i`, padding with `dflt` up to it. -/
def putPad {α : Type} (dflt : α) (v : α) : Nat → List α → List α
  | 0, [] => [v]
  | 0, _ :: r => v :: r
  | i + 1, [] => dflt :: putPad dflt v i []
  | i + 1, a :: r => a :: putPad dflt v i r

/-- Apply `f` for every `i < n`, in ascending order. -/
def forUpto {σ : Type} : Nat → (Nat → σ → σ) → σ → σ
  | 0, _, s => s
  | n + 1, f, s => f n (forUpto n f s)

/-- The numbers below `n`, ascending. -/
def upto (n : Nat) : List Nat := List.range n

/-- Insert into an ascending list without repeats. -/
def insertAsc (x : Nat) : List Nat → List Nat
  | [] => [x]
  | a :: r => if x < a then x :: a :: r else if x == a then a :: r else a :: insertAsc x r

/-- Sum of a list of integers. -/
def sumI : List Int → Int
  | [] => 0
  | a :: r => a + sumI r

/-- Sum of a list of naturals. -/
def sumN : List Nat → Nat
  | [] => 0
  | a :: r => a + sumN r

/-- Largest entry, 0 for none. -/
def maxN : List Nat → Nat
  | [] => 0
  | a :: r => max a (maxN r)

/-- Smallest entry, none for none. -/
def minN : List Nat → Option Nat
  | [] => none
  | a :: r => match minN r with
    | none => some a
    | some b => some (min a b)

/-! ### Device accessors -/

/-- Rail `n`. -/
def Dev.rail (d : Dev) (n : Nat) : Rail := d.rails.getD n {}
/-- Change rail `n`. -/
def Dev.updRail (d : Dev) (n : Nat) (f : Rail → Rail) : Dev := { d with rails := modAt d.rails n f }
/-- Phase `p`. -/
def Dev.phase (d : Dev) (p : Nat) : Phase := d.phases.getD p {}
/-- Change phase `p`. -/
def Dev.updPhase (d : Dev) (p : Nat) (f : Phase → Phase) : Dev := { d with phases := modAt d.phases p f }
/-- Domain `n`. -/
def Dev.dom (d : Dev) (n : Nat) : Dom := d.doms.getD n {}
/-- Change domain `n`. -/
def Dev.updDom (d : Dev) (n : Nat) (f : Dom → Dom) : Dev := { d with doms := modAt d.doms n f }
/-- Satellite `n`. -/
def Dev.sat (d : Dev) (n : Nat) : Sat := d.sats.getD n {}
/-- Change satellite `n`. -/
def Dev.updSat (d : Dev) (n : Nat) (f : Sat → Sat) : Dev := { d with sats := modAt d.sats n f }
/-- Pool `n`. -/
def Dev.pool (d : Dev) (n : Nat) : CPool := d.credit.pools.getD n {}
/-- Change pool `n`. -/
def Dev.updPool (d : Dev) (n : Nat) (f : CPool → CPool) : Dev :=
  { d with credit := { d.credit with pools := modAt d.credit.pools n f } }

/-- Change the command machine of rail `n`. -/
def Dev.updCmd (d : Dev) (n : Nat) (f : RailCmd → RailCmd) : Dev := d.updRail n (fun r => { r with cmd := f r.cmd })
/-- Change the loop of rail `n`. -/
def Dev.updLoop (d : Dev) (n : Nat) (f : RailLoop → RailLoop) : Dev := d.updRail n (fun r => { r with loop := f r.loop })
/-- Change the switching side of rail `n`. -/
def Dev.updSw (d : Dev) (n : Nat) (f : RailSw → RailSw) : Dev := d.updRail n (fun r => { r with sw := f r.sw })
/-- Change the fault monitor of rail `n`. -/
def Dev.updFlt (d : Dev) (n : Nat) (f : RailFlt → RailFlt) : Dev := d.updRail n (fun r => { r with flt := f r.flt })
/-- Change the AVSBus master of rail `n`. -/
def Dev.updAvs (d : Dev) (n : Nat) (f : RailAvs → RailAvs) : Dev := d.updRail n (fun r => { r with avs := f r.avs })

/-- Raise an event (R96, R109, R110): `inst` counts pages of the kind. The event is collected here and settles into the
ring and PAGE_FAULT at the end of the command. -/
def Dev.ev (d : Dev) (c : Code) (param : Nat := 0) (inst : Nat := 0) : Dev :=
  { d with evq := d.evq ++ [⟨c.page + inst, c.loc, c.sev, param % 256, d.tick.b % 2 ^ 32⟩] }

/-- Raise a code of the RAIL pages (R172, R194). -/
def Dev.evRail (d : Dev) (c : Code) (n : Nat) : Dev := d.ev c n n

/-- Raise a code of the PHASE pages (R147, R193). -/
def Dev.evPhase (d : Dev) (c : Code) (p : Nat) : Dev := d.ev c p (p / 40)

/-- `e` enters before `f` when both are detected on one edge (R110): lower page, then lower local code. -/
def Event.before (e f : Event) : Bool := decide (e.page < f.page) || (e.page == f.page && decide (e.loc < f.loc))

/-- Insert behind the events that do not enter after it. -/
def insertEv (e : Event) : List Event → List Event
  | [] => [e]
  | x :: r => if e.before x then e :: x :: r else x :: insertEv e r

/-- The events of one edge in the order of R110. -/
def sortEv (l : List Event) : List Event := l.foldl (fun acc e => insertEv e acc) []

/-- The edge in progress ends: its events take their order (R110). -/
def Dev.edge (d : Dev) : Dev := { d with evd := d.evd ++ sortEv d.evq, evq := [] }

/-- Send a message at a port. -/
def Dev.send (d : Dev) (o : Out) : Dev := { d with out := d.out ++ [o] }

/-- Take a Barograph sample (R431): statistic, instance, value. -/
def Dev.sample (d : Dev) (src inst : Nat) (v : Int) : Dev := { d with smp := d.smp ++ [(src, inst, v)] }

/-- GCLK cycles from the edge that starts beat 0 to cycle `cyc` of the beat in progress (R73, R89). -/
def Dev.gclk (d : Dev) (cyc : Nat) : Nat := 12 * d.tick.ref + cyc

/-- Put one entry in its place by ascending key; a key that is there already keeps its entry. -/
def insertKey (x : Nat × Nat) : List (Nat × Nat) → List (Nat × Nat)
  | [] => [x]
  | y :: l => if x.1 < y.1 then x :: y :: l else if x.1 == y.1 then y :: l else y :: insertKey x l

/-- The entries in ascending order of their keys, one for each key. -/
def byKey (l : List (Nat × Nat)) : List (Nat × Nat) := l.foldl (fun acc x => insertKey x acc) []

/-- A phase register field (R146). -/
def Dev.rdPh (d : Dev) (f : Fld) (p : Nat) : Nat := d.rd f (p / 40) (p % 40)
/-- Write a phase register field. -/
def Dev.wrPh (d : Dev) (f : Fld) (p v : Nat) : Dev := d.wr f v (p / 40) (p % 40)
/-- Count in a phase register field. -/
def Dev.bumpPh (d : Dev) (f : Fld) (p : Nat) : Dev := d.bump f (p / 40) (p % 40)

/-! ### Values in use under the HARD_ bounds (R23) -/

/-- VLIM.VMAX in use, 0.25 mV (R23, R170). -/
def Dev.vmax (d : Dev) (n : Nat) : Nat := min (d.rd RAIL.VLIM_VMAX n) (d.rd RAIL.HARD_V_HARD_VMAX n)
/-- VLIM.VMIN in use, 0.25 mV. -/
def Dev.vmin (d : Dev) (n : Nat) : Nat := max (d.rd RAIL.VLIM_VMIN n) (d.rd RAIL.HARD_V_HARD_VMIN n)
/-- SQUALL.VRET in use, 0.25 mV. -/
def Dev.vret (d : Dev) (n : Nat) : Nat := min (d.rd RAIL.SQUALL_VRET n) (d.rd RAIL.HARD_V_HARD_VMAX n)

/-- Number of phases, rails and so on present (R113). -/
def Dev.nRails (d : Dev) : Nat := d.rails.length

/-- The rail runs in AVS mode (R164). -/
def Dev.avs (d : Dev) (n : Nat) : Bool := d.on RAIL.CTRL_MODE n

/-- Instant of the last RAIL strobe in REFCLK cycles (R73, R74): the strobe of offset `railIdx - 1`. -/
def Tick.strobe (t : Tick) : Nat := t.ref + 25 * (t.railIdx - 1)

end Sys2Proof.Machine
end

