-- ==== Sys2Proof/Machine/Runs.lean ====
section
/-!
DEFINITION. Machine/Runs.lean: the ends of the runs that share a rail or the capture RAM (R168, R209, R212) and the
ownership operations they need (R481 to R484).
-/
namespace Sys2Proof.Machine

/-- Owner of resource `r` (R478). -/
def Dev.owner (d : Dev) (r : Nat) : Claim := d.claims.res.getD r {}

/-- Give resource `r` to `c`. -/
def Dev.setOwner (d : Dev) (r : Nat) (c : Claim) : Dev :=
  { d with claims := { d.claims with res := modAt d.claims.res r (fun _ => c) } }

/-- RES[r].PATH code of a path (R490): 0 register port, 2 Steward, 3 Warden. The TBL port makes no claims; it counts
with the register port (R485). -/
def pathCode : Path → Nat
  | .regPort => 0
  | .tblPort => 0
  | .steward => 2
  | .warden => 3

/-- The access comes from the path that owns resource `r` (R479: the register port together with its master ID). -/
def Dev.owns (d : Dev) (a : Acc) (r : Nat) : Bool :=
  let c := d.owner r
  c.kind == 1 && c.path == pathCode a.path && (c.mid == a.mid.toNat || decide (c.path ≠ 0))

/-- The TUNE run is in progress (R173). -/
def Tune.running (t : Tune) : Bool := t.st == .settling || t.st == .capturing

/-- R168: the run aborts with a reason; d becomes 0 and capture stops. -/
def Dev.tuneAbort (d : Dev) (reason : Nat) : Dev :=
  if d.tune.running then
    { d with tune := { d.tune with st := .aborted, reason := reason, d := 0 } }.ev Ev.TUNE_ABORT d.tune.rail
  else d

/-- R168 on one rail: the run aborts only when it is on that rail. -/
def Dev.tuneAbortOn (d : Dev) (n reason : Nat) : Dev := if d.tune.rail == n then d.tuneAbort reason else d

/-- R212: the waveform capture ends as ABORTED. -/
def Dev.waveAbort (d : Dev) : Dev :=
  if d.wave.st == .armed then { d with wave := { d.wave with st := .aborted } } else d

/-- A TUNE run is in progress on the claim of resource `r` (R166, R489): the capture RAM, and with a waveform the injection
point of its rail. -/
def Dev.tuneUses (d : Dev) (r : Nat) : Bool :=
  d.tune.running && (d.owner r).feat == 1 && (r == 0 || (r == 1 + d.tune.rail && d.rd TUNE.CTRL_WAVE != 0))

/-- What runs on the claim of resource `r` ends with it (R168, R212, R478, R483). -/
def Dev.runLost (d : Dev) (r : Nat) : Dev :=
  if d.tuneUses r then d.tuneAbort 5
  else if r != 0 then d
  else if (d.owner 0).feat == 2 then d.waveAbort
  else if (d.owner 0).feat == 3 then { d with baro := { d.baro with snap := none } }
  else d

/-- The page is still being wiped after a reset, and its wipe has not failed (R455, R456). -/
def Dev.stillWiped (d : Dev) (p : Nat) : Bool := d.wiping.contains p && !d.wipeBad.contains p

/-- The capture RAM is being wiped (R481, R490): after the end of a claim, or after a reset with its page. -/
def Dev.capWiping (d : Dev) : Bool := d.claims.wiping || d.stillWiped 0x1E

/-- R481: a claim ends. When it was on the capture RAM, the RAM is zeroed and the wipe runs. -/
def Dev.endClaim (d : Dev) (r : Nat) : Dev :=
  let d := (d.runLost r).setOwner r {}
  if r == 0 then { d with capRam := [], claims := { d.claims with wiping := true } } else d

/-- A claim on resource `r` is answered RESOURCE_BUSY (R479, R490, R491). -/
def Dev.claimBusy (d : Dev) (r : Nat) : Dev :=
  let d := d.bump CLAIM.BUSY_CNT_COUNT
  if d.claims.busySent.contains r then d
  else ({ d with claims := { d.claims with busySent := insertAsc r d.claims.busySent } }).ev Ev.CLAIM_BUSY r

/-- RESULT of a path: the answer code and its resource (R479, R490). RESULT[1] is the Steward's, RESULT[2] the Warden's. -/
def Dev.claimResult (d : Dev) (path code r : Nat) : Dev :=
  let p := path - 1
  (d.wr CLAIM.RESULT_CODE code 0 p).wr CLAIM.RESULT_RES r 0 p

/-- R482: a safety owner takes resource `r`; a path that owned it sees PREEMPTED. -/
def Dev.takeSafety (d : Dev) (r : Nat) (c : Claim) : Dev :=
  let was := d.owner r
  let d := if was.kind == 1 then
      ((d.claimResult was.path 6 r).bump CLAIM.PREEMPTS_COUNT).ev Ev.CLAIM_PREEMPTED r
    else d
  d.setOwner r c

/-- A calibration run is in its gap or pulse (R209). -/
def Cal.running (c : Cal) : Bool := c.st == .gap || c.st == .pulse

/-- The state CAL_WAIT or CAL_IDLE after a run: CAL_WAIT while some calibration is due (R208, R213). -/
def Cal.rest (c : Cal) : CalSt := if c.due.isEmpty && c.dueF.isEmpty then .idle else .wait

/-- R484: the calibration gives back its claim on the injection point. -/
def Dev.calRelease (d : Dev) : Dev :=
  if (d.owner (1 + d.cal.rail)).feat == 4 then d.endClaim (1 + d.cal.rail) else d

/-- R209: the calibration aborts, writes no results and is due again at the next period. -/
def Dev.calAbort (d : Dev) : Dev :=
  if d.cal.running then
    let n := d.cal.rail
    let d := (d.calRelease).bump DROOP.CAL_COUNT_ABORTS
    { d with cal := { d.cal with st := d.cal.rest, delta := 0 } }.ev Ev.DROOP_CAL_ABORT n
  else d

/-- R209 on one rail. -/
def Dev.calAbortOn (d : Dev) (n : Nat) : Dev := if d.cal.rail == n then d.calAbort else d

/-- R208: a forced calibration of rail `n` becomes due. -/
def Dev.calForce (d : Dev) (n : Nat) : Dev :=
  { d with cal := { d.cal with dueF := insertAsc n d.cal.dueF, st := if d.cal.st == .idle then .wait else d.cal.st } }

/-- R209: the reference disturbance of the calibration on rail `n`, fine units. -/
def Dev.calDref (d : Dev) (n : Nat) : Int :=
  if d.cal.st == .pulse && d.cal.rail == n then -16 * (d.cal.delta : Int) else 0

end Sys2Proof.Machine
end

