-- ==== Sys2Proof/Machine/Credit.lean ====
section
/-!
DEFINITION. Machine/Credit.lean: the credit scoreboard (spec/10_power_credits.md), and the derating of R182 that it
shares with the governor.
-/
namespace Sys2Proof.Machine

/-- The domain of credit channel `c` (LEVEL.CHDOM, R225). -/
def Dev.chDom (d : Dev) (c : Nat) : Nat :=
  if c % 4 == 0 then d.rd LEVEL.CHDOM_DOM0 0 (c / 4)
  else if c % 4 == 1 then d.rd LEVEL.CHDOM_DOM1 0 (c / 4)
  else if c % 4 == 2 then d.rd LEVEL.CHDOM_DOM2 0 (c / 4)
  else d.rd LEVEL.CHDOM_DOM3 0 (c / 4)

/-- The rail that feeds domain `m`, none for 0xF (LEVEL.DOM[d].RAIL). -/
def Dev.domRail (d : Dev) (m : Nat) : Option Nat :=
  let r := d.rd LEVEL.DOM_RAIL 0 m
  if r == 0xF then none else some r

/-- The rail on which a compute core's requests draw (R239). -/
def Dev.coreRail (d : Dev) (core : Nat) : Option Nat := d.domRail (d.chDom (core / 16))

/-- The compute core is present and CORE_EN marks it active (R236). -/
def Dev.coreActive (d : Dev) (core : Nat) : Bool :=
  decide (core < d.bld.cores) && bitAt (d.rd LEVEL.CORE_EN_EN 0 (core / 32)) (core % 32)

/-- Healthy phases of a rail as the fault monitor counts them (R181): EN = 1, not FAULTED, no removal decided; 0 in AVS
mode. -/
def Dev.healthy (d : Dev) (n : Nat) : Nat :=
  if d.avs n then 0 else
  ((upto d.phases.length).filter (fun p =>
    d.rdPh PHASE.CTRL_RAIL p == n && d.rdPh PHASE.CTRL_EN p == 1 && (d.phase p).st != .faulted
      && (d.phase p).removal.isNone)).length

/-- H0 of R181: NOMINAL before the first RAIL_START_DONE, then the larger of NOMINAL and H_start. -/
def Dev.h0 (d : Dev) (n : Nat) : Nat :=
  match (d.rail n).flt.hStart with
  | none => d.rd RAIL.DERATE_NOMINAL n
  | some h => max (d.rd RAIL.DERATE_NOMINAL n) h

/-- R182: the derated value of a limit, while H < H0; no derating in AVS mode (R181). -/
def Dev.derate (d : Dev) (n l : Nat) : Nat :=
  let h := (d.rail n).flt.h
  let h0 := d.h0 n
  if !d.avs n && decide (h < h0) then l * h / h0 else l

/-- The rail counts as stopped for the scoreboard (R255). -/
def Dev.railOff (d : Dev) (n : Nat) : Bool := (d.rail n).cmd.st == .stopped || (d.rail n).cmd.st == .retention

/-! ### Words (R240, R241) -/

/-- An answer word. -/
def rspWord (kind reason tag slot units : Nat) : Nat :=
  putAt kind 29 + putAt reason 24 + putAt tag 20 + putAt slot 19 + units % 4096

/-- Send an answer to a core's lane. -/
def Dev.answer (d : Dev) (core kind reason tag slot units : Nat) : Dev :=
  d.send (.ccRsp core (rspWord kind reason tag slot units))

/-! ### The queue (R248) -/

/-- Class order: RESERVED, then HEAVY with promoted MEDIUM, then MEDIUM, then FILLER. -/
def CReq.rank (r : CReq) : Nat :=
  if r.cls == 3 then 0 else if r.cls == 0 || r.promoted then 1 else if r.cls == 1 then 2 else 3

/-- `r` stands before `q` in the queue. -/
def CReq.before (r q : CReq) : Bool :=
  decide (r.rank < q.rank) || (r.rank == q.rank && decide (r.seq < q.seq))

/-- Put a request in its place. -/
def enqueue (r : CReq) : List CReq → List CReq
  | [] => [r]
  | q :: l => if r.before q then r :: q :: l else q :: enqueue r l

/-- Put the queue in order again after promotions. -/
def requeue (l : List CReq) : List CReq := l.foldl (fun acc r => enqueue r acc) []

/-- Change the queue. -/
def Dev.setQueue (d : Dev) (q : List CReq) : Dev := { d with credit := { d.credit with queue := q } }

/-- Change the leases. -/
def Dev.setLeases (d : Dev) (l : List Lease) : Dev := { d with credit := { d.credit with leases := l } }

/-- The waiting request of a core. -/
def Dev.waiting (d : Dev) (core : Nat) : Option CReq := d.credit.queue.find? (fun r => r.core == core)

/-- The lease in a slot of a core. -/
def Dev.leaseAt (d : Dev) (core slot : Nat) : Option Lease :=
  d.credit.leases.find? (fun l => l.core == core && l.slot == slot)

/-! ### Grants, returns and reclaims (R246, R249, R251) -/

/-- Length of a lease in GCLK cycles (R251). -/
def Dev.leaseLen (d : Dev) (dur : Nat) : Nat := min 76800 (300 * (dur + 1) + d.rd CREDIT.LEASE_GRACE)

/-- Grant a request: lowest free slot, next tag; on a pool, its units enter G or G_rsv and leave the bucket. -/
def Dev.grant (d : Dev) (r : CReq) (rail : Option Nat) : Dev :=
  let slot := if (d.leaseAt r.core 0).isNone then 0 else 1
  let tag := sparseGet 0 r.core d.credit.tags
  let l : Lease := ⟨r.core, slot, tag, r.units, rail, r.cls == 3, r.cls == 2, d.leaseLen r.dur⟩
  let d := { d with credit := { d.credit with
    leases := d.credit.leases ++ [l], tags := sparseSet 0 r.core ((tag + 1) % 16) d.credit.tags,
    queue := d.credit.queue.filter (fun q => q.core != r.core) } }
  let d := match rail with
    | none => d
    | some n =>
      let d := d.updPool n (fun p => if r.cls == 3 then { p with grsv := p.grsv + r.units }
                                     else { p with g := p.g + r.units, b := p.b - r.units })
      let d := d.bump CREDIT.GRANTS_COUNT 0 n
      let d := if r.told then d.sample 0x0A n r.wait else d
      if r.wait > d.rd CREDIT.MAXWAIT_TICKS 0 n then d.wr CREDIT.MAXWAIT_TICKS r.wait 0 n else d
  d.answer r.core 1 0 tag slot r.units

/-- A lease ends: its units leave G or G_rsv and, unless RESERVED, feed the bucket (R249). -/
def Dev.endLease (d : Dev) (l : Lease) : Dev :=
  let d := d.setLeases (d.credit.leases.filter (fun x => !(x.core == l.core && x.slot == l.slot)))
  match l.rail with
  | none => d
  | some n => d.updPool n (fun p => if l.rsv then { p with grsv := p.grsv - l.units }
      else { p with g := p.g - l.units, b := min 65535 (p.b + l.units) })

/-- The request fits (R247, R249). -/
def CPool.fits (p : CPool) (r : CReq) : Bool :=
  if r.cls == 3 then decide (p.grsv + r.units ≤ p.rsv)
  else decide (p.g + r.units ≤ p.avail) && decide (r.units ≤ p.b)

/-- The front of rail `n`'s queue, where it fits: a front that does not fit stops the grants of the rail, and no request
passes another (R248, R256). -/
def Dev.nextGrant (d : Dev) (n : Nat) : Option CReq :=
  (d.credit.queue.find? (fun r => r.rail == n)).filter (fun r => (d.pool n).fits r)

/-- Grants of rail `n` from the front of its queue, at most `k`; answers how many are left of `k`. -/
def grantRail (n : Nat) : Nat → Dev → Dev × Nat
  | 0, d => (d, 0)
  | k + 1, d =>
    match d.nextGrant n with
    | some r => grantRail n k (d.grant r (some n))
    | none => (d, k + 1)

/-- The grant decisions of one GCLK cycle: up to 16 over all rails, in ascending rail order (R248). -/
def grantRails : List Nat → Nat → Dev → Dev
  | [], _, d => d
  | n :: ns, k, d => let (d, k) := grantRail n k d; grantRails ns k d

/-- CREDIT_GRANT (R248). -/
def Dev.creditGrants (d : Dev) : Dev := grantRails (upto d.nRails) 16 d

/-- Deny a waiting or arriving request and count it (R242, R257). -/
def Dev.deny (d : Dev) (core reason units : Nat) (rail : Option Nat) : Dev :=
  let d := match rail with
    | none => d
    | some n => d.bump CREDIT.DENIES_COUNT 0 n
  d.answer core 3 reason 0 0 units

/-- Deny a waiting request and take it out of the queue. -/
def Dev.denyWaiting (d : Dev) (r : CReq) (reason : Nat) : Dev :=
  ((d.setQueue (d.credit.queue.filter (fun q => q.core != r.core))).deny r.core reason r.units (some r.rail)).sample 0x0A
    r.rail r.wait

/-- Why a request is denied at its taking, 0 for no reason, in the order of R242. At a RAIL strobe the test of BAD_REQ meets
the RESERVE in force before the latch of that edge, `rsv` by rail, and those of TOO_BIG the values latched (R245). -/
def Dev.denyReason (d : Dev) (rsv : List Nat) (core w : Nat) (rail : Option Nat) : Nat :=
  let cls := bitsAt w 30 2
  let units := bitsAt w 0 12
  if d.sqActive then 5
  else if !bitAt (d.rd CREDIT.CH_EN_EN) (core / 16) then 7
  else if units == 0 || bitsAt w 28 2 != 0 || bitsAt w 12 8 != 0 || !d.coreActive core
      || (cls == 3 && (match rail with | some n => rsv.getD n 0 == 0 | none => false)) then 4
  else if (match rail with | some n => d.railOff n | none => false) then 7
  else if (d.waiting core).isSome then 2
  else if (d.leaseAt core 0).isSome && (d.leaseAt core 1).isSome then 3
  else if decide (units > d.rd CREDIT.MAXREQ_MAX_UNITS)
      || (match rail with
          | some n => decide (units > (if cls == 3 then (d.pool n).rsv else (d.pool n).avail))
          | none => false) then 1
  else 0

/-- A request word is taken on a lane (R242, R245): it is denied, granted where no pool covers it, or enters the queue of
its rail. -/
def Dev.takeRequest (d : Dev) (rsv : List Nat) (core w : Nat) : Dev :=
  let rail := d.coreRail core
  let units := bitsAt w 0 12
  let why := d.denyReason rsv core w rail
  if why != 0 then
    let d := if why == 4 then d.ev Ev.CREDIT_BAD_REQ (core / 16) else d
    d.deny core why units rail
  else
    let seq := d.credit.seq
    let d := { d with credit := { d.credit with seq := seq + 1 } }
    match rail with
    | none => d.grant ⟨core, 0, bitsAt w 30 2, bitsAt w 20 8, units, seq, 0, false, false, false⟩ none
    | some n =>
      d.setQueue (enqueue ⟨core, n, bitsAt w 30 2, bitsAt w 20 8, units, seq, 0, false, false, false⟩ d.credit.queue)

/-- Lanes that first present a request in this cycle join those that wait to be taken (R55); an absent core has no lane. -/
def Dev.presentRequests (d : Dev) (reqs : List (Nat × Nat)) : Dev :=
  let new := byKey (reqs.filter (fun r => decide (r.1 < d.bld.cores) && d.credit.port.all (fun p => p.1 != r.1)))
  { d with credit := { d.credit with port := d.credit.port ++ new } }

/-- The RESERVE of each rail as latched (R247). -/
def Dev.rsvs (d : Dev) : List Nat := d.credit.pools.map (fun (p : CPool) => p.rsv)

/-- The requests of one cycle are taken (R55, R245): up to 16, the lanes that have waited longest; those taken together
stand in the order of channel and lane (R248). -/
def Dev.takeRequests (d : Dev) (rsv : List Nat) : Dev :=
  let now := byKey (d.credit.port.take 16)
  let d := { d with credit := { d.credit with port := d.credit.port.drop 16 } }
  now.foldl (fun d r => d.takeRequest rsv r.1 r.2) d

/-- A request that was taken in this cycle and not granted in it is answered WAIT (R245). -/
def Dev.tellWait (d : Dev) (r : CReq) : Dev :=
  let d := d.setQueue (d.credit.queue.map (fun q => if q.core == r.core then { q with told := true } else q))
  (d.bump CREDIT.WAITS_COUNT 0 r.rail).answer r.core 2 0 0 0 r.units

/-- The grant decisions of a cycle, and WAIT to the requests taken in it that they leave waiting (R245, R248). -/
def Dev.decideCredits (d : Dev) : Dev :=
  let d := d.creditGrants
  (d.credit.queue.filter (fun r => !r.told)).foldl (fun d r => d.tellWait r) d

/-- CREDIT_REQUEST (R55, R245): lanes present requests in a GCLK cycle. In a cycle that is no RAIL strobe they are taken and
answered at once; at a RAIL strobe RAIL_TICK takes them, after the latch of that edge. -/
def Dev.creditRequest (d : Dev) (reqs : List (Nat × Nat)) (strobe : Bool) : Dev :=
  let d := d.presentRequests reqs
  if strobe then d else (d.takeRequests d.rsvs).decideCredits

/-- R243: a late return is ignored, counted and reported once per BUDGET tick and channel. -/
def Dev.lateReturn (d : Dev) (core : Nat) : Dev :=
  let d := match d.coreRail core with
    | none => d
    | some n => d.bump CREDIT.LATE_RET_COUNT 0 n
  let ch := core / 16
  if d.credit.lateSent.contains ch then d
  else ({ d with credit := { d.credit with lateSent := insertAsc ch d.credit.lateSent } }).ev Ev.CREDIT_LATE_RET ch

/-- CREDIT_RETURN (R243, R245): a return word on a lane, handled before the requests and the grant decisions of its cycle. -/
def Dev.creditReturn (d : Dev) (core w : Nat) : Dev :=
  match d.leaseAt core (bitsAt w 0 1) with
  | some l => if l.tag == bitsAt w 1 4 then d.endLease l else d.lateReturn core
  | none => d.lateReturn core

/-- CREDIT_RECLAIM (R251): the lease in a slot runs out without a return, after the grant decisions of the cycle (R245). -/
def Dev.creditReclaim (d : Dev) (core slot : Nat) : Dev :=
  match d.leaseAt core slot with
  | none => d
  | some l =>
    let d := (d.endLease l).answer core 4 0x10 l.tag l.slot l.units
    match l.rail with
    | none => d
    | some n =>
      let d := d.bump CREDIT.RECLAIMS_COUNT 0 n
      if (d.pool n).recSent then d
      else (d.updPool n (fun p => { p with recSent := true })).ev Ev.CREDIT_RECLAIM n

/-! ### Strobes and timers (R247 to R250, R253) -/

/-- The latch of R247 for one rail at a RAIL strobe. -/
def Dev.creditLatch (d : Dev) (n : Nat) : Dev :=
  let p0 := min (d.rd CREDIT.POOL_POOL 0 n) (d.rd CREDIT.HARD_HARD_POOL 0 n)
  let p := d.derate n p0 * (d.credit.pfUse.getD n 256) / 256
  let rsv := d.rd CREDIT.POOL_RESERVE 0 n
  d.updPool n (fun c => { c with p := p, rsv := rsv, avail := p - rsv, a := c.aNext })

/-- Requests that waited before the strobe and no longer fit are answered SHRUNK (R247). -/
def Dev.creditShrink (d : Dev) (n : Nat) : Dev :=
  let c := d.pool n
  let late := d.credit.queue.filter (fun r => r.rail == n && decide (r.units > (if r.cls == 3 then c.rsv else c.avail)))
  let d := late.foldl (fun d r => d.denyWaiting r 6) d
  if late.isEmpty then d else d.ev Ev.CREDIT_SHRUNK n

/-- The refill of R249 for one rail. -/
def Dev.creditRefill (d : Dev) (n : Nat) : Dev :=
  let u := match d.credit.queue.find? (fun r => r.rail == n && r.cls != 3) with
    | some r => r.units
    | none => 0
  d.updPool n (fun c => { c with b := min 65535 (min (max c.a u) (c.b + c.a)) })

/-- Every waiting request has waited one more RAIL tick. -/
def Dev.creditWait (d : Dev) : Dev := d.setQueue (d.credit.queue.map (fun r => { r with wait := r.wait + 1 }))

/-- The scoreboard's part of a RAIL strobe (R245): the requests of the edge find the lanes as they waited before it, meet the
values latched on it, and count in U; then the requests that waited and no longer fit are answered. -/
def Dev.creditStrobes (d : Dev) : Dev :=
  let ns := upto d.nRails
  let rsv := d.rsvs
  let d := (ns.foldl (fun d n => d.creditLatch n) d.creditWait).takeRequests rsv
  let d := ns.foldl (fun d n => d.creditShrink n) d
  (ns.foldl (fun d n => d.creditRefill n) d).decideCredits

/-- Task 0x0C: the allowance of one rail (R250). -/
def Dev.allowance (d : Dev) (n : Nat) : Nat :=
  let full := d.rd CREDIT.BOOST_PP_FULL
  let pp := min (((d.rail n).cmd.ppLat + 8) / 16).toNat full
  let base := d.gov.set.ramp
  let a := base + base * (d.rd CREDIT.BOOST_BOOST - 16) * pp / (16 * full)
  min a (d.rd CREDIT.HARD_RAMP_HARD_AMAX)

/-- Task 0x0C of every rail. -/
def Dev.task0C (d : Dev) : Dev :=
  (upto d.nRails).foldl (fun d n => let a := d.allowance n; d.updPool n (fun p => { p with aNext := a })) d

/-- FILL_TIMEOUT (R242): a FILLER request that has waited FILL_WAIT RAIL ticks is denied. -/
def Dev.fillTimeout (d : Dev) (core : Nat) : Dev :=
  match d.waiting core with
  | some r =>
    if r.cls == 2 && decide (r.wait ≥ d.rd CREDIT.AGE_FILL_WAIT) then
      (d.denyWaiting r 8).bump CREDIT.FILL_DENY_COUNT 0 r.rail
    else d
  | none => d

/-- MEDIUM_PROMOTE (R248). -/
def Dev.mediumPromote (d : Dev) (core : Nat) : Dev :=
  match d.waiting core with
  | some r =>
    if r.cls == 1 && !r.promoted && decide (r.wait ≥ d.rd CREDIT.AGE_PROMOTE) then
      (d.setQueue (requeue (d.credit.queue.map (fun q => if q.core == core then { q with promoted := true } else q)))).bump
        CREDIT.PROMOTED_COUNT 0 r.rail
    else d
  | none => d

/-- CREDIT_STARVE (R253): the front request of a rail has waited STARVE.LIMIT RAIL ticks; once for that request. -/
def Dev.creditStarve (d : Dev) (n : Nat) : Dev :=
  match d.credit.queue.find? (fun r => r.rail == n) with
  | some r =>
    if !r.starved && decide (r.wait ≥ d.rd CREDIT.STARVE_LIMIT) then
      (d.setQueue (d.credit.queue.map (fun q => if q.core == r.core then { q with starved := true } else q))).ev
        Ev.CREDIT_STARVE n
    else d
  | none => d

/-- The scoreboard's timers of task 0x0E, in ascending order of lane and then of rail (R91). -/
def Dev.creditTimers (d : Dev) : Dev :=
  let cores := d.credit.queue.foldl (fun l (r : CReq) => insertAsc r.core l) []
  let d := cores.foldl (fun d c => (d.fillTimeout c).mediumPromote c) d
  (upto d.nRails).foldl (fun d n => d.creditStarve n) d

/-! ### Squall and rail stop (R254, R255) -/

/-- R254: every lease reclaimed, every waiting request denied, G, G_rsv and B to 0. -/
def Dev.creditRevoke (d : Dev) : Dev :=
  let d := d.credit.leases.foldl (fun d l => d.answer l.core 4 0x11 l.tag l.slot l.units) d
  let d := d.credit.queue.foldl (fun d r => d.denyWaiting r 5) d
  let d := { d with credit := { d.credit with
    leases := [], queue := [], pools := d.credit.pools.map (fun (p : CPool) => { p with g := 0, grsv := 0, b := 0 }) } }
  d.ev Ev.CREDIT_REVOKED 0

/-- R255: the rail stops: RECLAIM RAIL_OFF on its leases, DENY DISABLED to its waiting requests. -/
def Dev.creditRailOff (d : Dev) (n : Nat) : Dev :=
  let mine := d.credit.leases.filter (fun l => l.rail == some n)
  let d := mine.foldl (fun d l => (d.endLease l).answer l.core 4 0x12 l.tag l.slot l.units) d
  (d.credit.queue.filter (fun r => r.rail == n)).foldl (fun d r => d.denyWaiting r 7) d

/-- The FILLER units granted to the lanes of channel `c` (R17, R256). -/
def Dev.fillerUnits (d : Dev) (c : Nat) : Nat :=
  sumN ((d.credit.leases.filter (fun l => l.fill && l.core / 16 == c)).map (·.units))

end Sys2Proof.Machine
end

