-- ==== Sys2Proof/Machine/Coding.lean ====
section
/-!
DEFINITION. Machine/Coding.lean: the character coding of the Phase Link (R120, R122): the comma K28.5 and four 8b/10b data
characters a slot, with the running disparity that carries over from slot to slot. The code tables and disparity rules are
those of IEEE 802.3 clause 36, which R120 names and the spec does not print (PRESUMED, log entry 69). A character is ten
bits, the first bit sent most significant; a slot is fifty.
-/
namespace Sys2Proof.Machine

/-- Six-bit sub-blocks abcdei of D.0 to D.31 at negative running disparity. -/
def code5b6b : List Nat :=
  [0b100111, 0b011101, 0b101101, 0b110001, 0b110101, 0b101001, 0b011001, 0b111000]
  ++ [0b111001, 0b100101, 0b010101, 0b110100, 0b001101, 0b101100, 0b011100, 0b010111]
  ++ [0b011011, 0b100011, 0b010011, 0b110010, 0b001011, 0b101010, 0b011010, 0b111010]
  ++ [0b110011, 0b100110, 0b010110, 0b110110, 0b001110, 0b101110, 0b011110, 0b101011]

/-- Four-bit sub-blocks fghj of D.x.0 to D.x.7 at negative running disparity, the primary form of D.x.7. -/
def code3b4b : List Nat := [0b1011, 0b1001, 0b0101, 0b1100, 0b1101, 0b1010, 0b0110, 0b1110]

/-- Number of ones among the low `n` bits. -/
def ones : Nat → Nat → Nat
  | 0, _ => 0
  | n + 1, x => x % 2 + ones n (x / 2)

/-- The sub-block of `n` bits that stands in the negative column as `c`, at running disparity `rd` (true: positive): an
unbalanced one and the two balanced ones 111000 and 1100 have their complement in the positive column. -/
def subBlock (n c : Nat) (rd : Bool) : Nat :=
  if rd && (2 * ones n c != n || c == 0b111000 && n == 6 || c == 0b1100 && n == 4) then 2 ^ n - 1 - c else c

/-- The running disparity after a sub-block of `n` bits. -/
def rdAfter (n c : Nat) (rd : Bool) : Bool :=
  if 2 * ones n c > n || (c == 0b000111 && n == 6) || (c == 0b0011 && n == 4) then true
  else if 2 * ones n c < n || (c == 0b111000 && n == 6) || (c == 0b1100 && n == 4) then false
  else rd

/-- D.x.7 takes its alternate form 0111 or 1000 here. -/
def altSeven (x : Nat) (rd : Bool) : Bool :=
  if rd then x == 11 || x == 13 || x == 14 else x == 17 || x == 18 || x == 20

/-- The four-bit sub-block of y after the six-bit sub-block of x. -/
def fourOf (x y : Nat) (rd : Bool) : Nat :=
  if y == 7 && altSeven x rd then (if rd then 0b1000 else 0b0111) else subBlock 4 (code3b4b.getD y 0) rd

/-- The character of data byte `b` at running disparity `rd`, and the disparity after it. -/
def encChar (rd : Bool) (b : Nat) : Nat × Bool :=
  let x := b % 32
  let six := subBlock 6 (code5b6b.getD x 0) rd
  let rd1 := rdAfter 6 six rd
  let four := fourOf x (b / 32 % 8) rd1
  (16 * six + four, rdAfter 4 four rd1)

/-- The comma character K28.5. -/
def comma (rd : Bool) : Nat := if rd then 0b1100000101 else 0b0011111010

/-- The running disparity after a received character, valid or not. -/
def rdChar (rd : Bool) (c : Nat) : Bool := rdAfter 4 (c % 16) (rdAfter 6 (c / 16) rd)

/-- The data byte of a received character: none when it is not in the table or violates the running disparity. -/
def decChar (rd : Bool) (c : Nat) : Option Nat := (List.range 256).find? (fun b => (encChar rd b).1 == c)

/-- The fifty bits of a slot that carries frame `w`: the comma, then bits 31:24 first (R120). -/
def encSlot (rd : Bool) (w : Nat) : Nat × Bool :=
  let (c0, r0) := (comma rd, rdChar rd (comma rd))
  let (c1, r1) := encChar r0 (bitsAt w 24 8)
  let (c2, r2) := encChar r1 (bitsAt w 16 8)
  let (c3, r3) := encChar r2 (bitsAt w 8 8)
  let (c4, r4) := encChar r3 (bitsAt w 0 8)
  (c0 * 2 ^ 40 + c1 * 2 ^ 30 + c2 * 2 ^ 20 + c3 * 2 ^ 10 + c4, r4)

/-- R122: the frame of a received slot; none when the comma does not open it, a character is not in the table or violates
the running disparity, or the CRC does not match. With it, the running disparity after the slot. -/
def decSlot (rd : Bool) (v : Nat) : Option Nat × Bool :=
  let ch (k : Nat) : Nat := v / 2 ^ (10 * (4 - k)) % 1024
  let r0 := rdChar rd (ch 0)
  let r1 := rdChar r0 (ch 1)
  let r2 := rdChar r1 (ch 2)
  let r3 := rdChar r2 (ch 3)
  let bytes : Option Nat :=
    match decChar r0 (ch 1), decChar r1 (ch 2), decChar r2 (ch 3), decChar r3 (ch 4) with
    | some a, some b, some c, some e => some (a * 2 ^ 24 + b * 2 ^ 16 + c * 2 ^ 8 + e)
    | _, _, _, _ => none
  let w := if ch 0 == comma rd then bytes.filter (fun w => crc8 (bitsAt w 8 24) == bitsAt w 0 8) else none
  (w, rdChar r3 (ch 4))

end Sys2Proof.Machine
end

