-- ==== Sys2Proof/Machine/Phase.lean ====
section
/-!
DEFINITION. Machine/Phase.lean: phase control and the Phase Link (spec/05_phase_control.md, causes of removal of
spec/07_rail_faults.md).
-/
namespace Sys2Proof.Machine

/-- Rail of a phase (R146). -/
def Dev.phRail (d : Dev) (p : Nat) : Nat := d.rdPh PHASE.CTRL_RAIL p

/-- PHASE[p].CTRL.EN. -/
def Dev.phEn (d : Dev) (p : Nat) : Bool := d.rdPh PHASE.CTRL_EN p == 1

/-- The phases of rail `n`, ascending. -/
def Dev.phasesOf (d : Dev) (n : Nat) : List Nat := (upto d.phases.length).filter (fun p => d.phRail p == n)

/-- The phase is in SOFTSTART, ACTIVE, SHED or BRAKE. -/
def PhSt.switching : PhSt → Bool
  | .softstart => true
  | .active => true
  | .shed => true
  | .brake => true
  | _ => false

/-- Some phase of the rail is in SOFTSTART, ACTIVE, SHED or BRAKE (R144, R145). -/
def Dev.railSwitching (d : Dev) (n : Nat) : Bool := (d.phasesOf n).any (fun p => (d.phase p).st.switching)

/-! ### Frames (R123, R124) -/

/-- IDLE. -/
def frIdle : Nat := frame 0
/-- THRESHOLD with IPK and SLOPE. -/
def frThreshold (ipk slope : Nat) : Nat := frame (putAt 1 20 + putAt (ipk % 4096) 8 + slope % 256)
/-- TURN_ON with MODE and DELAY. -/
def frTurnOn (mode delay : Nat) : Nat := frame (putAt 2 20 + putAt (mode % 4) 18 + putAt (delay % 16384) 4)
/-- WRITE of a stage register. -/
def frWrite (reg data : Nat) : Nat := frame (putAt 3 20 + putAt (reg % 16) 16 + data % 65536)
/-- READ of a stage register. -/
def frRead (reg : Nat) : Nat := frame (putAt 4 20 + putAt (reg % 16) 16)
/-- TRAIN. -/
def frTrain : Nat := frame 0x55A5A5

/-! ### The active set (R131, R133) -/

/-- First cycle start of rail `n` at or after REFCLK count `t` (R131). -/
def nextCycle (per n t : Nat) : Nat :=
  t + ((((3 * n : Nat) : Int) - (t : Int)) % ((max per 1 : Nat) : Int)).toNat

/-- The boundary at which a decision takes effect (R133): 250 ns after the RAIL strobe of the decision at the earliest. For
a decision between two strobes (a rail start by a RUN write, a phase that faults) that strobe is the last one before it
(DESIGN CHOICE, log entry 70). -/
def Dev.boundary (d : Dev) (n : Nat) : Nat := nextCycle (d.rd RAIL.PWM_PERIOD n) n (d.tick.strobe + 25)

/-- A change takes effect at a boundary at REFCLK count `t`: it is due, and braking does not suspend it (R141). -/
def RailSw.acts (s : RailSw) (t : Nat) (c : SetChg) : Bool := decide (c.at_ ≤ t) && (!s.braking || c.fault)

/-- The active set after the changes that act at or before REFCLK count `t`. -/
def RailSw.gridAt (s : RailSw) (t : Nat) : List Nat :=
  s.chg.foldl (fun g c => if s.acts t c then (if c.add then insertAsc c.ph g else g.filter (· != c.ph)) else g) s.grid

/-- The active set once every pending decision has reached its boundary (N' of R137). -/
def RailSw.gridEnd (s : RailSw) : List Nat :=
  s.chg.foldl (fun g c => if c.add then insertAsc c.ph g else g.filter (· != c.ph)) s.grid

/-- The state a phase has on entering the active set (R135, R137, R176, R177). -/
def Phase.enter (ph : Phase) : Phase :=
  { ph with avg := 0, ok := false, ontUse := 0, openCnt := 0, senseCnt := 0, ripBad := false, ripMax := none,
            ripMin := none, reps := [] }

/-- Schedule a change of the active set (R133). A phase to be added already has the values of its entry: frames before the
boundary use them (R132, R135). -/
def Dev.schedule (d : Dev) (n p : Nat) (add : Bool) (fault : Bool := false) : Dev :=
  let at_ := d.boundary n
  (if add then d.updPhase p Phase.enter else d).updSw n (fun s => { s with chg := s.chg ++ [⟨p, add, at_, fault⟩] })

/-- The open and sense counts start at zero each time a phase enters ACTIVE (R176, R177). -/
def Phase.toActive (ph : Phase) : Phase :=
  { ph with st := .active, openCnt := 0, senseCnt := 0, ripBad := false }

/-- Apply one due change of the active set to its phase (R143). The rank and N of the OFF turn-on of a phase that enters
SHED are those of the set before the boundary, and the OFF falls at or after the boundary (R137: "its next grid turn-on";
DESIGN CHOICE, log entry 71). -/
def Dev.applyChg (d : Dev) (old : List Nat) (c : SetChg) : Dev :=
  if c.add then
    d.updPhase c.ph (fun ph =>
      if ph.st == .shed then { ph.enter.toActive with offRank := none }
      else if ph.st == .softstart || ph.st == .active then { ph.enter with offRank := none } else ph)
  else
    d.updPhase c.ph (fun ph =>
      if ph.st == .active then
        { ph with st := .shed, offRank := some (old.findIdx (· == c.ph), old.length) }
      else ph)

/-- The phase's OFF to SHED transition: EN = 1 and link UP while the rail has ACTIVE phases (R143). -/
def Dev.offToShed (d : Dev) (p : Nat) : Dev :=
  let ph := d.phase p
  let n := d.phRail p
  if ph.st == .off && ph.link == .up && d.phEn p && (d.phasesOf n).any (fun q => (d.phase q).st == .active) then
    d.updPhase p (fun ph => { ph with st := .shed })
  else d

/-- The phases of rail `n` that came UP before it had ACTIVE phases become available for add (R143). -/
def Dev.offToShedAll (d : Dev) (n : Nat) : Dev := (d.phasesOf n).foldl (fun d p => d.offToShed p) d

/-- R133: at a cycle boundary of rail `n` at REFCLK count `c`, the due changes take effect. Phases that came UP while
the rail had no ACTIVE phase go to SHED with the first one that turns ACTIVE (R143). -/
def Dev.cycleStart (d : Dev) (n c : Nat) : Dev :=
  let s := (d.rail n).sw
  let due := s.chg.filter (s.acts c)
  if due.isEmpty then d else
  let g := s.gridAt c
  let d := due.foldl (fun d x => d.applyChg s.grid x) d
  (d.updSw n (fun s => { s with grid := g, chg := s.chg.filter (fun x => !s.acts c x),
                                nChanged := s.nChanged || g.length != s.grid.length })).offToShedAll n

/-- RAIL_CYCLE_START (R131, R133): the instant must be a cycle start of the rail. -/
def Dev.railCycleStart (d : Dev) (n c : Nat) : Dev :=
  if ((c : Int) - ((3 * n : Nat) : Int)) % ((max (d.rd RAIL.PWM_PERIOD n) 1 : Nat) : Int) = 0 then d.cycleStart n c else d

/-! ### Removal (R143, R175, R178) -/

/-- A phase enters FAULTED with a cause (R143, R144, R175): its turn-ons stop, an immediate TURN_ON OFF goes out, the
removal is logged, a TUNE run or calibration on the rail aborts. A phase that stays in FAULTED (R144) is not removed again. -/
def Dev.phaseFault (d : Dev) (p cause : Nat) : Dev :=
  let n := d.phRail p
  let inSet := (d.rail n).sw.grid.contains p
  let was := (d.phase p).st
  let d := d.updPhase p (fun ph =>
    { ph with st := .faulted, fcause := cause, removal := none, imm := if ph.st == .faulted then ph.imm else some 2, thrFor := none, offRank := none,
              ons := [], clearing := false, step := 0,
              link := if cause == 1 || cause == 2 then .down else ph.link })
  let d := d.updSw n (fun s => { s with chg := s.chg.filter (fun c => c.ph != p) })
  let d := if inSet then d.schedule n p false true else d
  let d := if was == .faulted then d
    else ((d.wr RAIL.FLOG_LAST_PHASE p n).wr RAIL.FLOG_LAST_CAUSE cause n).bump RAIL.FLOG_REMOVED n
  (d.tuneAbortOn n 3).calAbortOn n

/-- The events of R178, one for each latched flag of the last FLAGS byte received. -/
def Dev.stageFlagEvents (d : Dev) (p : Nat) : Dev :=
  let f := d.rdPh PHASE.STATUS_FLAGS p
  let d := if bitAt f 7 then d.evPhase Ev.PHASE_SHORT p else d
  let d := if bitAt f 6 then d.evPhase Ev.PHASE_SHORT p else d
  let d := if bitAt f 5 then d.evPhase Ev.PHASE_STAGE_OT p else d
  if bitAt f 3 then d.evPhase Ev.PHASE_STAGE_UV p else d

/-! ### Link bring-up (R129) -/

/-- Bring-up starts from step 1. A phase whose rail is in AVS mode is not brought up (R141). -/
def Dev.bringUp (d : Dev) (p : Nat) (clearing : Bool) : Dev :=
  if d.avs (d.phRail p) then d else
  d.updPhase p (fun ph => { ph with link := .train, step := 1, attempts := 0, trainRun := 0, slots := 0,
                                    sentAt := none, tx := [], lo := none, hist := [], clearing := clearing })

/-- A failed attempt: a new one from step 1, or after three failures FAULTED with cause 0x1 (R129). -/
def Dev.attemptFail (d : Dev) (p : Nat) : Dev :=
  let ph := d.phase p
  if ph.attempts + 1 ≥ 3 then (d.phaseFault p 1).evPhase Ev.PHASE_LINK_FAIL p
  else d.updPhase p (fun ph => { ph with link := .train, step := 1, attempts := ph.attempts + 1, trainRun := 0,
                                         slots := 0, sentAt := none, tx := [], lo := none })

/-- Limit of a step in return slots (R129). -/
def stepLimit : Nat → Nat
  | 3 => 16
  | _ => 8

/-- Enter a CONFIG step with the frames it sends. -/
def Dev.enterStep (d : Dev) (p step : Nat) (frames : List Nat) : Dev :=
  d.updPhase p (fun ph => { ph with link := .config, step := step, slots := 0, sentAt := none, tx := frames, lo := none })

/-- Step 5: the link is UP; a bring-up started by CLEAR returns the phase to OFF (R143, R144). -/
def Dev.linkUp (d : Dev) (p : Nat) : Dev :=
  let d := d.updPhase p (fun ph =>
    let ph := { ph with link := .up, step := 0, tx := [], hist := [], lo := none }
    if ph.clearing then { ph with st := .off, trim := 0, fcause := 0, clearing := false } else ph)
  d.offToShed p

/-- A complete REG pair during bring-up (R129 steps 2 and 4). -/
def Dev.stepReg (d : Dev) (p v : Nat) : Dev :=
  let ph := d.phase p
  if ph.step == 2 then
    let d := d.wrPh PHASE.STATUS_RATING p (bitsAt v 0 8)
    if bitsAt v 8 8 == 1 && decide (bitsAt v 0 8 * 16 ≥ d.rdPh PHASE.CFG_IPK_MAX p) then
      let tmax := d.rd RAIL.PWM_TMAX (d.phRail p)
      let d := d.updPhase p (fun ph => { ph with tmaxWr := tmax })
      d.enterStep p 3 [frWrite 1 tmax, frWrite 2 (d.rdPh PHASE.CFG_IPK_MAX p), frWrite 4 1, frWrite 3 0x80FE]
    else (d.phaseFault p 1).evPhase Ev.PHASE_IDENT_BAD p
  else if ph.step == 4 then
    if v == ph.tmaxWr then d.linkUp p else d.updPhase p (fun ph => { ph with lo := none })
  else d

/-- The limit of the step in progress has passed (R129). Step 1 has 20 us, 640 forward slots from its first TRAIN frame.
Steps 2 to 4 have their limit L of return slots, and one more for a HI half whose LO half has come. -/
def Phase.limitPassed (ph : Phase) : Bool :=
  let lim := stepLimit ph.step
  match ph.link, ph.sentAt, ph.fwd with
  | .train, some a, some b => decide (a + 639 ≤ b)
  | .config, some _, _ => decide (lim < ph.slots) || (decide (ph.slots = lim) && ph.lo.isNone)
  | _, _, _ => false

/-- LINK_STEP_TIMEOUT (R129): the limit of the step in progress passes. -/
def Dev.linkStepTimeout (d : Dev) (p : Nat) : Dev := if (d.phase p).limitPassed then d.attemptFail p else d

/-- A valid frame of return slot `m` in CONFIG, `slots` after the forward slot of the step's first frame (R129 steps 2 to
4). -/
def Dev.configFrame (d : Dev) (p slots w : Nat) : Dev :=
  let ph := d.phase p
  let lim := stepLimit ph.step
  let kind := bitsAt w 28 3
  let aux := bitsAt w 8 8
  if slots == 0 then d
  else if kind == 5 && ph.step != 3 && decide (slots ≤ lim) then d.updPhase p (fun ph => { ph with lo := some (5, aux) })
  else if kind == 6 && ph.step != 3 && ph.lo.isSome && decide (slots ≤ lim + 1) then
    d.stepReg p (aux * 256 + (ph.lo.getD (0, 0)).2)
  else if kind == 0 && ph.step == 3 && decide (slots ≤ lim) && bitAt aux 0 && !bitAt aux 7 && !bitAt aux 6
      && !bitAt aux 5 && !bitAt aux 3 then
    d.enterStep (p := p) 4 [frRead 1]
  else d

/-- Return slot `m` in CONFIG: the step's limit counts the slots after the forward slot of its first frame (R129). -/
def Dev.configReturn (d : Dev) (p m : Nat) (w : Option Nat) : Dev :=
  match (d.phase p).sentAt with
  | none => d
  | some a =>
    let slots := m - a
    let d := d.updPhase p (fun ph => { ph with slots := slots })
    let d := match w with
      | some w => d.configFrame p slots w
      | none => d
    d.linkStepTimeout p

/-- A return slot in TRAIN (R129 step 1). -/
def Dev.trainReturn (d : Dev) (p : Nat) (w : Option Nat) : Dev :=
  let run := match w with
    | some w => if bitsAt w 28 3 == 7 then (d.phase p).trainRun + 1 else 0
    | none => 0
  if run ≥ 64 then d.enterStep p 2 [frRead 0] else d.updPhase p (fun ph => { ph with trainRun := run })

/-! ### A link that is UP (R130) -/

/-- A link that was UP goes DOWN (R130). A phase already in FAULTED keeps its cause (R129). -/
def Dev.linkLost (d : Dev) (p : Nat) : Dev :=
  let d := if (d.phase p).st == .faulted then
      d.updPhase p (fun ph => { ph with link := .down, imm := some 2, hist := [] })
    else d.phaseFault p 2
  d.evPhase Ev.PHASE_LINK_DOWN p

/-- The ripple test of a HI or BURST report (R177). -/
def Dev.rippleTest (d : Dev) (n ont : Nat) (ph : Phase) : Bool :=
  let rip := (ph.ripMax.getD 0) - (ph.ripMin.getD 0)
  let ex : Nat := (ont * d.rd RAIL.MODEL_RAMP_K n + 2 ^ 11) / 2 ^ 12
  let rel := min (d.rd RAIL.SENSEDET_REL n) (d.rd RAIL.HARD_FDET_HARD_SREL n)
  let ab := min (d.rd RAIL.SENSEDET_RIP_ABS n) (d.rd RAIL.HARD_FDET_HARD_SABS n)
  decide ((rip - (ex : Int)).natAbs > ab + (ex * rel + 128) / 256)

/-- A completed on-time report (R126, R135, R176, R177). -/
def Dev.ontReport (d : Dev) (p ont mode : Nat) : Dev :=
  let n := d.phRail p
  let d := (d.wrPh PHASE.LASTCYC_MODE p mode).wrPh PHASE.LASTCYC_ONT p ont
  let hot := mode == 0 || mode == 3
  let bad := d.rippleTest n ont (d.phase p)
  d.updPhase p (fun ph =>
    if hot then { ph with ontUse := ont, reps := ph.reps ++ [ont], ripMax := none, ripMin := none,
                          ripBad := if ph.st == .active then bad else ph.ripBad }
    else { ph with ripMax := none, ripMin := none })

/-- A FLAGS byte received on a link in TRAIN, CONFIG or UP (R130, R146). ERRCNT.STAGE_CRC counts "FLAGS frames with
CRC_SEEN" (R146) of every link state; R130 names what applies only while UP (DEDUCED, log entry 95). -/
def Dev.flagsByte (d : Dev) (p aux : Nat) : Dev :=
  let d := d.wrPh PHASE.STATUS_FLAGS p aux
  if bitAt aux 2 then d.bumpPh PHASE.ERRCNT_STAGE_CRC p else d

/-- An ONT_LO half in return slot `m`, which starts 32 bit times after the first bit of forward slot `m` (R126), reports the
oldest turn-on that has acted by then and is not reported. -/
def Phase.reported (ph : Phase) (m : Nat) : Phase :=
  match ph.ons with
  | e :: rest => if e.1 ≤ 50 * m + 32 then { ph with ons := rest } else ph
  | [] => ph

/-- The AUX byte of a valid frame in return slot `m` (R125). A LO half waits for the next HI half of its kind, over any number of
other slots, also invalid ones: the spec does not say when a LO half is dropped (DESIGN CHOICE, log entry 72). -/
def Dev.auxByte (d : Dev) (p m kind aux : Nat) : Dev :=
  let ph := d.phase p
  if kind == 0 then d.flagsByte p aux
  else if kind == 1 then d.updPhase p (fun ph => { ph.reported m with lo := some (1, aux) })
  else if kind == 3 || kind == 5 then d.updPhase p (fun ph => { ph with lo := some (kind, aux) })
  else if kind == 2 && (ph.lo.map (·.1)) == some 1 then
    (d.updPhase p (fun ph => { ph with lo := none })).ontReport p ((aux % 64) * 256 + (ph.lo.getD (0, 0)).2) (aux / 64)
  else if kind == 4 && (ph.lo.map (·.1)) == some 3 then
    (d.updPhase p (fun ph => { ph with lo := none, tempAge := some 0 })).wrPh PHASE.TEMP_TEMP p (aux * 256 + (ph.lo.getD (0, 0)).2)
  else d

/-- A valid sample enters the phase (R130, R136, R177). -/
def Phase.sample (ph : Phase) (x : Int) : Phase :=
  { ph with lastSamp := x, accSum := ph.accSum + x, accCnt := ph.accCnt + 1,
            ripMax := some (match ph.ripMax with | none => x | some y => max x y),
            ripMin := some (match ph.ripMin with | none => x | some y => min x y) }

/-- Return slot `m` of a link that is UP (R130). -/
def Dev.upReturn (d : Dev) (p m : Nat) (fr : Option Nat) : Dev :=
  let hist := (fr.isSome :: (d.phase p).hist).take 8
  let d := d.updPhase p (fun ph => { ph with hist := hist })
  match fr with
  | none =>
    let d := d.bumpPh PHASE.ERRCNT_RX_BAD p
    let d := if (d.phase p).rxErrSent then d
             else (d.updPhase p (fun ph => { ph with rxErrSent := true })).evPhase Ev.PHASE_RX_ERR p
    if (hist.filter (fun v => !v)).length ≥ 4 then d.linkLost p else d
  | some w =>
    let kind := bitsAt w 28 3
    if kind == 7 then d.linkLost p else
    let d := d.updPhase p (fun ph => ph.sample (signedOf 12 (bitsAt w 16 12)))
    let d := d.auxByte p m kind (bitsAt w 8 8)
    if bitAt w 31 && (d.phase p).st != .faulted then
      ((d.phaseFault p 3).evPhase Ev.PHASE_STAGE_FAULT p).stageFlagEvents p
    else d

/-- The FLAGS frame of a bring-up is recorded too (R146). -/
def Dev.bringUpFlags (d : Dev) (p : Nat) (fr : Option Nat) : Dev :=
  match fr with
  | some w => if bitsAt w 28 3 == 0 then d.flagsByte p (bitsAt w 8 8) else d
  | none => d

/-- RETURN_FRAME (R122, R129, R130): return slot `m` of phase `p`, its fifty received bits taken whole. -/
def Dev.returnFrame (d : Dev) (p m code : Nat) : Dev :=
  let r := decSlot (d.phase p).rxRd code
  let d := d.updPhase p (fun ph => { ph with rxRd := r.2, tempAge := ph.tempAge.map (fun a => min 64 (a + 1)) })
  match (d.phase p).link with
  | .down => d
  | .train => (d.bringUpFlags p r.1).trainReturn p r.1
  | .config => (d.bringUpFlags p r.1).configReturn p m r.1
  | .up => d.upReturn p m r.1

/-! ### Forward slots (R132 to R135) -/

/-- The peak threshold of R135. -/
def Dev.ipkOf (d : Dev) (p nAct : Nat) : Nat :=
  let ph := d.phase p
  let icmd := ((d.rail (d.phRail p)).loop.icmdLat : Int)
  let b := roundDiv (icmd * 4 * (1024 + ph.trim)) (1024 * nAct)
  let c : Nat := roundDivN (d.rdPh PHASE.CFG_SLOPE p * ph.ontUse) 400
  min (d.rdPh PHASE.CFG_IPK_MAX p) (max 0 (b + (c : Int))).toNat

/-- The turn-on instant in `[lo, lo + 49]` of rank `j` of `nAct` on rail `n` with period `per`, if there is one (R131). -/
def turnOnIn (per n j nAct lo : Nat) : Option Nat :=
  let base : Int := ((48 * n + roundDivN (16 * per * j) nAct : Nat) : Int)
  let t := lo + ((base - (lo : Int)) % ((16 * max per 1 : Nat) : Int)).toNat
  if t ≤ lo + 49 then some t else none

/-- The grid turn-on of phase `p` in `[lo, lo + 49]` with the N of its cycle (R131, R132). -/
def Dev.gridTurnOn (d : Dev) (p lo : Nat) : Option (Nat × Nat) :=
  let n := d.phRail p
  let per := d.rd RAIL.PWM_PERIOD n
  let s := (d.rail n).sw
  let try_ (g : List Nat) : Option (Nat × Nat) :=
    if g.contains p then
      match turnOnIn per n (g.findIdx (· == p)) g.length lo with
      | some t => if s.gridAt (t / 16) == g then some (t, g.length) else none
      | none => none
    else none
  match try_ (s.gridAt (lo / 16)) with
  | some x => some x
  | none => try_ (s.gridAt ((lo + 49) / 16))

/-- The slot carries a frame, coded from the running disparity of the slot before (R120), or the static level, after which
the disparity starts negative again. -/
def Phase.emit (ph : Phase) (f : Option Nat) : Phase :=
  match f with
  | some w => { ph with out := f, code := (encSlot ph.txRd w).1, txRd := (encSlot ph.txRd w).2 }
  | none => { ph with out := none, code := 0, txRd := false }

/-- Send frame `f` in this slot. -/
def Dev.sendFrame (d : Dev) (p : Nat) (f : Option Nat) : Dev := d.updPhase p (fun ph => ph.emit f)

/-- The step in progress has sent its first frame in forward slot `s` at the latest (R129). -/
def Phase.sentIn (ph : Phase) (s : Nat) : Phase := { ph with sentAt := some (ph.sentAt.getD s) }

/-- Slot `s` that no turn-on takes: the oldest WRITE or READ, else IDLE (R134). -/
def Dev.freeSlot (d : Dev) (p s : Nat) : Dev :=
  match (d.phase p).tx with
  | f :: r => (d.updPhase p (fun ph => { ph.sentIn s with tx := r })).sendFrame p (some f)
  | [] => d.sendFrame p (some frIdle)

/-- A TURN_ON frame goes out that acts at instant `t` (R124); `hot`: HI or BURST. A report that has not come 200 bit times
after TMAX is taken as lost (DESIGN CHOICE, log entry 98). -/
def Phase.turnOn (ph : Phase) (t tmax : Nat) (hot : Bool) : Phase :=
  { ph with ons := ph.ons.filter (fun e => decide (t < e.1 + tmax + 200)) ++ [(t, hot)] }

/-- The OFF turn-on that a phase in SHED still owes falls to slot `s` (R137): its instant. -/
def Dev.offDue (d : Dev) (p s : Nat) : Option Nat :=
  let n := d.phRail p
  match (d.phase p).offRank with
  | some (j, nAct) => turnOnIn (d.rd RAIL.PWM_PERIOD n) n j nAct (50 * (s + 1) + 16)
  | none => none

/-- The grid frames of slot `s` of an UP link (R132, R133, R137). A grid turn-on whose THRESHOLD slot has passed when braking
ends cannot be HI, so it is not started and the phase resumes with the next one (R139; DESIGN CHOICE, log entry 96). -/
def Dev.gridSlot (d : Dev) (p s : Nat) : Dev :=
  let ph := d.phase p
  let n := d.phRail p
  let per := d.rd RAIL.PWM_PERIOD n
  let tmax := d.rd RAIL.PWM_TMAX n
  let near (t : Nat) (q : Option Nat) : Bool := match q with | some q => decide (t < q + 8 * per) | none => false
  match (if ph.st == .shed then d.offDue p s else none) with
  | some t =>
    (d.updPhase p (fun ph => { ph.turnOn t tmax false with offRank := none })).sendFrame p (some (frTurnOn 2 (t - 50 * (s + 1))))
  | none =>
  if ph.st == .softstart || ph.st == .active || ph.st == .shed then
    match d.gridTurnOn p (50 * (s + 1) + 16) with
    | some (t, _) =>
      if near t ph.prevOn || near t ph.burstOn then
        (d.updPhase p (fun ph => { ph.turnOn t tmax false with prevOn := some t, thrFor := none })).sendFrame p
          (some (frTurnOn 1 (t - 50 * (s + 1))))
      else if ph.thrFor == some t then
        (d.updPhase p (fun ph => { ph.turnOn t tmax true with prevOn := some t, thrFor := none })).sendFrame p
          (some (frTurnOn 0 (t - 50 * (s + 1))))
      else (d.updPhase p (fun ph => { ph with thrFor := none })).freeSlot p s
    | none =>
      match d.gridTurnOn p (50 * (s + 2) + 16) with
      | some (t, nAct) =>
        let ipk := d.ipkOf p nAct
        ((d.wrPh PHASE.LASTCYC_IPK p ipk).updPhase p (fun ph => { ph with thrFor := some t })).sendFrame p
          (some (frThreshold ipk (d.rdPh PHASE.CFG_SLOPE p)))
      | none => d.freeSlot p s
  else d.freeSlot p s

/-- Forward slot `s` starts in the RAIL tick in progress (R120): 50·s bit times after the edge that starts beat 0, at or
after the last RAIL strobe and before the next strobe. -/
def Tick.slotNow (t : Tick) (s : Nat) : Bool :=
  decide (16 * t.strobe ≤ 50 * s) && decide (50 * s < 16 * (if t.railIdx ≥ 4 then t.ref + t.len else t.strobe + 25))

/-- Each slot carries one frame, and the slots follow one another (R120). -/
def Dev.slotOpen (d : Dev) (p s : Nat) : Bool :=
  d.tick.slotNow s && (match (d.phase p).fwd with | some q => decide (q < s) | none => true)

/-- What slot `s` of the forward direction of phase `p` carries (R129, R134). An immediate TURN_ON still owed when EN is
written 0 goes out before the static level (R143; DESIGN CHOICE, log entry 94). A FAULTED phase whose link is DOWN sends as
for cause 0x2, also after EN was 0 and is 1 again with a cause 0x3 to 0x6 (R129; DEDUCED, log entry 106). -/
def Dev.slotFrame (d : Dev) (p s : Nat) : Dev :=
  let ph := d.phase p
  match ph.imm with
  | some mode =>
    let t := 50 * (s + 1) + 16
    let tmax := d.rd RAIL.PWM_TMAX (d.phRail p)
    (d.updPhase p (fun ph =>
      let ph := { ph.turnOn t tmax (mode == 3) with imm := none, thrFor := none }
      if mode == 3 then { ph with prevOn := some t, burstOn := some t } else ph)).sendFrame p
        (some (frTurnOn mode 16))
  | none =>
    match ph.link with
    | .train => (d.updPhase p (fun ph => ph.sentIn s)).sendFrame p (some frTrain)
    | .config => d.freeSlot p s
    | .up => d.gridSlot p s
    | .down => d.sendFrame p (if ph.st == .faulted && d.phEn p then some frTrain else none)

/-- FORWARD_SLOT (R120, R129, R134): slot `s` of the forward direction of phase `p`. -/
def Dev.forwardSlot (d : Dev) (p s : Nat) : Dev :=
  if d.slotOpen p s then (d.updPhase p (fun ph => { ph with fwd := some s })).slotFrame p s else d

/-! ### Register writes of the PHASE pages (R144, R146) -/

/-- A CLEAR is accepted only in FAULTED and while the rail of the phase has no switching phase (R144). -/
def Dev.clearOk (d : Dev) (p : Nat) : Bool := (d.phase p).st == .faulted && !d.railSwitching (d.phRail p)

/-- R144: the whole CTRL write is refused. `en`, `rail`, `clr` are the written values. -/
def Dev.phCtrlRefused (d : Dev) (p : Nat) (en rail clr : Nat) : Bool :=
  let st := (d.phase p).st
  let enOff := d.phEn p && en == 0 && !(st == .off || st == .shed || st == .faulted)
  let railCh := rail != d.phRail p && !((st == .off || st == .faulted) && !d.phEn p)
  enOff || railCh || (clr == 1 && !d.clearOk p)

/-- The effects of an accepted CTRL write, EN and RAIL already written (R129, R144). `was` is EN before the write; a CLEAR
in the same word goes by the EN that the write leaves (DESIGN CHOICE, log entry 73). -/
def Dev.phCtrlDone (d : Dev) (p : Nat) (was : Bool) (clr retrain : Nat) : Dev :=
  let en := d.phEn p
  let st := (d.phase p).st
  let d := if was && !en then
      d.updPhase p (fun ph => { ph with link := .down, step := 0, tx := [], clearing := false,
                                        st := if ph.st == .shed then .off else ph.st,
                                        offRank := if ph.st == .shed then none else ph.offRank }) |>.updSw (d.phRail p)
        (fun s => { s with chg := s.chg.filter (fun c => c.ph != p || c.fault) })
    else d
  if clr == 1 then
    if en then d.bringUp p true
    else d.updPhase p (fun ph => { ph with st := .off, link := .down, trim := 0, fcause := 0 })
  else if st == .off && en && (!was || retrain == 1) then d.bringUp p false
  else d

/-- A change of CFG.IPK_MAX is written to a stage that is UP (R146). -/
def Dev.phIpkDone (d : Dev) (p : Nat) : Dev :=
  if (d.phase p).link == .up then
    d.updPhase p (fun ph => { ph with tx := ph.tx ++ [frWrite 2 (d.rdPh PHASE.CFG_IPK_MAX p)] })
  else d

/-- A TMAX write goes to each stage of the rail that is UP (R141). -/
def Dev.tmaxDone (d : Dev) (n : Nat) : Dev :=
  (d.phasesOf n).foldl (fun d p =>
    if (d.phase p).link == .up then
      d.updPhase p (fun ph => { ph with tx := ph.tx ++ [frWrite 1 (d.rd RAIL.PWM_TMAX n)] })
    else d) d

/-- STATUS.LINK encoding (R146). -/
def LinkSt.code : LinkSt → Nat
  | .down => 0 | .train => 1 | .config => 2 | .up => 3

/-- STATUS.STATE encoding (R146). -/
def PhSt.code : PhSt → Nat
  | .off => 0 | .softstart => 1 | .active => 2 | .shed => 3 | .brake => 4 | .faulted => 5

/-! ### Rail stop (R141) -/

/-- Every switching phase receives an immediate TURN_ON OFF and enters OFF; the active set empties. A removal that the
fault monitor has decided still acts at the next RAIL tick (R175). -/
def Dev.phasesOff (d : Dev) (n : Nat) : Dev :=
  let d := (d.phasesOf n).foldl (fun d p =>
    d.updPhase p (fun ph => if ph.st.switching then
      { ph with st := .off, imm := some 2, thrFor := none, offRank := none, ons := [] } else ph)) d
  d.updSw n (fun s => { s with grid := [], chg := [], braking := false, brakeT := 0, shedCnt := 0,
                               nChanged := s.nChanged || !s.grid.isEmpty })

end Sys2Proof.Machine
end

