-- ==== Sys2Proof/Machine/Rail.lean ====
section
/-!
DEFINITION. Machine/Rail.lean: rail voltage loops, voltage commands, AVS mode, injection and capture
(spec/06_rail_loops.md), and soft start (R142).
-/
namespace Sys2Proof.Machine

/-! ### Helpers -/

/-- The rail is running in direct control with its loop closed and out of soft start (R138, R140, R166). -/
def Dev.closedDirect (d : Dev) (n : Nat) : Bool :=
  let r := d.rail n
  !d.avs n && !r.loop.opened && !(r.cmd.st == .stopped) && !(r.cmd.st == .starting)

/-- An in-use satellite (R200). -/
def Dev.satInUse (d : Dev) (s : Nat) : Bool :=
  let x := d.sat s
  d.on DROOP.MAP_USE 0 s && !x.stuck && x.open100

/-- Domain of a satellite (MAP.DOMAIN). -/
def Dev.satDom (d : Dev) (s : Nat) : Nat := (d.bld.dsMap.getD s (0, 0)).1
/-- Rail of a satellite (MAP.RAIL). -/
def Dev.satRail (d : Dev) (s : Nat) : Nat := (d.bld.dsMap.getD s (0, 0)).2

/-- Accepted LEVEL of a satellite (R198). -/
def Sat.level (x : Sat) : Nat := bitsAt x.acc 2 2
/-- Accepted PERSIST of a satellite. -/
def Sat.persist (x : Sat) : Bool := bitAt x.acc 1

/-- The satellite is in Gust (R200). -/
def Dev.satGust (d : Dev) (s : Nat) : Bool := d.satInUse s && (d.sat s).level != 0

/-- A rail is in Gust (R200). -/
def Dev.railGust (d : Dev) (n : Nat) : Bool := (upto d.sats.length).any (fun s => d.satRail s == n && d.satGust s)

/-- Voltage in 0.25 mV of a value in fine units (R170). -/
def toMv4 (x : Int) : Nat := ((x + 8) / 16).toNat

/-! ### Command completion (R152) -/

/-- Next command ID: 0x01 to 0xFF, then 0x01 again. -/
def nextCmdId (i : Nat) : Nat := if i ≥ 0xFF then 1 else i + 1

/-- The pending command completes with a status (R152, R170). A COMPLETE records its target (R227). -/
def RailCmd.complete (c : RailCmd) (status : Nat) : RailCmd :=
  match c.pend with
  | none => c
  | some p => { c with
      pend := none, lastId := p.id, lastStatus := status, doneT := if status == 1 then some (p.t / 16).toNat else none, fdown := none }

/-- A command completes REFUSED on arrival (R155). -/
def Dev.refuseCmd (d : Dev) (n : Nat) : Dev :=
  (d.updCmd n (fun c => { c with
    lastId := c.nextId, lastStatus := 3, doneT := none, nextId := nextCmdId c.nextId })).evRail Ev.RAIL_CMD_REFUSED n

/-- A pending or held command ends REFUSED when its rail stops (R157). -/
def Dev.refusePending (d : Dev) (n : Nat) : Dev :=
  let c := (d.rail n).cmd
  let d := if c.pend.isSome then (d.updCmd n (fun c => c.complete 3)).evRail Ev.RAIL_CMD_REFUSED n else d
  match c.held with
  | some (i, _, _) =>
    (d.updCmd n (fun c => { c with held := none, lastId := i, lastStatus := 3, doneT := none })).evRail Ev.RAIL_CMD_REFUSED n
  | none => d

/-! ### Start and stop (R141, R142, R157) -/

/-- The rail stops (R141, R157): its phases turn off, its pending command ends REFUSED, its leases are reclaimed. Commands
issued and not yet latched arrive in STOPPED at the next RAIL tick (R155), and an open loop stays open until a close (R157,
R160). -/
def Dev.railStop (d : Dev) (n : Nat) : Dev :=
  let d := d.refusePending n
  let d := d.phasesOff n
  let d := (d.tuneAbortOn n 3).calAbortOn n
  let d := d.updCmd n (fun c => { c with st := .stopped, pp := 0 })
  let d := d.updLoop n (fun l => { l with icmd := 0 })
  d.creditRailOff n

/-- Phases that may take part in a start: EN = 1 and link UP (R142). A FAULTED phase with EN = 1 and its link UP (causes 0x3
to 0x6), or one whose removal is decided, takes no part: it counts toward MIN_ACTIVE in no start and is written no MODE_CFG
(DEDUCED from R143, R144, log entry 76). -/
def Dev.readyPhases (d : Dev) (n : Nat) : List Nat :=
  (d.phasesOf n).filter (fun p => d.phEn p && (d.phase p).link == .up && (d.phase p).st == .off && (d.phase p).removal.isNone)

/-- The phases of rail `n` with EN = 1 and link UP (R145). -/
def Dev.upPhases (d : Dev) (n : Nat) : List Nat :=
  (d.phasesOf n).filter (fun p => d.phEn p && (d.phase p).link == .up)

/-- DERATE.MIN_PHASES in use (R23, R186). -/
def Dev.minPhases (d : Dev) (n : Nat) : Nat := max (d.rd RAIL.DERATE_MIN_PHASES n) (d.rd RAIL.HARD_FDET_HARD_MINPH n)

/-- A clock's view: the instant `cyc` of the beat is now (R73). -/
def Dev.atCyc (d : Dev) (cyc : Nat) : Dev := { d with tick := { d.tick with cyc := cyc } }

/-- GCLK count of the last instant that a command named (DESIGN CHOICE, log entry 82). -/
def Dev.gnow (d : Dev) : Nat := d.gclk d.tick.cyc

/-- An accepted write of RUN = 1 (R142, R157, R181, R186, R187). H0 and FLOG.REMOVED start anew with it, whether or not the
start then fails (R181, R192). A start clears a VS_LOST that a stop has left, without RAIL_VS_RESUMED (DESIGN CHOICE, log
entry 99). -/
def Dev.railStart (d : Dev) (n : Nat) : Dev :=
  let d := (d.wr RAIL.FLOG_REMOVED 0 n).updFlt n (fun f => { f with hStart := none })
  let ready := d.readyPhases n
  let direct := !d.avs n
  if direct && (decide (ready.length < d.rd RAIL.PHCOUNT_MIN_ACTIVE n) || decide (d.healthy n < d.minPhases n)) then
    (d.wr RAIL.CTRL_RUN 0 n).ev Ev.PHASE_START_FAIL n
  else
    let goal : Int := 16 * ((d.rd RAIL.VSTART_TARGET n : Nat) : Int)
    let v := (d.rail n).loop.v
    let d := d.updCmd n (fun c => { c with
      st := .starting, soft := 5 * min v goal, pp := 0, held := none })
    let d := d.updLoop n (fun l => { l with
      e1 := 0, e2 := 0, w1 := 0, w2 := 0, acc := 0, u := 0, y := 0, satHi := false, satLo := false, satRun := 0 })
    let d := d.updFlt n (fun f => { f with vsMiss := 0, vsLost := false })
    let d := d.updAvs n (fun a => { a with voltWr := none, timer := none })
    let d := { d with gov := { d.gov with lastT := putPad none (some (d.rd RAIL.VSTART_TARGET n)) n d.gov.lastT } }
    if direct then
      ready.foldl (fun d p =>
        (d.updPhase p (fun ph => { ph with st := .softstart, tx := ph.tx ++ [frWrite 4 1] })).schedule n p true) d
    else d

/-- Soft start ends (R142, R157, R181). H_start is the healthy count of the phases as they stand in this tick, not the H
that task 0x0D last computed (DEDUCED from R181, log entry 77). -/
def Dev.startDone (d : Dev) (n : Nat) : Dev :=
  let goal : Int := 16 * ((d.rd RAIL.VSTART_TARGET n : Nat) : Int)
  let d := (d.phasesOf n).foldl (fun d p =>
    if (d.phase p).st == .softstart then
      d.updPhase p (fun ph => { ph.toActive with tx := ph.tx ++ [frWrite 4 0] })
    else d) d
  let d := d.updCmd n (fun c => { c with st := .settled, ramp := goal, t := goal })
  let d := d.offToShedAll n
  let h := d.healthy n
  let d := d.updFlt n (fun f => { f with hStart := some h, startTick := true })
  d.evRail Ev.RAIL_START_DONE n

/-! ### AVSBus (R63, R164, R165) -/

/-- The CRC-3 of an AVSBus frame, polynomial x^3 + x + 1, over its upper 29 bits, most significant first (R63: PMBus part
III is not in the spec; PRESUMED, log entry 78). -/
def crc3 (x : Nat) : Nat → Nat → Nat
  | 0, c => c
  | k + 1, c =>
    let c := if (c / 4 + bitsAt x k 1) % 2 == 1 then (2 * c % 8) ^^^ 3 else 2 * c % 8
    crc3 x k c

/-- The frame of a transaction for a rail select (R63): start 01, command (write and commit 00, read 11), group 0, code,
select, data (all ones in a read), CRC-3 (PRESUMED, log entry 78). -/
def AvsTx.frame (t : AvsTx) (sel : Nat) : Nat :=
  let x := putAt 1 27 + putAt (if t.wr then 0 else 3) 25 + putAt (t.code % 16) 20 + putAt (sel % 16) 16
    + (if t.wr then t.data % 65536 else 65535)
  8 * x + crc3 x 29 0

/-- A Gust of the rail holds back a Voltage write below the last one made (R207), apart from those of a Squall and of a start. -/
def Dev.avsBars (d : Dev) (n : Nat) (t : AvsTx) : Bool :=
  let r := d.rail n
  d.railGust n && t.wr && t.code == 0 && decide (t.data < r.avs.voltAck.getD 0)
    && !(r.cmd.st == .retention || r.cmd.st == .starting || r.cmd.st == .stopped)

/-- The transaction at the head of the queue starts on the bus. A lower Voltage that a Gust has overtaken in the queue, or
before a retry, is taken out and written after the Gust (R207). -/
def Dev.avsSend (d : Dev) (n : Nat) : Dev :=
  let q := (d.rail n).avs.q.dropWhile (d.avsBars n)
  let d := if q.length == (d.rail n).avs.q.length then d
    else d.updAvs n (fun a => { a with q := q, tries := 0, voltWr := a.voltAck })
  match q with
  | [] => d
  | t :: _ => d.send (.avs n (t.frame (d.rd RAIL.AVS_RAILSEL n)))

/-- Queue a transaction; on an idle bus it starts. A Voltage write replaces one that has not started. -/
def Dev.avsPush (d : Dev) (n : Nat) (t : AvsTx) : Dev :=
  let idle := (d.rail n).avs.q.isEmpty
  let d := d.updAvs n (fun a =>
    let q := if t.code == 0 && t.wr then a.q.take 1 ++ (a.q.drop 1).filter (fun x => x.code != 0 || !x.wr) else a.q
    { a with q := q ++ [t] })
  if idle then d.avsSend n else d

/-- Write a slew, 0.05 mV/us, when it differs from the last one written: at every command, and before a Voltage write (R63,
R164). -/
def Dev.avsSlew (d : Dev) (n slew : Nat) : Dev :=
  if (d.rail n).avs.slewWr == some slew then d
  else (d.avsPush n ⟨1, Config.avsRate slew, true⟩).updAvs n (fun a => { a with slewWr := some slew })

/-- The Voltage data of a target in fine units, mV (R164). -/
def avsMv (teff : Int) : Nat := ((teff / 16 + 2) / 4).toNat

/-- Write Voltage when the value changes (R164). `teff` is in fine units, `slew` in 0.05 mV/us. -/
def Dev.avsVolt (d : Dev) (n : Nat) (teff : Int) (slew : Nat) : Dev :=
  let mv := avsMv teff
  if (d.rail n).avs.voltWr == some mv then d
  else ((d.avsSlew n slew).avsPush n ⟨0, mv, true⟩).updAvs n (fun a => { a with voltWr := some mv })

/-- Reads that fill an idle bus at a RAIL tick: the version once after reset, then Current (R63). -/
def Dev.avsIdle (d : Dev) (n : Nat) : Dev :=
  let a := (d.rail n).avs
  if !a.q.isEmpty then d
  else if !a.verRead then (d.avsPush n ⟨0xF, 0, false⟩).updAvs n (fun a => { a with verRead := true })
  else d.avsPush n ⟨2, 0, false⟩

/-- The Temperature read of a THERM tick on an idle bus (R63). -/
def Dev.avsTherm (d : Dev) (n : Nat) : Dev :=
  if d.avs n && (d.rail n).avs.q.isEmpty then d.avsPush n ⟨3, 0, false⟩ else d

/-- The status read that follows a response with status bits, one for every such response (R63): behind the transaction,
which goes first when it is retried. -/
def AvsTx.withStatus (t : AvsTx) (status : Nat) (rest : List AvsTx) : List AvsTx :=
  if status == 0 then t :: rest else t :: ⟨0xE, 0, false⟩ :: rest

/-- What follows a transaction that has succeeded (R63): a Voltage write is read back, the status read is answered by the
write that clears it, and a clear whose response has status bits by another status read. -/
def AvsTx.next (t : AvsTx) (status data : Nat) : List AvsTx :=
  if t.wr && t.code == 0 then [⟨0, 0, false⟩]
  else if t.code == 0xE && !t.wr then [⟨0xE, data, true⟩]
  else if t.code == 0xE && status != 0 then [⟨0xE, 0, false⟩]
  else []

/-- What a successful transaction gives the rail (R63, R165, R170, R207). A Current reading is in 10 mA, so 25 of it are
0.25 A (PMBus part III is not in the spec; PRESUMED, log entry 100). -/
def Dev.avsRead (d : Dev) (n : Nat) (t : AvsTx) (data : Nat) : Dev :=
  if t.wr then (if t.code == 0 then d.updAvs n (fun a => { a with voltAck := some t.data }) else d)
  else if t.code == 0 then d.updAvs n (fun a => { a with volt := data })
  else if t.code == 2 then d.updAvs n (fun a => { a with cur := roundDivN data 25 })
  else if t.code == 3 then d.updAvs n (fun a => { a with temp := data })
  else if t.code == 0xF then d.wr RAIL.AVS_STAT_VERSION data n
  else if t.code == 0xE then d.wr RAIL.AVS_STAT_STATUS data n
  else d

/-- AVS_RESPONSE (R63, R165): the transaction in progress ends with CRC result, status bits and data. A transaction with a
CRC error or status bits is retried twice; status bits do not fail one of the status commands, which serve to clear them. -/
def Dev.avsResponse (d : Dev) (n : Nat) (crcOk : Bool) (status data : Nat) : Dev :=
  match (d.rail n).avs.q with
  | [] => d
  | t :: rest =>
    let d := d.wr RAIL.AVS_STAT_STATUS status n
    if !crcOk || (status != 0 && t.code != 0xE) then
      if (d.rail n).avs.tries ≥ 2 then
        let d := d.updAvs n (fun a => { a with q := (t.withStatus status rest).drop 1, tries := 0, timer := none })
        let d := d.updCmd n (fun c => c.complete 5)
        ((d.bump RAIL.AVS_STAT_ERRORS n).evRail Ev.RAIL_AVS_ERR n).avsSend n
      else (d.updAvs n (fun a => { a with q := t.withStatus status rest, tries := a.tries + 1 })).avsSend n
    else
      let d := d.updAvs n (fun a => { a with q := t.next status data ++ rest, tries := 0 })
      (d.avsRead n t data).avsSend n

/-- The AVS timer has run AVS.TIMEOUT us, four RAIL ticks each (R165). -/
def Dev.avsLate (d : Dev) (n : Nat) : Bool :=
  match (d.rail n).avs.timer with
  | some k => decide (4 * d.rd RAIL.AVS_TIMEOUT n ≤ k)
  | none => false

/-- RAIL_AVS_TIMEOUT (R165). -/
def Dev.avsTimeout (d : Dev) (n : Nat) : Dev :=
  if d.avsLate n && (d.rail n).cmd.pend.isSome then
    ((d.updAvs n (fun a => { a with timer := none })).updCmd n (fun c => c.complete 4)).evRail Ev.RAIL_AVS_TIMEOUT n
  else d

/-! ### Injection (R166) -/

/-- sin(x) scaled by 2^96, for x scaled by 2^96, by its series; `k` terms. -/
def sinSeries (x2 : Int) : Nat → Nat → Int → Int → Int
  | 0, _, _, acc => acc
  | k + 1, i, term, acc =>
    let term' := -(term * x2 / (2 ^ 96 : Int)) / (((2 * i) * (2 * i + 1) : Nat) : Int)
    sinSeries x2 k (i + 1) term' (acc + term')

/-- sin(pi/2 * j/1024) scaled by 2^96, 0 ≤ j ≤ 1024; pi to 38 digits. -/
def sinQuarter (j : Nat) : Int :=
  let x : Int := (31415926535897932384626433832795028842 * 2 ^ 96 * (j : Int)) / (10 ^ 37 * 2048)
  sinSeries (x * x / 2 ^ 96) 14 1 x x

/-- SIN[i] = round(32,767 sin(2 pi i / 4,096)) (R166). -/
def sinTable (i : Nat) : Int :=
  let q := (i / 1024) % 4
  let j := i % 1024
  let s := sinQuarter (if q % 2 == 0 then j else 1024 - j)
  let m := (32767 * s * 2 + 2 ^ 96) / 2 ^ 97
  if q < 2 then m else -m

/-- The injection value of the present RAIL tick and the generator after it. A PRBS output bit of 1 gives +AMP and 0 gives
-AMP (DESIGN CHOICE, log entry 26). -/
def Dev.inject (d : Dev) : Dev :=
  let t := d.tune
  if !t.running then (if t.d == 0 then d else { d with tune := { t with d := 0 } }) else
  let wave := d.rd TUNE.CTRL_WAVE
  let amp : Int := ((d.rd TUNE.AMP_AMP : Nat) : Int)
  if wave == 1 || wave == 2 then
    let x := rshift (amp * sinTable (t.phi / 2 ^ 20)) 15
    let f' := if wave == 2 then min (d.rd TUNE.FTW_END_FTW_END) (t.ftwk + d.rd TUNE.DFTW_DFTW) else t.ftwk
    { d with tune := { t with d := x, phi := (t.phi + t.ftwk) % 2 ^ 32, ftwk := f' } }
  else if wave == 3 then
    let step := decide (t.ticks ≠ 0) && t.ticks % 2 ^ (d.rd TUNE.PRBS_HOLD) == 0
    let l := if step then (2 * t.lfsr + (bitsAt t.lfsr 14 1 + bitsAt t.lfsr 13 1) % 2) % 2 ^ 15 else t.lfsr
    { d with tune := { t with d := if bitAt l 14 then amp else -amp, lfsr := l } }
  else { d with tune := { t with d := 0 } }

/-- d_ref of R149 on rail `n`: injection at the reference, or the calibration pulse. -/
def Dev.dRef (d : Dev) (n : Nat) : Int :=
  (if d.tune.running && d.tune.rail == n && d.rd TUNE.CTRL_POINT == 0 then d.tune.d else 0) + d.calDref n

/-- d_out of R158 on rail `n`. -/
def Dev.dOut (d : Dev) (n : Nat) : Int :=
  if d.tune.running && d.tune.rail == n && d.rd TUNE.CTRL_POINT == 1 then 256 * d.tune.d else 0

/-- The signal a SEL code names (R167). -/
def Dev.tuneSignal (d : Dev) (n sel : Nat) : Int :=
  let l := (d.rail n).loop
  match sel with
  | 0 => l.r - l.v
  | 1 => l.r - d.tune.rArm
  | 2 => l.v - d.tune.rArm
  | 3 => (l.u + 128) / 256
  | 4 => (l.y + 128) / 256
  | 5 => d.tune.d
  | 6 => l.isum
  | 7 => (l.icmd : Int)
  | _ => 0

/-- TUNE_DONE (R167): the last sample has been written. -/
def Dev.tuneDone (d : Dev) : Dev :=
  if d.tune.st == .capturing && decide (d.tune.count ≥ d.rd TUNE.CAP_CFG_LEN + 1) then
    { d with tune := { d.tune with st := .done } }.ev Ev.TUNE_DONE d.tune.rail
  else d

/-- The capture and abort checks of a run at the end of task 0x0A (R167, R168). -/
def Dev.tuneCapture (d : Dev) : Dev :=
  let t := d.tune
  if !t.running then d else
  let n := t.rail
  let l := (d.rail n).loop
  let d := if t.ticks == 0 then { d with tune := { t with rArm := l.r } } else d
  let t := d.tune
  let outside := decide ((l.v - l.r).natAbs > 16 * d.rd TUNE.ABORT_BAND)
  if outside && t.out1 then d.tuneAbort 1 else
  let settle := d.rd TUNE.CAP_SETTLE_SETTLE
  let dec := 2 ^ d.rd TUNE.CAP_CFG_DECIM
  let take := decide (settle ≤ t.ticks) && (t.ticks - settle) % dec == 0
  let d := if take then
      let a := unsignedOf 16 (sat16 (d.tuneSignal n (d.rd TUNE.CAP_CFG_SEL_A)))
      let b := unsignedOf 16 (sat16 (d.tuneSignal n (d.rd TUNE.CAP_CFG_SEL_B)))
      { d with capRam := d.capRam.writeLE (4 * t.count) 4 (b * 65536 + a) }
    else d
  let d := { d with tune := { t with
      out1 := outside, ticks := t.ticks + 1, count := if take then t.count + 1 else t.count, st := if settle ≤ t.ticks then .capturing else .settling } }
  d.tuneDone

/-! ### Task 0x0A (R148 to R165) -/

/-- Converted VS samples of a tick, fine units (R148). The spec gives the 32-bit GAIN no sign; it is taken as unsigned
(DESIGN CHOICE, log entry 79). -/
def Dev.vsConvert (d : Dev) (n raw : Nat) : Int :=
  rshift ((raw : Int) * ((d.rd RAIL.VSCAL_GAIN_GAIN n : Nat) : Int)) 16 + signedOf 16 (d.rd RAIL.VSCAL_OFF_OFFSET n)

/-- The measured voltage of a tick: the mean of its samples, ties upward; the previous one with no sample (R148). -/
def Dev.measure (d : Dev) (n : Nat) (xs : List Int) : Dev :=
  match xs with
  | [] => d
  | _ => d.updLoop n (fun l => { l with v := roundDiv (sumI xs) xs.length, vLast := xs.getLastD l.vLast })

/-- A command is latched (R151 to R153). -/
def Dev.latchCmd (d : Dev) (n target slew : Nat) : Dev :=
  let c := (d.rail n).cmd
  match c.st with
  | .stopped => d.refuseCmd n
  | .retention => d.refuseCmd n
  | .starting =>
    let d := match c.held with
      | some (i, _, _) =>
        (d.updCmd n (fun c => { c with lastId := i, lastStatus := 2, doneT := none })).bump RAIL.SUPERSEDED_COUNT n
      | none => d
    d.updCmd n (fun c => { c with held := some (c.nextId, target, slew), nextId := nextCmdId c.nextId })
  | _ => latchRunning d n c.nextId target slew (nextCmdId c.nextId)
where
  /-- R151: the new command supersedes a pending one and takes the ramp toward its clamped target. In AVS mode its timeout
  starts anew once the modelled ramp meets its target (R165), and its slew is written where it differs from the last one
  (R63). -/
  latchRunning (d : Dev) (n id target slew next : Nat) : Dev :=
    let c := (d.rail n).cmd
    let d := if c.pend.isSome then (d.updCmd n (fun c => c.complete 2)).bump RAIL.SUPERSEDED_COUNT n else d
    let lo : Int := 16 * ((d.vmin n : Nat) : Int)
    let hi : Int := 16 * ((d.vmax n : Nat) : Int)
    let want : Int := 16 * (target : Int)
    let t := clampI want lo hi
    let d := if d.avs n then d.avsSlew n (5 * slew) else d
    (d.updAvs n (fun a => { a with timer := none })).updCmd n (fun c => { c with
      t := t, slew := slew, nextId := next,
      pend := some ⟨id, t, slew, decide (t > c.ramp), decide (t ≠ want), false⟩ })

/-- The commands that have arrived since the last RAIL tick are latched in their order (R151, R152, R155). -/
def Dev.latchArr (d : Dev) (n : Nat) : Dev :=
  (d.rail n).cmd.arr.foldl (fun d x => d.latchCmd n x.1 x.2) (d.updCmd n (fun c => { c with arr := [] }))

/-- One step of the ramp toward `teff` (R151), not downward while the rail is in Gust (R207). -/
def rampStep (ramp teff : Int) (slew : Nat) (gust : Bool) : Int :=
  if teff > ramp then min teff (ramp + 4 * (slew : Int))
  else if teff < ramp then (if gust then ramp else max teff (ramp - 4 * (slew : Int)))
  else ramp

/-- The part of the applied pre-position that the reference takes: ramp + pp is clamped to VMAX (R150). -/
def Dev.ppUse (d : Dev) (n : Nat) (ramp : Int) : Int :=
  min (d.rail n).cmd.pp (max 0 (16 * ((d.vmax n : Nat) : Int) - ramp))

/-- The applied pre-position moves toward the clamped request, not downward in a Gust; under Squall S is SQUALL.SLEW (R150,
R207). -/
def Dev.ppStep (d : Dev) (n : Nat) (ramp : Int) : Int :=
  let c := (d.rail n).cmd
  let hi : Int := max 0 (16 * ((d.vmax n : Nat) : Int) - ramp)
  let zero := (d.rail n).loop.opened || c.st == .starting || d.avs n || c.st == .retention || d.sqActive
  let req : Int := if zero then 0 else min (16 * ((min c.ppReq 160 : Nat) : Int)) hi
  let slew := if c.st == .retention || d.sqActive then d.rd RAIL.SQUALL_SLEW n else c.slew
  let step := 4 * (slew : Int)
  let moved := if req > c.pp then min req (c.pp + step)
    else if req < c.pp then (if d.railGust n then c.pp else max req (c.pp - step)) else c.pp
  max 0 moved

/-- The load-line drop of R149. -/
def Dev.llDrop (d : Dev) (n : Nat) : Int :=
  rshift (((d.rd RAIL.LL_LL n : Nat) : Int) * max 0 (d.rail n).loop.isum) 6

/-- Active coefficient bank of a rail. -/
def RailLoop.bank (l : RailLoop) : List Nat := if l.actBank == 0 then l.bank0 else l.bank1
/-- Edit bank. -/
def RailLoop.edit (l : RailLoop) : List Nat := if l.actBank == 0 then l.bank1 else l.bank0
/-- Replace the edit bank. -/
def RailLoop.setEdit (l : RailLoop) (b : List Nat) : RailLoop :=
  if l.actBank == 0 then { l with bank1 := b } else { l with bank0 := b }

/-- Coefficient word `i` of a bank, signed. -/
def coef (b : List Nat) (i : Nat) : Int := signedOf 32 (b.getD i 0)
/-- Shift field `i` of the SHIFTS word: 0 B0, 1 B1, 2 B2, 3 A1, 4 A2, 5 KI (R171). -/
def shiftOf (b : List Nat) (i : Nat) : Nat := bitsAt (b.getD 6 0) (5 * i) 5

/-- The second-order section of R158. -/
def secondOrder (b : List Nat) (e e1 e2 w1 w2 : Int) : Int :=
  let s := sat32 (mulCoef e (coef b 0) (shiftOf b 0) + mulCoef e1 (coef b 1) (shiftOf b 1))
  let s := sat32 (s + mulCoef e2 (coef b 2) (shiftOf b 2))
  let s := sat32 (s - mulCoef w1 (coef b 3) (shiftOf b 3))
  sat32 (s - mulCoef w2 (coef b 4) (shiftOf b 4))

/-- Output stage of R158: u, y, I_cmd and the saturation flags from acc and w. -/
def RailLoop.output (l : RailLoop) (e w acc dOut : Int) (imax : Nat) : RailLoop :=
  let u := sat32 (acc + w)
  let y := sat32 (u + dOut)
  let i := (clampI ((y + 2048) / 4096) 0 (imax : Int)).toNat
  { l with
    acc := acc, u := u, y := y, icmd := i, satHi := i == imax, satLo := i == 0,
    e2 := l.e1, e1 := e, w2 := l.w1, w1 := w }

/-- The compensator (R158). -/
def RailLoop.compensate (l : RailLoop) (dOut : Int) (imax : Nat) : RailLoop :=
  let b := l.bank
  let e := l.r - l.v
  let w := secondOrder b e l.e1 l.e2 l.w1 l.w2
  let lim : Int := ((bitsAt (b.getD 7 0) 0 31 : Nat) : Int)
  let acc := if !(l.satHi && decide (e > 0)) && !(l.satLo && decide (e < 0)) then
      clampI (sat32 (l.acc + mulCoef e (coef b 5) (shiftOf b 5))) (-lim) lim
    else l.acc
  l.output e w acc dOut imax

/-- The bumpless tick of R161 and R187: w from e1 = e2 = e and w1 = w2 = 0, acc from the last I_cmd. -/
def RailLoop.bumpless (l : RailLoop) (dOut : Int) (imax : Nat) : RailLoop :=
  let e := l.r - l.v
  let w := secondOrder l.bank e e e 0 0
  let l := { l with e1 := e, e2 := e, w1 := 0, w2 := 0 }
  l.output e w (4096 * (l.icmd : Int) - w) dOut imax

/-- HOLD (R163). -/
def RailLoop.hold (l : RailLoop) (band step imax : Nat) : RailLoop :=
  let bd : Int := 16 * (band : Int)
  let side := if l.v < l.r - bd then true else if l.v > l.r + bd then false else l.side
  let adj := max 1 (step / 8)
  let c := if side && decide (l.v < l.r - bd) then min imax (l.holdC + adj) else l.holdC
  let c := if !side && decide (l.v > l.r + bd) then c - adj else c
  { l with side := side, holdC := c, icmd := if side then min imax (c + step) else c - step }

/-- EDIT_CRC (R160). -/
def RailLoop.editCrc (l : RailLoop) : Nat := crc32c ((l.edit.map (leBytes 4)).flatten)

/-- The loop opens in this tick (R159, R163): the active bank is copied into the edit bank. The request stands until HOLD
has taken its side from this tick's r and v. -/
def Dev.openLoop (d : Dev) (n : Nat) : Dev :=
  let d := d.updLoop n (fun l =>
    let l := l.setEdit l.bank
    { l with
      opened := true, closeReq := false, openDue := false, dirty := false, holdC := l.icmd,
      side := decide (l.v ≤ l.r) })
  let d := d.wr RAIL.HOLD_LIMIT_OPEN_MS 0 n
  (d.tuneAbortOn n 2).calAbortOn n

/-- The bank decision of a close (R160). -/
def Dev.closeBanks (d : Dev) (n : Nat) : Dev :=
  let l := (d.rail n).loop
  if !l.dirty then d
  else if l.editCrc == d.rd RAIL.EDIT_DIGEST_DIGEST n then d.updLoop n (fun l => { l with actBank := 1 - l.actBank })
  else d.evRail Ev.RAIL_DIGEST_BAD n

/-- RAIL_OPEN_TIMEOUT (R162): OPEN_LIMIT has expired; the loop closes itself in the next RAIL tick, unless a close request
stands (R88). -/
def Dev.openTimeout (d : Dev) (n : Nat) : Dev :=
  let l := (d.rail n).loop
  if l.openDue && l.opened && !l.closeReq then
    (((d.updLoop n (fun l => { l with closeReq := true, openDue := false })).bump RAIL.COUNTS_TIMEOUTS n)).evRail
      Ev.RAIL_OPEN_TIMEOUT n
  else if l.openDue then d.updLoop n (fun l => { l with openDue := false })
  else d

/-- RAIL_ICMD_SAT (R158). -/
def Dev.satCheck (d : Dev) (n : Nat) : Dev :=
  let l := (d.rail n).loop
  let run := if l.icmd == d.rd RAIL.ICMD_MAX_ICMD_MAX n then l.satRun + 1 else 0
  let d := d.updLoop n (fun l => { l with satRun := run })
  if decide (run ≥ 4) && !l.satSent then
    (d.updLoop n (fun l => { l with satSent := true })).evRail Ev.RAIL_ICMD_SAT n
  else d

/-- I_cmd of this tick: the compensator, HOLD, a bumpless tick, or held while VS_LOST (R158, R161, R163, R187). A close that
is requested while VS_LOST has no sample takes effect with the first sample, since nothing is updated before it (DEDUCED
from R160 and R187, log entry 101). -/
def Dev.regulate (d : Dev) (n : Nat) (sampled : Bool) : Dev :=
  if d.avs n then d else
  let imax := d.rd RAIL.ICMD_MAX_ICMD_MAX n
  let f := (d.rail n).flt
  let l := (d.rail n).loop
  let dOut := d.dOut n
  let d :=
    if f.vsLost && !sampled then d
    else if l.closeReq && l.opened then
      (d.closeBanks n).updLoop n (fun l =>
        { (l.bumpless dOut imax) with opened := false, openReq := false, closeReq := false, openDue := false })
    else if l.opened then
      d.updLoop n (fun l =>
        let l : RailLoop := { l with openReq := false, side := if l.openReq then decide (l.v ≤ l.r) else l.side }
        l.hold (d.rd RAIL.HOLD_BAND n) (d.rd RAIL.HOLD_STEP n) imax)
    else if f.vsLost then d.updLoop n (fun l => l.bumpless dOut imax)
    else d.updLoop n (fun l => l.compensate dOut imax)
  let d := if f.vsLost && sampled then
      (d.updFlt n (fun f => { f with vsLost := false })).evRail Ev.RAIL_VS_RESUMED n
    else d
  if f.vsLost && !sampled then d else d.satCheck n

/-- The end of R151 for a pending command and the state of the rail. -/
def Dev.cmdSettle (d : Dev) (n : Nat) (teff : Int) : Dev :=
  let c := (d.rail n).cmd
  let l := (d.rail n).loop
  let vr : Int := 16 * (c.vreq : Int)
  match c.pend with
  | none => d.updCmd n (fun c => { c with st := if c.ramp == teff then .settled else .slewing })
  | some p =>
    if c.t < vr then
      let d := d.updCmd n (fun c => { c with st := .waitFreq })
      if p.posted then d else
        let d := d.updCmd n (fun c => { c with pend := some { p with posted := true }, fdown := some (p.t / 16).toNat })
        (d.bump RAIL.WAITFREQ_COUNT n).evRail Ev.RAIL_WAIT_FREQ n
    else if c.ramp ≠ teff then d.updCmd n (fun c => { c with st := .slewing })
    else if d.avs n then
      if (l.v - c.t).natAbs ≤ 16 * d.rd RAIL.AVS_BAND_DONE_BAND n then
        (d.updCmd n (fun c => { (c.complete 1) with st := .settled })).updAvs n (fun a => { a with timer := none })
      else (d.updCmd n (fun c => { c with st := .slewing })).updAvs n (fun a => { a with timer := some (a.timer.getD 0) })
    else if p.rising && decide (l.v < l.r - 16 * ((d.rd RAIL.CMD_CFG_SETTLE_BAND n : Nat) : Int)) then
      d.updCmd n (fun c => { c with st := .slewing })
    else d.updCmd n (fun c => { (c.complete 1) with st := .settled })

/-- A Squall on the rail supersedes a pending and a held command (R156). -/
def Dev.squallCmds (d : Dev) (n : Nat) : Dev :=
  let d := if (d.rail n).cmd.pend.isSome then
      (d.updCmd n (fun c => c.complete 2)).bump RAIL.SUPERSEDED_COUNT n
    else d
  match (d.rail n).cmd.held with
  | some (i, _, _) => (d.updCmd n (fun c => { c with held := none, lastId := i, lastStatus := 2, doneT := none })).bump
      RAIL.SUPERSEDED_COUNT n
  | none => d

/-- A rail enters RETENTION, or stops when its sense is lost (R156, R188, R255). Its phases go on switching (R141); one in
SOFTSTART stays there, since its reference has not reached the target (R143; DEDUCED, log entry 80). -/
def Dev.enterRetention (d : Dev) (n : Nat) : Dev :=
  let d := d.squallCmds n
  if (d.rail n).flt.vsLost then d.railStop n
  else
    let d := d.updCmd n (fun c => { c with
      st := .retention, ramp := if c.st == .starting then c.soft / 5 else c.ramp, fdown := none })
    d.creditRailOff n

/-- The ramp of a rail in RETENTION (R156). -/
def Dev.retentionRamp (d : Dev) (n : Nat) : Dev :=
  let goal : Int := 16 * ((d.vret n : Nat) : Int)
  let slew := d.rd RAIL.SQUALL_SLEW n
  let d := d.updCmd n (fun c => { c with ramp := rampStep c.ramp goal slew false })
  if d.avs n then (d.avsSlew n (5 * slew)).avsVolt n goal (5 * slew) else d

/-- Reference and pre-position of this tick (R149, R150). -/
def Dev.setRef (d : Dev) (n : Nat) (base : Int) : Dev :=
  let pp := d.ppStep n base
  let d := d.updCmd n (fun c => { c with pp := pp })
  let r := base + d.ppUse n base - (if d.avs n then 0 else d.llDrop n) + (if (d.rail n).cmd.st == .starting then 0 else d.dRef n)
  d.updLoop n (fun l => { l with r := r })

/-- Soft start of this tick (R142): RATE x 0.025 mV per RAIL tick, kept exactly in 1/320 mV. -/
def Dev.softStep (d : Dev) (n : Nat) : Dev :=
  let goal : Int := 80 * ((d.rd RAIL.VSTART_TARGET n : Nat) : Int)
  let rate : Int := 8 * ((d.rd RAIL.SOFTSTART_RATE n : Nat) : Int)
  let d := d.updCmd n (fun c => { c with soft := if c.soft ≥ goal then c.soft else min goal (c.soft + rate) })
  if d.avs n then d.avsVolt n (goal / 5) (2 * d.rd RAIL.SOFTSTART_RATE n) else d

/-- A Gust of the rail holds back a Voltage write below the last one written, or below the modelled ramp (R207). -/
def Dev.avsHeld (d : Dev) (n : Nat) (teff ramp : Int) : Bool :=
  d.railGust n && (decide (teff < ramp) || decide (avsMv teff < (d.rail n).avs.voltWr.getD 0))

/-- Commands, ramp and reference of a rail that is neither stopped, starting nor in retention (R151). A command that arrives
aborts a calibration of the rail (R209). -/
def Dev.runRamp (d : Dev) (n : Nat) (sampled : Bool) : Dev :=
  let d := match (d.rail n).cmd.held with
    | some (i, t, s) => Dev.latchCmd.latchRunning (d.updCmd n (fun c => { c with held := none })) n i t s
        (d.rail n).cmd.nextId
    | none => d
  let d := if (d.rail n).cmd.arr.isEmpty then d else (d.calAbortOn n).latchArr n
  let c := (d.rail n).cmd
  let teff := min (16 * ((d.vmax n : Nat) : Int)) (max c.t (16 * (c.vreq : Int)))
  let ramp := rampStep c.ramp teff c.slew (d.railGust n)
  let d := d.updCmd n (fun c => { c with ramp := ramp })
  let d := if d.avs n && !d.avsHeld n teff ramp then d.avsVolt n teff (5 * c.slew) else d
  let d := (d.setRef n ramp).regulate n sampled
  d.cmdSettle n teff

/-- Capture a tick's converted samples for a waveform capture on this rail (R212); a full ring after the trigger ends it. -/
def Dev.waveSamples (d : Dev) (n : Nat) (xs : List Int) : Dev :=
  if d.wave.st == .armed && d.rd DROOP.WAVE_CFG_RAIL == n then
    xs.foldl (fun d x =>
      let w := d.wave
      if w.st != .armed || w.left == some 0 then d else
      let y := unsignedOf 16 (sat16 (x - (d.rail n).loop.r))
      { d with capRam := d.capRam.writeLE (2 * w.pos) 2 y,
               wave := { w with pos := (w.pos + 1) % 131072, wrapped := w.wrapped || w.pos == 131071, left := w.left.map (· - 1) } }) d
  else d

/-- DROOP_WAVE_DONE (R212): the post-trigger samples are complete. -/
def Dev.waveDone (d : Dev) : Dev :=
  if d.wave.st == .armed && d.wave.left == some 0 then
    { d with wave := { d.wave with st := .done, start := if d.wave.wrapped then d.wave.pos / 2 else 0 } }.ev Ev.DROOP_WAVE_DONE
      (d.rd DROOP.WAVE_CFG_RAIL)
  else d

/-- A close on a stopped rail (R157, R160): the banks are settled and the loop is closed; nothing regulates. -/
def Dev.closeStopped (d : Dev) (n : Nat) : Dev :=
  let l := (d.rail n).loop
  if l.closeReq && l.opened then
    (d.closeBanks n).updLoop n (fun l => { l with opened := false, openReq := false, closeReq := false, openDue := false })
  else d

/-- Task 0x0A of rail `n` (R148 to R165), with the tick's raw VS samples. -/
def Dev.task0A (d : Dev) (n : Nat) (raw : List Nat) : Dev :=
  let xs := raw.map (d.vsConvert n)
  let sampled := !xs.isEmpty
  let d := d.measure n xs
  let d := d.openTimeout n
  let d := if d.sqGated && (d.rail n).cmd.st != .stopped && (d.rail n).cmd.st != .retention then d.enterRetention n else d
  let d := if (d.rail n).loop.openReq && !(d.rail n).loop.opened then d.openLoop n else d
  let d := match (d.rail n).cmd.st with
    | .stopped => (d.latchArr n).closeStopped n
    | .retention =>
      let d := (d.latchArr n).retentionRamp n
      let d := (d.setRef n (d.rail n).cmd.ramp).regulate n sampled
      if (d.rail n).cmd.ramp == 16 * ((d.vret n : Nat) : Int) && d.on RAIL.SQUALL_RET_OFF n then d.railStop n else d
    | .starting =>
      let d := (d.latchArr n).softStep n
      let d := (d.setRef n ((2 * (d.rail n).cmd.soft + 5) / 10)).regulate n sampled
      if (d.rail n).cmd.soft ≥ 80 * ((d.rd RAIL.VSTART_TARGET n : Nat) : Int) then d.startDone n else d
    | _ => d.runRamp n sampled
  let d := if d.avs n then d.avsIdle n else d
  (d.waveSamples n xs).waveDone

/-- What an outer loop wrote during this tick is committed for the next one (R15, R76): the governor's command and
V_req. The pre-position request of a beat is in force from the next beat's first RAIL strobe (R279). -/
def Dev.promote (d : Dev) (n : Nat) : Dev :=
  let src := d.on RAIL.CTRL_SRC n
  d.updCmd n (fun c => { c with
    vreq := c.vreqNew, govNew := none,
    arr := match c.govNew with | some x => if src then c.arr else c.arr ++ [x] | none => c.arr })

/-! ### Register writes of the RAIL and TUNE pages -/

/-- A write of CTRL.RUN = 1 is refused (R157): the loop open, VS_n not placed, VSTART outside VLIM, the Squall latch set,
or the hard-limit profile not applied (R22, R454). `latch` is the latch in PD_AON, `profile` the boot step. -/
def Dev.runRefused (d : Dev) (n : Nat) (latch profile : Bool) : Bool :=
  let v := d.rd RAIL.VSTART_TARGET n
  (d.rail n).loop.opened || !bitAt d.bld.vsPresent n || decide (v < d.vmin n) || decide (v > d.vmax n) || latch || !profile

/-- LOOP_OPEN refused (R159): AVS mode, STARTING, or RUN = 0. -/
def Dev.openRefused (d : Dev) (n : Nat) : Bool :=
  d.avs n || (d.rail n).cmd.st == .starting || !d.on RAIL.CTRL_RUN n

/-- A write of LOOP (R159, R160). -/
def Dev.loopWrite (d : Dev) (n v : Nat) : Dev :=
  d.updLoop n (fun l => if v == 0 then { l with openReq := !l.opened, closeReq := false }
                        else { l with closeReq := l.opened, openReq := false })

/-- A COEF_EDIT write (R159): into the edit bank while the loop is open, otherwise ignored and counted. -/
def Dev.coefWrite (d : Dev) (n i v : Nat) : Dev :=
  if (d.rail n).loop.opened then
    let v := if i == 6 then v % 2 ^ 30 else if i == 7 then v % 2 ^ 31 else v
    d.updLoop n (fun l => { (l.setEdit (modAt l.edit i (fun _ => v))) with dirty := true })
  else (d.bump RAIL.COUNTS_IGNORED n).evRail Ev.RAIL_COEF_IGNORED n

/-- A change of SRC (R155): on the return to 0 the governor's latest command is a new command. -/
def Dev.srcWrite (d : Dev) (n v : Nat) : Dev :=
  if v == 0 then d.updCmd n (fun c => { c with arr := c.arr ++ c.govLast.toList }) else d

/-- An accepted CMD write issues a command (R155). -/
def Dev.hostCmd (d : Dev) (n : Nat) : Dev :=
  d.updCmd n (fun c => { c with arr := c.arr ++ [(d.rd RAIL.CMD_TARGET n, d.rd RAIL.CMD_SLEW n)] })

/-- TUNE_ARM (R166). A run that both conditions refuse raises TUNE_REFUSED only: the spec gives no order (DESIGN CHOICE, log
entry 81). -/
def Dev.tuneArm (d : Dev) (a : Acc) : Dev :=
  let n := d.rd TUNE.CTRL_RAIL
  let wave := d.rd TUNE.CTRL_WAVE
  if d.tune.running || (wave != 0 && !d.closedDirect n) then d.ev Ev.TUNE_REFUSED n
  else if !(d.owns a 0 && (d.owner 0).feat == 1) || (wave != 0 && !(d.owns a (1 + n))) then d.ev Ev.TUNE_NO_CLAIM n
  else { d with tune := { d.tune with
    st := .settling, rail := n, reason := 0, count := 0, ticks := 0, phi := 0,
    ftwk := d.rd TUNE.FTW_FTW, lfsr := 0x7FFF, d := 0, out1 := false } }

/-- CMD_STAT.STATE encoding (R170). -/
def CmdSt.code : CmdSt → Nat
  | .stopped => 0 | .starting => 1 | .settled => 2 | .slewing => 3 | .waitFreq => 4 | .retention => 5

/-- TUNE STATUS.STATE encoding (R173). -/
def TuneSt.code : TuneSt → Nat
  | .idle => 0 | .settling => 1 | .capturing => 2 | .done => 3 | .aborted => 4

end Sys2Proof.Machine
end

