-- ==== Sys2Proof/Machine/RailFault.lean ====
section
/-!
DEFINITION. Machine/RailFault.lean: current distribution, braking, bursts, adding and shedding (task 0x0B,
spec/05_phase_control.md R136 to R141), the fault monitor (task 0x0D, spec/07_rail_faults.md), and the whole RAIL tick.
-/
namespace Sys2Proof.Machine

/-! ### Task 0x0B -/

/-- Phases of the active set that switch: members of the grid in SOFTSTART, ACTIVE or BRAKE (R131, R143). -/
def Dev.activeSet (d : Dev) (n : Nat) : List Nat :=
  (d.rail n).sw.grid.filter (fun p =>
    (d.phase p).st == .softstart || (d.phase p).st == .active || (d.phase p).st == .brake)

/-- Some phase of the rail is in state `st`. -/
def Dev.anyPh (d : Dev) (n : Nat) (st : PhSt) : Bool := (d.phasesOf n).any (fun p => (d.phase p).st == st)

/-- Step 1 of R141: removals decided by the fault monitor (R175). -/
def Dev.doRemovals (d : Dev) (n : Nat) : Dev :=
  (d.phasesOf n).foldl (fun d p =>
    match (d.phase p).removal with
    | some c => d.phaseFault p c
    | none => d) d

/-- The samples of the tick are taken: avg and ok of R136 for the active set, and I_sum of R137. -/
def Dev.takeSamples (d : Dev) (n : Nat) : Dev :=
  let act := d.activeSet n
  let d := (d.phasesOf n).foldl (fun d p =>
    d.updPhase p (fun ph =>
      let ok := act.contains p && decide (ph.accCnt ≥ 4)
      { ph with ok := ok, avg := if ok then roundDiv ph.accSum ph.accCnt else ph.avg, accSum := 0, accCnt := 0 })) d
  d.updLoop n (fun l => { l with isum := sumI (act.map (fun p => (d.phase p).avg)) })

/-- Braking exit (R139). Adds and sheds that came due while the rail braked take effect from the next boundary (R141). -/
def Dev.brakeExit (d : Dev) (n : Nat) : Dev :=
  let r := d.rail n
  if !r.sw.braking then d else
  let t := r.sw.brakeT + 1
  let v := decide (r.loop.vLast ≤ r.loop.r + 16 * ((d.rd RAIL.BRAKE_BRAKE_VL n : Nat) : Int))
  let i := decide (r.loop.isum ≤ 4 * ((r.loop.icmd + d.rd RAIL.IBAND_IBAND n : Nat) : Int))
  if v || i || decide (t ≥ 8) then
    let next := nextCycle (d.rd RAIL.PWM_PERIOD n) n (d.tick.strobe + 1)
    (((d.phasesOf n).foldl (fun d p => d.updPhase p (fun ph => if ph.st == .brake then ph.toActive else ph)) d).updSw n
      (fun s => { s with braking := false, brakeT := 0, sinceBrake := 0,
                         chg := s.chg.map (fun c => { c with at_ := max c.at_ next }) })).offToShedAll n
  else d.updSw n (fun s => { s with brakeT := t })

/-- Braking and bursts are evaluated on this rail (R138, R140, R141, R187). -/
def Dev.fastOk (d : Dev) (n : Nat) : Bool :=
  d.closedDirect n && !((d.rail n).cmd.st == .retention) && !(d.rail n).flt.vsLost

/-- Braking entry (R138). -/
def Dev.brakeEntry (d : Dev) (n : Nat) : Dev :=
  let r := d.rail n
  if d.fastOk n && d.on RAIL.BRAKE_BRAKE_EN n && !r.sw.braking && decide (r.sw.sinceBrake ≥ 4)
      && decide (r.loop.vLast > r.loop.r + 16 * ((d.rd RAIL.BRAKE_BRAKE_VH n : Nat) : Int)) then
    (((d.phasesOf n).foldl (fun d p =>
      d.updPhase p (fun ph => if ph.st == .active then
        { ph with st := .brake, imm := some 2, thrFor := none } else ph)) d).updSw n
      (fun s => { s with braking := true, brakeT := 0 })).bump RAIL.BRAKES_COUNT n
  else d

/-- The phase is in its on-time at instant `now` in bit times: a HI or BURST turn-on acted less than TMAX ago and its ONT_LO
has not arrived (R140). -/
def Phase.onTime (ph : Phase) (now tmax : Nat) : Bool :=
  ph.ons.any (fun e => e.2 && decide (e.1 ≤ now) && decide (now < e.1 + tmax))

/-- A phase that no pending decision names (R137). -/
def RailSw.undecided (s : RailSw) (p : Nat) : Bool := !(s.chg.any (fun c => c.ph == p))

/-- Every SHED phase is added at the next boundary (R140, R184). -/
def Dev.addAllShed (d : Dev) (n : Nat) : Dev :=
  (d.phasesOf n).foldl (fun d p =>
    if (d.phase p).st == .shed && (d.rail n).sw.undecided p then d.schedule n p true else d) d

/-- Alignment burst (R140). The SHED phases it adds are not an add decision of R137 (R143: "Add decision or burst"), and the
shed count goes on (DEDUCED, log entry 97). -/
def Dev.burst (d : Dev) (n : Nat) : Dev :=
  let r := d.rail n
  if d.fastOk n && d.on RAIL.BRAKE_BURST_EN n && decide (r.sw.sinceBurst ≥ 4)
      && decide (r.loop.vLast < r.loop.r - 16 * ((d.rd RAIL.BRAKE_BURST_V n : Nat) : Int)) then
    let now := 16 * d.tick.strobe
    let tmax := d.rd RAIL.PWM_TMAX n
    let d := (d.phasesOf n).foldl (fun d p =>
      d.updPhase p (fun ph => if ph.st == .active && !ph.onTime now tmax then { ph with imm := some 3 } else ph)) d
    ((d.addAllShed n).updSw n (fun s => { s with sinceBurst := 0 })).bump RAIL.BURSTS_COUNT n
  else d

/-- Add and shed are suspended (R137, R187). -/
def Dev.addShedOff (d : Dev) (n : Nat) : Bool :=
  d.anyPh n .softstart || d.anyPh n .brake || (d.rail n).loop.opened || (d.rail n).cmd.st == .starting
    || (d.rail n).flt.vsLost

/-- Add, then shed (R137). -/
def Dev.addShed (d : Dev) (n : Nat) : Dev :=
  if d.addShedOff n then d else
  let sw := (d.rail n).sw
  let isum := (d.rail n).loop.isum
  let nEnd := sw.gridEnd.length
  let want := ceilDiv isum.toNat (d.rd RAIL.ADDSHED_ADD_I n)
  if want > nEnd then
    let shed := (d.phasesOf n).filter (fun p => (d.phase p).st == .shed && sw.undecided p)
    let total := ((d.phasesOf n).filter (fun p => (d.phase p).st == .active || (d.phase p).st == .shed)).length
    ((shed.take (min total want - nEnd)).foldl (fun d p => d.schedule n p true) d).updSw n
      (fun s => { s with shedCnt := 0 })
  else if decide (nEnd > d.rd RAIL.PHCOUNT_MIN_ACTIVE n)
      && decide (isum < ((d.rd RAIL.ADDSHED_SHED_I n * (nEnd - 1) : Nat) : Int)) then
    if sw.shedCnt + 1 ≥ d.rd RAIL.PHCOUNT_SHED_HOLD n then
      let d := d.updSw n (fun s => { s with shedCnt := 0 })
      match ((d.phasesOf n).filter (fun p => (d.phase p).st == .active && sw.undecided p)).getLast? with
      | some p => d.schedule n p false
      | none => d
    else d.updSw n (fun s => { s with shedCnt := s.shedCnt + 1 })
  else d.updSw n (fun s => { s with shedCnt := 0 })

/-- Trims, open and sense checks pause: SOFTSTART or BRAKE, a burst tick or the one after it, the tick after a change of N
(R136, R180). -/
def Dev.checksPaused (d : Dev) (n : Nat) : Bool :=
  let s := (d.rail n).sw
  d.anyPh n .softstart || d.anyPh n .brake || decide (s.sinceBurst ≤ 1) || s.nPause

/-- The trim update (R136). -/
def Dev.trims (d : Dev) (n : Nat) : Dev :=
  let set := (d.activeSet n).filter (fun p => (d.phase p).ok)
  if d.checksPaused n || (d.rail n).loop.opened || !d.on RAIL.BAL_EN n || decide (set.length < 2) then d else
  let m := roundDiv (sumI (set.map (fun p => (d.phase p).avg))) set.length
  if m < 32 then d else
  let sh := d.rd RAIL.BAL_SHIFT n
  let d := set.foldl (fun d p =>
    d.updPhase p (fun ph =>
      let q := Int.tdiv ((ph.avg - m) * 1024) m
      { ph with trim := ph.trim - rshift q sh })) d
  let mu := Int.tdiv (sumI (set.map (fun p => (d.phase p).trim))) set.length
  set.foldl (fun d p =>
    let t := clampI ((d.phase p).trim - mu) (-128) 128
    let d := d.updPhase p (fun ph => { ph with trim := t })
    if t.natAbs == 128 then d.evPhase Ev.PHASE_TRIM_LIMIT p else d) d

/-- Task 0x0B of rail `n` (R141). The samples are averaged before step 1, so a phase that faults in step 1 of this tick
still counts in the tick's I_sum and, by its ok, among the other phases of task 0x0D (R136, R137, R176; DESIGN CHOICE, log
entry 74). -/
def Dev.task0B (d : Dev) (n : Nat) : Dev :=
  let d := d.updSw n (fun s => { s with
    nPause := s.nChanged, nChanged := false, sinceBrake := min 4 (s.sinceBrake + 1),
    sinceBurst := min 4 (s.sinceBurst + 1) })
  let d := (d.takeSamples n).doRemovals n
  let d := (d.brakeExit n).brakeEntry n
  let d := (d.burst n).addShed n
  d.trims n

/-! ### Task 0x0D: the fault monitor -/

/-- A removal is decided (R175, R180): it acts in task 0x0B of the next RAIL tick. -/
def Dev.decideRemoval (d : Dev) (p cause : Nat) : Dev :=
  let d := d.updPhase p (fun ph => { ph with removal := some cause })
  d.evPhase (if cause == 4 then Ev.PHASE_OPEN else if cause == 5 then Ev.PHASE_SENSE_FAIL else Ev.PHASE_FORCED) p

/-- Request a Squall from rail `n` (R186, R188): once, and nothing further in RETENTION. -/
def Dev.railSquall (d : Dev) (n : Nat) : Dev :=
  if (d.rail n).flt.sqReq || (d.rail n).cmd.st == .retention then d
  else
    let d := (d.updFlt n (fun f => { f with sqReq := true })).evRail Ev.RAIL_SQUALL_REQ n
    { d with sqReq := d.sqReq ++ [(3, n)] }

/-- RAIL_VS_LOST (R187): four counted ticks without a sample. It is a fault of the rail: a TUNE run and a calibration on it
abort (R168, R209; DEDUCED, log entry 75). -/
def Dev.vsLost (d : Dev) (n : Nat) : Dev :=
  let f := (d.rail n).flt
  if decide (f.vsMiss ≥ 4) && !f.vsLost && (d.rail n).cmd.st != .stopped then
    let d := ((d.updFlt n (fun f => { f with vsLost := true })).bump RAIL.FCOUNTS_VS_LOSSES n).evRail Ev.RAIL_VS_LOST n
    (d.tuneAbortOn n 3).calAbortOn n
  else d

/-- RAIL_VS_SQUALL (R188): 64 counted ticks without a sample. -/
def Dev.vsSquall (d : Dev) (n : Nat) : Dev :=
  if decide ((d.rail n).flt.vsMiss ≥ 64) && (d.rail n).cmd.st != .stopped then d.railSquall n else d

/-- The sense-loss part of the monitor (R187, R188). -/
def Dev.senseLoss (d : Dev) (n : Nat) (sampled : Bool) : Dev :=
  let d := d.updFlt n (fun f => { f with
    vsMiss := if sampled || (d.rail n).cmd.st == .stopped then 0 else min 64 (f.vsMiss + 1) })
  let d := if sampled && (d.rail n).flt.vsLost then
      (d.updFlt n (fun f => { f with vsLost := false })).evRail Ev.RAIL_VS_RESUMED n
    else d
  (d.vsLost n).vsSquall n

/-- The other phases of the rail whose ok is set. -/
def Dev.okOthers (d : Dev) (n p : Nat) : List Nat := (d.phasesOf n).filter (fun q => q != p && (d.phase q).ok)

/-- Mean of avg over a list of phases. -/
def Dev.meanAvg (d : Dev) (ps : List Nat) : Int := roundDiv (sumI (ps.map (fun p => (d.phase p).avg))) ps.length

/-- The open count of one phase (R176). -/
def Dev.openCheck (d : Dev) (n p : Nat) : Dev :=
  let ph := d.phase p
  let others := d.okOthers n p
  let nAct := (d.rail n).sw.grid.length
  let mref : Int := if others.isEmpty then ((4 * (d.rail n).loop.icmd / max 1 nAct : Nat) : Int) else d.meanAvg others
  let oi := d.rd RAIL.OPENDET_OPEN_I n
  let reps := (ph.reps.filter (fun o => decide (d.rd RAIL.OPENDET_OPEN_ONT n ≤ o))).length
  let cnt :=
    if !ph.ok || decide (mref < 4 * (oi : Int)) then ph.openCnt
    else if ph.avg.natAbs ≥ oi then 0 else ph.openCnt + reps
  let d := d.updPhase p (fun ph => { ph with openCnt := cnt })
  if cnt ≥ 4 then d.decideRemoval p 4 else d

/-- The sense count of one phase (R177). -/
def Dev.senseCheck (d : Dev) (n p : Nat) : Dev :=
  let ph := d.phase p
  let others := d.okOthers n p
  if !ph.ok || decide (others.length < 2) || decide (ph.avg.natAbs < d.rd RAIL.OPENDET_OPEN_I n) then d else
  let m := d.meanAvg others
  let rel : Int := ((min (d.rd RAIL.SENSEDET_REL n) (d.rd RAIL.HARD_FDET_HARD_SREL n) : Nat) : Int)
  let ab : Int := ((min (d.rd RAIL.SENSEDET_ABS n) (d.rd RAIL.HARD_FDET_HARD_SABS n) : Nat) : Int)
  let nbBad := decide ((((ph.avg - m).natAbs : Nat) : Int) > ab + (m * rel + 128) / 256)
  let cnt := if nbBad && ph.ripBad then ph.senseCnt + 1 else 0
  let d := d.updPhase p (fun ph => { ph with senseCnt := cnt })
  if cnt ≥ 8 then d.decideRemoval p 5 else d

/-- Apply a check to every ACTIVE phase with no removal decided (R180). -/
def Dev.forActive (d : Dev) (n : Nat) (f : Dev → Nat → Dev) : Dev :=
  (d.phasesOf n).foldl (fun d p =>
    if (d.phase p).st == .active && (d.phase p).removal.isNone then f d p else d) d

/-- FINJ (R179, R180): after the detected causes. An accepted write removes its phase also when the rail has stopped
meanwhile; a phase already removed keeps its cause. -/
def Dev.finj (d : Dev) (n : Nat) : Dev :=
  (d.rail n).flt.finj.foldl (fun d p =>
    if (d.phase p).st != .faulted && (d.phase p).removal.isNone then d.decideRemoval p 6 else d)
    (d.updFlt n (fun f => { f with finj := [] }))

/-- Recomputation of H and the derate step (R181, R184, R186). -/
def Dev.derateStep (d : Dev) (n : Nat) : Dev :=
  let was := (d.rail n).flt.h
  let h := d.healthy n
  let h0 := d.h0 n
  let fell := decide (h < was)
  let start := (d.rail n).flt.startTick
  let d := d.updFlt n (fun f => { f with h := h, startTick := false })
  let d := if fell then (d.addAllShed n).updSw n (fun s => { s with shedCnt := 0 }) else d
  let d := if decide (h < h0) && (fell || start) && !d.avs n then (d.evRail Ev.RAIL_DERATED n).calForce n else d
  if fell && decide (h < d.minPhases n) && !d.avs n && (d.rail n).cmd.st != .stopped then d.railSquall n else d

/-- One beat's check against the activity estimator (R189). -/
def Dev.plausCheck (d : Dev) (n : Nat) : Dev :=
  let f := (d.rail n).flt
  let a := f.accB2
  let vb := roundDivN a.sv a.n
  match f.pest with
  | none => d
  | some p =>
    if !d.on RAIL.PLAUS_CFG_EN n || a.n == 0 || a.lost || f.pestLate || vb == 0 || !a.ran then d else
    let iest := roundDivN (1000 * p) vb
    let imeas := (max 0 (roundDiv a.si (4 * a.n))).toNat
    let bad := decide (((imeas : Int) - (iest : Int)).natAbs
      > d.rd RAIL.PLAUS_ABS_ABS n + (iest * d.rd RAIL.PLAUS_CFG_REL n + 128) / 256)
    let d := (d.wr RAIL.PLAUS_STAT_IEST (min 65535 iest) n).wr RAIL.PLAUS_STAT_IMEAS (min 65535 imeas) n
    let d := d.updFlt n (fun f => if bad then { f with badRun := f.badRun + 1, goodRun := 0 }
                                  else { f with goodRun := f.goodRun + 1, badRun := 0 })
    let f := (d.rail n).flt
    let lim := d.rd RAIL.PLAUS_CFG_BEATS n
    if bad && !f.implaus && decide (f.badRun ≥ lim) then
      ((d.updFlt n (fun f => { f with implaus := true })).bump RAIL.FCOUNTS_IMPLAUS n).evRail Ev.RAIL_IMPLAUSIBLE n
    else if !bad && f.implaus && decide (f.goodRun ≥ lim) then
      (d.updFlt n (fun f => { f with implaus := false })).evRail Ev.RAIL_PLAUSIBLE n
    else d

/-- Current of the rail, 1/16 A: I_sum, or the AVSBus reading (R165). -/
def Dev.cur16 (d : Dev) (n : Nat) : Int :=
  if d.avs n then 4 * (((d.rail n).avs.cur : Nat) : Int) else (d.rail n).loop.isum

/-- A condition of R276 on rail `n` holds. -/
def Dev.learnOff (d : Dev) (n : Nat) : Bool :=
  let r := d.rail n
  r.cmd.st == .stopped || r.cmd.st == .starting || r.cmd.st == .retention || r.loop.opened || r.flt.implaus || r.flt.vsLost

/-- The beat means take this RAIL tick (R189, R215). -/
def Dev.beatAcc (d : Dev) (n : Nat) : Dev :=
  let r := d.rail n
  let i := d.cur16 n
  d.updFlt n (fun f => { f with acc := { f.acc with
    n := f.acc.n + 1, sv := f.acc.sv + toMv4 r.loop.v, si := f.acc.si + i,
    ran := f.acc.ran && r.cmd.st != .stopped && r.cmd.st != .retention, any := f.acc.any || r.cmd.st != .stopped, lost := f.acc.lost || f.vsLost,
    susp := f.acc.susp || d.learnOff n } })

/-- Task 0x0D of rail `n` (R180). -/
def Dev.task0D (d : Dev) (n : Nat) (sampled : Bool) : Dev :=
  let d := d.senseLoss n sampled
  let d := if d.avs n then d else
    let paused := d.checksPaused n
    let d := if paused then d else d.forActive n (fun d p => d.openCheck n p)
    if paused then d else d.forActive n (fun d p => d.senseCheck n p)
  let d := d.finj n
  let d := (d.phasesOf n).foldl (fun d p => d.updPhase p (fun ph => { ph with reps := [] })) d
  let d := d.derateStep n
  let d := if d.tick.railIdx == 1 then d.plausCheck n else d
  d.beatAcc n

/-! ### The RAIL tick -/

/-- Samples of a rail in a tick: entry `n` of the operand, none where the rail has no VS satellite. -/
def Dev.samplesOf (d : Dev) (raw : List (List Nat)) (n : Nat) : List Nat :=
  if bitAt d.bld.vsPresent n then (raw.getD n []) else []

/-- Fold an operation over every rail, ascending. -/
def Dev.eachRail (d : Dev) (f : Dev → Nat → Dev) : Dev := (upto d.nRails).foldl f d

/-- The calibration run's view of this tick: VMEAS of its rail and the ticks of its gap or pulse (R209). -/
def Dev.calTick (d : Dev) : Dev :=
  if d.cal.running then
    let v := toMv4 (d.rail d.cal.rail).loop.v
    { d with cal := { d.cal with ticks := d.cal.ticks + 1, vh := (v :: d.cal.vh).take 8 } }
  else d

/-- A fixed task misses its window in the tick to come: its outputs are held (R83). -/
def Dev.held (d : Dev) (task : Nat) : Bool := d.tick.missed.contains task

/-- The misses of the listed tasks have been served. -/
def Dev.served (d : Dev) (lo hi : Nat) : Dev :=
  { d with tick := { d.tick with missed := d.tick.missed.filter (fun t => decide (t < lo) || decide (hi < t)) } }

/-- What the RAIL strobe latches of the inner loops (R74, R250), whether or not task 0x0A then runs; the AVS timer counts the
RAIL ticks after the one in which the modelled ramp reached T (R165). -/
def Dev.railLatch (d : Dev) : Dev :=
  d.eachRail (fun d n =>
    ((d.updLoop n (fun l => { l with icmdLat := l.icmd })).updCmd n (fun c => { c with ppLat := c.pp })).updAvs n
      (fun a => { a with timer := a.timer.map (· + 1) }))

/-- A RAIL strobe latches the pool factors committed before it (R247). On the edge that a beat strobe shares, BEAT does so
before the governor computes new ones (R76). -/
def Dev.pfLatch (d : Dev) : Dev := { d with credit := { d.credit with pfUse := d.gov.pf } }

/-- One RAIL strobe with its tasks 0x0A to 0x0E (R81), given the raw VS samples of every rail since the last one. -/
def Dev.railTick (d : Dev) (raw : List (List Nat)) : Dev :=
  let i := min 4 (d.tick.railIdx + 1)
  let d := { d with tick := { d.tick with railIdx := i, cyc := 300 * (i - 1) } }
  let d := if i == 1 then d else d.pfLatch
  let d := d.railLatch.creditStrobes.inject
  let d := if d.held 0x0A then d else d.eachRail (fun d n => d.task0A n (d.samplesOf raw n))
  let d := d.tuneCapture.calTick
  let d := if d.held 0x0B then d else d.eachRail (fun d n => d.task0B n)
  let d := if d.held 0x0C then d else d.task0C
  let d := if d.held 0x0D then d else d.eachRail (fun d n => d.task0D n !(d.samplesOf raw n).isEmpty)
  let d := if d.held 0x0E then d else (d.eachRail (fun d n => d.avsTimeout n)).creditTimers
  (d.served 0x0A 0x0E).eachRail (fun d n => d.promote n)

end Sys2Proof.Machine
end

