-- ==== Sys2Proof/Machine/Clock.lean ====
section
/-!
DEFINITION. Machine/Clock.lean: level tables, fitness curves and voltage needs (R223 to R226), the four-phase frequency
change of every clock domain (R58, R227, R228) and the Gust rules that hold it (R203 to R205).
-/
namespace Sys2Proof.Machine

/-! ### Level tables (R223) -/

/-- Entry (level, domain) of a bank. -/
def levelEntry (m : Mem) (level dom : Nat) : Nat := m.readLE (64 * level + 2 * dom) 2

/-- The active bank. -/
def Dev.levelBank (d : Dev) : Mem := if d.rd LEVEL.BANK_ACT == 0 then d.lvl0 else d.lvl1
/-- The inactive bank. -/
def Dev.levelIdle (d : Dev) : Mem := if d.rd LEVEL.BANK_ACT == 0 then d.lvl1 else d.lvl0

/-- Frequency of domain `m` at level `l`, 250 kHz. -/
def Dev.freqAt (d : Dev) (l m : Nat) : Nat := levelEntry d.levelBank l m

/-- The column of domain `m` passes the check of R223: entries non-zero, at most `fmax`, never decreasing from L0 to L63. -/
def levelColumnOk (b : Mem) (fmax m : Nat) : Bool :=
  (upto 64).all (fun l =>
    let f := levelEntry b l m
    f != 0 && decide (f ≤ fmax) && (l == 0 || decide (levelEntry b (l - 1) m ≤ f)))

/-- LEVEL_TABLE_CHECK (R223): task 0x30 checks the inactive bank of a requested swap. -/
def Dev.levelTableCheck (d : Dev) : Dev :=
  if !d.on LEVEL.BANK_PEND then d else
  let d := d.wr LEVEL.BANK_PEND 0
  let bank := d.levelIdle
  match (upto d.doms.length).find? (fun m => !levelColumnOk bank (d.rd LEVEL.HARD_F_HARD_FMAX) m) with
  | some m => d.ev Ev.LEVEL_TABLE_BAD m
  | none => ((d.wr LEVEL.BANK_ACT (1 - d.rd LEVEL.BANK_ACT)).wr LEVEL.BANK_VALID 1).ev Ev.LEVEL_SWAP_DONE 0

/-! ### Fitness curves (R224) -/

/-- The points (V_i, F_i) of curve `u`. -/
def curve (m : Mem) (u : Nat) : List (Nat × Nat) :=
  (upto 16).map (fun i => (m.readLE (64 * u + 4 * i) 2, m.readLE (64 * u + 4 * i + 2) 2))

/-- V_i and F_i never decrease with i. -/
def curveRises : List (Nat × Nat) → Bool
  | a :: b :: r => decide (a.1 ≤ b.1) && decide (a.2 ≤ b.2) && curveRises (b :: r)
  | _ => true

/-- A valid curve: rising, F_15 not zero. -/
def curveValid (c : List (Nat × Nat)) : Bool := curveRises c && (c.getLastD (0, 0)).2 != 0

/-- Need of `f` on the segments after point `a`; none when unreachable. -/
def curveNeed (f : Nat) (a : Nat × Nat) : List (Nat × Nat) → Option Nat
  | [] => none
  | b :: r => if f ≤ b.2 then some (a.1 + ceilDiv ((b.1 - a.1) * (f - a.2)) (b.2 - a.2)) else curveNeed f b r

/-- The voltage a valid curve needs at `f` (R224). -/
def needOf (f : Nat) : List (Nat × Nat) → Option Nat
  | [] => none
  | a :: r => if f ≤ a.2 then some a.1 else curveNeed f a r

/-- Value that stands for an unreachable need: above every 16-bit voltage. -/
def unreach : Nat := 65536 * 2

/-- need_c of the core or curve `u` of domain `m` at `f` (R224): VLIM.VMAX for an invalid curve, nothing on no rail. -/
def Dev.needC (d : Dev) (m u f : Nat) : Nat :=
  match d.domRail m with
  | none => 0
  | some n =>
    let c := curve d.fitUse u
    if curveValid c then (needOf f c).getD unreach else d.vmax n

/-- Active cores of domain `m` (R225, R236). -/
def Dev.activeCores (d : Dev) (m : Nat) : List Nat :=
  (upto d.bld.cores).filter (fun c => d.chDom (c / 16) == m && d.coreActive c)

/-- The curves that set the need of domain `m`: its active cores, or DFIT with none. -/
def Dev.needCurves (d : Dev) (m : Nat) : List Nat :=
  match d.activeCores m with
  | [] => [d.rd LEVEL.DOM_DFIT 0 m]
  | l => l

/-- need_d of R225. -/
def Dev.needD (d : Dev) (m f : Nat) : Nat :=
  match d.domRail m with
  | none => 0
  | some _ => maxN ((d.needCurves m).map (fun u => d.needC m u f)) + d.rd LEVEL.AGE_OFFSET 0 m

/-- The core that sets need_d at `f`: the lowest of the largest needs. -/
def Dev.weakest (d : Dev) (m f : Nat) : Nat :=
  let cs := d.activeCores m
  let top := maxN (cs.map (fun u => d.needC m u f))
  (cs.find? (fun u => d.needC m u f == top)).getD 0

/-- Domains on rail `n`, ascending. -/
def Dev.railDoms (d : Dev) (n : Nat) : List Nat :=
  (upto d.doms.length).filter (fun m => d.domRail m == some n)

/-- The voltage guard in use (R225). -/
def Dev.guardUse (d : Dev) : Nat := max d.gov.set.guard (d.rd GOV.HARD_PL1_HARD_GUARD)

/-- The value of an exponential window (R216). -/
def winValue (y : Int) : Nat := ((y + 2 ^ 23) / 2 ^ 24).toNat

/-- TDC window value of rail `n`, 0.25 A. -/
def Dev.tdcw (d : Dev) (n : Nat) : Nat := winValue (d.gov.lim.yTdc.getD n 0)

/-- The allowance A_n of R225; LL is unused in AVS mode (R165). -/
def Dev.allowanceV (d : Dev) (n : Nat) : Nat :=
  if d.avs n then 0 else ceilDiv ((d.rd RAIL.LL_LL n * 4 * d.tdcw n + 32) / 64) 16

/-- N_n for given frequencies of the domains on rail `n` (R225). -/
def Dev.railNeed (d : Dev) (n : Nat) (f : Nat → Nat) : Nat :=
  maxN ((d.railDoms n).map (fun m => d.needD m (f m))) + d.guardUse + d.allowanceV n

/-! ### The handshake (R58, R227, R228) -/

/-- Something of a change stands on the clock-control port: no new change may start (R58, R227). -/
def Dom.busy (x : Dom) : Bool := x.prep || x.sw || x.prepAck || x.swAck

/-- A change in hand (R234, R236): prepared, or switching. -/
def Dom.inHand (x : Dom) : Bool := x.prep || x.sw

/-- PREP is lowered and the prepared change abandoned (R58, R204). -/
def Dev.lowerPrep (d : Dev) (m : Nat) : Dev :=
  d.updDom m (fun x => { x with prep := false, defer_ := false, counted := false })

/-- The voltage condition of R227: the rail's last completed command is COMPLETE with T ≥ N_n. -/
def Dev.voltOk (d : Dev) (m : Nat) : Bool :=
  match d.domRail m with
  | none => true
  | some n => match (d.rail n).cmd.doneT with
    | some t => decide (t ≥ d.gov.need.getD n 0)
    | none => false

/-- CD_SWITCH_RAISE (R227): CD_n_SWITCH rises when PREP_ACK, voltage and the Gust rules allow it; a Gust or its release
wait withholds it (R204), except a decrease after 20 us (R205). -/
def Dev.trySwitch (d : Dev) (m : Nat) : Dev :=
  let x := d.dom m
  if !x.prep || !x.prepAck || x.sw || x.swAck || d.sqActive then d else
  let up := decide (x.freq > x.conf)
  if up && !d.voltOk m then d
  else if x.wait || (x.gust && !(x.long && !up)) then
    let d := d.updDom m (fun x => { x with defer_ := true, counted := true })
    if x.counted then d else d.bump DROOP.DCNT_DEFERS 0 m
  else
    let d := d.updDom m (fun x => { x with sw := true, defer_ := false })
    if x.gust then
      let d := d.bump DROOP.DCNT_FORCED 0 m
      if x.forcedSent then d else (d.updDom m (fun x => { x with forcedSent := true })).ev Ev.DROOP_FORCED_DOWN m
    else d

/-- CD_UNGATE (R227): a gated domain is ungated once its frequency is confirmed and the voltage condition holds. -/
def Dev.tryUngate (d : Dev) (m : Nat) : Dev :=
  let x := d.dom m
  if x.gate && x.conf != 0 && d.on LEVEL.BANK_VALID && !d.sqActive && d.voltOk m then
    d.updDom m (fun x => { x with gate := false })
  else d

/-- Every domain's pending switch and ungating, as a rail's completed command or a strobe may allow them. -/
def Dev.clockScan (d : Dev) : Dev :=
  (upto d.doms.length).foldl (fun d m => (d.trySwitch m).tryUngate m) d

/-- CD_PREP_ACK (R58). -/
def Dev.prepAck (d : Dev) (m : Nat) : Dev :=
  if (d.dom m).prep && !(d.dom m).prepAck then (d.updDom m (fun x => { x with prepAck := true })).trySwitch m else d

/-- CD_SWITCH_ACK (R58, R227): the new frequency is confirmed; PREP and SWITCH are lowered. -/
def Dev.switchAck (d : Dev) (m : Nat) : Dev :=
  if (d.dom m).sw && !(d.dom m).swAck then
    (d.updDom m (fun x => { x with
      conf := x.freq, sw := false, prep := false, swAck := true, late := false, counted := false })).tryUngate m
  else d

/-- CD_ACK_FALL (R58, R227): an acknowledge falls after PREP is lowered. -/
def Dev.ackFall (d : Dev) (m : Nat) (sw : Bool) : Dev :=
  if (d.dom m).prep then d
  else d.updDom m (fun x => if sw then { x with swAck := false } else { x with prepAck := false })

/-- LEVEL_PREP_TIMEOUT (R228). -/
def Dev.prepTimeout (d : Dev) (m : Nat) : Dev :=
  let x := d.dom m
  if x.prep && !x.prepAck && !x.sw then
    ((d.lowerPrep m).updDom m (fun x => { x with retry := true })).ev Ev.LEVEL_PREP_TIMEOUT m
  else d

/-- LEVEL_SWITCH_TIMEOUT (R228). -/
def Dev.switchTimeout (d : Dev) (m : Nat) : Dev :=
  if (d.dom m).sw && !(d.dom m).late then
    (d.updDom m (fun x => { x with late := true })).ev Ev.LEVEL_SWITCH_TIMEOUT m
  else d

/-- Task 0x02 for one domain: the target, and at most one change in hand (R203, R227). -/
def Dev.domainStep (d : Dev) (level m : Nat) : Dev :=
  if !d.on LEVEL.BANK_VALID || d.sqActive then d else
  let f := d.freqAt level m
  let d := d.updDom m (fun x => { x with target := f, retry := false })
  let x := d.dom m
  if x.prep && !x.sw then (if x.freq != f then d.lowerPrep m else d)
  else if x.busy || f == x.conf then d
  else if decide (f > x.conf) && (x.gust || x.wait) then d
  else d.updDom m (fun x => { x with freq := f, prep := true })

/-- GUST_RELEASE_WAIT_END (R204). -/
def Dev.releaseWaitEnd (d : Dev) (m : Nat) : Dev :=
  if (d.dom m).wait then (d.updDom m (fun x => { x with wait := false })).trySwitch m else d

/-- GUST_LONG (R205): the 24,000th GCLK cycle of an unbroken Gust. -/
def Dev.gustLong (d : Dev) (m : Nat) : Dev :=
  let x := d.dom m
  if !x.gust || x.long then d else
  let d := d.updDom m (fun x => { x with long := true })
  if x.prep && !x.sw then
    if x.freq > x.conf then
      let d := (d.lowerPrep m).bump DROOP.DCNT_CANCELS 0 m
      if x.cancelSent then d else (d.updDom m (fun x => { x with cancelSent := true })).ev Ev.DROOP_CANCEL_UP m
    else d.trySwitch m
  else d

/-- W of R204: 64 compute-core cycles at the confirmed frequency, in GCLK cycles. -/
def Dev.releaseWait (d : Dev) (m : Nat) : Nat := ceilDiv 307200 (d.dom m).conf

end Sys2Proof.Machine
end

