-- ==== Sys2Proof/Machine/Droop.lean ====
section
/-!
DEFINITION. Machine/Droop.lean: the droop satellites, Gusts, persistence bubbles, live calibration and waveform capture
(spec/08_droop.md), and the ageing sample of R226.
-/
namespace Sys2Proof.Machine

/-! ### The satellite (R195 to R199) -/

/-- Crossing level of a CODE (R196). -/
def crossing (code : Nat) : Nat :=
  if code ≥ 34 then 0 else if code ≥ 28 then 1 else if code ≥ 20 then 2 else 3

/-- The servo acts at this count of cycles since site power-up (R195). -/
def servoAt (cyc : Nat) : Bool := cyc != 0 && (if cyc ≤ 65536 then cyc % 256 == 0 else cyc % 65536 == 0)

/-- SERVO_STEP (R195): one action of the servo, when one is due. -/
def Sat.servo (x : Sat) : Sat :=
  if !x.servoDue then x else
  let x := { x with servoDue := false }
  if x.stretch != 0 || decide (x.sinceRel < 4096) then x
  else if x.last256 < 38 * 256 then
    if x.coarse == 0 then { x with slim := true } else { x with coarse := x.coarse - 1, slim := false }
  else if x.last256 > 42 * 256 then
    if x.coarse == 255 then { x with slim := true } else { x with coarse := x.coarse + 1, slim := false }
  else { x with slim := false }

/-- Eighths of the period estimate by which the root lengthens a period at a stretch level (R60, R196, R197). -/
def stretchEighths : Nat → Nat
  | 0 => 0
  | 1 => 1
  | 2 => 2
  | _ => 4

/-- DS_n_EVT (R198). -/
def evtWord (level : Nat) (persist slim : Bool) : Nat := putAt level 2 + putAt (bnat persist) 1 + bnat slim

/-- DS_CLK_EDGE (R195 to R198): one rising edge of DS_n_CLK with the CODE it latches. The request driven in this cycle is
the stretch level of the cycle before it; the root stretches a period that starts a cycle after a request (R60), so this
cycle's replica is lengthened for the request of the cycle before it (R197), also that of the cycle in which the request
returns to 0b00, whose period began with the request still standing (DEDUCED from R60, log entry 103). -/
def Sat.edge (x : Sat) (code : Nat) : Sat :=
  let x := x.servo
  let drive := maxN x.lvs
  let comp := stretchEighths x.stretch * (2 * x.coarse + 40)
  let released := x.stretch != 0 && drive == 0
  let run := if drive == 0 then 0 else min 64 (x.run + 1)
  let cyc := x.cyc + 1
  let sum := x.sum + code
  let block := cyc % 256 == 0
  let x := { x with
    cyc := cyc, sum := if block then 0 else sum, last256 := if block then sum else x.last256,
    lvs := (crossing code :: x.lvs).take 16, stretch := drive, run := run, comp := comp,
    sinceRel := if released then 0 else min 4096 (x.sinceRel + 1), servoDue := servoAt cyc }
  { x with evt := evtWord drive (decide (run ≥ 64)) x.slim }

/-- SITE_POWER_UP of a droop satellite (R199): no stretch, a zero DS_n_EVT, coarse setting 128. -/
def Sat.powerUp (x : Sat) : Sat :=
  { x with coarse := 128, cyc := 0, sum := 0, last256 := 0, lvs := [], stretch := 0, run := 0, comp := 0,
           sinceRel := 4096, slim := false, evt := 0, servoDue := false }

/-! ### Gusts (R200, R201) -/

/-- The first Gust of an in-use satellite of the captured rail triggers an armed waveform capture (R212). -/
def Dev.waveTrigger (d : Dev) (s : Nat) : Dev :=
  if d.wave.st == .armed && d.wave.left.isNone && d.satRail s == d.rd DROOP.WAVE_CFG_RAIL then
    { d with wave := { d.wave with left := some (131072 - 2 * d.rd DROOP.WAVE_CFG_PRE), trig := s } }
  else d

/-- The drop X that CAL gives for the deepest level of a Gust, -1 where there is none (R200, R210, R431). -/
def Dev.gustDepth (d : Dev) (s lv : Nat) : Int :=
  let x := if lv == 1 then d.rd DROOP.CAL_X1 0 s else if lv == 2 then d.rd DROOP.CAL_X2 0 s else d.rd DROOP.CAL_X3 0 s
  if d.on DROOP.CAL_VALID 0 s && x != 0xFF then (x : Int) else -1

/-- The satellite's own Gust starts, goes on or ends. -/
def Dev.satGustUpdate (d : Dev) (s : Nat) : Dev :=
  let x := d.sat s
  let now := d.satGust s
  if now && !x.gust then
    let d := d.updSat s (fun x => { x with gust := true, gustBeats := 0, deep := x.level, persisted := x.persist })
    let d := d.bump DROOP.COUNT_GUSTS 0 s
    let d := if x.persist then d.bump DROOP.COUNT_PERSISTS 0 s else d
    d.waveTrigger s
  else if now then
    let d := if x.persist && !x.persisted then d.bump DROOP.COUNT_PERSISTS 0 s else d
    d.updSat s (fun x => { x with deep := max x.deep x.level, persisted := x.persisted || x.persist })
  else if x.gust then
    (d.updSat s (fun x => { x with gust := false, gustBeats := 0 })).sample 0x06 (d.satRail s) (d.gustDepth s x.deep)
  else d

/-- Domain `m` enters or leaves Gust at GCLK count `g` (R200, R204). -/
def Dev.domGustUpdate (d : Dev) (m g : Nat) : Dev :=
  let x := d.dom m
  let now := (upto d.sats.length).any (fun s => d.satDom s == m && d.satGust s)
  if now && !x.gust then
    (d.updDom m (fun x => { x with gust := true, gustAt := g, wait := false })).bump DROOP.DSTAT_GUSTS 0 m
  else if !now && x.gust then
    (d.updDom m (fun x => { x with gust := false, long := false, wait := true })).sample 0x07 m (g - x.gustAt : Nat)
  else d

/-- Everything that follows a change of a satellite's use or accepted value, at GCLK count `g`. -/
def Dev.gustUpdate (d : Dev) (s g : Nat) : Dev :=
  let d := d.satGustUpdate s
  if s < d.sats.length then d.domGustUpdate (d.satDom s) g else d

/-- DS_EVT_ACCEPT (R200, R201, R213, R214): the core accepts a DS_n_EVT value at GCLK cycle `cyc` of the beat. -/
def Dev.evtAccept (d : Dev) (s evt cyc : Nat) : Dev :=
  let d := (d.atCyc cyc).updSat s (fun x => { x with acc := evt % 16 })
  let x := d.sat s
  let d := if d.cal.st == .pulse then d.updSat s (fun x => { x with pulseMax := max x.pulseMax x.level }) else d
  let d := if bitAt x.acc 0 && !x.slimSent && decide (s < d.sats.length) then
      (d.updSat s (fun x => { x with slimSent := true })).ev Ev.DROOP_SERVO_LIMIT s
    else d
  d.gustUpdate s (d.gclk cyc)

/-- SATELLITE_IN_USE (R200): CD_n_GATE has been low for 100 ns, at GCLK cycle `cyc` of the beat. -/
def Dev.satellitesInUse (d : Dev) (m cyc : Nat) : Dev :=
  if (d.dom m).gate then d else
  (upto d.sats.length).foldl (fun d s =>
    if d.satDom s == m then (d.updSat s (fun x => { x with open100 := true })).gustUpdate s (d.gclk cyc) else d)
    (d.atCyc cyc)

/-- CD_n_GATE rises: the domain's satellites leave use (R200). -/
def Dev.gateDom (d : Dev) (m : Nat) : Dev :=
  let d := d.updDom m (fun x => { x with gate := true })
  (upto d.sats.length).foldl (fun d s =>
    if d.satDom s == m then (d.updSat s (fun x => { x with open100 := false })).gustUpdate s d.gnow else d) d

/-- The persistence bubbles of domain `m` (R201): GBUBk at the highest qualifying level. -/
def Dev.gustBubbles (d : Dev) (m : Nat) : Nat :=
  let k := maxN (((upto d.sats.length).filter (fun s =>
    d.satDom s == m && d.satGust s && (d.sat s).persist && decide ((d.sat s).level ≥ d.gov.set.gustg))).map
      (fun s => (d.sat s).level))
  match k with
  | 0 => 0
  | 1 => d.rd DROOP.GBUB_GBUB1
  | 2 => d.rd DROOP.GBUB_GBUB2
  | _ => d.rd DROOP.GBUB_GBUB3

/-- DROOP_STUCK (R202): a Gust of STUCK.LIMIT beats takes the satellite out of use. -/
def Dev.droopStuck (d : Dev) (s : Nat) : Dev :=
  if (d.sat s).gust && decide ((d.sat s).gustBeats ≥ d.rd DROOP.STUCK_LIMIT) then
    let d := (d.updSat s (fun x => { x with stuck := true })).ev Ev.DROOP_STUCK s
    (d.calForce (d.satRail s)).gustUpdate s d.gnow
  else d

/-- The beat strobe's count of unbroken Gusts (R202). -/
def Dev.stuckBeat (d : Dev) : Dev :=
  (upto d.sats.length).foldl (fun d s =>
    if (d.sat s).gust then (d.updSat s (fun x => { x with gustBeats := x.gustBeats + 1 })).droopStuck s else d) d

/-- MAP_USE_WRITE (R202): USE already written; a 1 clears STUCK. -/
def Dev.mapUse (d : Dev) (s v : Nat) : Dev :=
  let d := if v == 1 then d.updSat s (fun x => { x with stuck := false }) else d
  d.gustUpdate s d.gnow

/-! ### Calibration (R208 to R211) -/

/-- The deepest pulse allowed (R209, R213). -/
def Dev.calMax (d : Dev) : Nat := min (d.rd DROOP.CAL_STEP_MAX) (d.rd DROOP.HARD_CAL_HARD_CALMAX)

/-- Satellites of rail `n` in use. -/
def Dev.calSats (d : Dev) (n : Nat) : List Nat :=
  (upto d.sats.length).filter (fun s => d.satRail s == n && d.satInUse s)

/-- CAL_GO and the period: an ordinary calibration of rail `n` becomes due (R208). -/
def Dev.calDue (d : Dev) (n : Nat) : Dev :=
  if n < d.nRails then
    { d with cal := { d.cal with due := insertAsc n d.cal.due, st := if d.cal.st == .idle then .wait else d.cal.st } }
  else d

/-- CAL_PERIOD_DUE (R208): CAL_CFG.PERIOD seconds have passed with EN = 1; every rail's calibration becomes due. -/
def Dev.calPeriod (d : Dev) : Dev :=
  if d.on DROOP.CAL_CFG_EN && decide (d.cal.ms ≥ 1000 * d.rd DROOP.CAL_CFG_PERIOD) then
    (upto d.nRails).foldl (fun d n => d.calDue n) { d with cal := { d.cal with ms := 0 } }
  else d

/-- One BUDGET tick towards the period; the count stands still while EN = 0. -/
def Dev.calMs (d : Dev) : Dev :=
  if d.on DROOP.CAL_CFG_EN then ({ d with cal := { d.cal with ms := d.cal.ms + 1 } }).calPeriod else d

/-- The last BEATS beat means of rail `n`, none while there are fewer. -/
def Dev.calWindow (d : Dev) (n : Nat) : Option (List Int) :=
  let k := d.rd DROOP.CAL_QUIET_BEATS
  let h := d.cal.hist.getD n []
  if h.length < k then none else some (h.take k)

/-- The quiet condition of R208 on a window of means: each within QUIET_I of their common mean. -/
def quiet (q : Nat) (w : List Int) : Bool :=
  let s := sumI w
  w.all (fun m => decide (((w.length : Int) * m - s).natAbs ≤ 16 * q * w.length))

/-- The start conditions of R208 other than the claim. -/
def Dev.calReady (d : Dev) (n : Nat) : Bool :=
  let c := (d.rail n).cmd
  d.closedDirect n && c.st != .retention && !d.anyPh n .brake && c.pend.isNone && c.arr.isEmpty && c.held.isNone
    && (d.railDoms n).all (fun m => !(d.dom m).prep) && !d.railGust n
    && (match d.calWindow n with | some w => quiet (d.rd DROOP.CAL_QUIET_QUIET_I) w | none => false)

/-- The first due rail, forced ones first, whose start conditions hold. -/
def Dev.calNext (d : Dev) : Option (Nat × Bool) :=
  match d.cal.dueF.find? (fun n => d.calReady n) with
  | some n => some (n, true)
  | none => match d.cal.due.find? (fun n => d.calReady n) with
    | some n => some (n, false)
    | none => none

/-- The ageing samples of a completed calibration of rail `n` (R226). -/
def Dev.ageSamples (d : Dev) (n : Nat) : Dev :=
  if !d.on LEVEL.AGE_CFG_EN then d else
  (d.railDoms n).foldl (fun d m =>
    let xs := ((upto d.sats.length).filter (fun s => d.satDom s == m && d.satInUse s && !(d.sat s).suspect)).filterMap
      (fun s => if d.rd DROOP.CAL_X1 0 s == 0xFF then none else some (d.rd DROOP.CAL_X1 0 s))
    match minN xs with
    | none => d
    | some md =>
      let base := d.rd LEVEL.AGE_BASE 0 m
      if base == 0xFF then (d.wr LEVEL.AGE_BASE md 0 m).wr LEVEL.AGE_BASE_V d.cal.vcal 0 m
      else if ((d.cal.vcal : Int) - ((d.rd LEVEL.AGE_BASE_V 0 m : Nat) : Int)).natAbs ≤ d.rd LEVEL.AGE_VWIN_VWIN then
        d.updDom m (fun x => { x with
          ageT := min (d.rd LEVEL.AGE_CFG_MAX) ((d.rd LEVEL.AGE_CFG_GAIN * (base - md) + 8) / 16) })
      else d) d

/-- The results of one satellite (R210). -/
def Dev.calResult (d : Dev) (s : Nat) : Dev :=
  let x := d.sat s
  let d := ((d.wr DROOP.CAL_X1 (x.x1.getD 0xFF) 0 s).wr DROOP.CAL_X2 (x.x2.getD 0xFF) 0 s).wr DROOP.CAL_X3
    (x.x3.getD 0xFF) 0 s
  let d := d.wr DROOP.CAL_VALID 1 0 s
  let bad := x.x1.isNone || x.x1first
  let d := d.updSat s (fun x => { x with suspect := bad })
  if bad then d.ev Ev.DROOP_CAL_RANGE s else d

/-- A run ends with results (R210). -/
def Dev.calFinish (d : Dev) : Dev :=
  let n := d.cal.rail
  let d := (d.calSats n).foldl (fun d s => d.calResult s) d
  let d := (d.calRelease).bump DROOP.CAL_COUNT_DONE
  let d := { d with cal := { d.cal with st := d.cal.rest, delta := 0 } }
  (d.ageSamples n).ev Ev.DROOP_CAL_DONE n

/-- A run starts (R209, R211, R482, R484), its claim taken. -/
def Dev.calBegin (d : Dev) (n : Nat) (forced : Bool) : Dev :=
  let w := (d.calWindow n).getD [0]
  let d := { d with cal := { d.cal with
    st := .gap, rail := n, forced := forced, delta := d.rd DROOP.CAL_STEP_START, first := true, ticks := 0, vh := [],
    i0 := sumI w, i0n := w.length, vcal := toMv4 (d.rail n).loop.r,
    due := if forced then d.cal.due else d.cal.due.filter (· != n),
    dueF := if forced then d.cal.dueF.filter (· != n) else d.cal.dueF } }
  let d := (upto d.sats.length).foldl (fun (d : Dev) s =>
    d.updSat s (fun x => { x with x1 := none, x2 := none, x3 := none, x1first := false, pulseMax := 0 })) d
  if d.calMax < d.cal.delta then d.calFinish else d

/-- A run whose claim is refused RESOURCE_BUSY is skipped until its next period (R211). -/
def Dev.calSkip (d : Dev) (n : Nat) : Dev :=
  let d := (d.bump DROOP.CAL_COUNT_BUSY_SKIPS).claimBusy (1 + n)
  let d := { d with cal := { d.cal with due := d.cal.due.filter (· != n) } }
  { d with cal := { d.cal with st := d.cal.rest } }

/-- The first due rail whose conditions hold starts; one whose claim is refused makes way for the next in the same beat, at
most `k` of them (R208, R211). -/
def Dev.calTry (d : Dev) : Nat → Dev
  | 0 => d
  | k + 1 =>
    match d.calNext with
    | none => d
    | some (n, true) =>
      let lost := d.tuneUses (1 + n)
      let d := d.takeSafety (1 + n) ⟨3, 0, 0, 4⟩
      (if lost then d.tuneAbort 5 else d).calBegin n true
    | some (n, false) =>
      if (d.owner (1 + n)).kind == 0 then (d.setOwner (1 + n) ⟨2, 0, 0, 4⟩).calBegin n false
      else (d.calSkip n).calTry k

/-- CAL_START (R208, R211): at a beat with no run in progress, the first due rail whose conditions, the claim among them,
all hold. -/
def Dev.calStart (d : Dev) : Dev :=
  if d.cal.running || d.sqActive then d else d.calTry (d.cal.due.length + 1)

/-- Mean of VMEAS over the last RAIL ticks kept, 0.25 mV, to the nearest with ties upward. -/
def Cal.vmean (c : Cal) : Nat := roundDivN (sumN c.vh) c.vh.length

/-- CAL_GAP_END (R209). -/
def Dev.calGapEnd (d : Dev) : Dev :=
  if d.cal.st == .gap && decide (d.cal.ticks ≥ 4 * d.rd DROOP.CAL_CFG_GAP) then
    { d with
      cal := { d.cal with st := .pulse, v0 := d.cal.vmean, ticks := 0, vh := [] },
      sats := d.sats.map (fun (x : Sat) => { x with pulseMax := 0 }) }
  else d

/-- The drop of one pulse enters the unset levels of a satellite (R209). -/
def Sat.takeDrop (x : Sat) (drop : Nat) (first : Bool) : Sat :=
  { x with
    x1first := x.x1first || (first && x.x1.isNone && decide (x.pulseMax ≥ 1)),
    x1 := if x.x1.isNone && decide (x.pulseMax ≥ 1) then some drop else x.x1,
    x2 := if x.x2.isNone && decide (x.pulseMax ≥ 2) then some drop else x.x2,
    x3 := if x.x3.isNone && decide (x.pulseMax ≥ 3) then some drop else x.x3 }

/-- CAL_PULSE_END (R209). A pulse in which the voltage rose, v1 above v0, gives the drop 0 (DESIGN CHOICE, log entry 30). -/
def Dev.calPulseEnd (d : Dev) : Dev :=
  if d.cal.st == .pulse && decide (d.cal.ticks ≥ 4 * d.rd DROOP.CAL_CFG_PULSE) then
    let ss := d.calSats d.cal.rail
    let drop := min 254 (d.cal.v0 - d.cal.vmean)
    let d := ss.foldl (fun d s => d.updSat s (fun x => x.takeDrop drop d.cal.first)) d
    let next := d.cal.delta + d.rd DROOP.CAL_STEP_STEP
    if ss.all (fun s => (d.sat s).x3.isSome) || decide (next > d.calMax) then d.calFinish
    else { d with cal := { d.cal with st := .gap, delta := next, first := false, ticks := 0, vh := [] } }
  else d

/-- The beat's part of the calibration: means enter the history, a running calibration checks its quiet condition, a due
one may start (R208, R209). -/
def Dev.calBeat (d : Dev) : Dev :=
  let mean (n : Nat) : Int := let a := (d.rail n).flt.accB1; roundDiv (4 * a.si) a.n
  let d := { d with cal := { d.cal with
    hist := (upto d.nRails).map (fun n => (mean n :: d.cal.hist.getD n []).take 255) } }
  let d :=
    if d.cal.running then
      let m := (d.cal.hist.getD d.cal.rail []).headD 0
      if ((d.cal.i0n : Int) * m - d.cal.i0).natAbs > 16 * d.rd DROOP.CAL_QUIET_QUIET_I * d.cal.i0n then d.calAbort else d
    else d
  d.calStart

/-! ### Waveform capture (R212) -/

/-- WAVE_ARM: refused under R108 without the claim on the capture RAM for this feature (R212, R485). -/
def Dev.waveArm (d : Dev) (a : Acc) : Dev :=
  if d.owns a 0 && (d.owner 0).feat == 2 then
    { d with wave := { st := .armed, pos := 0, left := none, trig := 0, start := 0 } }
  else d.ev (Ev.badValue 0x10) 0

/-- CAL_STAT.STATE encoding. -/
def CalSt.code : CalSt → Nat
  | .idle => 0 | .wait => 1 | .gap => 2 | .pulse => 3

/-- WAVE_STAT.STATE encoding. -/
def WaveSt.code : WaveSt → Nat
  | .idle => 0 | .armed => 1 | .done => 2 | .aborted => 3

end Sys2Proof.Machine
end

