-- ==== Sys2Proof/Machine/Gov.lean ====
section
/-!
DEFINITION. Machine/Gov.lean: the limit governor, performance levels and modes (spec/09_governor.md).
-/
namespace Sys2Proof.Machine

/-! ### Thermal limits in use (R318) -/

/-- T_TRIP of zone `z` in use (R23, R318), 1/64 degree. -/
def Dev.tTrip (d : Dev) (z : Nat) : Int :=
  min (signedOf 16 (d.rd THERM.ZTRIP_T_TRIP 0 z)) (signedOf 16 (d.rd THERM.HARD_T_HARD_TTRIP))
/-- T_CTRL of zone `z` in use. -/
def Dev.tCtrl (d : Dev) (z : Nat) : Int := min (signedOf 16 (d.rd THERM.ZLIM_T_CTRL 0 z)) (d.tTrip z)
/-- T_ALARM of zone `z` in use. -/
def Dev.tAlarm (d : Dev) (z : Nat) : Int := min (signedOf 16 (d.rd THERM.ZLIM_T_ALARM 0 z)) (d.tTrip z)

/-! ### Measured quantities (R215, R216) -/

/-- Measured rail current of the last beat, 0.25 A (R215): the mean I_sum, or in AVS mode the latest reading of R165. -/
def Dev.measI (d : Dev) (n : Nat) : Nat :=
  if d.avs n then min 65535 (d.rail n).avs.cur
  else
    let a := (d.rail n).flt.accB1
    min 65535 (roundDiv a.si (4 * a.n)).toNat

/-- Rail current of the last beat as the governor uses it, 0.25 A (R190, R215). Under IMPLAUS both figures are those of
PLAUS_STAT, the last beat checked, whose check lags (R189; DEDUCED, log entry 102). -/
def Dev.beatI (d : Dev) (n : Nat) : Nat :=
  if (d.rail n).flt.implaus then max (d.rd RAIL.PLAUS_STAT_IMEAS n) (d.rd RAIL.PLAUS_STAT_IEST n) else d.measI n

/-- Mean VMEAS of the last beat, 0.25 mV. -/
def Dev.beatV (d : Dev) (n : Nat) : Nat := let a := (d.rail n).flt.accB1; roundDivN a.sv a.n

/-- Package power of the last beat, 1/16 W (R215). -/
def Dev.beatP (d : Dev) : Nat :=
  roundDivN (sumN ((upto d.nRails).map (fun n =>
    if (d.rail n).cmd.st == .stopped then 0 else d.beatV n * d.beatI n))) 1000

/-- One step of an exponential window (R216). -/
def winStep (y : Int) (x w : Nat) : Int :=
  let c : Int := ((roundDivN (2 ^ 24) w : Nat) : Int)
  y + ((((x : Int) * 2 ^ 24 - y) * c + 2 ^ 23) / 2 ^ 24)

/-- The windows take the last beat (R216). -/
def Dev.govWindows (d : Dev) : Dev :=
  let l := d.gov.lim
  let p := d.beatP
  let w := 1000 * d.rd GOV.WIN_TDC_MS
  { d with gov := { d.gov with lim := { l with
    yTdc := (upto d.nRails).map (fun n => winStep (l.yTdc.getD n 0) (d.beatI n) w),
    ySus := winStep l.ySus p 10000, yTh := winStep l.yTh p 1000000, last10 := (p :: l.last10).take 10,
    pBeat := p, pSum := l.pSum + p, pCnt := l.pCnt + 1 } } }

/-- The PL_FAST window: the sum of the last ten beats over ten (R216). -/
def GovLim.fast (l : GovLim) : Nat := roundDivN (sumN l.last10) 10

/-! ### Edges, ratios (R217, R218) -/

/-- What one limit does in a beat: its ID, its new ratio, whether it is above its band without a rise, whether it is
below its band. -/
structure LimRes where
  id : Nat
  r : Nat
  stuck : Bool
  above : Bool
  below : Bool
  deriving DecidableEq, Repr

/-- The ratio update of R218 from the position against the band. -/
def limUpdate (id r law decay : Nat) (above below : Bool) : LimRes :=
  let r' := if above then max r law else if below then r - decay else r
  ⟨id, r', above && decide (r' ≤ r), above, below⟩

/-- The bubble law of R218. -/
def bubbleLaw (bgain : Nat) (eps : Int) : Nat := min 255 (((bgain : Int) * eps + 32) / 64).toNat

/-- A current, di/dt or power limit of value `l` with measured value `m` (R217). -/
def Dev.limLinear (d : Dev) (id l m r : Nat) : LimRes :=
  let decay := d.rd GOV.BUB_DECAY
  if l == 0 then limUpdate id r 255 decay (decide (m > 0)) false
  else
    let eu := l - (l * d.rd GOV.BAND_HI + 128) / 256
    let ed := l - (l * d.rd GOV.BAND_LO + 128) / 256
    let eps := roundDiv (1024 * ((m : Int) - (eu : Int))) l
    limUpdate id r (bubbleLaw d.gov.set.bgain eps) decay (decide (eps > 0)) (decide (m < ed))

/-- A zone temperature limit (R217). -/
def Dev.limZone (d : Dev) (z : Nat) (m : Int) (r : Nat) : LimRes :=
  let t := d.tCtrl z
  let eu := t - ((d.rd GOV.BAND_T_HI : Nat) : Int)
  let ed := t - ((d.rd GOV.BAND_T_LO : Nat) : Int)
  let eps := (m - eu + 2) / 4
  limUpdate (0x20 + z) r (bubbleLaw d.gov.set.bgain eps) (d.rd GOV.BUB_DECAY) (decide (eps > 0)) (decide (m < ed))

/-- The EDC limit of rail `n` in use (R23, R182). -/
def Dev.edcUse (d : Dev) (n : Nat) : Nat := d.derate n (min (d.rd GOV.RLIM_EDC 0 n) (d.rd GOV.RHARD_HARD_EDC 0 n))
/-- The TDC limit of rail `n` in use. -/
def Dev.tdcUse (d : Dev) (n : Nat) : Nat := d.derate n (min (d.rd GOV.RLIM_TDC 0 n) (d.rd GOV.RHARD_HARD_TDC 0 n))
/-- PL_SUSTAIN in use (R23). -/
def Dev.susUse (d : Dev) : Nat := min (d.rd GOV.PLIM0_PL_SUSTAIN) (d.rd GOV.HARD_PL0_HARD_SUSTAIN)

/-- The rail and package limits of a beat, by kind (R215). -/
def Dev.limEdc (d : Dev) (n : Nat) : LimRes :=
  d.limLinear n (d.edcUse n) (d.beatI n) (d.gov.lim.edc.getD n 0)
/-- TDC of rail `n`. -/
def Dev.limTdc (d : Dev) (n : Nat) : LimRes :=
  d.limLinear (0x08 + n) (d.tdcUse n) (d.tdcw n) (d.gov.lim.tdc.getD n 0)
/-- di/dt of rail `n`. -/
def Dev.limDidt (d : Dev) (n : Nat) : LimRes :=
  d.limLinear (0x10 + n) (d.rd GOV.RDIDT_DIDT 0 n) (d.beatI n - d.gov.lim.prevI.getD n 0) (d.gov.lim.didt.getD n 0)
/-- PL_FAST, PL_SUSTAIN, PL_THERMAL and BUDGET. -/
def Dev.limPkg (d : Dev) : List LimRes :=
  let l := d.gov.lim
  let r (i : Nat) : Nat := l.pkg.getD i 0
  [d.limLinear 0x18 (min (d.rd GOV.PLIM0_PL_FAST) (d.rd GOV.HARD_PL0_HARD_FAST)) l.fast (r 0),
   d.limLinear 0x19 d.susUse (winValue l.ySus) (r 1),
   d.limLinear 0x1A (min (d.rd GOV.PLIM1_PL_THERMAL) (d.rd GOV.HARD_PL1_HARD_THERMAL)) (winValue l.yTh) (r 2),
   d.limLinear 0x1B d.gov.psetUse (winValue l.ySus) (r 3)]
/-- The configured zones. -/
def Dev.limZones (d : Dev) : List (Option LimRes) :=
  (upto 32).map (fun z => (d.gov.zones.getD z none).map (fun m => d.limZone z m (d.gov.lim.zone.getD z 0)))

/-- The largest ratio among the zones that cover the cores of credit channel `c` (R315). -/
def Dev.zoneCover (d : Dev) (c : Nat) : Nat :=
  maxN ((upto 32).map (fun z =>
    let ch := d.rd THERM.ZMAP_CH 0 z
    if ch == 0 || bitAt ch c then d.gov.lim.zone.getD z 0 else 0))

/-- The largest ratio of rail `n`'s limits. -/
def Dev.railRatio (d : Dev) (n : Nat) : Nat :=
  max (d.gov.lim.edc.getD n 0) (max (d.gov.lim.tdc.getD n 0) (d.gov.lim.didt.getD n 0))

/-- The limit bubble ratio of every compute core (R218): the limits that cover it; none covers an inactive core. -/
def Dev.limitBubbles (d : Dev) : List Nat :=
  let free := maxN ((upto d.nRails).map (fun n => if (d.railDoms n).isEmpty then d.railRatio n else 0))
  let common := max free (maxN d.gov.lim.pkg)
  let chans := (upto d.bld.creditCh).map (fun c =>
    max common (max (d.zoneCover c) (match d.domRail (d.chDom c) with | some n => d.railRatio n | none => 0)))
  (upto d.bld.cores).map (fun c => if d.coreActive c then chans.getD (c / 16) 0 else 0)

/-- The ratio driven on the BUB lane of a core (R17, R218): 256 under a Squall and while its domain is gated (R323, R453). A
core that CORE_EN marks inactive has no limit ratio, but Gust and ceiling bubbles reach it (R218); R232 gives ceiling bubbles
to every active core and says nothing of the others (DEDUCED, log entry 84). -/
def Dev.bubble (d : Dev) (c : Nat) : Nat :=
  if d.sqActive || (d.dom (d.chDom (c / 16))).gate then 256
  else
    let m := d.chDom (c / 16)
    max (d.gov.limB.getD c 0) (max (d.gustBubbles m) (d.gov.ceilB.getD m 0))

/-- Task 0x01: windows, limits and bubbles (R215 to R218). Answers the results of every limit, ascending IDs. -/
def Dev.govLimits (d : Dev) : Dev × List LimRes :=
  let d := d.govWindows
  let rs := upto d.nRails
  let e := rs.map (fun n => d.limEdc n)
  let t := rs.map (fun n => d.limTdc n)
  let i := rs.map (fun n => d.limDidt n)
  let p := d.limPkg
  let z := d.limZones
  let d := { d with gov := { d.gov with lim := { d.gov.lim with
    edc := e.map LimRes.r, tdc := t.map LimRes.r, didt := i.map LimRes.r, pkg := p.map LimRes.r,
    zone := z.map (fun (x : Option LimRes) => match x with | some r => r.r | none => 0),
    prevI := rs.map (fun n => d.beatI n) } } }
  let d := { d with bud := { d.bud with above := d.bud.above || (p.getD 3 ⟨0, 0, false, false, false⟩).above } }
  let d := { d with gov := { d.gov with limB := d.limitBubbles } }
  (d, e ++ t ++ i ++ p ++ z.filterMap id)

/-! ### Escalation and recovery (R219, R220) -/

/-- Scope of a limit ID: a rail, or `nRails` for the package. -/
def limScope (nRails id : Nat) : Nat := if id < 0x18 then id % 8 else nRails

/-- The lowest ID of the stuck limits of a scope. -/
def Dev.scopeId (d : Dev) (sc : Nat) : Nat := (d.gov.stuckLims.find? (fun i => limScope d.nRails i == sc)).getD 0

/-- Set the escalation count of a scope. -/
def Dev.setEsc (d : Dev) (sc v : Nat) : Dev := { d with gov := { d.gov with esc := putPad 0 v sc d.gov.esc } }

/-- GOV_ESC_LEVEL (R219): a count at LEVEL_BEATS above L0 lowers L_gov by one. -/
def Dev.escLevel (d : Dev) (sc : Nat) : Dev :=
  if decide (d.gov.esc.getD sc 0 ≥ d.rd GOV.ESC_LEVEL_BEATS) && decide (d.gov.lgov > 0) then
    let d := d.setEsc sc 0
    let d := { d with gov := { d.gov with lgov := d.gov.lgov - 1 } }
    (d.bump GOV.STEPS_DOWN).ev Ev.GOV_ESC_LEVEL (d.scopeId sc)
  else d

/-- A pool factor falls by POOL_STEP, not below POOL_MIN (R219). -/
def Dev.pfDown (d : Dev) (n : Nat) : Dev :=
  let pf := d.gov.pf.getD n 256
  let v := min pf (max (d.rd GOV.ESC_POOL_MIN) (pf - d.rd GOV.ESC_POOL_STEP))
  { d with gov := { d.gov with pf := putPad 256 v n d.gov.pf } }

/-- GOV_ESC_POOL (R219): a count at POOL_BEATS with L_gov at L0 lowers the pool factors in scope. -/
def Dev.escPool (d : Dev) (sc : Nat) : Dev :=
  if decide (d.gov.esc.getD sc 0 ≥ d.rd GOV.ESC_POOL_BEATS) && d.gov.lgov == 0 then
    let d := d.setEsc sc 0
    let d := if sc < d.nRails then d.pfDown sc else (upto d.nRails).foldl (fun d n => d.pfDown n) d
    d.ev Ev.GOV_ESC_POOL (d.scopeId sc)
  else d

/-- Some domain has a frequency change prepared but not yet confirmed (R219). -/
def Dev.changePrepared (d : Dev) : Bool := d.doms.any (fun x => x.inHand)

/-- The escalation counts of a beat (R219). -/
def Dev.govEscalate (d : Dev) (rs : List LimRes) : Dev :=
  let stuck := (rs.filter (fun r => r.stuck)).map (·.id)
  let d := { d with gov := { d.gov with stuckLims := stuck } }
  if d.changePrepared then d else
  (upto (d.nRails + 1)).foldl (fun d sc =>
    let hit := stuck.any (fun i => limScope d.nRails i == sc)
    let d := d.setEsc sc (if hit then d.gov.esc.getD sc 0 + 1 else 0)
    (d.escLevel sc).escPool sc) d

/-- GOV_STEP_UP (R220): a count at STEP_UP_HOLD raises the pool factors, or otherwise L_gov below the cap. -/
def Dev.stepUp (d : Dev) : Dev :=
  if decide (d.gov.stepUp < d.gov.set.hold) then d else
  let d := { d with gov := { d.gov with stepUp := 0 } }
  let low := (upto d.nRails).filter (fun n => decide (d.gov.pf.getD n 256 < 256))
  if !low.isEmpty then
    low.foldl (fun d n =>
      let v := min 256 (d.gov.pf.getD n 256 + d.rd GOV.ESC_POOL_STEP)
      { d with gov := { d.gov with pf := putPad 256 v n d.gov.pf } }) d
  else if d.gov.lgov < d.gov.cap then
    ({ d with gov := { d.gov with lgov := d.gov.lgov + 1 } }).bump GOV.STEPS_UP
  else d

/-! ### Policy and mode (R222, R230) -/

/-- The parameter set of mode `m` as the registers hold it. -/
def Dev.readSet (d : Dev) (m : Nat) : ModeSet :=
  { guard := d.rd GOV.MPA_GUARD 0 m, ppcap := d.rd GOV.MPA_PPCAP 0 m, bgain := d.rd GOV.MPA_BGAIN 0 m,
    gustg := d.rd GOV.MPA_GUSTG 0 m, hold := d.rd GOV.MPB_STEP_UP_HOLD 0 m, fillMs := d.rd GOV.MPB_FILL_MS 0 m,
    ramp := d.rd GOV.MPB_RAMP 0 m }

/-- GOV_SAFE_POLICY (R222): 100 ms of POLICY_STALE. -/
def Dev.safePolicy (d : Dev) : Dev :=
  if d.gov.stale && !d.gov.safe && decide (d.gov.staleBeats ≥ 100000) then
    ({ d with gov := { d.gov with safe := true, mode := d.rd GOV.SAFE_MODE, lvMax := d.rd GOV.SAFE_LEVEL_MAX } }).ev
      Ev.GOV_SAFE_POLICY 0
  else d

/-- The policy of a beat: CTRL outside POLICY_STALE, the values of entry in it, those of SAFE once the 100 ms that it counts
have run out in task 0x09 (R82, R222). -/
def Dev.govPolicy (d : Dev) : Dev :=
  let d :=
    if d.gov.stale then
      let d := { d with gov := { d.gov with staleBeats := min 100000 (d.gov.staleBeats + 1) } }
      if d.gov.safe then
        { d with gov := { d.gov with mode := d.rd GOV.SAFE_MODE, lvMax := d.rd GOV.SAFE_LEVEL_MAX } }
      else d
    else { d with gov := { d.gov with
      staleBeats := 0, safe := false, mode := d.rd GOV.CTRL_MODE, lvMax := d.rd GOV.CTRL_LEVEL_MAX } }
  { d with gov := { d.gov with set := d.readSet d.gov.mode, psetUse := d.gov.pset } }

/-- PROCHOT (R221): the cap starts to apply at the strobe that latches the filter acting with EN = 1. -/
def Dev.govProchot (d : Dev) : Dev :=
  let on_ := d.gov.prochotIn && d.on GOV.PROCHOT_EN
  let d := if on_ && !d.gov.prochotOn then d.ev Ev.GOV_PROCHOT 0 else d
  { d with gov := { d.gov with prochotOn := on_ } }

/-! ### Fitness reading (R224) -/

/-- The curves are read, and LEVEL_FIT_BAD raised per domain: at a reading for any invalid active curve, otherwise for a
newly active one. -/
def Dev.govFitness (d : Dev) : Dev :=
  let reading := d.gov.readFit && !d.on LEVEL.FITCTL_HOLD
  let d := if reading then { d with fitUse := d.fit, gov := { d.gov with readFit := false } } else d
  (upto d.doms.length).foldl (fun d m =>
    let bad := (d.activeCores m).filter (fun c => !curveValid (curve d.fitUse c))
    let news := bad.filter (fun c => !(d.dom m).fitBad.contains c)
    let d' := d.updDom m (fun x => { x with fitBad := bad })
    if d.gov.readFit then d
    else if (if reading then !bad.isEmpty else !news.isEmpty) then d'.ev Ev.LEVEL_FIT_BAD m else d') d

/-! ### Caps and the target level (R221, R229, R232) -/

/-- The highest level below 64 that satisfies `p`, L0 if none. -/
def topLevel (p : Nat → Bool) : Nat := ((upto 64).reverse.find? p).getD 0

/-- The fitness cap: every N_n at most VLIM.VMAX. -/
def Dev.capFitness (d : Dev) : Nat :=
  let rs := (upto d.nRails).filter (fun n => !(d.railDoms n).isEmpty)
  topLevel (fun l => rs.all (fun n => decide (d.railNeed n (fun m => d.freqAt l m) ≤ d.vmax n)))

/-- The frequency-down cap (R229): the least over the rails with one in force. -/
def Dev.capFdown (d : Dev) : Nat :=
  (minN ((upto d.nRails).filterMap (fun n =>
    match d.gov.fdown.getD n none with
    | some t => some (topLevel (fun l => decide (d.railNeed n (fun m => d.freqAt l m) ≤ t)))
    | none => none))).getD 63

/-- The SYNC domains (R232). -/
def Dev.syncDoms (d : Dev) : List Nat := (upto d.doms.length).filter (fun m => d.on LEVEL.DOM_SYNC 0 m)

/-- The Isobar cap (R232). -/
def Dev.capIsobar (d : Dev) : Nat :=
  if d.gov.agreed == 0xFFFF then 63
  else topLevel (fun l => d.syncDoms.all (fun m => decide (d.freqAt l m ≤ d.gov.agreed)))

/-- Some rail's CTRL.LOOP reads 0. -/
def Dev.anyOpen (d : Dev) : Bool := d.rails.any (fun r => r.loop.opened)

/-- The caps of R221 by CAPSRC code. -/
def Dev.caps (d : Dev) : List Nat :=
  [d.gov.lvMax, d.rd GOV.HARD_PL1_HARD_LEVEL, if d.anyOpen then d.rd GOV.CTRL_HOLD_LEVEL_CAP else 63, d.capIsobar,
   d.capFitness, if d.gov.prochotOn then d.rd GOV.PROCHOT_LEVEL else 63, d.gov.thermCap, d.capFdown]

/-- Smallest of a list of caps. -/
def capMin (l : List Nat) : Nat := (minN l).getD 63

/-- The requests of R229 are taken: a new one raises GOV_FDOWN; a request stays while its command is pending, and with
SRC = 1 afterwards with the latest host target. -/
def Dev.govFdown (d : Dev) : Dev :=
  (upto d.nRails).foldl (fun d n =>
    let c := (d.rail n).cmd
    let set (d : Dev) (v : Option Nat) : Dev := { d with gov := { d.gov with fdown := putPad none v n d.gov.fdown } }
    match c.fdown with
    | some t =>
      let id := (c.pend.map (·.id)).getD 0
      let d := set d (some t)
      if d.gov.fdownId.getD n 0 == id then d
      else ({ d with gov := { d.gov with fdownId := putPad 0 id n d.gov.fdownId } }).ev Ev.GOV_FDOWN n
    | none =>
      let d := { d with gov := { d.gov with fdownId := putPad 0 0 n d.gov.fdownId } }
      if d.on RAIL.CTRL_SRC n && (d.gov.fdown.getD n none).isSome then
        set d (some (min (d.vmax n) (max (d.vmin n) (d.rd RAIL.CMD_TARGET n))))
      else set d none) d

/-- The target level of a beat, with the step-up (R220, R221, R232); `allBelow` is none while task 0x01 is held. -/
def Dev.govTarget (d : Dev) (allBelow : Option Bool) : Dev :=
  let cs := d.caps
  let cap := capMin cs
  let d := { d with gov := { d.gov with cap := cap, stepUp := match allBelow with
    | some true => d.gov.stepUp + 1
    | some false => 0
    | none => d.gov.stepUp } }
  let d := d.stepUp
  let l := d.gov.lgov
  let src := if cap ≤ l then cs.findIdx (· == cap) else 0xF
  let capL := capMin (cs.take 3 ++ cs.drop 4)
  let srcL := if capL ≤ l then (cs.set 3 64).findIdx (· == capL) else 0xF
  { d with gov := { d.gov with
    capSrc := src, target := min l cap, lloc := min l capL, llocSrc := srcL, lgov := min l cap } }

/-! ### Voltage commands (R225) -/

/-- V_req, N_n and the governor's command for one rail. -/
def Dev.govRail (d : Dev) (n : Nat) : Dev :=
  if (d.railDoms n).isEmpty then
    let d := { d with gov := { d.gov with need := putPad 0 0 n d.gov.need, vreq := putPad 0 0 n d.gov.vreq } }
    d.updCmd n (fun c => { c with vreqNew := 0 })
  else
    let want := d.railNeed n (fun m => d.freqAt d.gov.target m)
    let vr := min 65535 (d.railNeed n (fun m => let x := d.dom m; if x.late then max x.conf x.freq else x.conf))
    let d := { d with gov := { d.gov with need := putPad 0 want n d.gov.need, vreq := putPad 0 vr n d.gov.vreq } }
    let d := d.updCmd n (fun c => { c with vreqNew := vr })
    let st := (d.rail n).cmd.st
    let hys := d.rd GOV.CMD_HYS
    let last := (d.gov.lastT.getD n none).getD 0
    if st == .stopped || st == .retention || d.sqActive || decide (want ≥ unreach) then d
    else if decide (want > last) || decide (want + 2 * hys < last) then
      let cmd := (want + hys, d.rd GOV.CMD_SLEW)
      let d := { d with gov := { d.gov with lastT := putPad none (some (want + hys)) n d.gov.lastT } }
      d.updCmd n (fun c => { c with govNew := some cmd, govLast := some cmd })
    else d

/-- The cached needs of every domain (DNEED). -/
def Dev.govNeeds (d : Dev) : Dev :=
  (upto d.doms.length).foldl (fun d m =>
    let f := (d.dom m).conf
    let nd := min 65535 (d.needD m f)
    let w := d.weakest m f
    d.updDom m (fun x => { x with need := nd, weak := w })) d

/-! ### The Isobar ceiling (R232) -/

/-- The limits that cover a core of channel `ch`, with their ratios (R215). -/
def Dev.coverLims (d : Dev) (ch : Nat) : List (Nat × Nat) :=
  let l := d.gov.lim
  let own := d.domRail (d.chDom ch)
  let rails := (upto d.nRails).filter (fun n => own == some n || (d.railDoms n).isEmpty)
  rails.map (fun n => (n, l.edc.getD n 0)) ++ rails.map (fun n => (8 + n, l.tdc.getD n 0))
    ++ rails.map (fun n => (0x10 + n, l.didt.getD n 0)) ++ (upto 4).map (fun k => (0x18 + k, l.pkg.getD k 0))
    ++ ((upto 32).filter (fun z => let c := d.rd THERM.ZMAP_CH 0 z; c == 0 || bitAt c ch)).map
      (fun z => (0x20 + z, l.zone.getD z 0))

/-- CAUSE of the local ceiling (R334), given the domains that set it. -/
def Dev.ceilCause (d : Dev) (ms : List Nat) : Nat :=
  let cores := ms.flatMap (fun m => d.activeCores m)
  let b := maxN (cores.map (fun c => d.gov.limB.getD c 0))
  if b == 0 then 0x80 + d.gov.llocSrc
  else
    let chs := (upto d.bld.creditCh).filter (fun ch => cores.any (fun c => c / 16 == ch && d.gov.limB.getD c 0 == b))
    (minN (((chs.flatMap (fun ch => d.coverLims ch)).filter (fun (x : Nat × Nat) => x.2 == b)).map (·.1))).getD 0

/-- Local ceiling and ceiling bubbles. -/
def Dev.govCeiling (d : Dev) : Dev :=
  let eff := d.syncDoms.map (fun m =>
    let b := maxN ((d.activeCores m).map (fun c => d.gov.limB.getD c 0))
    (m, d.freqAt d.gov.lloc m * (256 - b) / 256))
  let loc := (minN (eff.map (·.2))).getD 0xFFFF
  let cause := d.ceilCause ((eff.filter (fun (x : Nat × Nat) => x.2 == loc)).map (·.1))
  let c := d.gov.agreed
  let cb := (upto d.doms.length).map (fun m =>
    let f := (d.dom m).conf
    if d.on LEVEL.DOM_SYNC 0 m && decide (f > c) then ceilDiv (256 * (f - c)) f else 0)
  { d with gov := { d.gov with cLocal := loc, cCause := cause, ceilB := cb } }

/-! ### The beat, the BUDGET tick -/

/-- Tasks 0x01 and 0x02 of a beat; a task that missed its window holds its outputs (R83). -/
def Dev.govBeat (d : Dev) : Dev :=
  let d := ((d.govPolicy).govProchot).govFitness
  let (d, below) :=
    if d.held 0x01 then (d, none)
    else
      let (d, rs) := d.govLimits
      (d.govEscalate rs, some (rs.all (fun r => r.below)))
  let d :=
    if d.held 0x02 then d
    else
      let d := d.govFdown.govTarget below
      let d := (upto d.nRails).foldl (fun d n => d.govRail n) d
      let d := (upto d.doms.length).foldl (fun d m => d.domainStep d.gov.target m) d
      d.govNeeds.govCeiling
  d.clockScan

/-- The budget loop of task 0x30 (R231). -/
def Dev.budgetLoop (d : Dev) : Dev :=
  let l := d.gov.lim
  let fresh := match d.gov.pinAge with
    | some a => decide (a < d.rd BUDGET.PMB_CFG_PERIOD)
    | none => false
  let pin : Nat := if fresh then d.rd BUDGET.CARD_PIN_PIN else roundDivN l.pSum l.pCnt
  let e : Int := ((d.rd GOV.BLOOP_KB : Nat) : Int) * (((d.rd BUDGET.P_GRANT_P_GRANT : Nat) : Int) - (pin : Int))
  let p := clampI ((d.gov.pset : Int) + rshift e (d.rd GOV.BLOOP_SHIFT)) ((d.rd GOV.PSET_PSET_MIN : Nat) : Int)
    ((d.susUse : Nat) : Int)
  { d with gov := { d.gov with pset := p.toNat, lim := { l with pSum := 0, pCnt := 0 } } }

/-- Task 0x31: the ageing offsets rise toward their targets (R226). -/
def Dev.ageStep (d : Dev) : Dev :=
  (upto d.doms.length).foldl (fun d m =>
    let o := d.rd LEVEL.AGE_OFFSET 0 m
    let t := (d.dom m).ageT
    let rise := min (d.rd LEVEL.AGE_CFG_STEP) (t - o)
    if rise == 0 then d else (d.wr LEVEL.AGE_OFFSET (o + rise) 0 m).ev Ev.LEVEL_AGE_STEP m) d

/-! ### Register writes -/

/-- A write of FITCTL.HOLD, already made (R224): a return to 0 makes the next beat read the curves. -/
def Dev.fitctlDone (d : Dev) (was : Nat) : Dev :=
  if was == 1 && !d.on LEVEL.FITCTL_HOLD then { d with gov := { d.gov with readFit := true } } else d

/-- A write that changes DOM.RAIL or CHDOM while a change is in hand is refused (R236). -/
def Dev.mapLocked (d : Dev) : Bool := d.changePrepared

/-- DNEED.HS encoding (R236). -/
def Dom.hs (x : Dom) : Nat := if x.sw then 3 else if x.prep && x.prepAck then 2 else if x.prep then 1 else 0

end Sys2Proof.Machine
end

