-- ==== Sys2Proof/Machine/Budget.lean ====
section
/-!
DEFINITION. Machine/Budget.lean: grants, the ask and card input power (spec/16_budget_ledger.md R369 to R373, R65).
-/
namespace Sys2Proof.Machine

/-- Change the budget state. -/
def Dev.updBud (d : Dev) (f : Budget → Budget) : Dev := { d with bud := f d.bud }

/-- HARD_GRANT. -/
def Dev.hardGrant (d : Dev) : Nat := d.rd BUDGET.HARD_GRANT_HARD_GRANT

/-- FLOOR in use (R23, R371). -/
def Dev.floorUse (d : Dev) : Nat := min (d.rd BUDGET.FLOOR_FLOOR) d.hardGrant

/-- GRANT_SUBMIT (R369): a write of GRANT1, already made, submits a grant. -/
def Dev.grantSubmit (d : Dev) : Dev :=
  let g := (d.rd BUDGET.GRANT0_WATTS, d.rd BUDGET.GRANT0_VALID_MS, d.rd BUDGET.GRANT1_SEQ)
  (d.updBud (fun b => { b with sub := some g })).wr BUDGET.GRANT_STAT_PENDING 1

/-- R370: the sequence test. -/
def Dev.grantNew (d : Dev) (seq : Nat) : Bool :=
  let k := (seq + 65536 - d.rd BUDGET.GRANT_STAT_SEQ) % 65536
  !d.bud.first || (decide (1 ≤ k) && decide (k ≤ 32767))

/-- R370: the grant is applied. -/
def Dev.grantApply (d : Dev) (watts valid seq : Nat) : Dev :=
  let d := (d.wr BUDGET.P_GRANT_P_GRANT (min watts d.hardGrant)).wr BUDGET.GRANT_LEFT_MS valid
  let d := ((d.wr BUDGET.GRANT_STAT_SEQ seq).wr BUDGET.GRANT_STAT_IN_FORCE 1).wr BUDGET.GRANT_STAT_LAST 1
  (d.updBud (fun b => { b with first := true, watts := watts })).ev Ev.BUDGET_GRANT_DONE 0

/-- BUDGET_EXPIRED (R371): the grant's validity has ended. -/
def Dev.grantExpire (d : Dev) : Dev :=
  if d.on BUDGET.GRANT_STAT_IN_FORCE && d.rd BUDGET.GRANT_LEFT_MS == 0 then
    let d := (d.wr BUDGET.P_GRANT_P_GRANT d.floorUse).wr BUDGET.GRANT_STAT_IN_FORCE 0
    (d.wr BUDGET.GRANT_STAT_LAST 3).ev Ev.BUDGET_EXPIRED 0
  else d

/-- The BUDGET strobe counts the grant's validity down (R371), whether or not task 0x30 runs. -/
def Dev.grantCount (d : Dev) : Dev :=
  if d.on BUDGET.GRANT_STAT_IN_FORCE then d.wr BUDGET.GRANT_LEFT_MS (d.rd BUDGET.GRANT_LEFT_MS - 1) else d

/-- A new grant was latched at this strobe: it cancels the expiry, even where task 0x30 missed its window (R83, R88). -/
def Dev.grantArrived (d : Dev) : Bool :=
  match d.bud.sub with
  | some (_, _, q) => d.grantNew q
  | none => false

/-- Grant intake of task 0x30 (R370): the grant in force stands as it was written, without one the FLOOR, each under its
bound as it is now (R23). -/
def Dev.grantIntake (d : Dev) : Dev :=
  let d := if d.on BUDGET.GRANT_STAT_IN_FORCE then d.wr BUDGET.P_GRANT_P_GRANT (min d.bud.watts d.hardGrant)
    else d.wr BUDGET.P_GRANT_P_GRANT d.floorUse
  match d.bud.sub with
  | some (w, v, q) =>
    let d := (d.updBud (fun b => { b with sub := none })).wr BUDGET.GRANT_STAT_PENDING 0
    if d.grantNew q then d.grantApply w v q
    else (d.wr BUDGET.GRANT_STAT_LAST 2).ev Ev.BUDGET_GRANT_STALE 0
  | none => d

/-- The grant timer in task 0x09 of a BUDGET strobe (R82, R371). -/
def Dev.grantTimer (d : Dev) : Dev := if d.grantArrived then d else d.grantExpire

/-- The beat package power of the last beat enters the ask interval (R372). At the strobe that starts the first beat, none
has ended. -/
def Dev.askBeat (d : Dev) : Dev := if d.tick.mono == 0 then d else d.updBud (fun b => { b with sum := b.sum + d.gov.lim.pBeat, cnt := b.cnt + 1 })

/-- p_mean of R372. -/
def Dev.askMean (d : Dev) : Nat := if d.bud.cnt == 0 then Config.powerNoBeat d.tick.mono else roundDivN d.bud.sum d.bud.cnt

/-- The value of an ask (R372). -/
def Dev.askValue (d : Dev) : Nat :=
  let a := if d.bud.above then d.rd BUDGET.P_GRANT_P_GRANT + d.rd BUDGET.ASK_CFG_STEP
    else d.askMean + d.rd BUDGET.ASK_CFG_HEAD
  min d.hardGrant (min d.susUse (max d.floorUse a))

/-- At a BUDGET tick with b mod 10,000 = 0 an ask falls due (R372). -/
def Dev.askStrobe (d : Dev) : Dev :=
  if d.tick.b % 10000 == 0 then d.updBud (fun b => { b with askDue := true }) else d

/-- BUDGET_ASK (R372): the ask that fell due at the BUDGET strobe is published. -/
def Dev.budgetAsk (d : Dev) : Dev :=
  if d.bud.askDue then
    let d := (d.wr BUDGET.ASK_W d.askValue).wr BUDGET.ASK_SEQ (d.rd BUDGET.ASK_SEQ + 1)
    let d := { d with stw := { d.stw with askDue := d.stw.askDue || d.stw.st == StwSt.run || d.stw.st == StwSt.sleep } }
    (d.updBud (fun b => { b with sum := 0, cnt := 0, above := false, askDue := false })).ev Ev.BUDGET_ASK 0
  else d

/-! ### PMBus (R64, R65, R373) -/

/-- A LINEAR11 word in units of 2^-k, saturated to `wid` bits (R373). -/
def linear11 (w k wid : Nat) : Nat :=
  let n := signedOf 5 (bitsAt w 11 5) + ((k : Nat) : Int)
  let y := signedOf 11 (bitsAt w 0 11)
  let v : Int := if n ≥ 0 then y * ((2 ^ n.toNat : Nat) : Int) else rshift y (-n).toNat
  min (2 ^ wid - 1) v.toNat

/-- The PEC of a transaction, over its bytes from the first address byte on (R64; log entry 87). -/
def pec (bytes : List Nat) : Nat := bytes.foldl crc8Byte 0

/-- The bytes of a read up to its data: address, command, address again. -/
def pmbHead (adr cmd : Nat) : List Nat := [2 * adr, cmd, 2 * adr + 1]

/-- A read of `n` bytes and the PEC. -/
def pmbRead (adr cmd n : Nat) : Out := .pmbus (pmbHead adr cmd) (n + 1)

/-- A write of bytes after the command, with the PEC. -/
def pmbWrite (adr cmd : Nat) (data : List Nat) : Out :=
  let b := 2 * adr :: cmd :: data
  .pmbus (b ++ [pec b]) 0

/-- What a read has returned, with its PEC last: the value, none where its length or its PEC is wrong. -/
def pmbValue (adr cmd n : Nat) (l : List Nat) : Option Nat :=
  if l.length == n + 1 && pec (pmbHead adr cmd ++ l.take n) == l.getD n 0 then some (ofLe (l.take n)) else none

/-- The address of device `k`. -/
def Dev.pmbAdr (d : Dev) (k : Nat) : Nat := d.rd BUDGET.PMB_DEV_ADDR 0 k

/-- What a poll sends to device `k` (R64): PAGE where the device has pages, READ_PIN, READ_VIN, READ_IIN, STATUS_WORD, and
PMBUS_REVISION once after a reset. -/
def Dev.pollSend (d : Dev) (k : Nat) : List Out :=
  let a := d.pmbAdr k
  if !d.on BUDGET.PMB_DEV_EN 0 k then []
  else (if d.on BUDGET.PMB_DEV_PAGED 0 k then [pmbWrite a 0x00 [d.rd BUDGET.PMB_DEV_PAGE 0 k]] else [])
    ++ [pmbRead a 0x97 2, pmbRead a 0x88 2, pmbRead a 0x89 2, pmbRead a 0x79 2]
    ++ (if d.bud.revRead.getD k false then [] else [pmbRead a 0x98 1])

/-- PMB_POLL_START (R65): every PERIOD BUDGET ticks a poll starts. -/
def Dev.pollStart (d : Dev) : Dev :=
  if d.on BUDGET.PMB_CFG_EN && decide (d.bud.pollMs ≥ d.rd BUDGET.PMB_CFG_PERIOD) && !d.bud.poll then
    (d.pollSend 0 ++ d.pollSend 1).foldl (fun d o => d.send o)
      (d.updBud (fun b => { b with pollMs := 0, poll := true, bad := none }))
  else d

/-- The part of a BUDGET tick: the period counts, and a poll that is due starts. -/
def Dev.pollTick (d : Dev) : Dev :=
  (d.updBud (fun b => { b with pollMs := if d.on BUDGET.PMB_CFG_EN then min 255 (b.pollMs + 1) else 0 })).pollStart

/-- The values of what device `k` has sent in a poll: READ_PIN, READ_VIN, READ_IIN, STATUS_WORD, STATUS_INPUT where
STATUS_WORD shows an input fault, PMBUS_REVISION where it is due. None where one of them fails its PEC. -/
def Dev.pollValues (d : Dev) (k : Nat) (r : List (List Nat)) : Option (List Nat) :=
  let get (cmd n i : Nat) : Option Nat := pmbValue (d.pmbAdr k) cmd n (r.getD i [])
  match get 0x97 2 0, get 0x88 2 1, get 0x89 2 2, get 0x79 2 3 with
  | some p, some v, some i, some st =>
    match (if bitAt st 13 then get 0x7C 1 4 else some 0), (if d.bud.revRead.getD k false then some 0 else get 0x98 1 5) with
    | some x, some y => some [p, v, i, st, x, y]
    | _, _ => none
  | _, _, _, _ => none

/-- The first device of a poll that has failed (R373): a bus timeout before its end, a NACK of `nack`, or a PEC error. -/
def Dev.pollBad (d : Dev) (nack : Option Nat) (r0 r1 : List (List Nat)) : Option Nat :=
  match d.bud.bad with
  | some k => some k
  | none => (upto 2).find? (fun k => d.on BUDGET.PMB_DEV_EN 0 k
      && (nack == some k || (d.pollValues k (if k == 0 then r0 else r1)).isNone))

/-- The values of one polled device (R373): READ_PIN, READ_VIN, READ_IIN, STATUS_WORD, STATUS_INPUT, PMBUS_REVISION. -/
def Dev.pollDevice (d : Dev) (k : Nat) (r : List Nat) : Dev :=
  if !d.on BUDGET.PMB_DEV_EN 0 k then d else
  let st := r.getD 3 0
  let d := d.wr BUDGET.PMB_PIN_PIN (linear11 (r.getD 0 0) 4 32) 0 k
  let d := (d.wr BUDGET.PMB_VI_VIN (linear11 (r.getD 1 0) 8 16) 0 k).wr BUDGET.PMB_VI_IIN (linear11 (r.getD 2 0) 8 16) 0 k
  let d := d.wr BUDGET.PMB_ST_STATUS_WORD st 0 k
  let d := if bitAt st 13 then (d.wr BUDGET.PMB_ST_STATUS_INPUT (r.getD 4 0) 0 k).send (pmbRead (d.pmbAdr k) 0x7C 1) else d
  if d.bud.revRead.getD k false then d
  else (d.wr BUDGET.PMB_ST_REVISION (r.getD 5 0) 0 k).updBud (fun b => { b with revRead := modAt b.revRead k (fun _ => true) })

/-- PMB_POLL_DONE (R373): the poll ends, with the device that answered a NACK, if any, and the bytes that the devices have
sent, read by read, each with its PEC. -/
def Dev.pollDone (d : Dev) (nack : Option Nat) (r0 r1 : List (List Nat)) : Dev :=
  if !d.bud.poll then d else
  let bad := d.pollBad nack r0 r1
  let v0 := (d.pollValues 0 r0).getD []
  let v1 := (d.pollValues 1 r1).getD []
  let d := d.updBud (fun b => { b with poll := false, bad := none })
  match bad with
  | some k =>
    let d := ((d.bump BUDGET.PMB_ERR_FAILED).wr BUDGET.PMB_STAT_LAST_OK 0).ev Ev.BUDGET_PMB_ERR k
    { d with gov := { d.gov with pinAge := none } }
  | none =>
    let d := ((d.pollDevice 0 v0).pollDevice 1 v1).wr BUDGET.PMB_STAT_LAST_OK 1
    let sum := sumN ((upto 2).map (fun k => if d.on BUDGET.PMB_DEV_EN 0 k then d.rd BUDGET.PMB_PIN_PIN 0 k else 0))
    let d := (d.wr BUDGET.CARD_PIN_PIN (min (2 ^ 32 - 1) sum)).sample 0x04 0 sum
    { d with gov := { d.gov with pinAge := some 0 } }

/-- PMB_TIMEOUT (R65): device `k` held SCL low for 25 ms; the transaction ends, and a poll fails where the device is enabled
(R373). -/
def Dev.pmbTimeout (d : Dev) (k : Nat) : Dev :=
  let d := d.bump BUDGET.PMB_ERR_TIMEOUTS
  d.updBud (fun b => if b.poll && b.bad.isNone && d.on BUDGET.PMB_DEV_EN 0 k then { b with bad := some k } else b)

/-- PMB_ALERT (R64, R65, R373): the Alert Response Address 0x0C is read and `adr` answers; STATUS_WORD of that device is
read, STATUS_INPUT where it shows an input fault, and CLEAR_FAULTS is sent. -/
def Dev.pmbAlert (d : Dev) (adr status input : Nat) : Dev :=
  let fault := bitAt status 13
  let d := (d.bump BUDGET.PMB_STAT_ALERTS).wr BUDGET.PMB_STAT_ALERT_ADDR adr
  let d := ((d.updBud (fun b => { b with alertLow := true })).send (.pmbus [2 * 0x0C + 1] 2)).send (pmbRead adr 0x79 2)
  let d := (if fault then d.send (pmbRead adr 0x7C 1) else d).send (pmbWrite adr 0x03 [])
  match (upto 2).find? (fun k => d.pmbAdr k == adr) with
  | some k =>
    let d := d.wr BUDGET.PMB_ST_STATUS_WORD status 0 k
    (if fault then d.wr BUDGET.PMB_ST_STATUS_INPUT input 0 k else d).ev Ev.BUDGET_PMB_ALERT k
  | none => d.ev Ev.BUDGET_PMB_ALERT 0xFF

end Sys2Proof.Machine
end

