-- ==== Sys2Proof/Machine/Mbox.lean ====
section
/-!
DEFINITION. Machine/Mbox.lean: mailboxes, the core resets and the heartbeat monitor (R406 to R414, R422, R423).
-/
namespace Sys2Proof.Machine

/-- R408: the access comes from the sender side of mailbox `m` with its attribute. -/
def mbSender (m : Nat) (a : Acc) : Bool :=
  let port := a.path == .regPort || a.path == .tblPort
  match m with
  | 0 => port && a.sec
  | 1 => a.path == .warden
  | 2 => port && (a.sec || a.priv)
  | 3 => a.path == .steward
  | 4 => a.path == .steward
  | 5 => a.path == .warden
  | _ => false

/-- R408: the receiver side of `m`. -/
def mbReceiver (m : Nat) (a : Acc) : Bool :=
  let port := a.path == .regPort || a.path == .tblPort
  match m with
  | 0 => a.path == .warden
  | 1 => port && a.sec
  | 2 => a.path == .steward
  | 3 => port && (a.sec || a.priv)
  | 4 => a.path == .warden
  | 5 => a.path == .steward
  | _ => false

/-- The reverse mailbox (R408). -/
def mbReverse (m : Nat) : Nat := if m % 2 == 0 then m + 1 else m - 1

/-- STAT.FULL. -/
def Dev.mbFull (d : Dev) (m : Nat) : Bool := d.on MBOX.STAT_FULL 0 m

/-- The waiting message word. -/
def Dev.mbWord (d : Dev) (m : Nat) : Nat := d.rd MBOX.DATA_WORD 0 m

/-- OP, TAG, LEN and ARG of a message word (R409). -/
def msgOP (w : Nat) : Nat := bitsAt w 24 8
/-- see msgOP -/
def msgTAG (w : Nat) : Nat := bitsAt w 20 4
/-- see msgOP -/
def msgLEN (w : Nat) : Nat := bitsAt w 9 11
/-- see msgOP -/
def msgARG (w : Nat) : Nat := bitsAt w 0 9

/-- Word `k` of the payload of mailbox `m` (R409). -/
def Dev.mbPayload (d : Dev) (m k : Nat) : Nat := d.mbox.buf.readLE (0x1000 * m + 4 * k) 4

/-- Payload bytes of the waiting message. -/
def Dev.mbBytes (d : Dev) (m : Nat) : List Nat := d.mbox.buf.bytes (0x1000 * m) (4 * msgLEN (d.mbWord m))

/-- DB AND DB_MASK is not zero (R411). -/
def Dev.mbNotify (d : Dev) (m : Nat) : Bool := (d.rd MBOX.DB_DB 0 m) &&& (d.rd MBOX.DB_MASK_MASK 0 m) != 0

/-- R411: MB_WH and MB_SH report DB AND DB_MASK going from zero to non-zero. -/
def Dev.dbRise (d was : Dev) (m : Nat) : Dev :=
  if !was.mbNotify m && d.mbNotify m then
    (if m == 1 then d.ev Ev.MBOX_DB_WH else if m == 3 then d.ev Ev.MBOX_DB_SH else d)
  else d

/-- R411: doorbell bits are set. -/
def Dev.dbSet (d : Dev) (m bits : Nat) : Dev := (d.wr MBOX.DB_DB ((d.rd MBOX.DB_DB 0 m) ||| bits) 0 m).dbRise d m

/-- R410: a write met FULL. -/
def Dev.mbOverrun (d : Dev) (m : Nat) : Dev :=
  let d := d.bump MBOX.STAT_OVERRUNS 0 m
  if d.mbox.ovSent.contains m then d
  else ({ d with mbox := { d.mbox with ovSent := insertAsc m d.mbox.ovSent } }).ev Ev.MBOX_OVERRUN m

/-- MBOX_DATA_WRITE (R410): the sender writes DATA. -/
def Dev.mbWrite (d : Dev) (m w : Nat) : Dev :=
  if d.mbFull m then d.mbOverrun m
  else
    let d := ((d.wr MBOX.DATA_WORD w 0 m).wr MBOX.STAT_FULL 1 0 m).wr MBOX.STAT_ABORTED 0 0 m
    d.dbSet m 1

/-- A control core sends a message on `m`, which is not FULL: payload, then DATA (R409). -/
def Dev.mbSend (d : Dev) (m : Nat) (x : Msg) : Dev :=
  { d with mbox := { d.mbox with buf := d.mbox.buf.writeBytes (0x1000 * m) x.bytes } }.mbWrite m x.word

/-- The control cores send what waits as their mailboxes become free: MB_WH and MB_WS while the Warden runs, MB_SH while
the Steward does (R414, R416). -/
def Dev.mbPump (d : Dev) : Dev :=
  let d : Dev := match d.stw.out with
    | x :: r => if d.stw.st == .run && !d.mbFull 3 then ({ d with stw := { d.stw with out := r } }).mbSend 3 x else d
    | [] => d
  let d : Dev := match d.wrd.outH with
    | x :: r => if d.wrd.st == .ready && !d.mbFull 1 then ({ d with wrd := { d.wrd with outH := r } }).mbSend 1 x else d
    | [] => d
  match d.wrd.outS with
    | x :: r => if d.wrd.st == .ready && !d.mbFull 5 then ({ d with wrd := { d.wrd with outS := r } }).mbSend 5 x else d
    | [] => d

/-- MBOX_TAKE (R410). -/
def Dev.mbTake (d : Dev) (m : Nat) : Dev := (d.wr MBOX.STAT_FULL 0 0 m).mbPump

/-- The word of an answer (R409, R414). -/
def ansWord (req status retry len : Nat) : Nat :=
  putAt ((msgOP req + 0x80) % 256) 24 + putAt (msgTAG req) 20 + putAt len 9 + putAt status 5 + retry

/-- Bytes of a list of payload words. -/
def wordBytes (ws : List Nat) : List Nat := ws.flatMap (fun w => leBytes 4 w)

/-- An answer to request word `req`, payload in bytes. -/
def answerMsg (req status retry : Nat) (bytes : List Nat) : Msg :=
  ⟨ansWord req status retry (ceilDiv bytes.length 4), bytes⟩

/-- The mailbox on which the core that received a request on `m` answers, as its queue: the Steward answers MB_HS, the
Warden MB_HW and MB_SW (R408). -/
def Dev.answerOn (d : Dev) (m : Nat) (x : Msg) : Dev :=
  match m with
  | 2 => ({ d with stw := { d.stw with out := d.stw.out ++ [x] } }).mbPump
  | 0 => ({ d with wrd := { d.wrd with outH := d.wrd.outH ++ [x] } }).mbPump
  | 4 => ({ d with wrd := { d.wrd with outS := d.wrd.outS ++ [x] } }).mbPump
  | _ => d

/-- Answer the request `req` that came on `m`. -/
def Dev.reply (d : Dev) (m req status : Nat) (bytes : List Nat) : Dev := d.answerOn m (answerMsg req status 0 bytes)

/-- R412: the receiver of `m` has been reset: FULL, DB and the payload go to zero. -/
def Dev.mbAbort (d : Dev) (m : Nat) : Dev :=
  let d := { d with mbox := { d.mbox with buf := d.mbox.buf.clear (0x1000 * m) 0x1000 } }
  let d := ((d.wr MBOX.STAT_FULL 0 0 m).wr MBOX.DB_DB 0 0 m).wr MBOX.STAT_ABORTED 1 0 m
  (d.dbSet (mbReverse m) (2 ^ 31)).ev Ev.MBOX_ABORTED m

/-! ### Core resets (R406, R407) -/

/-- R481: every claim of a path ends. -/
def Dev.endClaims (d : Dev) (path : Nat) : Dev :=
  (upto 26).foldl (fun d r =>
    let c := d.owner r
    if c.kind == 1 && c.path == path then
      let d := d.endClaim r
      if r ≥ 10 then d.wr CLAIM.TMR_RUN 0 0 (r - 10) else d
    else d) d

/-- The governor enters POLICY_STALE (R222, R406, R422). -/
def Dev.staleEnter (d : Dev) : Dev :=
  if d.gov.stale then d else { d with gov := { d.gov with stale := true, staleBeats := 0, safe := false } }

/-- Core reset of the Steward, apart from its banks (R406, R412, R416, R481). -/
def Dev.stwReset (d : Dev) : Dev :=
  let d := if d.stw.ran then d.staleEnter else d
  let d := ((d.mbAbort 2).mbAbort 5).endClaims 2
  let d := { d with stw := { d.stw with
    hb := false, first := false, okDue := false, newImage := false, wake := false, periods := [0, 0, 0, 0, 0],
    noticeAt := none, out := [], grant := none, askDue := false } }
  d.ev Ev.FW_STW_RESET

/-- The swap in hand ends; RESULT and, unless the answer is lost, the answer to IMAGE_SWAP (R419, R426). -/
def Dev.swapEnd (d : Dev) : Dev := ({ d with wrd := { d.wrd with swap := .none } }).wr FW.SWAP_STAT_BUSY 0

/-- TAG of the IMAGE_SWAP request of the swap in hand. -/
def Dev.swapTag (d : Dev) : Option Nat :=
  match d.wrd.swap with
  | .none => none
  | .check t => some t
  | .grace t => some t
  | .held t => t
  | .turned t => t
  | .record t => t

/-- A swap is in hand: its check, its grace, its steps. -/
def Dev.swapOn (d : Dev) : Bool := d.wrd.swap != .none

/-- The staging bank holds the image of the swap in hand: step 3 of R421 has not begun. -/
def SwapSt.staged : SwapSt → Bool
  | .check _ => true
  | .grace _ => true
  | .held _ => true
  | _ => false

/-- A life-record write whose answer nobody awaits any more. -/
def LifeWhy.noAnswer : LifeWhy → LifeWhy
  | .svn _ => .counters
  | x => x

/-- No life-record write answers an IMAGE_SWAP. -/
def Warden.noSvn (w : Warden) : Warden :=
  { w with lifeRun := w.lifeRun.map (fun (x : LifeWhy × Nat) => (x.1.noAnswer, x.2)), lifeQ := w.lifeQ.map LifeWhy.noAnswer }

/-- The request word of an IMAGE_SWAP with the tag, for its answer. -/
def swapReq (tag : Nat) : Nat := putAt 0x12 24 + putAt tag 20

/-- The swap is complete (R421 step 5): SWAPS, RESULT, and OK to the IMAGE_SWAP unless its answer is lost. -/
def Dev.swapFinish (d : Dev) (tag : Option Nat) : Dev :=
  let d := (d.swapEnd.bump FW.SWAP_STAT_SWAPS).wr FW.SWAP_STAT_RESULT 1
  match tag with
  | some t => d.reply 0 (swapReq t) 0 []
  | none => d

/-- A HALT ends the swap in hand (R426): IMAGE_SWAP is answered FAILED 0x9. -/
def Dev.swapHalt (d : Dev) : Dev :=
  if !d.swapOn then d else
  let tag := d.swapTag
  let d := ({ d with wrd := d.wrd.noSvn }.swapEnd).wr FW.SWAP_STAT_RESULT 9
  match tag with
  | some t => d.reply 0 (swapReq t) 5 (leBytes 4 9)
  | none => d

/-- STEWARD_HALT (R406, R426): a HALT during a swap ends it and keeps the staged image while step 3 has not begun. -/
def Dev.stwHalt (d : Dev) : Dev :=
  let d := if d.wrd.swap.staged then d else { d with stw := { d.stw with staging := [], chunks := [] } }
  let d := d.swapHalt
  let d := d.stwReset
  let d := { d with stw := { d.stw with st := .empty, active := [] } }
  (d.wr FW.STW_STAT_SVN 0).wr FW.STW_VERSION_VERSION 0

/-- What a request of the Warden becomes when its core is reset (R407, R412): the writes themselves go on, and no answer is
sent for them. -/
def NvSrc.orphan : NvSrc → NvSrc
  | .life _ => .life .counters
  | .prov _ => .ring
  | .stw => .ring
  | x => x

/-- The request comes from a mailbox message that the Warden has taken. -/
def NvSrc.taken : NvSrc → Bool
  | .prov _ => true
  | .stw => true
  | _ => false

/-- See `NvSrc.orphan`; what the Warden has taken from a mailbox and not yet presented is lost (R407). -/
def NvPort.orphan (p : NvPort) : NvPort :=
  let f (r : NvReq) : NvReq := { r with src := r.src.orphan }
  { p with wait := (p.wait.filter (fun r => !r.src.taken)).map f, pres := p.pres.map f, out := p.out.map f }

/-- A Warden core reset during a swap (R426): before step 1 the swap ends without a change, later it completes; its answer
is lost. -/
def Dev.swapRestart (d : Dev) : Dev :=
  match d.wrd.swap with
  | .none => d
  | .check _ => d.swapEnd
  | .grace _ => d.swapEnd
  | .held _ => { d with wrd := { d.wrd with swap := .held none } }
  | .turned _ => { d with wrd := { d.wrd with swap := .turned none } }
  | .record _ => d.swapFinish none

/-- WARDEN_RESTART (R407, R426): the signature outstanding is completed by the caller as unsigned (R390). -/
def Dev.wrdRestart (d : Dev) : Dev :=
  let d := d.swapRestart
  let d := ((d.mbAbort 0).mbAbort 4).endClaims 3
  let d := { d with wrd := { d.wrd with
    st := .boot, wiped := true, restart := true, waiting := none, late := 0, got := none, idReq := false, lcNonce := none, baroNonce := none,
    outH := [], outS := [], nvJob := none, wake := false, prov := {},
    lifeRun := d.wrd.lifeRun.map (fun (x : LifeWhy × Nat) => (LifeWhy.counters, x.2)),
    lifeQ := (d.wrd.lifeQ.map LifeWhy.noAnswer).filter (fun w => w == LifeWhy.counters) }, nv := d.nv.orphan }
  ((d.bump FW.WRD_STAT_RESTARTS).wr FW.WRD_STAT_PATCH_OK 0).ev Ev.FW_WRD_RESET

/-! ### Heartbeat and shedding (R422 to R424) -/

/-- HEARTBEAT: the Steward writes FW.HEARTBEAT. -/
def Dev.heartbeat (d : Dev) : Dev := { d with stw := { d.stw with hb := true } }

/-- Entry to POLICY_STALE by missed heartbeats (R411, R422). -/
def Dev.policyStale (d : Dev) : Dev :=
  if d.rd FW.HB_STAT_MISS == 3 && !d.gov.stale then (d.staleEnter.dbSet 3 (2 ^ 30)).ev Ev.FW_POLICY_STALE else d

/-- The new image's first heartbeat has been latched (R421). -/
def Dev.swapDone (d : Dev) : Dev :=
  if d.stw.newImage then ({ d with stw := { d.stw with newImage := false } }).ev Ev.FW_SWAP_DONE else d

/-- The monitor at a BUDGET strobe (R422): a heartbeat latched at this strobe counts (R88). -/
def Dev.hbMonitor (d : Dev) : Dev :=
  if d.stw.hb then
    let d := ((d.bump FW.HB_STAT_COUNT).wr FW.HB_STAT_MISS 0)
    let d := { d with stw := { d.stw with hb := false, first := true } }
    if d.gov.stale then { d with stw := { d.stw with okDue := true } } else d.swapDone
  else if d.stw.st == .run && d.stw.first && decide (d.rd FW.HB_STAT_MISS < 3) then
    (d.wr FW.HB_STAT_MISS (d.rd FW.HB_STAT_MISS + 1)).policyStale
  else d

/-- R422: POLICY_STALE ends at the beat after the strobe that latched a heartbeat in it. -/
def Dev.hbBeat (d : Dev) : Dev :=
  if d.stw.okDue then
    (({ d with stw := { d.stw with okDue := false }, gov := { d.gov with stale := false } }).ev Ev.FW_POLICY_OK).swapDone
  else d

/-- R423: the shed level at a BUDGET strobe, with the measured load of the last interval. -/
def Dev.fwShed (d : Dev) (load : Nat) : Dev :=
  let load := min 255 load
  let d := d.wr FW.STW_LOAD_LOAD load
  let was := d.rd FW.STW_LOAD_SHED
  let target := if load ≥ d.rd FW.SHED_L2 then 2 else if load ≥ d.rd FW.SHED_L1 then 1 else 0
  let calm := if target < was then d.stw.calm + 1 else 0
  let now := if target > was then target else if calm ≥ d.rd FW.SHED_HOLD && calm > 0 then was - 1 else was
  let d := { d with stw := { d.stw with calm := if now == was then calm else 0 } }
  if now == was then d else (d.wr FW.STW_LOAD_SHED now).ev Ev.FW_SHED now

/-- CORE_SLEEP (R33): the core's own request gates its domain. -/
def Dev.coreSleep (d : Dev) (warden : Bool) : Dev :=
  if warden then
    if d.wrd.st == .ready then { d with wrd := { d.wrd with st := .sleep, wake := false } } else d
  else if d.stw.st == .run then { d with stw := { d.stw with st := .sleep, wake := false } }
  else d

/-- CORE_WAKE (R413): the core runs again once a wake event has reached it. -/
def Dev.coreWake (d : Dev) (warden : Bool) : Dev :=
  if warden then
    if d.wrd.st == .sleep && d.wrd.wake then ({ d with wrd := { d.wrd with st := .ready, wake := false } }).mbPump else d
  else if d.stw.st == .sleep && d.stw.wake then ({ d with stw := { d.stw with st := .run, wake := false } }).mbPump
  else d

/-- A wake event for the Steward (R34). -/
def Dev.wakeStw (d : Dev) : Dev := if d.stw.st == .sleep then { d with stw := { d.stw with wake := true } } else d

/-- A wake event for the Warden (R34, R390). -/
def Dev.wakeWrd (d : Dev) : Dev := if d.wrd.st == .sleep then { d with wrd := { d.wrd with wake := true } } else d

/-- R34, R390, R413: what the mailboxes hold and a signing request wake a gated core; WAKE bits of MB_HS and MB_WS as
given. -/
def Dev.wakeScan (d : Dev) (wakeHS wakeWS : Bool) : Dev :=
  let d := if (wakeHS && d.mbNotify 2) || (wakeWS && d.mbNotify 5) || (d.mbFull 2 && msgOP (d.mbWord 2) == 1) then d.wakeStw
    else d
  if d.mbFull 0 || d.mbFull 4 || d.mbNotify 0 || d.mbNotify 4 || d.ex.sign.isSome then d.wakeWrd else d

end Sys2Proof.Machine
end

