-- ==== Sys2Proof/Machine/Claim.lean ====
section
/-!
DEFINITION. Machine/Claim.lean: claims on the shared resources and the general timers (R478 to R487).
-/
namespace Sys2Proof.Machine

/-- R478: FEATURE is listed for RES and is not a hardware feature. -/
def featureOk (r f : Nat) : Bool :=
  if r == 0 then f == 1 || f == 2 || f == 3
  else if r ≤ 8 then f == 1
  else if r == 9 then f == 5 || f == 6
  else decide (r ≤ 25) && f == 8

/-- A run of the feature in force on resource `r` is in progress (R479). -/
def Dev.featureRuns (d : Dev) (r : Nat) : Bool :=
  match (d.owner r).feat with
  | 1 => d.tuneUses r
  | 2 => d.wave.st == .armed
  | 3 => d.baro.snap.isSome
  | 8 => d.on CLAIM.TMR_RUN 0 (r - 10)
  | _ => false

/-- RESULT index of a path (R490): the TBL port makes no claims. -/
def resultIdx : Path → Nat
  | .steward => 1
  | .warden => 2
  | _ => 0

/-- The answer to the writing path: code and resource. -/
def Dev.claimAnswer (d : Dev) (a : Acc) (code r : Nat) : Dev :=
  (d.wr CLAIM.RESULT_CODE code 0 (resultIdx a.path)).wr CLAIM.RESULT_RES r 0 (resultIdx a.path)

/-- The claim that path `a` makes for a feature. -/
def claimOf (a : Acc) (f : Nat) : Claim := { kind := 1, path := pathCode a.path, mid := a.mid.toNat, feat := f }

/-- NOT_OWNER (R479, R487): answered, with its event at most once per BUDGET tick. -/
def Dev.notOwner (d : Dev) (a : Acc) (r : Nat) : Dev :=
  let d := d.claimAnswer a 4 r
  if d.claims.notSent.contains r then d
  else ({ d with claims := { d.claims with notSent := insertAsc r d.claims.notSent } }).ev Ev.CLAIM_NOT_OWNER r

/-- RELEASE (R479, R481): a timer stops when its claim ends. -/
def Dev.claimRelease (d : Dev) (a : Acc) (r : Nat) : Dev :=
  if d.owns a r then
    let d := if r ≥ 10 then d.wr CLAIM.TMR_RUN 0 0 (r - 10) else d
    (d.endClaim r).claimAnswer a 2 r
  else d.notOwner a r

/-- CLAIM (R479). -/
def Dev.claimTake (d : Dev) (a : Acc) (f r : Nat) : Dev :=
  if d.owns a r then
    if d.featureRuns r then (d.claimAnswer a 3 r).claimBusy r
    else (d.setOwner r (claimOf a f)).claimAnswer a 1 r
  else if (d.owner r).kind != 0 || (r == 0 && d.capWiping) then (d.claimAnswer a 3 r).claimBusy r
  else (d.setOwner r (claimOf a f)).claimAnswer a 1 r

/-- A write to CLAIM.REQ (R479). -/
def Dev.claimReq (d : Dev) (a : Acc) (op f r : Nat) : Dev :=
  if (op == 1 || op == 2) && featureOk r f then
    if op == 1 then d.claimTake a f r else d.claimRelease a r
  else (d.claimAnswer a 5 r).ev (Ev.badValue 0x05)

/-- A break is refused: the resource is free or a hardware claimant or safety owner holds it, or it does not exist (R483). -/
def Dev.breakRefused (d : Dev) (r : Nat) : Bool := (d.owner r).kind != 1

/-- CLAIM_BREAK (R483): what runs on the claim ends. -/
def Dev.claimBreak (d : Dev) (r : Nat) : Dev :=
  let was := d.owner r
  let d := ((d.claimResult was.path 6 r).bump CLAIM.PREEMPTS_COUNT).ev Ev.CLAIM_BROKEN r
  let d := if r ≥ 10 then d.wr CLAIM.TMR_RUN 0 0 (r - 10) else d
  d.endClaim r

/-- CAPTURE_WIPE_DONE (R481). -/
def Dev.captureWiped (d : Dev) : Dev := { d with claims := { d.claims with wiping := false } }

/-- CLAIM_TIMER (R487): timer `k` expires: EXPIRED, and reload or stop. -/
def Dev.timerExpire (d : Dev) (k : Nat) : Dev :=
  let d := (d.wr CLAIM.TMR_EXPIRED 1 0 k).ev Ev.CLAIM_TIMER k
  if d.on CLAIM.TMR_PERIODIC 0 k then d.wr CLAIM.TMR_REM_REMAIN (d.rd CLAIM.TMR_LOAD 0 k) 0 k
  else d.wr CLAIM.TMR_RUN 0 0 k

/-- R487: the timer has reached its expiry. -/
def Dev.timerDue (d : Dev) (k : Nat) : Bool := d.on CLAIM.TMR_RUN 0 k && d.rd CLAIM.TMR_REM_REMAIN 0 k == 0

/-- The general timers in a beat: one count down per beat strobe, expiry in task 0x09 at 0. -/
def Dev.timersBeat (d : Dev) : Dev :=
  (upto 16).foldl (fun d k =>
    if d.on CLAIM.TMR_RUN 0 k then
      let d := d.wr CLAIM.TMR_REM_REMAIN (d.rd CLAIM.TMR_REM_REMAIN 0 k - 1) 0 k
      if d.timerDue k then d.timerExpire k else d
    else d) d

/-- TMR_WRITE by the owner, after the fields are written (R487): setting RUN loads the count. -/
def Dev.tmrDone (d : Dev) (k : Nat) (wasRun : Bool) : Dev :=
  if !wasRun && d.on CLAIM.TMR_RUN 0 k then d.wr CLAIM.TMR_REM_REMAIN (d.rd CLAIM.TMR_LOAD 0 k) 0 k else d

/-! ### ALERT_N (R486) -/

/-- A condition of THR_MASK holds; `src` is CAPSRC. -/
def Dev.throttled (d : Dev) (src : Nat) : Bool :=
  let m := d.rd CLAIM.ALERT_CFG_THR_MASK
  (bitAt m 0 && d.gov.limB.any (fun b => decide (b > 0)))
    || (bitAt m 1 && decide (1 ≤ src) && decide (src ≤ 7))
    || (bitAt m 2 && d.gov.prochotIn)
    || (bitAt m 3 && d.therm.zones.any (fun (z : Zone) => z.alarm))

/-- The throttle indication is latched at the end of task 0x01 (R486): CAPSRC is then still `src`, that of the beat before
(R80, R221). -/
def Dev.thrLatch (d : Dev) (src : Nat) : Dev := { d with claims := { d.claims with thr := d.throttled src } }

/-- ALERT_N is driven low (R486). -/
def Dev.alertLow (d : Dev) : Bool :=
  match (d.owner 9).feat with
  | 5 => d.bud.alertLow
  | 6 => d.claims.thr
  | 7 => true
  | _ => false

end Sys2Proof.Machine
end

