-- ==== Sys2Proof/Machine/Hint.lean ====
section
/-!
DEFINITION. Machine/Hint.lean: the hint stream, the step position and the step tables (spec/11_hints_steps.md).
-/
namespace Sys2Proof.Machine

/-! ### The token (R259) -/

/-- CLASS. -/
def tokClass (w : Nat) : Nat := bitsAt w 58 6
/-- CORE. -/
def tokCore (w : Nat) : Nat := bitsAt w 49 9
/-- FMT. -/
def tokFmt (w : Nat) : Nat := bitsAt w 46 3
/-- SIZE. -/
def tokSize (w : Nat) : Nat := bitsAt w 40 6
/-- DENS. -/
def tokDens (w : Nat) : Nat := bitsAt w 36 4
/-- LEAD, us. -/
def tokLead (w : Nat) : Nat := bitsAt w 28 8
/-- TAG. -/
def tokTag (w : Nat) : Nat := bitsAt w 8 20
/-- CLUSTER. -/
def tokCluster (w : Nat) : Bool := bitAt w 0

/-- The reserved classes of R260. -/
def classReserved (c : Nat) : Bool := (decide (0x08 ≤ c) && decide (c ≤ 0x0F)) || decide (c ≥ 0x30)

/-- A token is bad (R262). -/
def Dev.tokBad (d : Dev) (w : Nat) : Bool :=
  let c := tokClass w
  c == 0 || classReserved c || decide (tokCore w ≥ d.bld.cores)
    || (decide (1 ≤ tokTag w) && decide (tokTag w ≤ 15))
    || (decide (0x10 ≤ c) && decide (c < 0x30) && decide (tokFmt w ≥ 5))
    || bitsAt w 1 7 != 0

/-- Entries held, stamped or not (FIFO.COUNT). -/
def Hint.count (h : Hint) : Nat := h.fifo.length + h.fresh.length

/-- A dropped token (R264). -/
def Dev.hintDrop (d : Dev) (port : Nat) : Dev :=
  let d := (d.bump HINT.PORT_DROP_FULL 0 port).bump HINT.DROP_FULL_COUNT
  if d.hint.dropSent.contains port then d
  else ({ d with hint := { d.hint with dropSent := insertAsc port d.hint.dropSent } }).ev Ev.HINT_DROP port

/-- A pointer reset is in progress (R266). -/
def Dev.hintBusy (d : Dev) : Bool := decide (d.gnow < d.hint.busyTo)

/-- A token on a port (R262 to R265). `transit` is how many of the entries freed in this beat the write side does not yet
see as free (R264). -/
def Dev.hintTake (d : Dev) (port w transit : Nat) : Dev :=
  if decide (port ≥ d.bld.hintPorts) || !bitAt (d.rd HINT.PORT_EN_EN) port then d
  else if d.tokBad w then
    let d := (d.bump HINT.PORT_DROP_BAD 0 port).bump HINT.DROP_BAD_COUNT
    if d.hint.badSent.contains port then d
    else ({ d with hint := { d.hint with badSent := insertAsc port d.hint.badSent } }).ev Ev.HINT_BAD port
  else if d.hintBusy || decide (d.hint.count + min transit d.hint.retired.length ≥ 4096) then d.hintDrop port
  else
    let d := { d with hint := { d.hint with fresh := d.hint.fresh ++ [(port, w % 2 ^ 64)] } }
    let d := d.bump HINT.ACCEPTED_COUNT
    if d.hint.count > d.rd HINT.FIFO_HWM then d.wr HINT.FIFO_HWM d.hint.count else d

/-- HINT_TOKEN (R54): the tokens of one HCLK cycle, written in ascending port order; a port carries one. -/
def Dev.hintToken (d : Dev) (toks : List (Nat × Nat)) (transit cyc : Nat) : Dev :=
  (byKey toks).foldl (fun d t => d.hintTake t.1 t.2 transit) (d.atCyc cyc)

/-- HINT_PTR_FAULT (R266): the FIFO is reset and its entries are lost. The reset takes at most 16 cycles of GCLK and 16 of
the slowest HCLK (200 MHz), 112 GCLK cycles together; how many is a free value (log entry 32). -/
def Dev.hintPtrFault (d : Dev) : Dev :=
  let n := d.hint.count
  let g := d.gnow
  let d := { d with hint := { d.hint with fifo := [], fresh := [], busyTo := g + min 112 (Config.ptrResetLen g) } }
  ((d.bump HINT.PTR_LOST 0 0 n).bump HINT.PTR_RESETS).ev Ev.HINT_PTR_FAULT 0

/-- The beat strobe stamps the tokens it latches (R265). -/
def Dev.hintStamp (d : Dev) : Dev :=
  let h := d.hint
  { d with hint := { h with
    fifo := h.fifo ++ h.fresh.map (fun (p, w) => ⟨p, w, d.tick.b + tokLead w⟩), fresh := [] } }

/-- The entries that fall due, at most `k`, and the rest (R267). -/
def retireDue (b : Nat) : Nat → List HTok → List HTok × List HTok
  | 0, l => ([], l)
  | _, [] => ([], [])
  | k + 1, t :: r => if t.due ≤ b then let (x, y) := retireDue b k r; (t :: x, y) else ([], t :: r)

/-- Retirement of a beat (R267). -/
def Dev.hintRetire (d : Dev) : Dev :=
  let (out, rest) := retireDue d.tick.b 32 d.hint.fifo
  let late := (out.filter (fun t => decide (t.due < d.tick.b))).length
  ({ d with hint := { d.hint with fifo := rest, retired := out } }).bump HINT.RETIRE_LATE_COUNT 0 0 late

/-- Nothing retires in a beat whose task 0x03 is held (R83). -/
def Dev.hintHeld (d : Dev) : Dev := { d with hint := { d.hint with retired := [] } }

/-- The Forecast window of the beat (R269). -/
def Dev.hintWindow (d : Dev) : List HTok := d.hint.fifo.take 64

/-! ### Step position (R271, R272) and swaps (R274) -/

/-- The active step-table bank. -/
def StepTab.bank (s : StepTab) : Mem := if s.act == 0 then s.bank0 else s.bank1
/-- The inactive bank, which the TBL window shows (R273). -/
def StepTab.idleBank (s : StepTab) : Mem := if s.act == 0 then s.bank1 else s.bank0
/-- Replace the active bank. -/
def StepTab.setBank (s : StepTab) (m : Mem) : StepTab := if s.act == 0 then { s with bank0 := m } else { s with bank1 := m }
/-- Replace the inactive bank. -/
def StepTab.setIdle (s : StepTab) (m : Mem) : StepTab := if s.act == 0 then { s with bank1 := m } else { s with bank0 := m }

/-- Active entry of rail `n` at bin `i` (R273). -/
def StepTab.entry (s : StepTab) (n i : Nat) : Nat := s.bank.readLE (8192 * n + 2 * i) 2

/-- A bank swap (R274). -/
def Dev.stepSwap (d : Dev) : Dev :=
  ({ d with step := { d.step with
    act := 1 - d.step.act, frac := [], w := d.rd STEP.CTRL_WIDTH_NEXT, pend := false, now := false, warm := 0 } }).ev
      Ev.STEP_SWAP_DONE 0

/-- The present bin. -/
def StepTab.bin (s : StepTab) : Nat := s.pos / 2 ^ s.w

/-- A STEP_BEGIN is handled at its retirement (R271); a pending swap comes first (R281). -/
def Dev.stepBegin (d : Dev) (t : HTok) : Dev :=
  let s := d.step
  let gap := t.due - s.b0
  if t.port != d.rd STEP.CTRL_SRC_PORT || (s.st != .idle && decide (gap < d.rd STEP.MIN_GAP_BEATS)) then
    d.bump STEP.IGNORED_COUNT
  else
    let d := if s.st != .idle then d.wr STEP.LAST_LEN_BEATS gap else d
    let d := d.bump STEP.STEPS_COUNT
    let d := if d.step.pend then d.stepSwap else d
    let d := { d with step := { d.step with
      b0 := t.due, st := .run, warm := d.step.warm + 1, ffSusp := [], beats := 0, susp := [], sums := [] } }
    (upto d.nRails).foldl (fun d n => d.wr STEP.MISS_RUN 0 0 n) d

/-- Learning of rail `n` is suspended in the beat just ended (R276). -/
def Dev.stepSusp (d : Dev) (n : Nat) : Bool := (d.rail n).flt.accB1.susp || d.sqActive

/-- The beat just ended enters the bin it belonged to (R275). -/
def Dev.stepTake (d : Dev) : Dev :=
  let s := d.step
  if s.st != .run then d else
  { d with step := { s with
    beats := s.beats + 1,
    sums := (upto d.nRails).map (fun n => s.sums.getD n 0 + d.beatI n),
    susp := (upto d.nRails).filter (fun n => s.susp.contains n || d.stepSusp n) } }

/-- The learning formula (R275): `acc` in 1/256 of 0.25 A. -/
def learnAcc (acc x k : Nat) : Nat :=
  if decide (acc < 256) || k == 0 then max 1 x * 256
  else (max 256 ((acc : Int) + rshift (((x * 256 : Nat) : Int) - (acc : Int)) k)).toNat

/-- Comparison and learning of one rail that no suspension touched, at the end of a full bin (R275, R280). -/
def Dev.stepLearnRail (d : Dev) (n i x : Nat) : Dev :=
  let s := d.step
  let e := s.entry n i
  let d :=
    if e == 0 then d
    else if ((x : Int) - (e : Int)).natAbs > d.rd STEP.TRUST_ABS + (e * d.rd STEP.TRUST_REL + 128) / 256 then
      let run := d.rd STEP.MISS_RUN 0 n + 1
      let d := (d.bump STEP.MISS_MISSES 0 n).wr STEP.MISS_RUN (min 255 run) 0 n
      if run == d.rd STEP.TRUST_MISS then
        ({ d with step := { d.step with ffSusp := insertAsc n d.step.ffSusp } }).ev Ev.STEP_FF_SUSPEND n
      else d
    else d.wr STEP.MISS_RUN 0 0 n
  if bitAt (d.rd STEP.CTRL_FREEZE) n then d else
  let key := 4096 * n + i
  let acc := learnAcc (256 * e + sparseGet 0 key s.frac) x (d.rd STEP.CTRL_LEARN_K)
  let s := d.step.setBank (d.step.bank.writeLE (8192 * n + 2 * i) 2 (acc / 256))
  { d with step := { s with frac := sparseSet 0 key (acc % 256) s.frac } }

/-- Task 0x03: swap, step markers, position and the values handed to Forecast (R271, R272, R274, R277). -/
def Dev.stepPosition (d : Dev) : Dev :=
  let d := if d.step.now then d.stepSwap else d
  let d := (d.hint.retired.filter (fun t => tokClass t.w == 1)).foldl (fun d t => d.stepBegin t) d
  let s := d.step
  let pos := if s.st == .idle then 0 else d.tick.b - s.b0
  let d := { d with step := { s with pos := pos } }
  let full : Bool := d.step.st == .run && decide (StepTab.bin d.step ≥ 4096)
  let d : Dev := if full then { d with step := { d.step with st := .overflow, beats := 0, sums := [], susp := [] } } else d
  let run := d.step.st == .run
  let vals := if run then (upto d.nRails).map (fun n => d.step.entry n d.step.bin) else []
  let d : Dev := { d with step := { d.step with vals := vals } }
  if full then (d.bump STEP.OVERFLOWS_COUNT).ev Ev.STEP_OVERFLOW 0 else d

/-- Task 0x04: the end of a bin (R275, R280), `old` the step state before task 0x03. A reset of the position ends a bin too;
a bin that ends at a swap is not learned. -/
def Dev.stepLearn (d : Dev) (old : StepTab) : Dev :=
  let s := d.step
  if s.st != .run || old.st != .run || old.beats == 0 || (s.beats != 0 && s.bin == old.bin) then d else
  let d : Dev := { d with step := { s with beats := 0, sums := [], susp := [] } }
  if old.beats == 2 ^ old.w && s.act == old.act && !d.held 0x04 then
    ((upto d.nRails).filter (fun n => !old.susp.contains n)).foldl (fun d n =>
      d.stepLearnRail n old.bin (roundDivN (old.sums.getD n 0) (2 ^ old.w))) d
  else d

/-! ### Feed-forward (R278, R279) -/

/-- i_ahd of rail `n`, in every state (R278). -/
def Dev.stepAhead (d : Dev) (n : Nat) : Nat :=
  let look := d.rd STEP.FF_CFG_LOOK
  maxN ([1, 2, 3, 4].map (fun j =>
    let i := (d.step.pos + j * (look / 4)) / 2 ^ d.step.w
    if i < 4096 then d.step.entry n i else 0))

/-- pp_step of every rail (R278). -/
def Dev.stepFF (d : Dev) : Dev :=
  (upto d.nRails).foldl (fun d n =>
    let now := d.beatI n
    let ahd := d.stepAhead n
    let pp :=
      if d.step.st == .run && decide (d.step.warm ≥ d.rd STEP.FF_CFG_WARM) && !d.step.ffSusp.contains n
          && decide (ahd > now) then
        (d.rd RAIL.LL_LL n * (ahd - now) * d.rd STEP.FF_CFG_SGAIN + 2 ^ 11) / 2 ^ 12
      else 0
    (d.wr STEP.FF_IAHD ahd 0 n).wr STEP.FF_PPSTEP (min 65535 pp) 0 n) d

/-- Tasks 0x03 and 0x04 of a beat (R80): the position and the feed-forward before the comparison and the learning. With 0x03
held the position and the values handed on stand, and 0x04 runs (R83). -/
def Dev.stepBeat (d : Dev) : Dev :=
  let d := d.stepTake
  let old := d.step
  (if d.held 0x03 then d else d.stepPosition.stepFF).stepLearn old

/-- The request of the beat that ends is the one the rails latch at the strobe (R279). -/
def Dev.ppRequests (d : Dev) : Dev :=
  (upto d.nRails).foldl (fun d n =>
    let req := min d.gov.set.ppcap (max (d.fc.out.ppfc.getD n 0) (d.rd STEP.FF_PPSTEP 0 n))
    d.updCmd n (fun c => { c with ppReq := req })) d

/-! ### Register writes -/

/-- STEP_SWAP (R274). -/
def Dev.stepSwapReq (d : Dev) : Dev := { d with step := { d.step with pend := true } }

/-- STEP_SWAP_NOW (R274): refused under R108 in STEP_RUN. -/
def Dev.stepSwapNow (d : Dev) : Dev :=
  if d.step.st == .run then d.ev (Ev.badValue 0x16) 0 else { d with step := { d.step with now := true } }

/-- STATUS.STATE encoding of STEP. -/
def StepSt.code : StepSt → Nat
  | .idle => 0 | .run => 1 | .overflow => 2

end Sys2Proof.Machine
end

