-- ==== Sys2Proof/Machine/Therm.lean ====
section
/-!
DEFINITION. Machine/Therm.lean: temperature sensing, zones, the thermal cap, the memory cap and the trip
(spec/13_thermal.md R305 to R321, R327, R328).
-/
namespace Sys2Proof.Machine

/-! ### Raw words and conversion (R306 to R311) -/

/-- The word has an even number of ones (R306). -/
def evenOnes (w : Nat) : Bool := (sumN ((upto 24).map (fun k => bitsAt w k 1))) % 2 == 0

/-- R307: the word is valid. -/
def ringWordOk (w : Nat) : Bool := evenOnes w && bitAt w 17 && bitAt w 16

/-- R307: the pass of a segment of `n` satellites is good: enough words, each at its expected position. -/
def segPassOk (n : Nat) (ws : List Nat) : Bool :=
  decide (ws.length ≥ n) && (upto n).all (fun k => bitsAt (ws.getD k 0) 18 6 == n - 1 - k)

/-- The word of a satellite at position `pos` of its segment (R306): PWR while its site is powered, apart from the first
frame after it powered up (R308), FRESH when a conversion completed since the previous frame. -/
def ringWord (pos : Nat) (s : Sens) : Nat :=
  let w := putAt pos 18 + putAt (bnat (s.powered && !s.powerUp)) 17 + putAt (bnat s.conv.isSome) 16 + s.conv.getD 0 % 2 ^ 14
  if evenOnes w then w else w + 2 ^ 15

/-- A satellite at a frame (R306, R308): its ring register loads, and a new conversion starts. -/
def Sens.frame (pos : Nat) (s : Sens) : Sens := { s with reg := ringWord pos s, conv := none, powerUp := false }

/-- A third-order polynomial (R309): C0 to C3, S1 to S3. -/
def horner (c0 c1 c2 c3 : Int) (s1 s2 s3 : Nat) (x : Int) : Int :=
  let y := sat32 (mulCoef c3 x s3 + c2)
  let y := sat32 (mulCoef y x s2 + c1)
  sat32 (mulCoef y x s1 + c0)

/-- CTL word of the calibration entry at window offset `a` (R310). -/
def calCtl (m : Mem) (a : Nat) : Nat := m.readLE (a + 0x18) 4
/-- The entry is valid (R310). -/
def calOk (m : Mem) (a : Nat) : Bool := bitAt (calCtl m a) 31
/-- The polynomial of the entry, the nominal one while it is not valid (R311). -/
def calPoly (m : Mem) (a : Nat) (x : Int) : Int :=
  if calOk m a then
    let c (k : Nat) : Int := signedOf 32 (m.readLE (a + 4 * k) 4)
    let s := m.readLE (a + 0x10) 4
    horner (c 0) (c 1) (c 2) (c 3) (bitsAt s 0 5) (bitsAt s 8 5) (bitsAt s 16 5) x
  else horner (-4096) 1 0 0 0 0 0 x
/-- The zone an entry names: zone 0 while it is not valid, none for 32 to 63 (R310, R311). -/
def calZone (m : Mem) (a : Nat) : Option Nat :=
  if calOk m a then (let z := bitsAt (calCtl m a) 24 6; if z < 32 then some z else none) else some 0
/-- REPL_OFF of an entry (R310, R311). -/
def calRepl (m : Mem) (a : Nat) : Int := if calOk m a then signedOf 16 (bitsAt (calCtl m a) 0 16) else 0
/-- Window offset of the entry of TS_n. -/
def tsCal (n : Nat) : Nat := 32 * n
/-- Window offset of the entry of CS. -/
def csCal : Nat := 0x3000
/-- Window offset of P_ref. -/
def refCal : Nat := 0x3020

/-- The temperature of a raw code (R309 steps 2 and 3). -/
def convert (m : Mem) (a : Nat) (g : Int) (raw : Nat) : Int :=
  let xc := clampI ((((raw : Nat) : Int) * g + 2 ^ 15) / 2 ^ 16) 0 16383
  sat16 (calPoly m a xc)

/-- The reference gain of the pass (R309 step 1, R311). -/
def Therm.gain (t : Therm) : Int :=
  if t.csRun && calOk t.cal refCal then calPoly t.cal refCal t.cs.temp else 65536

/-- The neighbours of TS_n: placed and other than itself (R310). -/
def Therm.neighbours (t : Therm) (n : Nat) : List Nat :=
  let a := 0x2000 + 16 * n
  let k := (t.cal.read (a + 8)).toNat
  ((t.cal.bytes a (if k ≤ 8 then k else 0))).filter (fun x => decide (x < t.ts.length) && x != n)

/-! ### Set-points (R15) -/

/-- The device as a pass reads its set-points: as latched at the strobe (R15). -/
def Dev.thermSeen (d : Dev) : Dev := { d with regs := d.therm.latch.regs }
/-- A set-point as the pass reads it. -/
def Dev.tRd (d : Dev) (f : Fld) (i : Nat := 0) (j : Nat := 0) : Nat := d.therm.latch.regs.get f i j
/-- A set-point flag as the pass reads it. -/
def Dev.tOn (d : Dev) (f : Fld) (i : Nat := 0) (j : Nat := 0) : Bool := d.tRd f i j == 1

/-! ### Reading the ring (R305, R307) -/

/-- A segment's failure count after a pass. -/
def Seg.pass (s : Seg) (ok : Bool) : Seg :=
  if ok then
    let g := min 8 (s.good + 1)
    { s with bad := 0, good := g, fail := s.fail && decide (g < 8) }
  else { s with bad := min 8 (s.bad + 1), good := 0 }

/-- RINGERR counts a failed pass of a segment. -/
def Dev.ringErr (d : Dev) (k : Nat) : Dev :=
  match k with
  | 0 => d.bump THERM.RINGERR_SEG0
  | 1 => d.bump THERM.RINGERR_SEG1
  | 2 => d.bump THERM.RINGERR_SEG2
  | _ => d.bump THERM.RINGERR_SEG3

/-- Change the thermal monitor. -/
def Dev.updTherm (d : Dev) (f : Therm → Therm) : Dev := { d with therm := f d.therm }

/-- Segment `k`. -/
def Dev.seg (d : Dev) (k : Nat) : Seg := d.therm.segs.getD k {}

/-- THERM_RING_FAIL (R307): eight consecutive failed passes. -/
def Dev.thermRingFail (d : Dev) (k : Nat) : Dev :=
  if decide ((d.seg k).bad ≥ 8) && !(d.seg k).fail then
    (d.updTherm (fun t => { t with segs := modAt t.segs k (fun s => { s with fail := true }) })).ev Ev.THERM_RING_FAIL k
  else d

/-- The number of the first satellite of segment `k` (R305). -/
def Dev.segBase (d : Dev) (k : Nat) : Nat := sumN (d.bld.segs.take k)

/-- The frame of a THERM strobe on segment `k`: TR_k_FRM, and every satellite of the segment (R306). -/
def Dev.segFrame (d : Dev) (k : Nat) : Dev :=
  let n := d.bld.segs.getD k 0
  if n == 0 then d else
  let base := d.segBase k
  (upto n).foldl (fun d p => d.updTherm (fun t => { t with ts := modAt t.ts (base + p) (Sens.frame p) })) (d.send (.trFrm k))

/-- The words that a segment returns, in descending order of position (R306): the ring registers, with the bits that the
segment inverts; `flips` has one entry for each word returned. -/
def Dev.segWords (d : Dev) (k : Nat) (flips : List Nat) : List Nat :=
  let n := d.bld.segs.getD k 0
  let base := d.segBase k
  flips.zipIdx.map (fun (x, i) => if i < n then x ^^^ (d.therm.ts.getD (base + (n - 1 - i)) {}).reg else x)

/-- One segment's part of task 0x10 (R307): its failure count, and the codes of its valid words for the satellites from
number `base` up. -/
def Dev.segPass (d : Dev) (k base : Nat) (ws : List Nat) : Dev :=
  let n := d.bld.segs.getD k 0
  if n == 0 then d else
  let ok := segPassOk n ws
  let d := if ok then d else d.ringErr k
  let d := (d.updTherm (fun t => { t with segs := modAt t.segs k (fun s => s.pass ok) })).thermRingFail k
  (upto n).foldl (fun d p =>
    let w := ws.getD (n - 1 - p) 0
    let v := ok && ringWordOk w
    d.updTherm (fun t => { t with ts := modAt t.ts (base + p) (fun s =>
      { s with raw := if v then some (bitsAt w 0 14) else none }) })) d

/-- SITE_POWER_UP of a thermal satellite (R308). -/
def Dev.thermPowerUp (d : Dev) (n : Nat) : Dev :=
  d.updTherm (fun t => { t with ts := modAt t.ts n (fun s => { s with powered := true, powerUp := true }) })

/-- Task 0x10 (R82): the ring sampling pass of every segment. -/
def Dev.ringPass (d : Dev) (words : List (List Nat)) : Dev :=
  (upto 4).foldl (fun d k => d.segPass k (d.segBase k) (words.getD k [])) d

/-- A satellite after the conversion of its code with gain `g`; it has no reading without a valid word (R307, R309). -/
def Sens.converted (m : Mem) (g : Int) (n : Nat) (s : Sens) : Sens :=
  match s.raw with
  | some r => { s with valid := true, temp := convert m (tsCal n) g r }
  | none => { s with valid := false }

/-- The conversion of task 0x11 (R309): the gain, every satellite, and CS with its code `csRaw`. -/
def Dev.convertPass (d : Dev) (csRaw : Nat) : Dev :=
  d.updTherm (fun t =>
    { t with
      g := t.gain, csRun := true
      ts := t.ts.zipIdx.map (fun (s, n) => s.converted t.cal t.gain n)
      cs := { t.cs with valid := true, temp := convert t.cal csCal t.gain csRaw } })

/-! ### Cross-check (R313, R314) -/

/-- A satellite. -/
def Therm.sens (t : Therm) (n : Nat) : Sens := t.ts.getD n {}

/-- Ascending insertion of an integer, repeats kept. -/
def insertInt (x : Int) : List Int → List Int
  | [] => [x]
  | a :: r => if x ≤ a then x :: a :: r else a :: insertInt x r

/-- Ascending sort of integers. -/
def sortInt (l : List Int) : List Int := l.foldl (fun acc x => insertInt x acc) []

/-- xcount of a satellite after the check against the states `t` as the pass began (R313). -/
def Therm.xcheck (t : Therm) (dev n : Nat) : Nat :=
  let s := t.sens n
  let nb := (t.neighbours n).filter (fun k => (t.sens k).valid && !(t.sens k).excl)
  if !s.valid || decide (nb.length < 2) then s.xcount
  else
    let med := (sortInt (nb.map (fun k => (t.sens k).temp))).getD (nb.length / 2) 0
    if (s.temp - med).natAbs > dev then (if s.excl then 0 else s.xcount + 1)
    else (if s.excl then s.xcount + 1 else 0)

/-- THERM_EXCLUDED (R314). -/
def Dev.thermExclude (d : Dev) (n : Nat) : Dev :=
  let s := d.therm.sens n
  if decide (n < d.therm.ts.length) && !s.excl && decide (s.xcount ≥ d.tRd THERM.XCHK_COUNT) then
    (d.updTherm (fun t => { t with ts := modAt t.ts n (fun s => { s with excl := true, xcount := 0 }) })).ev
      Ev.THERM_EXCLUDED n
  else d

/-- THERM_READMIT (R314). -/
def Dev.thermReadmit (d : Dev) (n : Nat) : Dev :=
  let s := d.therm.sens n
  if decide (n < d.therm.ts.length) && s.excl && decide (s.xcount ≥ d.tRd THERM.XCHK_READMIT) then
    (d.updTherm (fun t => { t with ts := modAt t.ts n (fun s => { s with excl := false, xcount := 0 }) })).ev
      Ev.THERM_READMIT n
  else d

/-- The cross-check of a pass: every sensor against the states as the pass began, then exclusion and readmission. A write
that has cleared XCHK_EN since the strobe stands (R314). -/
def Dev.crossCheck (d : Dev) : Dev :=
  if !d.tOn THERM.CTRL_XCHK_EN || !d.on THERM.CTRL_XCHK_EN then d else
  let t0 := d.therm
  let dev := d.tRd THERM.XCHK_DEV
  let cnt := (upto t0.ts.length).map (fun n => t0.xcheck dev n)
  let d := d.updTherm (fun t => { t with ts := List.zipWith (fun (s : Sens) c => { s with xcount := c }) t.ts cnt })
  (upto t0.ts.length).foldl (fun d n => if (t0.sens n).excl then d.thermReadmit n else d.thermExclude n) d

/-- Clearing XCHK_EN readmits every sensor and zeroes every xcount (R314). -/
def Dev.xchkOff (d : Dev) : Dev :=
  d.updTherm (fun t => { t with ts := t.ts.map (fun (s : Sens) => { s with excl := false, xcount := 0 }) })

/-- What TS_n contributes: its own temperature, or its replacement while it is excluded (R314). -/
def Therm.value (t : Therm) (n : Nat) : Int :=
  let s := t.sens n
  if !s.excl then s.temp else
  match (t.neighbours n).filter (fun k => (t.sens k).valid && !(t.sens k).excl) with
  | [] => s.temp
  | k :: ks => sat16 (ks.foldl (fun m j => max m (t.sens j).temp) (t.sens k).temp + calRepl t.cal (tsCal n))

/-! ### External inputs (R312) -/

/-- XT_x has toggled within XT_STALE.MS ms, counted in beat strobes, and its VALID is high. -/
def Dev.xtOk (d : Dev) (x : Nat) : Bool :=
  let t := d.therm.xt.getD x {}
  t.pin && (match t.at_ with
    | some a => decide (d.tick.mono - a ≤ 1000 * d.rd THERM.XT_STALE_MS)
    | none => false)

/-- XT_SAMPLE (R66, R312): a toggle of XT_x_STB delivers a value, and XT_x_VALID is seen; without a value XT_x_VALID alone
changes. -/
def Dev.xtSample (d : Dev) (x : Nat) (pin : Bool) (v : Option Nat) : Dev :=
  let at_ := d.tick.mono
  let d := d.updTherm (fun t => { t with xt := modAt t.xt x (fun u =>
    match v with
    | some v => { u with pin := pin, temp := signedOf 16 (v % 65536), at_ := some at_ }
    | none => { u with pin := pin }) })
  let ok := d.xtOk x
  d.updTherm (fun t => { t with xt := modAt t.xt x (fun u => { u with live := ok }) })

/-- THERM_XT_STALE (R312): the input becomes invalid while its VALID is high; once per BUDGET tick. -/
def Dev.xtStale (d : Dev) (x : Nat) : Dev :=
  let t := d.therm.xt.getD x {}
  let ok := d.xtOk x
  let d := d.updTherm (fun th => { th with xt := modAt th.xt x (fun u => { u with live := ok }) })
  if t.live && !ok && t.pin && !t.sent then
    (d.updTherm (fun th => { th with xt := modAt th.xt x (fun u => { u with sent := true }) })).ev Ev.THERM_XT_STALE x
  else d

/-! ### Zones (R315) -/

/-- STGMAP zone of rail `r`. -/
def Dev.stgZone (d : Dev) (r : Nat) : Nat :=
  if r % 4 == 0 then d.tRd THERM.STGMAP_Z0 0 (r / 4)
  else if r % 4 == 1 then d.tRd THERM.STGMAP_Z1 0 (r / 4)
  else if r % 4 == 2 then d.tRd THERM.STGMAP_Z2 0 (r / 4)
  else d.tRd THERM.STGMAP_Z3 0 (r / 4)

/-- Stage temperature of phase `p`, none while it is not valid (R312). -/
def Dev.stageTemp (d : Dev) (p : Nat) : Option Int :=
  let ph := d.phase p
  match ph.tempAge with
  | some a => if ph.link == .up && decide (a < 64) then some (signedOf 16 (d.rdPh PHASE.TEMP_TEMP p)) else none
  | none => none

/-- A source that names a zone: the zone, its SRC code, its value when valid. -/
def Dev.thermSources (d : Dev) : List (Nat × Nat × Option Int) :=
  let t := d.therm
  (upto t.ts.length).filterMap (fun n =>
      (calZone t.cal (tsCal n)).map (fun z => (z, n, if (t.sens n).valid then some (t.value n) else none)))
    ++ ((calZone t.cal csCal).map (fun z => (z, 0x100, some t.cs.temp))).toList
    ++ (upto t.xt.length).filterMap (fun x =>
      let z := d.tRd THERM.XTCFG_ZONE 0 x
      if z < 32 then some (z, 0x110 + x, t.latch.xt.getD x none) else none)
    ++ (upto d.phases.length).filterMap (fun p =>
      let z := d.stgZone (d.phRail p)
      if z < 32 then some (z, 0x180 + p, t.latch.stage.getD p none) else none)

/-- The largest of the valid members and its SRC, the lowest SRC on a tie. -/
def hottest : List (Nat × Option Int) → Option (Nat × Int)
  | [] => none
  | (s, v) :: r =>
    match v, hottest r with
    | none, m => m
    | some x, none => some (s, x)
    | some x, some (s', y) => if y > x then some (s', y) else some (s, x)

/-- Zone `z` is idle (R315). -/
def Dev.zoneIdle (d : Dev) (z : Nat) : Bool :=
  let ch := d.tRd THERM.ZMAP_CH 0 z
  ch != 0 && ((upto d.bld.creditCh).filter (fun c => bitAt ch c)).all (fun c => d.therm.latch.gates.getD (d.thermSeen.chDom c) false)

/-- Zone `z`. -/
def Dev.zone (d : Dev) (z : Nat) : Zone := d.therm.zones.getD z {}

/-- Change zone `z`. -/
def Dev.updZone (d : Dev) (z : Nat) (f : Zone → Zone) : Dev :=
  d.updTherm (fun t => { t with zones := modAt t.zones z f })

/-- THERM_ZONE_LOST (R315): eight consecutive passes without a valid member. -/
def Dev.zoneLost (d : Dev) (z : Nat) : Dev :=
  let x := d.zone z
  if x.conf && !x.idle && !x.lost && decide (x.miss ≥ 8) then
    (d.updZone z (fun x => { x with lost := true })).ev Ev.THERM_ZONE_LOST z
  else d

/-- The maximum, idle and lost states of zone `z` (R315), given the sources of the pass. -/
def Dev.zonePass (d : Dev) (src : List (Nat × Nat × Option Int)) (z : Nat) : Dev :=
  let mine := src.filter (fun s => s.1 == z)
  let idle := d.zoneIdle z
  let best := hottest (mine.map (·.2))
  let d := d.updZone z (fun x =>
    let miss := if mine.isEmpty || idle || best.isSome then 0 else min 8 (x.miss + 1)
    let lost := x.lost && best.isNone
    { x with
      conf := !mine.isEmpty, idle := idle, miss := miss, lost := lost,
      max_ := (best.map (·.2)).getD x.max_, src := (best.map (·.1)).getD x.src,
      ring := if (x.idle && !idle) || (x.lost && !lost) then [] else x.ring,
      ror := if (x.idle && !idle) || (x.lost && !lost) then 0 else x.ror })
  d.zoneLost z

/-! ### Rate of rise, limits, cap (R316 to R319) -/

/-- The push of R317. -/
def Zone.push (x : Zone) : Zone :=
  { x with ror := if x.ring.length ≥ 16 then x.max_ - x.ring.getD 15 0 else 0, ring := (x.max_ :: x.ring).take 16 }

/-- ROR_ACT in use (R23, R318). -/
def Dev.rorAct (d : Dev) : Nat := min (d.tRd THERM.ROR_ROR_ACT) (d.tRd THERM.HARD_T_HARD_RORACT)

/-- The configured zones. -/
def Dev.confZones (d : Dev) : List Nat := (upto 32).filter (fun z => (d.zone z).conf)

/-- Every zone whose ROR is at least `v`. -/
def Dev.rorAbove (d : Dev) (v : Nat) : List Nat :=
  (upto 32).filter (fun z => decide ((d.zone z).ror ≥ ((v : Nat) : Int)))

/-- THERM_ROR_WARN (R316): first reached, once per BUDGET tick and zone. -/
def Dev.rorWarn (d : Dev) (z : Nat) : Dev :=
  let x := d.zone z
  let now := decide (x.ror ≥ ((d.tRd THERM.ROR_ROR_WARN : Nat) : Int))
  let d := d.updZone z (fun x => { x with warn := now })
  if now && !x.warn && !x.warnSent then
    (d.updZone z (fun x => { x with warnSent := true })).ev Ev.THERM_ROR_WARN z
  else d

/-- R316: some reason for fast sampling holds. -/
def Dev.wantFast (d : Dev) : Bool :=
  d.tOn THERM.CTRL_FAST_FORCE || !(d.rorAbove (d.tRd THERM.ROR_ROR_WARN)).isEmpty
    || d.confZones.any (fun z => decide ((d.zone z).max_ ≥ d.thermSeen.tCtrl z - ((d.tRd THERM.FAST_BAND : Nat) : Int)))

/-- THERM_FAST_RELEASE (R316). -/
def Dev.fastRelease (d : Dev) : Dev :=
  if d.tick.thermFast && decide (d.therm.quiet ≥ d.tRd THERM.FAST_HOLD) then
    { d with tick := { d.tick with thermFast := false } }
  else d

/-- The sampling rate of a result (R316). -/
def Dev.fastRate (d : Dev) : Dev :=
  if d.wantFast then
    { d.updTherm (fun t => { t with quiet := 0 }) with tick := { d.tick with thermFast := true } }
  else (d.updTherm (fun t => { t with quiet := min 65535 (t.quiet + 1) })).fastRelease

/-- The alarm flags of zone `z`, THERM_ALARM at entry (R319). -/
def Dev.zoneAlarm (d : Dev) (z : Nat) : Dev :=
  let x := d.zone z
  let now := x.lost || (x.conf && decide (x.max_ ≥ d.thermSeen.tAlarm z))
  let d := d.updZone z (fun x => { x with alarm := now })
  if now && !x.alarm then d.ev Ev.THERM_ALARM z else d

/-- The release conditions of R319 hold at a result. -/
def Dev.relOk (d : Dev) : Bool :=
  (upto 32).all (fun z =>
    let x := d.zone z
    (!x.conf || decide (x.max_ < d.thermSeen.tAlarm z - ((d.tRd THERM.ALARM_HYS : Nat) : Int))) && !x.lost
      && decide (x.ror < ((d.tRd THERM.ROR_ROR_WARN : Nat) : Int)))

/-- THERM_RELEASE (R319). -/
def Dev.thermRelease (d : Dev) : Dev :=
  match d.therm.relMs with
  | some m =>
    if decide (m ≥ d.tRd THERM.RELEASE_MS) && decide (d.therm.cap < 63) then
      ({ d.updTherm (fun t => { t with cap := 63 }) with gov := { d.gov with thermCap := 63 } }).ev Ev.THERM_RELEASE 0
    else d
  | none => d

/-- The rate-of-rise step of the cap (R319). -/
def Dev.rorStep (d : Dev) : Dev :=
  match d.rorAbove d.rorAct with
  | [] => d
  | z :: _ =>
    let due := match d.therm.rorAt with
      | some a => decide (d.tick.mono - a ≥ 1024)
      | none => true
    if due then
      let at_ := d.tick.mono
      let low := d.therm.latch.target - d.tRd THERM.ALARM_ROR_STEP
      (d.updTherm (fun t => { t with rorAt := some at_, cap := min t.cap low })).ev Ev.THERM_ROR_ACT z
    else d

/-- ALARM_LEVEL in use, at most HARD_LEVEL (R23, R319). -/
def Dev.alarmLevel (d : Dev) : Nat := min (d.tRd THERM.ALARM_ALARM_LEVEL) (d.tRd GOV.HARD_PL1_HARD_LEVEL)

/-- The thermal cap of a result (R319). -/
def Dev.capPass (d : Dev) : Dev :=
  let d := (upto 32).foldl (fun d z => d.zoneAlarm z) d
  let d := if d.therm.zones.any (fun (x : Zone) => x.alarm) then
      d.updTherm (fun t => { t with cap := min t.cap d.alarmLevel })
    else d
  let d := d.rorStep
  let d := d.updTherm (fun t => { t with relMs := if d.relOk then some (t.relMs.getD 0) else none })
  d.thermRelease

/-! ### Memory bandwidth (R320) -/

/-- c(x) of R320. -/
def Dev.memCapOf (d : Dev) (x : Nat) : Nat :=
  let floor := d.tRd THERM.XTCFG_FLOOR 0 x
  let t0 := signedOf 16 (d.tRd THERM.XTMEM_T0 0 x)
  let t1 := signedOf 16 (d.tRd THERM.XTMEM_T1 0 x)
  match d.therm.latch.xt.getD x none with
  | none => floor
  | some t =>
    if t ≤ t0 then 255
    else if t ≥ t1 then floor
    else max floor (255 - ceilDiv ((255 - floor) * (t - t0).toNat) (t1 - t0).toNat)

/-- MEMTHR_CAP of a result. -/
def Dev.memPass (d : Dev) : Dev :=
  let xs := (upto d.therm.xt.length).filter (fun x => d.tOn THERM.XTCFG_MEM 0 x)
  let best := xs.foldl (fun (b : Nat × Nat) x => let c := d.memCapOf x; if c < b.1 then (c, x) else b) (0xFF, xs.headD 0)
  let fell := d.therm.memCap == 0xFF && best.1 != 0xFF
  let sent := d.therm.memSent
  let d := d.updTherm (fun t => { t with memCap := best.1, memSrc := best.2, memSent := t.memSent || fell })
  if fell && !sent then d.ev Ev.THERM_MEMCAP best.2 else d

/-! ### Trip (R321) -/

/-- Trigger of the Squall sequencer: cause and parameter (R322). -/
def Dev.squallReq (d : Dev) (cause param : Nat) : Dev := { d with sqReq := d.sqReq ++ [(cause, param)] }

/-- The trip check of zone `z`. -/
def Dev.zoneTrip (d : Dev) (z : Nat) : Dev :=
  let x := d.zone z
  let run := if x.conf && decide (x.max_ ≥ d.thermSeen.tTrip z) then min 3 (x.run + 1) else 0
  let d := d.updZone z (fun x => { x with run := run })
  if run == 2 then (d.ev Ev.THERM_TRIP z).squallReq 1 z else d

/-- The run of a sensor that names no zone, after a result. -/
def Sens.trip (s : Sens) (named valid : Bool) (v lim : Int) : Sens :=
  { s with run := if !named && valid && decide (v ≥ lim) then min 3 (s.run + 1) else 0 }

/-- The trip check of the sensors that name no zone. -/
def Dev.sensTrip (d : Dev) : Dev :=
  let lim := signedOf 16 (d.tRd THERM.HARD_T_HARD_TTRIP)
  let t0 := d.therm
  let d := d.updTherm (fun t => { t with
    ts := (upto t.ts.length).map (fun n =>
      (t.sens n).trip (calZone t.cal (tsCal n)).isSome (t.sens n).valid (t0.value n) lim),
    cs := t.cs.trip (calZone t.cal csCal).isSome true t.cs.temp lim })
  let hit := ((d.therm.ts ++ [d.therm.cs]).filter (fun (s : Sens) => s.run == 2)).length
  forUpto hit (fun _ d => (d.ev Ev.THERM_TRIP 0xFF).squallReq 1 0xFF) d

/-! ### The THERM tick (R82) -/

/-- Which external inputs are valid in the pass (R312, R328). -/
def Dev.xtPass (d : Dev) : Dev :=
  d.updTherm (fun t => { t with xt := t.xt.zipIdx.map (fun (u, x) => { u with ok := (t.latch.xt.getD x none).isSome }) })

/-- Task 0x11 (R82, R309), with the code of CS. -/
def Dev.task11 (d : Dev) (csRaw : Nat) : Dev :=
  let d := d.convertPass csRaw
  let d := ((upto d.therm.xt.length).foldl (fun d x => d.xtStale x) d).xtPass
  let d := d.crossCheck
  let src := d.thermSources
  let d := (upto 32).foldl (fun d z => d.zonePass src z) d
  let d := if d.therm.latch.push then d.updTherm (fun t => { t with zones := t.zones.map (fun (x : Zone) => x.push) }) else d
  let d := (upto 32).foldl (fun d z => d.rorWarn z) d
  let d := (d.capPass.fastRate).memPass
  let d := ((upto 32).foldl (fun d z => d.zoneTrip z) d).sensTrip
  let d := d.confZones.foldl (fun d z => d.sample 0x05 z (d.zone z).max_) d
  { d with gov := { d.gov with
    zones := (upto 32).map (fun z => if (d.zone z).conf then some (d.zone z).max_ else none), thermCap := d.therm.cap } }

/-- THERM_TICK (R306, R309, R82): the pass of a THERM strobe, in the beat after it. `flips` are the bits that each segment
inverts in the words it returns, `raws` the codes of the conversions that the satellites started at the frame, none where
none completes, and `csRaw` the code of CS. Of the tasks 0x10 and 0x11 one that missed its window holds its outputs and the
other runs (R83): 0x11 then converts the codes of the last completed 0x10. -/
def Dev.thermTick (d : Dev) (flips : List (List Nat)) (raws : List (Option Nat)) (csRaw : Nat) : Dev :=
  if d.tick.thermDue != 2 then d else
  let words := (upto 4).map (fun k => d.segWords k (flips.getD k []))
  let d := d.updTherm (fun t => { t with ts := t.ts.zipIdx.map (fun (s, n) => { s with conv := raws.getD n none }) })
  let held := d.tick.missed.contains 0x11
  let ring := d.tick.missed.contains 0x10
  let d := { d with tick := { d.tick with
    thermDue := 0, missed := d.tick.missed.filter (fun t => t != 0x10 && t != 0x11) } }
  let d := if ring then d else d.ringPass words
  if held then d else d.task11 csRaw

/-! ### Beat and BUDGET hooks -/

/-- A THERM strobe latches what its pass reads (R15, R86), and the frame starts (R306). -/
def Dev.thermLatch (d : Dev) : Dev :=
  let l : ThermLatch := {
    regs := d.regs
    xt := (upto d.therm.xt.length).map (fun x => if d.xtOk x then some (d.therm.xt.getD x {}).temp else none)
    stage := (upto d.phases.length).map (fun p => d.stageTemp p)
    gates := d.doms.map (fun (m : Dom) => m.gate)
    target := d.gov.target
    push := d.therm.rorDue }
  (upto 4).foldl (fun d k => d.segFrame k) (d.updTherm (fun t => { t with latch := l, rorDue := false }))

/-- The part of a beat strobe: the history push falls due (R317). -/
def Dev.thermBeat (d : Dev) : Dev :=
  if d.tick.b % 64 == 8 then d.updTherm (fun t => { t with rorDue := true }) else d

/-- The part of a BUDGET strobe (R312, R316, R319, R320): the release count and the once-per-tick flags. -/
def Dev.thermBudget (d : Dev) : Dev :=
  d.updTherm (fun t => { t with
    relMs := t.relMs.map (fun m => min 65535 (m + 1)), memSent := false,
    zones := t.zones.map (fun (x : Zone) => { x with warnSent := false }),
    xt := t.xt.map (fun (x : Xt) => { x with sent := false }) })

/-- HOT_ZONE (R328): the configured zone with the highest maximum, the lowest on a tie, 0 when none. -/
def Dev.hotZone (d : Dev) : Nat :=
  (d.confZones.foldl (fun (b : Option Nat) z =>
    match b with
    | none => some z
    | some y => if (d.zone z).max_ > (d.zone y).max_ then some z else b) none).getD 0

end Sys2Proof.Machine
end

