-- ==== Sys2Proof/Machine/Isobar.lean ====
section
/-!
DEFINITION. Machine/Isobar.lean: job-wide frequency agreement (spec/14_isobar.md).
-/
namespace Sys2Proof.Machine

/-! ### Messages (R333, R334) -/

/-- One byte of CRC-16 with polynomial 0x1021, most significant bit first. -/
def crc16Bits : Nat → Nat → Nat
  | 0, c => c
  | n + 1, c => crc16Bits n (if c ≥ 32768 then ((2 * c) ^^^ 0x11021) % 65536 else 2 * c)

/-- CRC-16, initial value 0xFFFF, no reflection, no final XOR (R333). -/
def crc16 (bytes : List Nat) : Nat := bytes.foldl (fun c b => crc16Bits 8 (c ^^^ (b * 256))) 0xFFFF

/-- Byte `k` of a message. -/
def msgByte (m k : Nat) : Nat := bitsAt m (8 * k) 8
/-- `n` bytes from byte `k` of a message, least significant first. -/
def msgNum (m k n : Nat) : Nat := bitsAt m (8 * k) (8 * n)
/-- DIGEST of R333. -/
def msgDigest (m : Nat) : Nat := crc16 (((upto 9).map (msgByte m)) ++ ((upto 4).map (fun k => msgByte m (12 + k))))
/-- Bits 3:0 of OP. -/
def msgOp (m : Nat) : Nat := bitsAt m 64 4
/-- FLAGS bit `k`. -/
def msgFlag (m k : Nat) : Bool := bitAt m (72 + k)
/-- ROUND. -/
def msgRound (m : Nat) : Nat := msgNum m 0x0C 4
/-- KEY. -/
def msgKey (m : Nat) : Nat := msgNum m 0x10 8
/-- CEIL of a KEY. -/
def keyCeil (k : Nat) : Nat := bitsAt k 48 16
/-- INDEX of a KEY. -/
def keyIdx (k : Nat) : Nat := bitsAt k 32 14
/-- CAUSE of a KEY. -/
def keyCause (k : Nat) : Nat := bitsAt k 0 8

/-- A message with its header under the set in force: OP, FLAGS, ROUND, payload above byte 0x10. -/
def isoMsg (c : IsoCfg) (op flags round payload : Nat) : Nat :=
  let m := c.group + putAt c.epoch 32 + putAt c.count 48 + putAt (op + 16) 64 + putAt flags 72
    + putAt (round % 2 ^ 32) 96 + putAt payload 128
  m + putAt (msgDigest m) 80

/-- Payload of MIN and PROBE (R334). -/
def minPayload (key rise check probes contrib idx : Nat) : Nat :=
  key + putAt rise 64 + putAt check 80 + putAt probes 96 + putAt contrib 128 + putAt idx 160

/-- Payload of SUM (R334). -/
def sumPayload (energy residue contrib idx : Nat) : Nat :=
  energy % 2 ^ 64 + putAt residue 64 + putAt contrib 128 + putAt idx 160

/-- The match fields of a message (R335): bytes 0x00 to 0x08 and 0x0A to 0x0F. -/
def matchBits (m : Nat) : Nat × Nat := (bitsAt m 0 72, bitsAt m 80 48)

/-- The header of a received message is that of the group in force (R336). -/
def msgOurs (c : IsoCfg) (m : Nat) : Bool :=
  bitsAt m 0 32 == c.group && bitsAt m 32 16 == c.epoch && bitsAt m 48 16 == c.count

/-- R336: OP not reserved, PTYPE 1, DIGEST correct, group in force. -/
def msgValid (c : IsoCfg) (m : Nat) : Bool :=
  decide (1 ≤ msgOp m) && decide (msgOp m ≤ 5) && bitsAt m 68 4 == 1 && msgNum m 0x0A 2 == msgDigest m && msgOurs c m

/-! ### The tree (R348) -/

/-- Parent steps from member `i` to member 0 with arity `a`. -/
def isoDepth (a : Nat) : Nat → Nat → Nat
  | 0, _ => 0
  | n + 1, i => if i == 0 then 0 else 1 + isoDepth a n ((i - 1) / (max 1 a))
/-- Depth of the member. -/
def IsoCfg.depth (c : IsoCfg) : Nat := isoDepth c.arity 14 c.index
/-- H. -/
def IsoCfg.h (c : IsoCfg) : Nat := isoDepth c.arity 14 (c.count - 1)
/-- STEP. -/
def IsoCfg.step (c : IsoCfg) : Nat := c.fbDeadline / (2 * c.h)
/-- Children of the member. -/
def IsoCfg.children (c : IsoCfg) : Nat := min c.arity (c.count - (c.arity * c.index + 1))
/-- Sum of the indices of all members. -/
def IsoCfg.idxAll (c : IsoCfg) : Nat := (c.count * (c.count - 1) / 2) % 2 ^ 32

/-! ### Small operations -/

/-- Change the engine. -/
def Dev.updIso (d : Dev) (f : Iso → Iso) : Dev := { d with iso := f d.iso }

/-- Send a message (R336). -/
def Dev.isoSend (d : Dev) (m dest : Nat) (reduce : Bool) : Dev :=
  d.send (.fabTx m dest reduce (d.rd ISOBAR.FAB_CLASS_CLASS))

/-- STATUS.STATE code (R352). -/
def IsoSt.code : IsoSt → Nat
  | .off => 0 | .wait => 1 | .run => 2 | .hold => 3 | .degraded => 4 | .departed => 5

/-- A change of state raises ISOBAR_STATE (R332). -/
def Dev.isoGo (d : Dev) (st : IsoSt) : Dev :=
  if d.iso.st == st then d else (d.updIso (fun i => { i with st := st })).ev Ev.ISOBAR_STATE st.code

/-- A NOTICE event of the page, at most once per BUDGET tick (R344). -/
def Dev.isoNotice (d : Dev) (c : Code) (param : Nat) : Dev :=
  if d.iso.sent.contains c.loc then d else (d.updIso (fun i => { i with sent := insertAsc c.loc i.sent })).ev c param

/-- Bits 31:0 of the beat index. -/
def Dev.b32 (d : Dev) : Nat := d.tick.b % 2 ^ 32

/-- Signed distance from bits 31:0 of the beat in progress to `e`. -/
def Dev.beatDiff (d : Dev) (e : Nat) : Int := signedOf 32 ((e + 2 ^ 32 - d.b32) % 2 ^ 32)

/-- The engine takes part in rounds and drops (R337, R341). -/
def IsoSt.active : IsoSt → Bool
  | .run => true
  | .hold => true
  | .degraded => true
  | _ => false

/-- An aborted round disturbs the rise history (R337). -/
def Dev.isoDisturb (d : Dev) : Dev := d.updIso (fun i => { i with clean := 0 })

/-- RISE_OK of the member (R337). -/
def Dev.isoRise (d : Dev) : Bool := decide (d.iso.clean ≥ 16 * d.iso.cfg.rise)

/-- Abandon every round in flight; a probe that is abandoned has not succeeded (R350). -/
def Dev.isoAbandon (d : Dev) : Dev :=
  let d := if d.iso.probe.isSome then d.wr ISOBAR.PROBE_RUN 0 else d
  d.updIso (fun i => { i with round := none, sum := none, probe := none, aggMin := none, aggSum := none })

/-! ### Apply (R330, R331) -/

/-- The staged set. -/
def Dev.isoStaged (d : Dev) : IsoCfg :=
  { join := d.on ISOBAR.CTRL_JOIN, tolerant := d.on ISOBAR.CTRL_POLICY, group := d.rd ISOBAR.GROUP_ID,
    epoch := d.rd ISOBAR.EPOCH_COUNT_EPOCH, count := d.rd ISOBAR.EPOCH_COUNT_COUNT, index := d.rd ISOBAR.INDEX_INDEX,
    rise := d.rd ISOBAR.ROUND_CFG_RISE_SLOTS, fbDeadline := d.rd ISOBAR.ROUND_CFG_FB_DEADLINE,
    arity := d.rd ISOBAR.ROUND_CFG_FB_ARITY, deadline := d.rd ISOBAR.ROUND_CFG_DEADLINE,
    margin := d.rd ISOBAR.DROP_CFG_MARGIN, holdoff := d.rd ISOBAR.DROP_CFG_HOLDOFF, late := d.rd ISOBAR.DROP_CFG_LATE,
    lead := d.rd ISOBAR.DROP_CFG_LEAD, red := d.rd ISOBAR.RED_ADDR_ADDR, bcast := d.rd ISOBAR.BCAST_ADDR_ADDR,
    parent := d.rd ISOBAR.PARENT_ADDR_ADDR, child := (upto 16).map (fun k => d.rd ISOBAR.CHILD_ADDR_ADDR 0 k) }

/-- R330: a write of APPLY_CTRL.GO = 1 is refused. -/
def Dev.applyRefused (d : Dev) : Bool :=
  let at_ := d.rd ISOBAR.APPLY_BEAT
  let ahead := d.beatDiff at_
  let c := d.isoStaged
  at_ % 128 != 0 || decide (ahead < 32) || decide (ahead > 2 ^ 30) || d.iso.apply.isSome
    || (c.join && (decide (c.count < 1) || decide (c.count > 16384) || decide (c.index ≥ c.count)))
    || decide (c.lead + c.late > 15)

/-- ISOBAR_APPLY_GO (R330): the staged set is scheduled. -/
def Dev.applyGo (d : Dev) : Dev :=
  if d.applyRefused then d else let at_ := d.rd ISOBAR.APPLY_BEAT; d.updIso (fun i => { i with apply := some at_ })

/-- R331: the staged set takes effect. -/
def Dev.isoTake (d : Dev) : Dev :=
  let was := d.iso.cfg.join
  let c := d.isoStaged
  let d := d.isoAbandon.updIso (fun i => { i with
    cfg := c, apply := none, pend := [], clean := 0, misrun := 0, partRun := (0, 0, 0), idxExp := c.idxAll,
    comb := false, combPend := false, checkBad := false, back := .run })
  let d := ((d.wr ISOBAR.EXPECT_EXPECT c.count).wr ISOBAR.EXPECT_ABSENT_N 0).wr ISOBAR.ABSENT_LAST 0xFFFF
  let d := if c.join == was then d else { d with gov := { d.gov with agreed := 0xFFFF } }
  if d.iso.st == .departed then d
  else d.isoGo (if !c.join then .off else if d.tick.align == .aligned then .run else .wait)

/-- ISOBAR_APPLY (R331): at the strobe of the apply beat. -/
def Dev.isoApply (d : Dev) : Dev := if d.iso.apply == some d.b32 then d.isoTake else d

/-- R332: the scheduler leaves ALIGNED. -/
def Dev.isoUnalign (d : Dev) : Dev :=
  if d.iso.st.active then
    let back := d.iso.st
    (d.isoAbandon.updIso (fun i => { i with pend := [], clean := 0, back := back })).isoGo .wait
  else d

/-! ### Drops (R341 to R343) -/

/-- A lowering of AGREED (R343). -/
def Dev.isoLower (d : Dev) (key : Nat) (round late : Bool) : Dev :=
  if keyCeil key < d.gov.agreed then
    let d := { d with gov := { d.gov with agreed := keyCeil key } }
    let d := (d.bump ISOBAR.THROTTLE_COUNT).wr ISOBAR.LAST_DROP_CEIL (keyCeil key)
    let d := (d.wr ISOBAR.LAST_DROP_ORIGIN (keyIdx key)).wr ISOBAR.DROP_INFO_CAUSE (keyCause key)
    (d.wr ISOBAR.DROP_INFO_ROUND (bnat round)).wr ISOBAR.DROP_INFO_LATE (bnat late)
  else d

/-- A drop is adopted (R342). -/
def Dev.isoAdopt (d : Dev) (key : Nat) (late : Bool) : Dev :=
  let b := d.tick.b
  (d.updIso (fun i => { i with clean := 0, dropAt := some b })).isoLower key false late

/-- Enter a drop in the ring: the least KEY of its beat (R342). -/
def ringPut (e key : Nat) : List (Nat × Nat) → List (Nat × Nat)
  | [] => [(e, key)]
  | (a, k) :: r => if a == e then (a, min k key) :: r else (a, k) :: ringPut e key r

/-- R342: a valid SQUALL latched at this strobe. -/
def Dev.isoSquall (d : Dev) (m : Nat) : Dev :=
  let key := msgKey m
  let e := msgNum m 0x18 4
  let ahead := d.beatDiff e
  if d.iso.st == .wait then d.isoAdopt key false
  else if ahead > 15 then d.bump ISOBAR.ERR2_RX_BAD
  else if ahead > 0 then
    let b := d.tick.b
    d.updIso (fun i => { i with ring := ringPut e key i.ring, dropAt := some b })
  else if ahead ≥ -((d.iso.cfg.late : Nat) : Int) then d.isoAdopt key true
  else d.bump ISOBAR.ERR2_LATE_RX

/-- The ring's entry of this beat is adopted; entries of other beats than the next 15 leave the ring. -/
def Dev.isoRing (d : Dev) : Dev :=
  let now := d.iso.ring.filter (fun (x : Nat × Nat) => d.beatDiff x.1 == 0)
  let later := d.iso.ring.filter (fun (x : Nat × Nat) => decide (0 < d.beatDiff x.1) && decide (d.beatDiff x.1 ≤ 15))
  now.foldl (fun d (x : Nat × Nat) => d.isoAdopt x.2 false) (d.updIso (fun i => { i with ring := later }))

/-- KEY of the member's own ceiling `ceil` with its cause (R334). -/
def Dev.isoKey (d : Dev) (ceil cause : Nat) : Nat := putAt ceil 48 + putAt d.iso.cfg.index 32 + cause

/-- R341: the member's own drop. -/
def Dev.isoDrop (d : Dev) : Dev :=
  let c := d.iso.cfg
  let base := d.iso.ring.foldl (fun m (x : Nat × Nat) => min m (keyCeil x.2)) d.gov.agreed
  let held := match d.iso.sqAt with
    | some a => decide (d.tick.mono - a < c.holdoff)
    | none => false
  if decide (d.gov.cLocal + c.margin ≤ base) && !held then
    let key := d.isoKey d.gov.cLocal d.gov.cCause
    let e := (d.b32 + c.lead) % 2 ^ 32
    let mono := d.tick.mono
    let d := d.isoSend (isoMsg c 3 0 d.b32 (key + putAt e 64)) c.bcast false
    let d := d.updIso (fun i => { i with clean := 0, sqAt := some mono, ring := ringPut e key i.ring })
    d.bump ISOBAR.DROPS_SENT_COUNT
  else d

/-! ### Results (R338 to R346) -/

/-- R348: member combining is selected from the next beat with b mod 128 = 0. -/
def Dev.isoFallback (d : Dev) : Dev :=
  if d.iso.comb || d.iso.combPend then d
  else (d.updIso (fun i => { i with combPend := true })).isoNotice Ev.ISOBAR_FALLBACK 0

/-- The engine enters ISO_HOLD under STRICT (R345), from ISO_WAIT once the scheduler is ALIGNED again. -/
def Dev.isoAbsent (d : Dev) : Dev :=
  if d.iso.cfg.tolerant then d
  else if d.iso.st == .run then d.isoGo .hold
  else if d.iso.st == .wait && d.iso.back == .run then d.updIso (fun i => { i with back := .hold })
  else d

/-- R345: the missing members are absent. -/
def Dev.isoMissing (d : Dev) (contrib idx : Nat) : Dev :=
  let ex := d.rd ISOBAR.EXPECT_EXPECT
  let n := ex - contrib
  let d := d.wr ISOBAR.EXPECT_ABSENT_N (satAdd 16 (d.rd ISOBAR.EXPECT_ABSENT_N) n)
  let d := d.wr ISOBAR.ABSENT_LAST (if n == 1 then (d.iso.idxExp + 2 ^ 32 - idx) % 2 ^ 32 else 0xFFFF)
  let d := d.ev Ev.ISOBAR_ABSENT 0
  if d.iso.cfg.tolerant then
    (d.wr ISOBAR.EXPECT_EXPECT contrib).updIso (fun i => { i with idxExp := idx })
  else d.isoAbsent

/-- The absence check fails (R338, R345). -/
def Dev.isoPartial (d : Dev) (m : Nat) : Bool :=
  let contrib := msgNum m 0x20 4
  let ex := d.rd ISOBAR.EXPECT_EXPECT
  !(decide (ex < contrib) && decide (contrib ≤ d.iso.cfg.count)) && (msgFlag m 1 || contrib != ex)

/-- A partial MIN result (R344, R345). -/
def Dev.isoPartialRun (d : Dev) (m : Nat) : Dev :=
  let contrib := msgNum m 0x20 4
  let idx := msgNum m 0x24 4
  let r := d.iso.partRun
  let n := if r.1 != 0 && r.2.1 == contrib && r.2.2 == idx then r.1 + 1 else 1
  let d := d.updIso (fun i => { i with partRun := (min 9 n, contrib, idx) })
  let d := ((d.bump ISOBAR.ERR1_PARTIALS).isoNotice Ev.ISOBAR_PARTIAL 0).isoDisturb
  if n == 8 then d.isoMissing contrib idx else d

/-- R345: a result with contributions above EXPECT, which passes the absence check. -/
def Dev.isoReturned (d : Dev) (m : Nat) : Dev :=
  let contrib := msgNum m 0x20 4
  let idx := msgNum m 0x24 4
  let ex := d.rd ISOBAR.EXPECT_EXPECT
  if contrib > ex then
      ((d.wr ISOBAR.EXPECT_EXPECT contrib).wr ISOBAR.EXPECT_ABSENT_N
        (d.rd ISOBAR.EXPECT_ABSENT_N - (contrib - ex))).updIso (fun i => { i with idxExp := idx })
        |>.ev Ev.ISOBAR_RETURNED 0
    else d

/-- R345: ISO_HOLD lasts until a result with CONTRIB = COUNT is latched. -/
def Dev.isoHoldEnd (d : Dev) (m : Nat) : Dev :=
  if d.iso.st == .hold && msgNum m 0x20 4 == d.iso.cfg.count then (d.wr ISOBAR.EXPECT_ABSENT_N 0).isoGo .run else d

/-- A result counts as a mismatch (R336, R344). -/
def Dev.isoMisCount (d : Dev) (op : Nat) : Dev := (d.bump ISOBAR.ERR0_MISMATCHES).isoNotice Ev.ISOBAR_MISMATCH op

/-- The match check fails and the round aborts (R344, R346). -/
def Dev.isoMismatch (d : Dev) (op : Nat) : Dev :=
  let n := min 3 (d.iso.misrun + 1)
  let d := ((d.updIso (fun i => { i with misrun := n })).isoMisCount op).isoDisturb
  if n ≥ 3 && (d.iso.st == .run || d.iso.st == .hold) then (d.isoGo .degraded).ev Ev.ISOBAR_DEGRADED 0 else d

/-- NO_SLOT (R344, R348). -/
def Dev.isoNoSlot (d : Dev) : Dev :=
  (((d.bump ISOBAR.PROBE_NOSLOTS).isoNotice Ev.ISOBAR_NO_SLOT 0).isoDisturb).isoFallback

/-- R339: a result of the following round with CHECK = 0 cancels the pending result of the round before, `prev`. -/
def Dev.isoDispute (d : Dev) (prev : Option Nat) (m : Nat) : Dev :=
  if msgNum m 0x1A 2 == 0 && d.iso.pend.any (fun (p : IsoPend) => some p.s == prev && decide (d.tick.b < p.at_)) then
    ((d.updIso (fun i => { i with pend := i.pend.filter (fun (p : IsoPend) => some p.s != prev) })).bump
      ISOBAR.ERR1_CHECKS).ev Ev.ISOBAR_CHECK_BAD 3
  else d

/-- The bound and argmin checks (R338). -/
def Dev.isoBoundBad (d : Dev) (ceil key : Nat) : Bool :=
  decide (keyCeil key > ceil) || (keyIdx key == d.iso.cfg.index && keyCeil key != ceil)

/-- R339: a MIN result that passed every check. -/
def Dev.isoPass (d : Dev) (s m : Nat) : Dev :=
  let key := msgKey m
  let at_ := s + (if d.iso.comb then 256 else 32)
  let p : IsoPend := ⟨s, at_, key, msgNum m 0x18 2 == 1, msgNum m 0x1C 2⟩
  let d := d.updIso (fun i => { i with pend := i.pend ++ [p], checkBad := false, partRun := (0, 0, 0) })
  let d := ((d.wr ISOBAR.LAST_RES_CEIL (keyCeil key)).wr ISOBAR.LAST_RES_ARGMIN (keyIdx key)).wr
    ISOBAR.LAST_RES_INFO_CAUSE (keyCause key)
  d.wr ISOBAR.LAST_RES_INFO_CONTRIB (msgNum m 0x20 4)

/-- Deadline of a round in beats (R338, R348). -/
def Dev.isoDeadline (d : Dev) : Nat := if d.iso.comb then d.iso.cfg.fbDeadline else d.iso.cfg.deadline

/-- The MIN result of the round in flight (R338, R344). -/
def Dev.isoMinResult (d : Dev) (r : IsoRound) (m : Nat) : Dev :=
  let own := isoMsg d.iso.cfg 1 0 r.s 0
  let bad := msgFlag m 3 || msgFlag m 2 || decide (matchBits m ≠ matchBits own) || d.isoPartial m || d.isoBoundBad r.ceil (msgKey m)
  let d := d.sample 0x0B 0 (if bad then ((d.isoDeadline + 1 : Nat) : Int) else (d.tick.b : Int) - r.s)
  let d := d.updIso (fun i => { i with round := none, aggMin := none, checkBad := false })
  let broken := d.updIso (fun i => { i with partRun := (0, 0, 0) })
  if msgFlag m 3 then broken.isoNoSlot
  else if msgFlag m 2 || decide (matchBits m ≠ matchBits own) then broken.isoMismatch 1
  else
    let d := ((d.updIso (fun i => { i with misrun := 0 })).isoDispute r.prev m).isoHoldEnd m
    if d.isoPartial m then d.isoPartialRun m
    else if d.isoBoundBad r.ceil (msgKey m) then
      ((((d.isoReturned m).updIso (fun i => { i with checkBad := true, partRun := (0, 0, 0) })).bump ISOBAR.ERR1_CHECKS).ev
        Ev.ISOBAR_CHECK_BAD 1).isoDisturb
    else (d.isoReturned m).isoPass r.s m

/-- The SUM result of the round in flight (R340). -/
def Dev.isoSumResult (d : Dev) (r : IsoRound) (m : Nat) : Dev :=
  let own := isoMsg d.iso.cfg 2 0 r.s 0
  let d := d.updIso (fun i => { i with sum := none, aggSum := none })
  if msgFlag m 3 then d.isoNoSlot
  else if msgFlag m 2 || decide (matchBits m ≠ matchBits own) then d.isoMismatch 2
  else
    let d := d.updIso (fun i => { i with misrun := 0 })
    let e := msgNum m 0x10 8
    if e % 3 != msgNum m 0x18 4 % 3 then
      ((d.bump ISOBAR.ERR1_CHECKS).ev Ev.ISOBAR_CHECK_BAD 2).isoDisturb
    else
      let d := (d.wr ISOBAR.JOB_ENERGY_LO_ENERGY (e % 2 ^ 32)).wr ISOBAR.JOB_ENERGY_HI_ENERGY (e / 2 ^ 32)
      (d.wr ISOBAR.JOB_INFO_PARTIAL (bnat (msgFlag m 1))).wr ISOBAR.JOB_INFO_CONTRIB (msgNum m 0x20 4)

/-- The result of the probe in flight (R350). One with MISMATCH or other match fields counts as a mismatch (R336), NO_SLOT
prevailing; a probe is no round, so R346 does not count it (DEDUCED, log entry 105). -/
def Dev.isoProbeResult (d : Dev) (r : IsoRound) (m : Nat) : Dev :=
  let own := isoMsg d.iso.cfg 4 0 r.s 0
  let d := d.updIso (fun i => { i with probe := none })
  let good := msgNum m 9 1 == 1 && decide (matchBits m = matchBits own)
    && msgNum m 0x20 4 == d.rd ISOBAR.EXPECT_EXPECT
  let d := if msgFlag m 3 then (d.bump ISOBAR.PROBE_NOSLOTS).isoNotice Ev.ISOBAR_NO_SLOT 0
    else if msgFlag m 2 || decide (matchBits m ≠ matchBits own) then d.isoMisCount 4
    else d
  if good then d.bump ISOBAR.PROBE_RUN else d.wr ISOBAR.PROBE_RUN 0

/-- The round in flight that a result answers, if any: with the same ROUND, or with MISMATCH set. -/
def resultFor (r : Option IsoRound) (m : Nat) : Option IsoRound :=
  match r with
  | some x => if msgRound m == x.s % 2 ^ 32 || msgFlag m 2 || msgNum m 0x0A 2 != msgDigest m then some x else none
  | none => none

/-- A result is latched (R338): late without a round in flight that it answers. -/
def Dev.isoResult (d : Dev) (m : Nat) : Dev :=
  let late := d.bump ISOBAR.ERR2_LATE_RX
  if msgOp m == 1 then
    match resultFor d.iso.round m with | some r => d.isoMinResult r m | none => late
  else if msgOp m == 2 then
    match resultFor d.iso.sum m with | some r => d.isoSumResult r m | none => late
  else if msgOp m == 4 then
    match resultFor d.iso.probe m with | some r => d.isoProbeResult r m | none => late
  else d.bump ISOBAR.ERR2_RX_BAD

/-- A valid DEPART is latched (R347). -/
def Dev.isoDepart (d : Dev) (m : Nat) : Dev :=
  let idx := keyIdx (msgKey m)
  let d := d.wr ISOBAR.EXPECT_ABSENT_N (satAdd 16 (d.rd ISOBAR.EXPECT_ABSENT_N) 1)
  let d := (d.wr ISOBAR.ABSENT_LAST idx).wr ISOBAR.EXPECT_EXPECT (d.rd ISOBAR.EXPECT_EXPECT - 1)
  ((d.updIso (fun i => { i with idxExp := (i.idxExp + 2 ^ 32 - idx) % 2 ^ 32 })).ev Ev.ISOBAR_ABSENT 1).isoAbsent

/-- ISOBAR_RESULT_APPLY (R339, R350): the pending results whose strobe this is. -/
def Dev.isoPendApply (d : Dev) : Dev :=
  let due := d.iso.pend.filter (fun (p : IsoPend) => decide (p.at_ ≤ d.tick.b))
  let d := d.updIso (fun i => { i with pend := i.pend.filter (fun (p : IsoPend) => decide (d.tick.b < p.at_)) })
  due.foldl (fun d (p : IsoPend) =>
    if d.iso.st != .run then d else
    let d := d.bump ISOBAR.ROUNDS_COUNT
    let c := keyCeil p.key
    let still := match d.iso.dropAt with
      | some a => decide (a ≤ p.s)
      | none => true
    let d := if c < d.gov.agreed then d.isoLower p.key true false
      else if decide (c > d.gov.agreed) && p.rise && still then { d with gov := { d.gov with agreed := c } }
      else d
    if d.iso.comb && decide (p.probes ≥ 64) then
      (d.isoAbandon.updIso (fun i => { i with comb := false, combPend := false })).ev Ev.ISOBAR_SWITCH_BACK 0
    else d) d

/-- A round ends without a result (R344). -/
def Dev.isoAbort (d : Dev) : Dev :=
  ((d.bump ISOBAR.ERR0_TIMEOUTS).isoNotice Ev.ISOBAR_TIMEOUT 0).isoDisturb

/-- The MIN round in flight has missed its deadline (R344). -/
def Dev.isoMinLate (d : Dev) : Dev :=
  ((d.sample 0x0B 0 (d.isoDeadline + 1 : Nat)).updIso (fun i =>
    { i with round := none, aggMin := none, checkBad := false })).isoAbort

/-- The SUM round in flight has missed its deadline (R340, R344). -/
def Dev.isoSumLate (d : Dev) : Dev := (d.updIso (fun i => { i with sum := none, aggSum := none })).isoAbort

/-- ISOBAR_TIMEOUT (R338, R350): rounds and probes whose deadline strobe this is, in task 0x09 (R82). -/
def Dev.isoTimeout (d : Dev) : Dev :=
  if d.iso.st == .off || d.iso.st == .departed then d else
  let late (r : Option IsoRound) (n : Nat) : Bool := match r with | some x => decide (x.s + n ≤ d.tick.b) | none => false
  let n := d.isoDeadline
  let ls := late d.iso.sum n
  let lp := late d.iso.probe d.iso.cfg.deadline
  let d := if late d.iso.round n then d.isoMinLate else d
  let d := if ls then d.isoSumLate else d
  if lp then (d.updIso (fun i => { i with probe := none })).wr ISOBAR.PROBE_RUN 0 else d

/-! ### Member combining (R349) -/

/-- The aggregate of two messages under the rules of R334 and R335. -/
def combine (a b : Nat) : Nat :=
  let flags := msgByte a 9 ||| msgByte b 9
    ||| (if matchBits a = matchBits b then 0 else 4)
  let head := bitsAt a 0 72 + putAt flags 72 + putAt (bitsAt a 80 48) 80
  let mn (k n : Nat) : Nat := putAt (min (msgNum a k n) (msgNum b k n)) (8 * k)
  let sm (k n : Nat) : Nat := putAt ((msgNum a k n + msgNum b k n) % 2 ^ (8 * n)) (8 * k)
  if msgOp a == 2 then head + sm 0x10 8 + sm 0x18 4 + sm 0x20 4 + sm 0x24 4
  else head + mn 0x10 8 + mn 0x18 2 + mn 0x1A 2 + mn 0x1C 2 + sm 0x20 4 + sm 0x24 4

/-- A message with FLAGS bit `k` set. -/
def withFlag (m k : Nat) : Nat := if msgFlag m k then m else m + putAt 1 (72 + k)

/-- Send a message to every child (R349); ISO_WAIT sends nothing (R332). -/
def Dev.toChildren (d : Dev) (m : Nat) : Dev :=
  if !d.iso.st.active then d else
  (upto d.iso.cfg.children).foldl (fun d k => d.isoSend m (d.iso.cfg.child.getD k 0) false) d

/-- A result formed by member 0, or received from the parent, waits for the next strobe; it goes on to the children. -/
def Dev.fbResult (d : Dev) (m : Nat) : Dev := (d.toChildren m).updIso (fun i => { i with rx := i.rx ++ [m] })

/-- Send the aggregate on: upward, or for member 0 as the result (R349). -/
def Dev.fbEmit (d : Dev) (a : IsoAgg) : Dev :=
  let m := if a.got.length < d.iso.cfg.children then withFlag a.msg 1 else a.msg
  if d.iso.cfg.index == 0 then d.fbResult (withFlag m 0) else d.isoSend m d.iso.cfg.parent false

/-- Put the aggregate of an OP back. -/
def Dev.setAgg (d : Dev) (op : Nat) (a : IsoAgg) : Dev :=
  d.updIso (fun i => if op == 2 then { i with aggSum := some a } else { i with aggMin := some a })

/-- The aggregate is sent once every child has delivered (R349). -/
def Dev.fbTry (d : Dev) (op : Nat) (a : IsoAgg) : Dev :=
  if !a.sent && decide (a.got.length ≥ d.iso.cfg.children) then (d.setAgg op { a with sent := true }).fbEmit a
  else d.setAgg op a

/-- A child's contribution (R349). -/
def Dev.fbChild (d : Dev) (k m : Nat) : Dev :=
  match (if msgOp m == 2 then d.iso.aggSum else d.iso.aggMin) with
  | some a =>
    if a.sent || a.got.contains k || msgRound m != a.s % 2 ^ 32 then d.bump ISOBAR.ERR2_LATE_RX
    else d.fbTry (msgOp m) { a with msg := combine a.msg m, got := insertAsc k a.got }
  | none => d.bump ISOBAR.ERR2_LATE_RX

/-- ISOBAR_FB_SEND (R349): at the strobe of s + STEP × (H − h) the aggregate goes on as it stands. -/
def Dev.fbSend (d : Dev) : Dev :=
  let c := d.iso.cfg
  let due (a : IsoAgg) : Bool := !a.sent && decide (a.s + c.step * (c.h - c.depth) ≤ d.tick.b)
  let d := match d.iso.aggMin with
    | some a => if due a then (d.setAgg 1 { a with sent := true }).fbEmit a else d
    | none => d
  match d.iso.aggSum with
  | some a => if due a then (d.setAgg 2 { a with sent := true }).fbEmit a else d
  | none => d

/-! ### ISOBAR_MESSAGE (R336) -/

/-- Number of the child with fabric address `src`, if any. -/
def IsoCfg.childOf (c : IsoCfg) (src : Nat) : Option Nat := (upto c.children).find? (fun k => c.child.getD k 0 == src)

/-- A message for the next strobe. -/
def Dev.isoQueue (d : Dev) (m : Nat) : Dev := d.updIso (fun i => { i with rx := i.rx ++ [m] })

/-- A valid message from the parent or a child in switch reduction selects member combining (R348). -/
def Dev.isoTreeMsg (d : Dev) (src m : Nat) : Dev :=
  let c := d.iso.cfg
  if msgValid c m && ((c.index != 0 && src == c.parent) || (c.childOf src).isSome) then d.isoFallback else d

/-- ISOBAR_MESSAGE: a fabric message is received, validated and handled or kept for the next strobe. In member combining a
result that does not come from the parent is nobody's: it counts as a mismatch where R336 says so, else as late (DEDUCED, log
entry 105). -/
def Dev.isoMessage (d : Dev) (src m : Nat) : Dev :=
  let c := d.iso.cfg
  if d.iso.st == .off || d.iso.st == .departed then
    if msgValid c m || msgFlag m 0 then d else d.bump ISOBAR.ERR2_RX_BAD
  else if msgFlag m 0 then
    if d.iso.comb && (msgOp m == 1 || msgOp m == 2) then
      if src == c.parent && c.index != 0 then d.fbResult m
      else if msgFlag m 2 || !msgValid c m then d.isoMisCount (msgOp m)
      else d.bump ISOBAR.ERR2_LATE_RX
    else (d.isoTreeMsg src m).isoQueue m
  else if !msgValid c m then d.bump ISOBAR.ERR2_RX_BAD
  else if msgOp m == 3 || msgOp m == 5 then (d.isoTreeMsg src m).isoQueue m
  else if d.iso.comb then
    match c.childOf src with
    | some k => if msgOp m == 4 then d.bump ISOBAR.ERR2_RX_BAD else d.fbChild k m
    | none => d.bump ISOBAR.ERR2_RX_BAD
  else if (c.childOf src).isSome || (c.index != 0 && src == c.parent) then d.isoTreeMsg src m
  else d.bump ISOBAR.ERR2_RX_BAD

/-! ### The beat (R338, R339, R341, R342, R351) -/

/-- The messages latched at a strobe: DEPART first, then SQUALL, then results (R351). -/
def Dev.isoLatch (d : Dev) : Dev :=
  let rx := d.iso.rx
  let d := d.updIso (fun i => { i with rx := [] })
  let pick (op : Nat) : List Nat := rx.filter (fun m => !msgFlag m 0 && msgOp m == op)
  let d := (pick 5).foldl (fun d m => if d.iso.st.active || d.iso.st == .wait then d.isoDepart m else d) d
  let d := (pick 3).foldl (fun d m => d.isoSquall m) d
  (rx.filter (fun m => msgFlag m 0)).foldl (fun d m => d.isoResult m) d

/-- The engine's part of a beat strobe. -/
def Dev.isoBeat (d : Dev) : Dev :=
  let d := if d.tick.align == .aligned then d else d.isoUnalign
  let d := d.isoApply
  let d := d.updIso (fun i => { i with clean := if i.st == .run then min 4080 (i.clean + 1) else 0 })
  if d.iso.st == .off || d.iso.st == .departed then d.updIso (fun i => { i with rx := [] })
  else
    let d := d.isoLatch.isoRing.isoPendApply
    let d := if d.iso.st.active then d.isoDrop else d
    if d.iso.comb then d.fbSend else d

/-! ### The slot (R337, R340, R348 to R350) -/

/-- The member's MIN contribution for a round that starts at this slot. -/
def Dev.isoMin (d : Dev) : Nat :=
  let probes := if d.iso.comb then d.rd ISOBAR.PROBE_RUN else 0
  isoMsg d.iso.cfg 1 0 d.tick.b
    (minPayload (d.isoKey d.iso.ceil d.iso.cause) (bnat d.isoRise) (bnat (!d.iso.checkBad)) probes 1 d.iso.cfg.index)

/-- The member's SUM contribution (R340). -/
def Dev.isoSum (d : Dev) (energy : Nat) : Nat :=
  isoMsg d.iso.cfg 2 0 d.tick.b (sumPayload energy (energy % 3) 1 d.iso.cfg.index)

/-- A contribution goes out: to the switch, or into the member's aggregate. -/
def Dev.isoContribute (d : Dev) (op m : Nat) : Dev :=
  let r : IsoRound := ⟨d.tick.b, d.iso.ceil, d.iso.last⟩
  let d := d.updIso (fun i => if op == 2 then { i with sum := some r } else { i with round := some r, last := some r.s })
  let d := if op == 1 then d.wr ISOBAR.CEIL_SENT d.iso.ceil else d
  if d.iso.comb then d.fbTry op ⟨d.tick.b, m, [], false⟩ else d.isoSend m d.iso.cfg.red true

/-- A member that is the whole group takes its own contribution as the result at once (R349). -/
def Dev.isoAlone (d : Dev) : Dev :=
  if d.iso.comb && d.iso.cfg.count == 1 then
    let rx := d.iso.rx
    rx.foldl (fun d m => if msgFlag m 0 then d.isoResult m else d.isoQueue m) (d.updIso (fun i => { i with rx := [] }))
  else d

/-- R350: a PROBE at every slot start. -/
def Dev.isoProbe (d : Dev) : Dev :=
  if d.iso.comb then
    let m := isoMsg d.iso.cfg 4 0 d.tick.b (minPayload (2 ^ 64 - 1) (bnat d.isoRise) (bnat (!d.iso.checkBad))
      (d.rd ISOBAR.PROBE_RUN) 1 d.iso.cfg.index)
    (d.updIso (fun i => { i with probe := some ⟨d.tick.b, 0xFFFF, none⟩ })).isoSend m d.iso.cfg.red true
  else d

/-- The start of a slot: ISO_RUN after ISO_WAIT, and the change to member combining (R332, R348). -/
def Dev.isoSlotStart (d : Dev) : Dev :=
  let d := if d.iso.st == .wait && d.tick.align == .aligned then d.isoGo d.iso.back else d
  if d.iso.combPend && d.tick.b % 128 == 0 then
    (d.isoAbandon.updIso (fun i => { i with comb := true, combPend := false })).wr ISOBAR.PROBE_RUN 0
  else d

/-- A round starts at this slot: every slot in switch reduction, every b mod 128 = 0 in member combining. -/
def Dev.isoRoundStart (d : Dev) : Bool := if d.iso.comb then d.tick.b % 128 == 0 else !d.iso.combPend

/-- ISOBAR_SLOT (R337): the slot of this beat. `energy` is the member's energy of the BUDGET interval. -/
def Dev.isoSlot (d : Dev) (energy : Nat) : Dev :=
  if !d.tick.isoDue then d else
  let held := d.tick.missed.contains 0x20
  let d := { d with tick := { d.tick with isoDue := false, missed := d.tick.missed.filter (· != 0x20) } }
  let d := d.isoSlotStart
  let sum := d.iso.sumDue
  let d := if d.isoRoundStart then d.updIso (fun i => { i with sumDue := false }) else d
  if held || !d.iso.st.active then d else
  let d := if d.isoRoundStart then
      let d := d.isoContribute 1 d.isoMin
      if sum then d.isoContribute 2 (d.isoSum energy) else d
    else d
  d.isoProbe.isoAlone

/-! ### Squall, BUDGET, GT_VALID -/

/-- R347: the member's own Squall. A block that is no member has no group to tell (R332: ISO_OFF sends nothing). -/
def Dev.isoOwnSquall (d : Dev) : Dev :=
  if d.iso.st == .departed then d
  else
    let c := d.iso.cfg
    let key := putAt 0xFFFF 48 + putAt c.index 32 + 0xFF
    let d := if d.iso.st == .off then d else d.isoSend (isoMsg c 5 0 d.b32 key) c.bcast false
    (d.isoAbandon.updIso (fun i => { i with pend := [], rx := [] })).isoGo .departed

/-- At a BUDGET grid point a SUM contribution falls due (R340). -/
def Dev.isoSumDue (d : Dev) : Dev := d.updIso (fun i => { i with sumDue := true })

/-- The part of a BUDGET tick: the once-per-tick events start again (R344). -/
def Dev.isoBudget (d : Dev) : Dev := d.updIso (fun i => { i with sent := [] })

/-- TICK_OVERRUN of task 0x21 (R84, R344): the rounds in combining are treated as having missed their deadline. -/
def Dev.isoOverrun (d : Dev) : Dev :=
  if d.iso.comb then
    let d := if d.iso.round.isSome then d.isoMinLate else d
    if d.iso.sum.isSome then d.isoSumLate else d
  else d

end Sys2Proof.Machine
end

