-- ==== Sys2Proof/Machine/Drizzle.lean ====
section
/-!
DEFINITION. Machine/Drizzle.lean: activity counts, load swings and barrier filler (spec/15_drizzle.md).
-/
namespace Sys2Proof.Machine

/-! ### Activity counts (R56, R244, R375) -/

/-- ACTIVITY_COUNTS: the 16 counts of channel `c` for the beat just ended. With `late` they arrive after cycle 360, and
the previous counts stay in use (R375). -/
def Dev.activityCounts (d : Dev) (c : Nat) (late : Bool) (counts : List Nat) : Dev :=
  if late || decide (c ≥ d.bld.creditCh) then d else
  let cnt := (upto 16).foldl (fun l k => putPad 0 (counts.getD k 0 % 65536) (16 * c + k) l) d.act.cnt
  { d with act := { d.act with cnt := cnt, got := insertAsc c d.act.got } }

/-- LEDGER_EST_LATE (R375), once per BUDGET tick and channel. -/
def Dev.estLate (d : Dev) (c : Nat) : Dev :=
  let d := d.bump LEDGER.EST_LATE_COUNT
  if d.act.sent.contains c then d
  else ({ d with act := { d.act with sent := insertAsc c d.act.sent } }).ev Ev.LEDGER_EST_LATE c

/-- Cycle 360: the counts of the beat just ended are latched; the channels that have not arrived are late. -/
def Dev.actLatch (d : Dev) : Dev :=
  let late := (upto d.bld.creditCh).filter (fun c => !d.act.got.contains c)
  let d := { d with act := { d.act with late := late, got := [] } }
  late.foldl (fun d c => d.estLate c) d

/-! ### Waiting flags (R354, R355) -/

/-- The cores a token names: CORE, or the present cores of its cluster (R259). -/
def Dev.tokCores (d : Dev) (w : Nat) : List Nat :=
  if tokCluster w then
    ((upto 16).map (fun k => 16 * (tokCore w / 16) + k)).filter (fun c => decide (c < d.bld.cores))
  else [tokCore w]

/-- Insert a flag in ascending core order. -/
def flagPut (f : DzFlag) : List DzFlag → List DzFlag
  | [] => [f]
  | a :: r => if f.core < a.core then f :: a :: r else if f.core == a.core then { a with idle := a.idle && f.idle } :: r
    else a :: flagPut f r

/-- Set the flag of a core. -/
def Dev.flagSet (d : Dev) (c : Nat) (idle : Bool) : Dev :=
  { d with dz := { d.dz with flags := flagPut ⟨c, idle, d.tick.mono⟩ d.dz.flags } }

/-- Clear the flag of a core (R354). Its idle beats count anew after the next idle detection, so that the flag stays clear for
IDLE.BEATS beats (R355; DEDUCED, log entry 85). -/
def Dev.flagClear (d : Dev) (c : Nat) : Dev :=
  if d.dz.flags.any (fun f => f.core == c) then
    { d with dz := { d.dz with
      flags := d.dz.flags.filter (fun f => f.core != c), quiet := modAt d.dz.quiet c (fun _ => 0),
      cleared := insertAsc c d.dz.cleared } }
  else d

/-- The flag of a core is set. -/
def Dev.waitingFlag (d : Dev) (c : Nat) : Bool := d.dz.flags.any (fun f => f.core == c)

/-- Change the cluster of channel `c`. -/
def Dev.updCl (d : Dev) (c : Nat) (f : DzCl → DzCl) : Dev := { d with dz := { d.dz with cl := modAt d.dz.cl c f } }

/-- The cluster of channel `c`. -/
def Dev.cl (d : Dev) (c : Nat) : DzCl := d.dz.cl.getD c {}

/-- JOB_BEGIN ends a preramp of the cluster, one that is pending too (R362). -/
def Dev.preEnd (d : Dev) (c : Nat) : Dev :=
  let d := { d with dz := { d.dz with pre := d.dz.pre.map (fun (p : PreRamp) =>
    if bitAt p.mask c then { p with mask := p.mask - 2 ^ c } else p) } }
  d.updCl c (fun x => if x.st == .pre then { x with st := .run } else x)

/-- A retired marker acts on the flags (R268, R354). -/
def Dev.dzMarker (d : Dev) (w : Nat) : Dev :=
  let cs := d.tokCores w
  if tokClass w == 2 then cs.foldl (fun d c => d.flagSet c false) d
  else if tokClass w == 3 then cs.foldl (fun d c => d.flagClear c) d
  else if tokClass w == 7 then (cs.foldl (fun d c => d.flagClear c) d).preEnd (tokCore w / 16)
  else d

/-- DRIZZLE_WAIT_EXPIRED (R354): flags set for WAIT_MAX ms clear. -/
def Dev.waitExpire (d : Dev) (c : Nat) : Dev :=
  match d.dz.flags.find? (fun f => f.core == c) with
  | some f =>
    if d.tick.mono - f.at_ ≥ 1000 * d.rd DRIZZLE.DZ_WAIT_MAX then
      let d := d.flagClear c
      if d.dz.sent then d
      else ({ d with dz := { d.dz with sent := true } }).ev Ev.DRIZZLE_WAIT_EXPIRED c
    else d
  | none => d

/-- DRIZZLE_IDLE_SET (R355): a core idle for IDLE.BEATS beats. -/
def Dev.idleSet (d : Dev) (c : Nat) : Dev :=
  if d.on DRIZZLE.CTRL_IDLE_EN && decide (c < d.bld.cores) && decide (d.dz.quiet.getD c 0 ≥ d.rd DRIZZLE.IDLE_BEATS)
      && !d.waitingFlag c then d.flagSet c true
  else d

/-- Idle detection of a beat (R355); the beat does not count for a core whose flag R354 has cleared. -/
def Dev.idleScan (d : Dev) : Dev :=
  let lim := d.rd DRIZZLE.IDLE_COUNT
  let busy (c : Nat) : Bool := decide (d.act.cnt.getD c 0 > lim)
  let zero (c : Nat) : Bool := busy c || d.dz.cleared.contains c
  let d := { d with dz := { d.dz with flags := d.dz.flags.filter (fun f => !(f.idle && busy f.core)), cleared := [] } }
  if d.on DRIZZLE.CTRL_IDLE_EN then
    let q := (upto d.bld.cores).map (fun c => if zero c then 0 else min 255 (d.dz.quiet.getD c 0 + 1))
    (upto d.bld.cores).foldl (fun d c => d.idleSet c) { d with dz := { d.dz with quiet := q } }
  else { d with dz := { d.dz with quiet := [] } }

/-! ### Envelope and rate (R356 to R359) -/

/-- The active cores of cluster `c`. -/
def Dev.clCores (d : Dev) (c : Nat) : List Nat :=
  ((upto 16).map (fun k => 16 * c + k)).filter (fun x => d.coreActive x)

/-- The per-beat step of the envelope (R357). -/
def Dev.dzStep (d : Dev) : Nat := max 1 (65536 / (1000 * max 1 d.gov.set.fillMs))

/-- The real share a_c (R356), for ACT.FULL above 0. -/
def Dev.realShare (d : Dev) (c : Nat) : Nat :=
  let cs := d.clCores c
  let full := d.rd DRIZZLE.ACT_FULL
  let q := if cs.isEmpty then Config.shareNoCore c d.tick.mono
    else 65536 * sumN (cs.map (fun x => d.act.cnt.getD x 0)) / (cs.length * full)
  min 65536 q - 256 * (d.cl c).prev

/-- Some active core of the cluster has a limit bubble ratio above 0: the rate does not rise (R359). -/
def Dev.clHeld (d : Dev) (c : Nat) : Bool := (d.clCores c).any (fun x => decide (d.gov.limB.getD x 0 > 0))

/-- The state and envelope of a cluster after the update of R358 and R361. -/
def DzCl.next (x : DzCl) (off held : Bool) (w step level : Nat) : DzCl :=
  if off then { x with e := 0, st := .run }
  else if x.st == .pre then { x with e := min (256 * level) (if held then x.e else x.e + step) }
  else if decide (w > 0) && x.st == .run then { x with st := .fill, e := max x.e x.h }
  else if w > 0 then { x with e := x.e - step }
  else { x with st := .run, e := x.e - step }

/-- The filler rate (R358, R359) before the hold. -/
def Dev.fillWant (d : Dev) (c w n : Nat) (e : Nat) : Nat :=
  let t := if n == 0 then 0 else min 255 ((e * w / n + 128) / 256)
  let full := d.rd DRIZZLE.CL_CFG_FULL_UNITS 0 c
  let g := if full == 0 then 0 else 256 * d.fillerUnits c / full
  min t (g + d.rd DRIZZLE.CTRL_HEAD)

/-- E falls from an earlier wait after the update `y` of `x` (R358, R366). -/
def DzCl.falls (x y : DzCl) : Bool := y.st == .run && decide (y.e > 0) && (x.st == .fill || (x.fall && x.st == .run))

/-- Task 0x06 for the cluster of channel `c`. While E still falls from an earlier wait, h is held (R366). -/
def Dev.clBeat (d : Dev) (c : Nat) : Dev :=
  let x := d.cl c
  let cs := d.clCores c
  let n := cs.length
  let w := (cs.filter (fun k => d.waitingFlag k)).length
  let held := d.clHeld c
  let off := d.sqActive || !d.on DRIZZLE.CTRL_EN || d.rd DRIZZLE.CL_CFG_FULL_UNITS 0 c == 0
  let a := d.realShare c
  let h := if d.rd DRIZZLE.ACT_FULL == 0 then 0
    else if w == 0 && !x.fall && x.st == .run && !d.act.late.contains c then a else x.h
  let level := match d.dz.pre with | some p => p.level | none => 0
  let y := ({ x with h := h }).next off held w d.dzStep level
  let want := d.fillWant c (if y.st == .pre then n else w) n y.e
  let fill := if off then 0 else if held then min want x.fill else want
  let d := if x.st == .run && y.st == .fill then d.bump DRIZZLE.ENTRIES_COUNT else d
  let d := if fill > 0 then d.bump DRIZZLE.FILL_BEATS_COUNT else d
  let d := if held && decide (fill < want) && !off then d.bump DRIZZLE.HELD_COUNT else d
  d.updCl c (fun _ => { y with w := w, prev := x.fill, fill := fill, fall := x.falls y })

/-! ### Preramp (R361, R362) -/

/-- k of R361 for a LEVEL. -/
def Dev.preBeats (d : Dev) (level : Nat) : Nat := ceilDiv (256 * level) d.dzStep

/-- R361: a write of GO = 1 with this LEVEL is refused. -/
def Dev.preRefused (d : Dev) (level : Nat) : Bool :=
  let ahead := d.beatDiff (d.rd DRIZZLE.PRERAMP_BEAT)
  d.dz.pre.isSome || level == 0 || decide (ahead < ((d.preBeats level + 2 : Nat) : Int)) || decide (ahead > 2 ^ 30)

/-- PRERAMP_GO (R361): the preramp is scheduled, LEVEL and HOLD_MS of the same word already written. -/
def Dev.preGo (d : Dev) : Dev :=
  let b := d.rd DRIZZLE.PRERAMP_BEAT
  let p : PreRamp := ⟨(b + 2 ^ 32 - d.preBeats (d.rd DRIZZLE.PRERAMP_CTRL_LEVEL) % 2 ^ 32) % 2 ^ 32, b, d.rd DRIZZLE.PRERAMP_CTRL_LEVEL, d.rd DRIZZLE.PRERAMP_MASK_CH,
    d.rd DRIZZLE.PRERAMP_CTRL_HOLD_MS, false, false, 0⟩
  { d with dz := { d.dz with pre := some p } }

/-- PRERAMP_START (R361): at beat BEAT - k the masked clusters enter DZ_PRE. -/
def Dev.preStart (d : Dev) : Dev :=
  match d.dz.pre with
  | some p =>
    if !p.running && decide (d.beatDiff p.start ≤ 0) then
      let d := { d with dz := { d.dz with pre := some { p with running := true } } }
      (upto d.dz.cl.length).foldl (fun d c => if bitAt p.mask c then d.updCl c (fun x => { x with st := .pre }) else d) d
    else d
  | none => d

/-- DRIZZLE_PRERAMP_DONE (R361): beat BEAT. -/
def Dev.preDone (d : Dev) : Dev :=
  match d.dz.pre with
  | some p =>
    if p.running && !p.done && decide (d.beatDiff p.beat ≤ 0) then
      ({ d with dz := { d.dz with pre := some { p with done := true, doneAt := d.tick.mono } } }).ev
        Ev.DRIZZLE_PRERAMP_DONE 0
    else d
  | none => d

/-- A cluster lapses: DZ_FILL with the flags of its active cores set (R362). -/
def Dev.lapseCl (d : Dev) (c : Nat) : Dev :=
  let d := (d.clCores c).foldl (fun d x => d.flagSet x false) d
  ((d.updCl c (fun x => { x with st := .fill })).bump DRIZZLE.ENTRIES_COUNT).ev Ev.DRIZZLE_PRERAMP_LAPSED c

/-- DRIZZLE_PRERAMP_LAPSED (R362): HOLD_MS after BEAT the clusters still in DZ_PRE lapse. -/
def Dev.preLapse (d : Dev) : Dev :=
  match d.dz.pre with
  | some p =>
    if p.done && decide (d.tick.mono - p.doneAt ≥ 1000 * p.holdMs) then
      (upto d.dz.cl.length).foldl (fun d c => if (d.cl c).st == .pre then d.lapseCl c else d) d
    else d
  | none => d

/-- The preramp ends once BEAT has come and no cluster is left in DZ_PRE. -/
def Dev.preOver (d : Dev) : Dev :=
  match d.dz.pre with
  | some p => if p.done && !(d.dz.cl.any (fun (x : DzCl) => x.st == .pre)) then { d with dz := { d.dz with pre := none } } else d
  | none => d

/-- Task 0x06 of a beat (R354 to R361). -/
def Dev.dzBeat (d : Dev) : Dev :=
  let d := (if d.sqActive then { d with dz := { d.dz with pre := none } } else d).preStart
  let d := d.hint.retired.foldl (fun d t => d.dzMarker t.w) d
  let d := (d.idleScan).preDone
  (upto d.dz.cl.length).foldl (fun d c => d.clBeat c) d

/-- A beat whose task 0x06 misses its window goes on driving FILL, so the FILL of the beat before is the same (R83, R356,
R364). -/
def Dev.dzHeld (d : Dev) : Dev :=
  { d with dz := { d.dz with cl := d.dz.cl.map (fun (x : DzCl) => { x with prev := x.fill }) } }

/-- The timers of Drizzle in task 0x09 (R354, R362). -/
def Dev.dzTimers (d : Dev) : Dev :=
  (((d.dz.flags.map (·.core)).foldl (fun d c => d.waitExpire c) d).preLapse).preOver

/-- A Squall: FILL 0, E 0, preramp abandoned, flags kept (R359, R366). -/
def Dev.dzSquall (d : Dev) : Dev :=
  { d with dz := { d.dz with
    pre := none, cl := d.dz.cl.map (fun (x : DzCl) => { x with st := .run, e := 0, fill := 0, fall := false }) } }

end Sys2Proof.Machine
end

