-- ==== Sys2Proof/Machine/Nv.lean ====
section
/-!
DEFINITION. Machine/Nv.lean: the ordinary requests of the NV port (R50 to R52, R441, R461).
-/
namespace Sys2Proof.Machine

/-- Order of presentation: the Warden's own requests and life records, then the Barograph mirror, then the Steward's
(R441, R461). -/
def NvSrc.rank : NvSrc → Nat
  | .mirror => 1
  | .stw => 2
  | _ => 0

/-- Insert a request behind those of its rank. -/
def nvInsert (r : NvReq) : List NvReq → List NvReq
  | [] => [r]
  | x :: l => if x.src.rank ≤ r.src.rank then x :: nvInsert r l else r :: x :: l

/-- Present the next request when none waits for acceptance, no critical record does, and fewer than 8 are outstanding. -/
def Dev.nvPump (d : Dev) : Dev :=
  match d.nv.pres, d.nv.wait with
  | none, r :: l =>
    if d.nv.block || decide (d.nv.out.length + bnat d.nv.critOut ≥ 8) then d
    else ({ d with nv := { d.nv with pres := some r, wait := l } }).send (.nvReq r.write false r.idx r.data)
  | _, _ => d

/-- Ask for a request. -/
def Dev.nvAsk (d : Dev) (r : NvReq) : Dev := ({ d with nv := { d.nv with wait := nvInsert r d.nv.wait } }).nvPump

/-- NV_REQUEST_ACCEPT for an ordinary request. -/
def Dev.nvAccept (d : Dev) : Dev :=
  match d.nv.pres with
  | none => d
  | some r => ({ d with nv := { d.nv with pres := none, out := d.nv.out ++ [r] } }).nvPump

end Sys2Proof.Machine
end

