-- ==== Sys2Proof/Machine/State.lean ====
section
/-!
DEFINITION. Machine/State.lean: the state of the block, as plain data, and its state after reset.
-/
namespace Sys2Proof.Machine

/-- Why a step stops. -/
inductive Fault where
  /-- Raised by the meanings of MEM_READ_DATA, MEM_WRITE_DONE, NV_RESPONSE, CRIT_RECORD_RESPONSE and NV_REQUEST_ACCEPT when
  nothing they answer is outstanding: the surroundings have left their requirement, and R6 does not define what the block
  does then. Safe: the model stops where the hardware may do anything. The text names the requirement. -/
  | unsolicited (rule : String)
  deriving DecidableEq, Repr

/-- Why a command has no meaning. -/
inductive Refusal where
  /-- Raised by no meaning of this model; kept for an arm that has none. Safe. -/
  | notModelled (mnemonic : String)
  deriving DecidableEq, Repr

/-- A posted always-on write that has not completed (R101). -/
inductive AonWrite where
  /-- MBOX.WAKE of MB_HS (2) or MB_WS (5) (R413) -/
  | wake (m v : Nat)
  /-- a write of an RS register that only the block sets: posted, and it changes nothing (R98, R101) -/
  | nothing
  /-- LOAD_PCC.GO: operating seconds and power-cycle count (R461) -/
  | load (secs pcc : Nat)
  deriving DecidableEq, Repr, Inhabited

/-- PD_AON (R450): cleared by a COLD reset only. -/
structure Aon where
  /-- RESET_CAUSE.LAST (R117); COLD reset 0x1 -/
  last : Nat := 1
  /-- RESET_CAUSE.COUNT (R117); COLD reset 0 -/
  count : Nat := 0
  /-- the Squall latch and the critical record (R322 to R326); COLD reset clear -/
  squall : Squall := {}
  /-- INPUTS.COOLANT: the coolant filter acts (R322); COLD reset 0 -/
  coolant : Bool := false
  /-- INPUTS.PROCHOT: the PROCHOT_N filter acts (R221); COLD reset 0 -/
  prochot : Bool := false
  /-- WAKE of MB_HS (R413, R429); COLD reset 0 -/
  wakeHS : Bool := false
  /-- WAKE of MB_WS; COLD reset 0 -/
  wakeWS : Bool := false
  /-- operating seconds, 40 bits (R461); COLD reset 0 -/
  secs : Nat := 0
  /-- power-cycle count, 24 bits (R461); COLD reset 0 -/
  pcc : Nat := 0
  /-- OPSEC_HI.LOADED (R461); COLD reset 0 -/
  loaded : Bool := false
  /-- the seconds counter has reached a multiple of 3,600 and the life record is not yet asked for (R461); COLD reset false -/
  hour : Bool := false
  /-- posted writes that have not completed, with their page, oldest first (R101); COLD reset empty -/
  posted : List (Nat × AonWrite) := []
  deriving DecidableEq, Repr, Inhabited

/-- The common headers and the event ring (R94 to R97, R109, R110). -/
structure Hdr where
  /-- the event ring, head first, at most 32 (R110); reset empty -/
  ring : List Event := []
  /-- EVT_STATUS.LOST (R110); reset 0 -/
  lost : Nat := 0
  /-- PAGE_FAULT by page, listed where not zero (R96); reset 0 -/
  fault : List (Nat × Nat) := []
  /-- PAGE_FAULT_EN by page (R97); reset 0 -/
  en : List (Nat × Nat) := []
  /-- PAGE_IRQ_ROUTE bits 4:0 by page (R97); reset 0 -/
  route : List (Nat × Nat) := []
  deriving DecidableEq, Repr, Inhabited

/-- The state of the block. -/
structure State where
  /-- commands waiting, first in first out; the model's own field; reset empty -/
  pending : List Instr := []
  /-- the always-on domain -/
  aon : Aon := {}
  /-- headers and event ring -/
  hdr : Hdr := {}
  /-- instruments selected through the test network (R70, R71), ascending: 0 BLOCK_ID, 1 MBIST, 2 PL_LOOP, 3 RING_LOOP;
  reset empty -/
  test : List Nat := []
  /-- uses of the test instruments, the argument of a free value; the model's own field; reset 0 DESIGN CHOICE 0 -/
  testUse : Nat := 0
  /-- the core domain, the control cores and the satellites -/
  dev : Dev := {}
  deriving DecidableEq, Repr, Inhabited

/-- Pages that own a memory, and are not READY until it is wiped (R455): 0x04 is the Warden side of FW, 0x104 its
Steward side. -/
def memPages : List Nat := [0x03, 0x04, 0x12, 0x14, 0x15, 0x16, 0x17, 0x1B, 0x1D, 0x1E, 0x104]

/-- The core domain right after the release of a reset, for a build (R452, R455). -/
def Dev.fresh (b : Build) : Dev :=
  { bld := b
    phases := List.replicate b.phases {}
    rails := List.replicate b.rails {}
    sats := List.replicate b.dsMap.length {}
    doms := List.replicate b.domains {}
    credit := { pools := List.replicate b.rails {} }
    therm := { ts := List.replicate (sumN b.segs) {}, segs := List.replicate b.segs.length {},
               zones := List.replicate 32 {}, xt := List.replicate b.xts {} }
    dz := { cl := List.replicate b.creditCh {} }
    wiping := memPages }
where
  sumN : List Nat → Nat
    | [] => 0
    | a :: r => a + sumN r

/-- The reference host (00_scope.md): satellites DS_4c to DS_4c+3 on CD_c, rails 0 to 3 for the core quadrants. -/
def refBuild : Build :=
  { dsMap := (List.range 64).map (fun n => (n / 4, n / 16)), segs := [52, 52, 52, 52] }

/-- The state right after the release of a COLD reset (R450, R452), on the reference host's build. -/
def State.reset : State := { dev := Dev.fresh refBuild }

end Sys2Proof.Machine
end

