-- ==== Sys2Proof/Machine/Settle.lean ====
section
/-!
DEFINITION. Machine/Settle.lean: the Squall sequencer (R322 to R326), and what ends every command: its Squall triggers act,
its samples reach the recorder, its events enter the ring and PAGE_FAULT (R96, R109, R110), and wake events reach the
control cores (R34).
-/
namespace Sys2Proof.Machine

/-- Window `w` of subject `k` is enabled (R448): 0 1 s, 1 1 min, 2 1 h. -/
def Dev.winOn (d : Dev) (k w : Nat) : Bool :=
  if w == 0 then d.on BARO.SUBJ_CFG_W1S 0 k else if w == 1 then d.on BARO.SUBJ_CFG_W1M 0 k else d.on BARO.SUBJ_CFG_W1H 0 k

/-! ### Squall -/

/-- The windows that S0 falls into carry the Squall (R434): every open window of every subject that was not written in this
beat (R433). -/
def Dev.squallWins (d : Dev) : List (Nat × BWin) :=
  ((upto 32).filter (fun k => !d.baro.fresh.contains k)).foldl (fun l k =>
    (upto 3).foldl (fun (l : List (Nat × BWin)) w =>
      if d.winOn k w then sparseSet {} (3 * k + w) { sparseGet {} (3 * k + w) l with squall := true } l else l) l) d.baro.wins

/-- What starts at S0 in the core domain (R233, R254, R323, R347, R359, R482): admission ends, runs abort, Isobar departs,
ALERT_N goes to Squall, every bubble lane reads 256 and every STOP is raised while sqActive holds. -/
def Dev.squallEnter (d : Dev) : Dev :=
  let d := { d with
    sqActive := true, nv := { d.nv with block := true },
    baro := { d.baro with wins := d.squallWins } }
  let d := (((d.creditRevoke.tuneAbort 4).calAbort).waveAbort).isoOwnSquall.dzSquall
  d.takeSafety 9 { kind := 3, feat := 7 }

/-- SQUALL_GATE (R323): 1,200 GCLK cycles after S0 every domain is gated. -/
def Dev.squallGate (d : Dev) : Dev :=
  if d.sqActive && !d.sqGated then
    (upto d.doms.length).foldl (fun d m => d.gateDom m) { d with sqGated := true }
  else d

/-- Temperature and T_TRIP of the critical record (R324, offsets 0x24 and 0x26). -/
def Dev.critTemp (d : Dev) (cause param : Nat) : Int × Int :=
  if cause == 1 && param == 0xFF then
    let lim := signedOf 16 (d.rd THERM.HARD_T_HARD_TTRIP)
    let hot := (upto d.therm.ts.length).filter (fun n => decide ((d.therm.sens n).run ≥ 2))
    let m := hot.foldl (fun m n => max m (d.therm.value n)) lim
    (if d.therm.cs.run ≥ 2 then max m d.therm.cs.temp else m, lim)
  else
    let z := if cause == 1 then param else d.hotZone
    ((d.zone z).max_, d.tTrip z)

/-- The first 60 bytes and the CRC of a record. -/
def withCrc (bytes : List Nat) : List Nat := bytes ++ leBytes 4 (crc32c bytes)

/-- The critical record (R324). -/
def State.critBytes (s : State) (cause param trigs seq : Nat) : List Nat :=
  let d := s.dev
  let t := d.critTemp cause param
  withCrc ([0x53, 0x51, 0x43, 0x52] ++ leBytes 4 seq
    ++ leBytes 8 (if s.aon.loaded then s.aon.secs + putAt s.aon.pcc 40 else 0)
    ++ leBytes 8 (if d.tick.align == .aligned then (d.tick.gt + Config.gtSince d.tick.mono % 1011) % 2 ^ 64 else 0)
    ++ leBytes 8 d.tick.b ++ [cause, param] ++ leBytes 2 trigs
    ++ leBytes 2 (unsignedOf 16 t.1) ++ leBytes 2 (unsignedOf 16 t.2) ++ leBytes 2 (min 65535 d.gov.lim.pBeat)
    ++ [d.gov.target % 256, d.gov.mode % 4] ++ (upto 8).flatMap (fun n => leBytes 2 (min 65535 (d.beatI n))))

/-- Bit (cause - 1) of TRIGMASK for each trigger. -/
def trigMask (ts : List (Nat × Nat)) : Nat := ts.foldl (fun m t => m ||| 2 ^ (t.1 - 1)) 0

/-- The trigger with the lowest cause, the first of equals. -/
def firstTrig : List (Nat × Nat) → Nat × Nat
  | [] => (0, 0)
  | [t] => t
  | t :: r => if t.1 ≤ (firstTrig r).1 then t else firstTrig r

/-- The latch is set by the triggers present at S0 and the sequence starts (R322, R323); with the latch set, they add their
TRIGMASK bits and do nothing else. -/
def State.squall (s : State) (ts : List (Nat × Nat)) : State :=
  let q := s.aon.squall
  if q.active then { s with aon := { s.aon with squall := { q with trigs := q.trigs ||| trigMask ts } } }
  else
    let (cause, p) := firstTrig ts
    let param := if cause == 1 || cause == 3 then p else 0
    let ringOk := s.dev.on THERM.CRIT_HEAD_VALID
    let idx := if ringOk then 17408 + s.dev.rd THERM.CRIT_HEAD_SLOT else 17471
    let seq := if ringOk then s.dev.rd THERM.CRIT_SEQ_SEQ else 0
    let bytes := s.critBytes cause param (trigMask ts) seq
    let q := { q with active := true, cause := cause, trigs := trigMask ts, bytes := bytes, idx := idx, st := .waiting,
                      fails := 0 }
    { s with aon := { s.aon with squall := q }, dev := (s.dev.edge.ev Ev.THERM_SQUALL cause).squallEnter }

/-- R32, R325: the latch is set when the core domain leaves reset; credits are revoked as R254 states. -/
def State.squallReenter (s : State) : State :=
  let q := s.aon.squall
  if q.active then
    let q := if q.recDone then { q with st := .none } else { q with st := .waiting, fails := 0 }
    { s with
      aon := { s.aon with squall := q }
      dev := { s.dev with
        sqActive := true, sqGated := true, nv := { s.dev.nv with block := !q.recDone } }.creditRevoke.setOwner 9 { kind := 3, feat := 7 } }
  else s

/-- CRIT_RECORD_PRESENT (R52, R325): no earlier request waits for acceptance, and the record is not the ninth request
outstanding (DESIGN CHOICE, log entry 104). -/
def State.critPresent (s : State) : State :=
  let q := s.aon.squall
  if q.st == .waiting && s.dev.nv.pres.isNone && decide (s.dev.nv.out.length < 8) then
    { s with aon := { s.aon with squall := { q with st := .presented } }, dev := s.dev.send (.nvReq true true q.idx q.bytes) }
  else s

/-- NV_REQUEST_ACCEPT (R52): the critical record or the ordinary request presented. -/
def State.nvAccepted (s : State) : State :=
  let q := s.aon.squall
  if q.st == .presented then
    { s with
      aon := { s.aon with squall := { q with st := .accepted } }
      dev := { s.dev with nv := { s.dev.nv with block := false, critOut := true } }.nvPump }
  else { s with dev := s.dev.nvAccept }

/-- CRIT_RECORD_RESPONSE (R52, R325): an OK advances the head where it is valid. -/
def State.critResponse (s : State) (status : Nat) : State :=
  let q := s.aon.squall
  let d := { s.dev with nv := { s.dev.nv with critOut := false } }
  if status == 0 then
    let d := if d.on THERM.CRIT_HEAD_VALID then
        (d.wr THERM.CRIT_HEAD_SLOT ((d.rd THERM.CRIT_HEAD_SLOT + 1) % 63)).wr THERM.CRIT_SEQ_SEQ (d.rd THERM.CRIT_SEQ_SEQ + 1)
      else d
    { s with aon := { s.aon with squall := { q with st := .none, recDone := true } }, dev := d.nvPump }
  else if q.fails ≥ 2 then
    { s with aon := { s.aon with squall := { q with st := .none, nvFail := true, fails := 3 } },
             dev := (d.ev Ev.THERM_NV_FAIL).nvPump }
  else
    { s with aon := { s.aon with squall := { q with st := .waiting, fails := q.fails + 1 } },
             dev := { d with nv := { d.nv with block := true } } }

/-- THERM_COOLANT (R322): the filter acts, and S0 is that of the command it comes with (R327). -/
def State.coolant (s : State) : State :=
  if s.aon.coolant then s
  else
    let d := s.dev.ev Ev.THERM_COOLANT
    { s with aon := { s.aon with coolant := true }, dev := { d with sqReq := d.sqReq ++ [(2, 0)] } }

/-! ### Events -/

/-- PAGE_FAULT of page `p`. -/
def Hdr.faultOf (h : Hdr) (p : Nat) : Nat := sparseGet 0 p h.fault
/-- PAGE_FAULT_EN of page `p`. -/
def Hdr.enOf (h : Hdr) (p : Nat) : Nat := sparseGet 0 p h.en
/-- PAGE_IRQ_ROUTE of page `p`. -/
def Hdr.routeOf (h : Hdr) (p : Nat) : Nat := sparseGet 0 p h.route

/-- Latch bit `k` of PAGE_FAULT (R96, R109): local codes from 0x20 up enter only the ring. -/
def Hdr.latch (h : Hdr) (p k : Nat) : Hdr :=
  if k < 32 then { h with fault := sparseSet 0 p (h.faultOf p ||| 2 ^ k) h.fault } else h

/-- One event (R110): the ring takes it, or drops it when full, with TOP_EVT_LOST and its own entry dropped too. -/
def Hdr.enter (h : Hdr) (e : Event) : Hdr :=
  let h := h.latch e.page e.loc
  if h.ring.length < 32 then { h with ring := h.ring ++ [e] }
  else ({ h with lost := satAdd 16 h.lost 1 }).latch 0x00 0x01

/-- Events in order. -/
def Hdr.enterAll (h : Hdr) (es : List Event) : Hdr := es.foldl (fun h e => h.enter e) h

/-- The highest severity among set bits below `n` (R94). -/
def faultSev (p f : Nat) : Nat → Nat
  | 0 => 0
  | n + 1 => if bitAt f n then max (codeSev p n) (faultSev p f n) else faultSev p f n

/-- Bits of PAGE_FAULT whose code is FATAL (R96). -/
def fatalMask (p : Nat) : Nat := sumN (((pageCodes p).filter (fun c => c.2 == 4 && decide (c.1 < 32))).map (fun c => 2 ^ c.1))

/-! ### The end of a command -/

/-- The subjects with an enabled window that record a source and instance (R431). -/
def Dev.subjects (d : Dev) (src inst : Nat) : List Nat :=
  (upto 32).filter (fun k => d.rd BARO.SUBJ_CFG_SOURCE 0 k == src && d.rd BARO.SUBJ_CFG_INSTANCE 0 k == inst
    && (d.winOn k 0 || d.winOn k 1 || d.winOn k 2))

/-- The sample is not taken: a droop depth without a value (R431). -/
def sampleLost (x : Nat × Nat × Int) : Bool := x.1 == 6 && decide (x.2.2 < 0)

/-- R432: the event samples of the command that some subject records join those of the beat, at most 64; the rest and those
that are not taken are lost. -/
def Dev.samplesIn (d : Dev) : Dev :=
  if d.smp.isEmpty then d
  else if d.on BARO.CTRL_EN then
    let mine := d.smp.filter (fun x => !(d.subjects x.1 x.2.1).isEmpty)
    let good := mine.filter (fun x => !sampleLost x)
    let room := 64 - d.baro.evs.length
    ({ d with baro := { d.baro with evs := d.baro.evs ++ good.take room }, smp := [] }).bump BARO.LOSTSAMP_COUNT 0 0
      (mine.length - min room good.length)
  else { d with smp := [] }

/-- An event that wakes the Steward (R34): a grant expired, an Isobar state changed (R332). -/
def Event.wakesStw (e : Event) : Bool :=
  (e.page == 0x1A && e.loc == Ev.BUDGET_EXPIRED.loc) || (e.page == 0x18 && e.loc == Ev.ISOBAR_STATE.loc)

/-- The Steward's wake events of the command (R34). -/
def Dev.wakes (d : Dev) : Dev :=
  if d.evd.any Event.wakesStw then d.wakeStw else d

/-- Everything that ends a command. -/
def State.settle (s : State) : State :=
  let ts := s.dev.sqReq
  let s := if ts.isEmpty then s else ({ s with dev := { s.dev with sqReq := [] } }).squall ts
  let d := ((s.dev.edge.samplesIn).wakes).wakeScan s.aon.wakeHS s.aon.wakeWS
  let d := d.edge
  { s with hdr := s.hdr.enterAll d.evd, dev := { d with evd := [], sqReq := [] } }

/-- Change the device of a state. -/
def State.onDev (s : State) (f : Dev → Dev) : State := { s with dev := f s.dev }

/-- A command of the core domain: `f` runs with an empty output list, then the command ends. -/
def State.act (s : State) (f : Dev → Dev) : State := ({ s with dev := f { s.dev with out := [] } }).settle

/-- A command of the whole block. -/
def State.actAll (s : State) (f : State → State) : State :=
  (f { s with dev := { s.dev with out := [] } }).settle

end Sys2Proof.Machine
end

