-- ==== Sys2Proof/Machine/Reset.lean ====
section
/-!
DEFINITION. Machine/Reset.lean: the resets of R450 and R451.
-/
namespace Sys2Proof.Machine

/-- What a reset of the core domain leaves of a droop satellite: the satellite itself, in no domain of R450; what the core
holds about it is cleared. -/
def Sat.afterReset (x : Sat) : Sat :=
  { coarse := x.coarse, cyc := x.cyc, sum := x.sum, last256 := x.last256, lvs := x.lvs, stretch := x.stretch, run := x.run,
    sinceRel := x.sinceRel, slim := x.slim, evt := x.evt, servoDue := x.servoDue, comp := x.comp }

/-- The core domain after a reset (R452, R455): fresh, apart from the satellites and from inputs that hold their level. -/
def Dev.afterReset (d : Dev) (prochot : Bool) : Dev :=
  let n := Dev.fresh d.bld
  { n with
    sats := d.sats.map (fun (x : Sat) => x.afterReset)
    therm := { n.therm with ts := d.therm.ts.map (fun (x : Sens) => ({ powered := x.powered, powerUp := x.powerUp, reg := x.reg, conv := x.conv } : Sens)) }
    bud := { n.bud with alertLow := d.bud.alertLow }
    gov := { n.gov with prochotIn := prochot } }

/-- COLD_RESET (R450, R117): PD_AON and everything else. -/
def State.coldReset (s : State) : State :=
  { s with
    aon := {}
    hdr := {}
    dev := s.dev.afterReset false }

/-- A WARM, BLOCK or life-cycle reset with its cause (R117, R450, R451): PD_AON keeps its contents, and a kept Squall latch
acts (R32). Posted always-on writes that have not completed are lost with the path that posts them. -/
def State.coreReset (s : State) (cause : Nat) : State :=
  ({ s with
    aon := { s.aon with last := cause, count := satAdd 16 s.aon.count 1, posted := [] }
    hdr := {}
    dev := s.dev.afterReset s.aon.prochot }).squallReenter

/-- TEST_DESELECT (R71): an instrument other than BLOCK_ID ends with a BLOCK reset. -/
def State.testDeselect (s : State) (x : Nat) : State :=
  if s.test.contains x then
    let s := { s with test := s.test.filter (fun y => y != x) }
    if x == 0 then s else s.coreReset 4
  else s

/-- LIFE_CYCLE_RESET (R464): a completed transition waits for its reset. -/
def State.lifeCycleReset (s : State) : State := if s.dev.wrd.lcReset then s.coreReset 6 else s

end Sys2Proof.Machine
end

