-- ==== Sys2Proof/Machine/Baro.lean ====
section
/-!
DEFINITION. Machine/Baro.lean: the Barograph recorder (spec/18_barograph.md).
-/
namespace Sys2Proof.Machine

/-- Change the recorder. -/
def Dev.updBaro (d : Dev) (f : Baro → Baro) : Dev := { d with baro := f d.baro }

/-! ### Samples (R431, R432) -/

/-- The sources sampled every beat. -/
def everyBeat (src : Nat) : Bool := src == 1 || src == 2 || src == 3 || src == 8 || src == 9 || src == 0xC

/-- The source exists (R431). -/
def sourceOk (src : Nat) : Bool := decide (1 ≤ src) && decide (src ≤ 0xC)

/-- The every-beat sample of a source and instance for the beat just ended, none for an absent instance. -/
def Dev.beatSample (d : Dev) (src i : Nat) : Option Int :=
  match src with
  | 1 => if i < d.nRails then some (d.beatI i : Int) else none
  | 2 => if i < d.nRails then some (d.beatV i : Int) else none
  | 3 => if i == 0 then some (d.beatP : Int) else none
  | 8 => if i == 0 then some (d.gov.target : Int) else none
  | 9 => if i < d.doms.length then some (maxN ((d.activeCores i).map (fun c => d.bubble c)) : Int) else none
  | 0xC => if i == 0 then some (d.gov.agreed : Int) else none
  | _ => none

/-- The samples of beat `beat` for task 0x08: the every-beat samples by subject, then the event samples. A subject written in
that beat takes none of it (R433). -/
def Dev.baroTake (d : Dev) (beat : Nat) : Dev :=
  if !d.on BARO.CTRL_EN then d.updBaro (fun x => { x with todo := [], evs := [] }) else
  let each := (upto 32).filterMap (fun k =>
    let src := d.rd BARO.SUBJ_CFG_SOURCE 0 k
    if everyBeat src && !d.baro.fresh.contains k then (d.beatSample src (d.rd BARO.SUBJ_CFG_INSTANCE 0 k)).map (fun v => (k, v, beat)) else none)
  let evs := d.baro.evs.flatMap (fun e =>
    ((d.subjects e.1 e.2.1).filter (fun k => !d.baro.fresh.contains k)).map (fun k => (k, e.2.2, beat)))
  d.updBaro (fun x => { x with todo := each ++ evs, evs := [] })

/-- A window with one sample more. -/
def BWin.add (w : BWin) (x : Int) (beat j : Nat) : BWin :=
  let first := w.samples == 0
  let bins := if w.bins.isEmpty then List.replicate 32 0 else w.bins
  { w with
    samples := satAdd 32 w.samples 1
    sum := min (2 ^ 63 - 1) (max (-(2 ^ 63)) (w.sum + x))
    lo := if first then x else min w.lo x
    minAt := if first || decide (x < w.lo) then beat else w.minAt
    hi := if first then x else max w.hi x
    maxAt := if first || decide (x > w.hi) then beat else w.maxAt
    bins := modAt bins j (fun b => satAdd 32 b 1) }

/-- Change window `w` of subject `k`. -/
def Dev.updWin (d : Dev) (k w : Nat) (f : BWin → BWin) : Dev :=
  d.updBaro (fun x => { x with wins := sparseSet {} (3 * k + w) (f (sparseGet {} (3 * k + w) x.wins)) x.wins })

/-- The bin of a sample of subject `k` (R432). -/
def Dev.binOf (d : Dev) (k : Nat) (x : Int) : Nat :=
  let o := signedOf 32 (d.rd BARO.SUBJ_ORG_ORIGIN 0 k)
  (clampI ((x - o) / ((2 ^ d.rd BARO.SUBJ_CFG_SHIFT 0 k : Nat) : Int)) 0 31).toNat

/-- Task 0x08: the samples enter every open window that WIN selects. -/
def Dev.baroFold (d : Dev) : Dev :=
  let todo := d.baro.todo
  let d := d.updBaro (fun x => { x with todo := [] })
  todo.foldl (fun d t =>
    (upto 3).foldl (fun d w => if d.winOn t.1 w then d.updWin t.1 w (fun a => a.add t.2.1 t.2.2 (d.binOf t.1 t.2.1)) else d) d) d

/-- The overrun of task 0x08 (R84, R432): the beat's samples do not enter. -/
def Dev.baroOverrun (d : Dev) : Dev :=
  let d := (d.updBaro (fun x => { x with todo := [] })).bump BARO.LOSTBEATS_COUNT
  (upto 32).foldl (fun d k =>
    if everyBeat (d.rd BARO.SUBJ_CFG_SOURCE 0 k) && !d.baro.fresh.contains k then
      (upto 3).foldl (fun d w => if d.winOn k w then d.updWin k w (fun a => { a with lost := satAdd 32 a.lost 1 }) else d) d
    else d) d

/-- A beat passes in every open window; those of a subject written in it start after it (R433). -/
def Dev.baroCount (d : Dev) : Dev :=
  ((upto 32).filter (fun k => !d.baro.fresh.contains k)).foldl (fun d k =>
    (upto 3).foldl (fun d w => if d.winOn k w then d.updWin k w (fun a => { a with beats := a.beats + 1 }) else d) d) d

/-- The recorder in a beat, before the governor: `beat` is the index of the beat just ended. -/
def Dev.baroBeat (d : Dev) (beat : Nat) : Dev :=
  (((d.baroFold).baroCount).baroTake beat).updBaro (fun x => { x with fresh := [] })

/-- A write to a SUBJ register of subject `k` discards its accumulators, and new ones start at the next beat (R433). -/
def Dev.subjWritten (d : Dev) (k : Nat) : Dev :=
  d.updBaro (fun x => { x with fresh := insertAsc k x.fresh, wins := x.wins.filter (fun w => w.1 / 3 != k), todo := x.todo.filter (fun t => t.1 != k) })

/-! ### The store (R435 to R437) -/

/-- KIND of slot `i`. -/
def Baro.kind (x : Baro) (i : Nat) : Nat := (x.ram.read (256 * i + 4)).toNat
/-- SEV of slot `i`. -/
def Baro.sev (x : Baro) (i : Nat) : Nat := (x.ram.read (256 * i + 5)).toNat % 8
/-- PINNED of slot `i`. -/
def Baro.pinned (x : Baro) (i : Nat) : Bool := bitAt (x.ram.read (256 * i + 5)).toNat 3
/-- SEQ of slot `i`. -/
def Baro.seq (x : Baro) (i : Nat) : Nat := x.ram.readLE (256 * i) 4

/-- Record A (SEQ `a`) is older than B (R436). -/
def older (a b : Nat) : Bool :=
  let k := (b + 2 ^ 32 - a % 2 ^ 32) % 2 ^ 32
  decide (1 ≤ k) && decide (k ≤ 2 ^ 31 - 1)

/-- The oldest of some slots. -/
def Baro.oldest (x : Baro) (l : List Nat) : Option Nat :=
  l.foldl (fun (m : Option Nat) i =>
    match m with
    | none => some i
    | some j => if older (x.seq i) (x.seq j) then some i else some j) none

/-- R437: the slot for a record of a severity, none where it is dropped. -/
def Baro.place (x : Baro) (sev : Nat) : Option Nat :=
  match (upto 2048).find? (fun i => x.kind i == 0) with
  | some i => some i
  | none => x.oldest ((upto 2048).filter (fun i => !x.pinned i && decide (x.sev i ≤ sev)))

/-- Put a record into a slot: the slot is dirty, and a pass that writes it has been overtaken (R441, R442). -/
def Dev.slotPut (d : Dev) (i : Nat) (bytes : List Nat) : Dev :=
  d.updBaro (fun x => { x with
    ram := x.ram.writeBytes (256 * i) bytes, dirty := insertAsc i x.dirty
    pass := x.pass.map (fun (p : BPass) => if p.slot == some i then { p with touched := true } else p) })

/-- Count a dropped record of a severity (R437). -/
def Dev.dropCount (d : Dev) (sev : Nat) : Dev :=
  match sev with
  | 0 => d.bump BARO.DROPS0_INFO
  | 1 => d.bump BARO.DROPS0_NOTICE
  | 2 => d.bump BARO.DROPS1_WARN
  | 3 => d.bump BARO.DROPS1_CRIT
  | _ => d.bump BARO.DROPS2_FATAL

/-- Place a committed record (R437). -/
def Dev.baroPlace (d : Dev) (bytes : List Nat) : Dev :=
  let sev := bytes.getD 5 0 % 8
  match d.baro.place sev with
  | some i => d.slotPut i bytes
  | none =>
    let d := d.dropCount sev
    if d.baro.dropSent then d else (d.updBaro (fun x => { x with dropSent := true })).ev Ev.BARO_DROP sev

/-- Commits wait in the shadow: a freeze, a snapshot, or no restore yet (R439, R440, R443). -/
def Dev.baroHeld (d : Dev) : Bool :=
  d.baro.frz != 0 || d.baro.snap.isSome || !(d.on BARO.STATUS_RESTORED || d.on BARO.STATUS_NO_RESTORE)

/-- The shadow is placed in SEQ order once nothing holds it (R439). -/
def Dev.placeShadow (d : Dev) : Dev :=
  if d.baroHeld then d
  else
    let l := d.baro.shadow
    l.foldl (fun d r => d.baroPlace r) (d.updBaro (fun x => { x with shadow := [] }))

/-! ### The mirror (R441, R442) -/

/-- The NV writes of a slot: a record to the copy of its SEQ's parity, an empty slot as zeros to both. -/
def Baro.mirrorWrites (x : Baro) (i : Nat) : List NvReq :=
  let part (copy j : Nat) : NvReq := ⟨.mirror, true, 8192 * copy + 4 * i + j, x.ram.bytes (256 * i + 64 * j) 64⟩
  if x.kind i == 0 then (upto 4).map (part 0) ++ (upto 4).map (part 1) else (upto 4).map (part (x.seq i % 2))

/-- The pass takes the next dirty slot from `i` up, or has none left. -/
def Dev.passFrom (d : Dev) (i : Nat) : Dev :=
  match d.baro.dirty.find? (fun k => decide (i ≤ k)) with
  | some k =>
    let ws := d.baro.mirrorWrites k
    ws.foldl (fun d w => d.nvAsk w) (d.updBaro (fun x => { x with pass := some ⟨some k, ws.length, true, false, false⟩ }))
  | none => d.updBaro (fun x => { x with pass := some ⟨none, 0, true, false, false⟩ })

/-- A trigger of the mirror (R441): a pass starts, or one more follows the pass that runs. -/
def Dev.mirrorStart (d : Dev) : Dev :=
  if !d.on BARO.STATUS_RESTORED || !d.on BARO.CTRL_MIRROR_EN then d
  else if d.baro.pass.isSome then d.updBaro (fun x => { x with again := true })
  else d.passFrom 0

/-- A mirror write is answered (R442). -/
def Dev.mirrorAnswer (d : Dev) (ok : Bool) : Dev :=
  let d := if ok then d else (d.bump BARO.MIRROR_STAT_ERRORS).ev Ev.BARO_MIRROR_ERR
  match d.baro.pass with
  | none => d
  | some p =>
    match p.slot with
    | none => d
    | some i =>
      let p := { p with left := p.left - 1, ok := p.ok && ok }
      if p.left > 0 then d.updBaro (fun x => { x with pass := some p })
      else
        let d := if p.ok && !p.touched then d.updBaro (fun x => { x with dirty := x.dirty.filter (fun k => k != i) }) else d
        if p.stop then d.updBaro (fun x => { x with pass := some ⟨none, 0, true, false, false⟩ }) else d.passFrom (i + 1)

/-- BARO_MIRROR_DONE (R442): the pass has no slot left. -/
def Dev.mirrorDone (d : Dev) : Dev :=
  match d.baro.pass with
  | none => d
  | some p =>
    if p.slot.isSome then d
    else
      let again := d.baro.again
      let d := d.updBaro (fun x => { x with pass := none, again := false })
      let d := (d.bump BARO.MIRROR_STAT_PASSES).ev Ev.BARO_MIRROR_DONE
      if again then d.mirrorStart else d

/-! ### Commits (R433, R434, R436) -/

/-- A commit: the body, bytes 0x04 to 0xFB, gets its SEQ and CRC and goes to its slot or the shadow (R439). -/
def Dev.baroCommit (d : Dev) (body : List Nat) : Dev :=
  let seq := d.rd BARO.NEXT_SEQ_SEQ
  let bytes := withCrc (leBytes 4 seq ++ body)
  let sev := bytes.getD 5 0 % 8
  let d := (d.wr BARO.NEXT_SEQ_SEQ (seq + 1)).bump BARO.COMMITS_COUNT
  let d :=
    if d.baroHeld then
      if d.baro.shadow.length < 64 then d.updBaro (fun x => { x with shadow := x.shadow ++ [bytes] })
      else
        let d := (d.bump BARO.DROPS2_SHADOW).dropCount sev
        if d.baro.fullSent then d else (d.updBaro (fun x => { x with fullSent := true })).ev Ev.BARO_SHADOW_FULL
    else d.baroPlace bytes
  if sev ≥ 2 then d.mirrorStart.wakeStw else d

/-- Severity of a window record (R434). -/
def Dev.winSev (d : Dev) (k : Nat) (w : BWin) : Nat :=
  let tw := signedOf 32 (d.rd BARO.SUBJ_TW_TW 0 k)
  let tc := signedOf 32 (d.rd BARO.SUBJ_TC_TC 0 k)
  let dir := d.on BARO.SUBJ_CFG_DIR 0 k
  let past (t : Int) : Bool := if dir then decide (w.lo ≤ t) else decide (w.hi ≥ t)
  if w.squall then 4 else if past tc then 3 else if past tw then 2 else d.rd BARO.SUBJ_CFG_BASE 0 k

/-- Length in beats of window `w` (R433). -/
def winLen (w : Nat) : Nat := if w == 0 then 1000000 else if w == 1 then 60000000 else 3600000000

/-- The operating time of R435: seconds in bits 39:0, power-cycle count above; whether it was loaded. -/
structure OpTime where
  v : Nat
  ok : Bool
  deriving DecidableEq, Repr

/-- The body of a window record (R435). -/
def Dev.winBody (d : Dev) (k w : Nat) (a : BWin) (t : OpTime) : List Nat :=
  let sev := d.winSev k a
  let f := sev + putAt (bnat (sev == 4)) 3 + putAt w 4 + putAt (bnat (decide (a.beats < winLen w))) 6 + putAt (bnat t.ok) 7
  [1, f, k, d.rd BARO.SUBJ_CFG_SOURCE 0 k, d.rd BARO.SUBJ_CFG_INSTANCE 0 k, d.rd BARO.SUBJ_CFG_SHIFT 0 k, 0, 0]
    ++ leBytes 4 (d.rd BARO.SUBJ_ORG_ORIGIN 0 k) ++ leBytes 8 t.v ++ leBytes 8 d.tick.b ++ leBytes 4 a.samples
    ++ leBytes 4 a.lost ++ leBytes 4 (unsignedOf 32 a.lo) ++ leBytes 4 (unsignedOf 32 a.hi) ++ leBytes 8 a.minAt
    ++ leBytes 8 a.maxAt ++ leBytes 8 (unsignedOf 64 a.sum) ++ List.replicate 52 0
    ++ (upto 32).flatMap (fun j => leBytes 4 (a.bins.getD j 0))

/-- R433: the windows close at a BUDGET strobe, new accumulators start. -/
def Dev.baroClose (d : Dev) (t : OpTime) : Dev :=
  let was := d.baro.prevB
  let d := (upto 32).foldl (fun d k =>
    (upto 3).foldl (fun d w =>
      if d.winOn k w && d.tick.b / winLen w != was / winLen w then
        let a : BWin := sparseGet {} (3 * k + w) d.baro.wins
        let d := if a.samples > 0 && d.on BARO.CTRL_EN then
            d.updBaro (fun x => { x with due := x.due ++ [d.winBody k w a t] })
          else d
        d.updWin k w (fun _ => {})
      else d) d) d
  d.updBaro (fun x => { x with prevB := d.tick.b })

/-- BARO_WINDOW_CLOSE (R433): task 0x31 commits the records of the closed windows, unless it has been stopped in this
BUDGET tick (R84). -/
def Dev.baroCommits (d : Dev) : Dev :=
  if d.baro.held then d
  else
    let l := d.baro.due
    l.foldl (fun d b => d.baroCommit b) (d.updBaro (fun x => { x with due := [] }))

/-! ### Freeze and snapshot (R438 to R440) -/

/-- The freeze holder code of a path (R448), 0 for a path that cannot hold it. -/
def frzCode : Path → Nat
  | .regPort => 1
  | .steward => 2
  | _ => 0

/-- A write of FREEZE.HOLD = 1 (R439). -/
def Dev.freezeHold (d : Dev) (a : Acc) : Dev :=
  if d.baro.frz == 0 then d.updBaro (fun x => { x with frz := frzCode a.path, frzMs := 0 }) else d

/-- The freeze ends and the shadow is placed. -/
def Dev.freezeEnd (d : Dev) : Dev := (d.updBaro (fun x => { x with frz := 0, frzMs := 0 })).placeShadow

/-- A write of FREEZE.RELEASE = 1 (R439). -/
def Dev.freezeRelease (d : Dev) (a : Acc) : Dev :=
  if d.baro.frz != 0 && d.baro.frz == frzCode a.path then d.freezeEnd else d

/-- BARO_FREEZE_TIMEOUT (R439): the 100th BUDGET strobe after the grant. -/
def Dev.freezeTimeout (d : Dev) : Dev :=
  if d.baro.frz != 0 && decide (d.baro.frzMs ≥ 100) then (d.ev Ev.BARO_FREEZE_TIMEOUT d.baro.frz).freezeEnd else d

/-- SNAP.GO is refused (R440, R485, R489). -/
def Dev.snapRefused (d : Dev) (a : Acc) : Bool := !(d.owns a 0 && (d.owner 0).feat == 3) || d.baro.snap.isSome

/-- BARO_SNAP (R440). -/
def Dev.snapGo (d : Dev) : Dev := d.updBaro (fun x => { x with snap := some (d.rd BARO.SNAP_FIRST, d.rd BARO.SNAP_COUNT) })

/-- BARO_SNAP_DONE (R440): the slots stand in the capture RAM, and the shadow is placed. -/
def Dev.snapDone (d : Dev) : Dev :=
  match d.baro.snap with
  | none => d
  | some (first, count) =>
    let ram := (upto count).foldl (fun m n => m.writeBytes (256 * n) (d.baro.ram.bytes (256 * ((first + n) % 2048)) 256)) d.capRam
    ({ d with capRam := ram }.updBaro (fun x => { x with snap := none })).placeShadow

/-- The shadow is placed where the end of a claim has stopped a snapshot (R440, R483). -/
def Dev.snapStopped (d was : Dev) : Dev := if was.baro.snap.isSome && d.baro.snap.isNone then d.placeShadow else d

/-! ### Restore (R443) -/

/-- BARO_RESTORE_DONE is refused (R443). -/
def Dev.restoreRefused (d : Dev) : Bool := d.on BARO.STATUS_NO_RESTORE || d.on BARO.STATUS_RESTORED

/-- BARO_RESTORE_DONE (R443). -/
def Dev.restoreDone (d : Dev) : Dev :=
  let d := (d.wr BARO.NEXT_SEQ_SEQ (d.rd BARO.RST_SEQ_SEQ)).wr BARO.STATUS_RESTORED 1
  (d.ev Ev.BARO_RESTORED).placeShadow

/-- BARO_NO_RESTORE (R443): one second after READY the recorder starts on an empty store; also where a failed wipe keeps the
page from READY (R475). -/
def Dev.noRestore (d : Dev) : Dev :=
  if (d.wiping.contains 0x1D && !d.wipeBad.contains 0x1D) || d.on BARO.STATUS_RESTORED || d.on BARO.STATUS_NO_RESTORE then d
  else (((d.updBaro (fun x => { x with ram := [], dirty := [] })).wr BARO.STATUS_NO_RESTORE 1).ev Ev.BARO_NO_RESTORE).placeShadow

/-! ### Clearing (R446) -/

/-- A clear of this scope removes slot `i`. -/
def Baro.clears (x : Baro) (sevMax : Nat) (pin : Bool) (i : Nat) : Bool :=
  x.kind i != 0 && decide (x.sev i ≤ sevMax) && (pin || !x.pinned i)

/-- After the clear every slot would be pinned (R445, FAILED 0x4). -/
def Baro.allPinned (x : Baro) (sevMax : Nat) (pin : Bool) : Bool :=
  (upto 2048).all (fun i => x.kind i != 0 && !x.clears sevMax pin i && x.pinned i)

/-- The six DROPS counters as bytes (R446). -/
def Dev.dropBytes (d : Dev) : List Nat :=
  leBytes 2 (d.rd BARO.DROPS0_NOTICE) ++ leBytes 2 (d.rd BARO.DROPS0_INFO) ++ leBytes 2 (d.rd BARO.DROPS1_CRIT)
    ++ leBytes 2 (d.rd BARO.DROPS1_WARN) ++ leBytes 2 (d.rd BARO.DROPS2_FATAL) ++ leBytes 2 (d.rd BARO.DROPS2_SHADOW)

/-- Step 4 of R446: the clear record finds a slot under R437, or over the oldest unpinned record of any severity. -/
def Dev.clearPlace (d : Dev) (bytes : List Nat) : Dev :=
  match d.baro.place 1 with
  | some i => d.slotPut i bytes
  | none =>
    match d.baro.oldest ((upto 2048).filter (fun i => !d.baro.pinned i)) with
    | some i => d.slotPut i bytes
    | none => d

/-- An accepted clear (R446): the scope, the clear key's KEY_ID, the nonce, r and s; answers how many records it removed. -/
def Dev.baroClear (d : Dev) (scope : Nat) (keyId nonce : List Nat) (r s : Nat) (t : OpTime) : Dev × Nat :=
  let sevMax := scope % 8
  let pin := bitAt scope 3
  let d := d.updBaro (fun x => { x with frz := 0, frzMs := 0 })
  let gone := (upto 2048).filter (fun i => d.baro.clears sevMax pin i)
  let per := (upto 5).map (fun v => (gone.filter (fun i => d.baro.sev i == v)).length)
  let drops := d.dropBytes
  let d := gone.foldl (fun d i => d.slotPut i (List.replicate 256 0)) d
  let d := (((((d.wr BARO.DROPS0_INFO 0).wr BARO.DROPS0_NOTICE 0).wr BARO.DROPS1_WARN 0).wr BARO.DROPS1_CRIT 0).wr
    BARO.DROPS2_SHADOW 0).wr BARO.DROPS2_FATAL 0
  let seq := d.rd BARO.NEXT_SEQ_SEQ
  let f := 1 + putAt 1 3 + putAt (bnat t.ok) 7
  let body := [2, f, 0, 0, 0, 0, 0, 0] ++ leBytes 4 0 ++ leBytes 8 t.v ++ leBytes 8 d.tick.b
    ++ per.flatMap (fun n => leBytes 2 n) ++ [scope % 256, 0] ++ drops ++ keyId ++ nonce
    ++ (leBytes 48 r).reverse ++ (leBytes 48 s).reverse ++ List.replicate 60 0
  let d := ((d.wr BARO.NEXT_SEQ_SEQ (seq + 1)).bump BARO.COMMITS_COUNT).clearPlace (withCrc (leBytes 4 seq ++ body))
  let d := d.placeShadow
  let d := match d.baro.pass with
    | some p => d.updBaro (fun x => { x with pass := some { p with stop := true } })
    | none => d
  let d := d.mirrorStart
  ((d.bump BARO.CLEARS_COUNT).ev Ev.BARO_CLEARED (scope % 256), gone.length)

/-! ### BUDGET tick (R433, R439, R441, R449) -/

/-- BARO_MIRROR_PERIOD (R441): MIRROR.PERIOD seconds of BUDGET strobes have passed. -/
def Dev.mirrorPeriod (d : Dev) : Dev :=
  if d.baro.ms ≥ 1000 * d.rd BARO.MIRROR_PERIOD then (d.updBaro (fun x => { x with ms := 0 })).mirrorStart else d

/-- The recorder at a BUDGET strobe: the windows close; task 0x31 takes their records, and work left over, from beat 1 on (R82,
R84). -/
def Dev.baroBudget (d : Dev) (t : OpTime) : Dev :=
  (d.updBaro (fun x => { x with held := false, dropSent := false, fullSent := false })).baroClose t

/-- The recorder's timers in task 0x09 of a BUDGET strobe (R439, R441). -/
def Dev.baroTimers (d : Dev) : Dev :=
  (d.updBaro (fun x => { x with ms := x.ms + 1, frzMs := if x.frz == 0 then 0 else x.frzMs + 1 })).mirrorPeriod.freezeTimeout

end Sys2Proof.Machine
end

