-- ==== Sys2Proof/Machine/Ledger.lean ====
section
/-!
DEFINITION. Machine/Ledger.lean: the MEM port, the activity estimator and the energy ledger
(spec/16_budget_ledger.md R374 to R387, 02_ports.md R47, R48, 04_registers.md R115).
-/
namespace Sys2Proof.Machine

/-- Change the ledger. -/
def Dev.updLed (d : Dev) (f : Ledger → Ledger) : Dev := { d with led := f d.led }

/-- An event of the page raised at most once per BUDGET tick (R400). -/
def Dev.ledOnce (d : Dev) (c : Code) (param : Nat) : Dev :=
  if d.led.sent.contains c.loc then d else (d.updLed (fun l => { l with sent := insertAsc c.loc l.sent })).ev c param

/-! ### The MEM port (R47, R48, R115) -/

/-- The ledger may fetch and write back: the window is valid and the zero-fill does not run (R386). -/
def Dev.memOpen (d : Dev) : Bool := d.on TOP.MEM_WIN_BASE_VALID && !d.led.init

/-- TOP.MEM_WIN_BASE.BUSY: some request is outstanding (R115). -/
def Dev.memBusy (d : Dev) : Bool := !d.memPort.reads.isEmpty || !d.memPort.writes.isEmpty

/-- What goes out for a request. -/
def MemReq.out : MemReq → Out
  | .fetch t => .memRead (32 * t) 32
  | .query t => .memRead (32 * t) 32
  | .mend t => .memRead (32 * t) 32
  | .slot t r _ => .memWrite (32 * t) 32 r
  | .fill k => .memWrite (64 * k) 64 0
  | .spill i x => .memWrite (0x2000000 + 64 * (i % 262144)) 64 x
  | .unspill i => .memRead (0x2000000 + 64 * (i % 262144)) 64

/-- A slot write of the tag is outstanding, or waits in `earlier` (R385). -/
def Dev.slotWrite (d : Dev) (earlier : List MemReq) (t : Nat) : Bool :=
  (d.memPort.writes ++ earlier).any (fun r => match r with | .slot u _ _ => u == t | _ => false)

/-- The request may be issued now, after the `earlier` ones that wait: fewer than 32 of its kind outstanding (R48), and a
read after the write of its slot. -/
def Dev.memReady (d : Dev) (earlier : List MemReq) (r : MemReq) : Bool :=
  if r.isWrite then decide (d.memPort.writes.length < 32)
  else decide (d.memPort.reads.length < 32) &&
    (match r with
     | .fetch t => !d.slotWrite earlier t
     | .query t => !d.slotWrite earlier t
     | .mend t => !d.slotWrite earlier t
     | .unspill i => !(d.memPort.writes ++ earlier).any (fun q => match q with | .spill j _ => j == i | _ => false)
     | _ => true)

/-- The place after the port has accepted a request of a side: a side with nothing waiting passes its turn (R488). -/
def MemPort.turnAfter (p : MemPort) (ledger : Bool) : Nat := if ledger then (if p.turn ≥ 3 then 1 else p.turn + 1) else 0

/-- Issue one request. -/
def Dev.memPut (d : Dev) (r : MemReq) : Dev :=
  let p := { d.memPort with turn := d.memPort.turnAfter r.ledger }
  ({ d with memPort := if r.isWrite then { p with writes := p.writes ++ [r] } else { p with reads := p.reads ++ [r] } }).send
    r.out

/-- Place in `wait` of the oldest request of a side that may be issued. -/
def Dev.memFirst (d : Dev) (ledger : Bool) : Option Nat :=
  (upto d.memPort.wait.length).find? (fun i =>
    let r := d.memPort.wait.getD i default
    r.ledger == ledger && d.memReady (d.memPort.wait.take i) r)

/-- 64 B parts of the ledger region (R47, R386). -/
def fillParts : Nat := 0x2000000 / 64

/-- The ledger's request that the port may accept now: during the zero-fill its next write alone, none standing for it; else the
place in `wait` (R386, R488). -/
def Dev.memLedger (d : Dev) : Option (Option Nat) :=
  if d.led.init then (if d.led.fillAt < fillParts && d.memPort.writes.length < 32 then some none else none)
  else (d.memFirst true).map some

/-- The request that the port accepts next: with both sides waiting three of the ledger, then one of the spill (R488). -/
def Dev.memPick (d : Dev) : Option (Option Nat) :=
  match d.memLedger, (d.memFirst false).map some with
  | some i, some j => some (if d.memPort.turn < 3 then i else j)
  | some i, none => some i
  | none, j => j

/-- Accept at most `n` requests. -/
def memAccept : Nat → Dev → Dev
  | 0, d => d
  | n + 1, d =>
    match d.memPick with
    | some none => memAccept n ((d.updLed (fun l => { l with fillAt := l.fillAt + 1 })).memPut (.fill d.led.fillAt))
    | some (some i) =>
      let w := d.memPort.wait
      memAccept n (({ d with memPort := { d.memPort with wait := w.take i ++ w.drop (i + 1) } }).memPut (w.getD i default))
    | none => d

/-- Issue the requests that are ready, while the window is valid (R115); the zero-fill has at most 32 outstanding. -/
def Dev.memIssue (d : Dev) : Dev :=
  if d.on TOP.MEM_WIN_BASE_VALID then memAccept (d.memPort.wait.length + 32) d else d

/-- Add a request. -/
def Dev.memAsk (d : Dev) (r : MemReq) : Dev :=
  ({ d with memPort := { d.memPort with wait := d.memPort.wait ++ [r] } }).memIssue

/-! ### Lines (R384, R385) -/

/-- The line of a tag. -/
def Dev.line (d : Dev) (t : Nat) : Option Line := d.led.lines.find? (fun x => x.tag == t)

/-- Change the line of a tag. -/
def Dev.updLine (d : Dev) (t : Nat) (f : Line → Line) : Dev :=
  d.updLed (fun l => { l with lines := l.lines.map (fun x => if x.tag == t then f x else x) })

/-- Cores bound to a tag. -/
def Dev.boundTo (d : Dev) (t : Nat) : Nat := (d.led.bind.filter (fun b => b == some t)).length

/-- The line is pinned (R385): a core is bound, the tag is CLOSED or has a closing fetch, tags 0 to 3. -/
def Dev.pinned (d : Dev) (x : Line) : Bool :=
  decide (x.tag < 4) || x.st == .closed || x.fetch || d.led.bind.contains (some x.tag) || d.led.bindPrev.contains (some x.tag)

/-- Tags OPEN or CLOSED (STATUS.TAGS, R376): those with a line and those only in the store. -/
def Dev.ledTags (d : Dev) : Nat :=
  (d.led.lines.filter (fun x => decide (x.tag ≥ 16) && x.st != .free)).length + d.led.away.length

/-- STATE of a record (R384, R387). -/
def TagSt.code : TagSt → Nat
  | .free => 0 | .open_ => 1 | .closed => 2

/-- The 32 B record of a line as a number (R384). -/
def Dev.record (d : Dev) (x : Line) : Nat :=
  x.eCore % 2 ^ 64 + putAt (x.eRest % 2 ^ 64) 64 + putAt (x.openB % 2 ^ 48) 128 + putAt (x.peak % 65536) 176
    + putAt (x.fill / 1024 % 2 ^ 32) 192 + putAt x.st.code 224 + putAt (bnat x.overrun) 226 + putAt (bnat x.alO) 227
    + putAt (min 1023 (d.boundTo x.tag)) 228 + putAt (x.fill % 1024) 238

/-- The line that a fetched record stands for (R384). -/
def lineOf (t rec_ : Nat) : Line :=
  { tag := t, eCore := bitsAt rec_ 0 64, eRest := bitsAt rec_ 64 64, openB := bitsAt rec_ 128 48, peak := bitsAt rec_ 176 16,
    fill := bitsAt rec_ 192 32 * 1024 + bitsAt rec_ 238 10, st := if bitsAt rec_ 224 2 == 1 then .open_ else .free,
    overrun := bitAt rec_ 226, alO := bitAt rec_ 227 }

/-- Lines in use: pinned or dirty (R385, CACHE.USED). -/
def Dev.linesUsed (d : Dev) : Nat := (d.led.lines.filter (fun x => d.pinned x || x.dirty)).length
/-- CACHE.PINNED. -/
def Dev.linesPinned (d : Dev) : Nat := (d.led.lines.filter (fun x => d.pinned x)).length

/-- A line leaves the cache; an OPEN tag stays OPEN in the store. -/
def Dev.dropLine (d : Dev) (x : Line) : Dev :=
  d.updLed (fun l => { l with
    lines := l.lines.filter (fun y => y.tag != x.tag),
    away := if x.st == .open_ then l.away ++ [(x.tag, false)] else l.away })

/-- Make room for one line (R385): a free line, or a dirty unpinned one that is written back. None without room. -/
def Dev.makeRoom (d : Dev) : Option Dev :=
  if d.led.lines.length < 8192 then some d
  else
    match d.led.lines.find? (fun x => !d.pinned x && !x.dirty) with
    | some x => some (d.dropLine x)
    | none =>
      if !d.memOpen then none else
      match d.led.lines.find? (fun x => !d.pinned x) with
      | some x => some ((d.memAsk (.slot x.tag (d.record x) false)).dropLine x)
      | none => none

/-- Add energy to a line: modulo 2^64, in E_CORE or E_REST (R380, R381). -/
def Line.add (x : Line) (core : Bool) (e : Nat) : Line :=
  if e == 0 then x
  else if core then { x with eCore := (x.eCore + e) % 2 ^ 64, dirty := true }
  else { x with eRest := (x.eRest + e) % 2 ^ 64, dirty := true }

/-! ### Bindings (R377 to R379) -/

/-- Bind a core. The number of cores bound is part of a record (R384), so the lines it leaves and joins are dirty. -/
def Dev.bindCore (d : Dev) (c : Nat) (t : Option Nat) : Dev :=
  let old := d.led.bind.getD c none
  if old == t then d
  else d.updLed (fun l => { l with
    bind := putPad none t c l.bind,
    lines := l.lines.map (fun x => if some x.tag == old || some x.tag == t then { x with dirty := true } else x) })

/-- Bind every core of a list. -/
def Dev.bindCores (d : Dev) (cs : List Nat) (t : Nat) : Dev := cs.foldl (fun d c => d.bindCore c (some t)) d

/-- R379: the table is full; the cores of the token go to tag 0. -/
def Dev.bindFull (d : Dev) (cs : List Nat) (why : Nat) : Dev :=
  ((d.bindCores cs 0).bump LEDGER.REFUSED_FULL).ledOnce Ev.STREAM_TABLE_FULL why

/-- R379: the tag is CLOSED. -/
def Dev.bindBusy (d : Dev) (cs : List Nat) : Dev :=
  ((d.bindCores cs 0).bump LEDGER.REFUSED_BUSY).ledOnce Ev.LEDGER_TAG_BUSY (cs.headD 0)

/-- The scheduler is ALIGNED. -/
def Dev.aligned (d : Dev) : Bool := d.tick.align == .aligned

/-- Allocate a line for a tag and bind the cores (R385): fetched while the store can be read, otherwise FREE (R386). -/
def Dev.bindNew (d : Dev) (cs : List Nat) (t : Nat) : Dev :=
  match d.makeRoom with
  | none => d.bindFull cs 1
  | some d =>
    let x : Line := { tag := t, openB := d.tick.b % 2 ^ 48, alO := d.aligned }
    if d.memOpen then
      let d := d.updLed (fun l => { l with lines := l.lines ++ [{ x with fetch := true }] })
      (d.memAsk (.fetch t)).bindCores cs t
    else
      let f := d.updLed (fun l => { l with away := l.away.filter (fun a => a.1 != t) })
      if f.ledTags ≥ d.rd LEDGER.LIMIT_MAX_TAGS then d.bindFull cs 0
      else (f.updLed (fun l => { l with lines := l.lines ++ [{ x with st := .open_, dirty := true }] })).bindCores cs t

/-- The tag of the line is CLOSED, or closes once its fetch completes (R378, R379). -/
def Line.closing (x : Line) : Bool := x.st == .closed || x.endReq.isSome

/-- The tag has ended and waits for a line (R378). -/
def Dev.ending (d : Dev) (t : Nat) : Bool := d.led.ends.any (fun x => x.tag == t)

/-- R377: a retired token binds its cores to tag `t`. -/
def Dev.bindTok (d : Dev) (cs : List Nat) (t : Nat) : Dev :=
  match d.line t with
  | none => if d.ending t then d.bindBusy cs else d.bindNew cs t
  | some x =>
    if x.closing then d.bindBusy cs
    else if x.fetch || x.st == .open_ then d.bindCores cs t
    else if d.ledTags ≥ d.rd LEDGER.LIMIT_MAX_TAGS then d.bindFull cs 0
    else
      let al := d.aligned
      let b := d.tick.b % 2 ^ 48
      (d.updLine t (fun _ => { tag := t, st := .open_, openB := b, alO := al, dirty := true })).bindCores cs t

/-- Unbind every core of a tag (R378); its line is dirty if there were any (R384). -/
def Dev.unbind (d : Dev) (t : Nat) : Dev :=
  let any := d.led.bind.contains (some t)
  (d.updLed (fun l => { l with bind := l.bind.map (fun b => if b == some t then none else b) })).updLine t (fun x =>
    { x with dirty := x.dirty || any })

/-- LEDGER_END_UNKNOWN (R378). -/
def Dev.endUnknown (d : Dev) : Dev := (d.bump LEDGER.ENDS_UNKNOWN).ledOnce Ev.LEDGER_END_UNKNOWN 0

/-- What a close at this beat puts into a line. -/
def Dev.closeMark (d : Dev) (x : Line) (forced : Bool) : Line :=
  { x with forced := forced, closeB := d.tick.b % 2 ^ 48, closeM := d.tick.mono, alC := d.aligned }

/-- A line is CLOSED (R378). -/
def Dev.closeLine (d : Dev) (t : Nat) (forced : Bool) : Dev :=
  let d := if forced then d.bump LEDGER.ENDS_FORCED else d
  (d.unbind t).updLine t (fun x => { d.closeMark x forced with st := .closed, endReq := none })

/-- A line whose close waited for its fetch is CLOSED, at the beat of the close. -/
def Dev.closeFetched (d : Dev) (t : Nat) : Dev :=
  let forced := match d.line t with | some x => x.forced | none => false
  let d := if forced then d.bump LEDGER.ENDS_FORCED else d
  d.updLine t (fun x => { x with st := .closed, endReq := none })

/-- The end of a tag that is OPEN in the store only: its line is fetched to close (R378, R385); without room it waits. -/
def Dev.endAway (d : Dev) (x : Line) : Dev :=
  match d.makeRoom with
  | some d => (d.updLed (fun l => { l with lines := l.lines ++ [x] })).memAsk (.fetch x.tag)
  | none => d.updLed (fun l => { l with ends := l.ends ++ [x] })

/-- The ends that wait for a line are tried again, oldest first. -/
def Dev.retryEnds (d : Dev) : Dev := d.led.ends.foldl (fun d x => d.endAway x) (d.updLed (fun l => { l with ends := [] }))

/-- R378: a STREAM_END or a CLOSE write closes tag `t`. -/
def Dev.closeTag (d : Dev) (t : Nat) (forced : Bool) : Dev :=
  if t < 16 then d.endUnknown else
  match d.line t with
  | some x =>
    if x.st == .open_ then d.closeLine t forced
    else if x.fetch && x.endReq.isNone then (d.unbind t).updLine t (fun x => { d.closeMark x forced with endReq := some forced })
    else d.endUnknown
  | none =>
    if d.led.away.any (fun a => a.1 == t) && d.memOpen && !d.ending t then
      d.endAway (d.closeMark { tag := t, openB := d.tick.b % 2 ^ 48, fetch := true, endReq := some forced } forced)
    else d.endUnknown

/-- A retired token acts on the ledger (R268, R377, R378). -/
def Dev.ledToken (d : Dev) (w : Nat) : Dev :=
  let t := tokTag w
  if tokClass w == 6 then d.closeTag t false
  else if t ≥ 16 then d.bindTok (d.tokCores w) t
  else d

/-- Task 0x03 for the ledger: the bindings of the beat that ended are kept, then CLOSE writes, then tokens (R377, R396). -/
def Dev.ledBeat (d : Dev) : Dev :=
  let cl := d.led.closes
  let d := (d.updLed (fun l => { l with bindPrev := l.bind, closes := [] })).retryEnds
  let d := cl.foldl (fun d t => d.closeTag t true) d
  d.hint.retired.foldl (fun d t => d.ledToken t.w) d

/-! ### Fetches, queries and flushes (R385, R387) -/

/-- Copy a record into QDATA and set VALID and STATE. -/
def Dev.queryPut (d : Dev) (rec_ st : Nat) : Dev :=
  let d := (upto 8).foldl (fun d k => d.wr LEDGER.QDATA_WORD (bitsAt rec_ (32 * k) 32) 0 k) d
  ((d.wr LEDGER.QUERY_VALID 1).wr LEDGER.QUERY_STATE st).updLed (fun l => { l with query := false })

/-- A query of tag `t` waits. -/
def Dev.querying (d : Dev) (t : Nat) : Bool := d.led.query && d.rd LEDGER.QUERY_TAG == t

/-- Something of the flush is still to be written or to be told done. -/
def Dev.flushLeft (d : Dev) : Bool :=
  d.led.lines.any (fun x => x.flush)
    || (d.memPort.writes ++ d.memPort.reads ++ d.memPort.wait).any (fun r => match r with
      | .slot _ _ f => f | .mend _ => true | _ => false)

/-- LEDGER_FLUSH_DONE (R387): the last write-back of a flush has completed. -/
def Dev.flushDone (d : Dev) : Dev :=
  if d.led.flushing && !d.flushLeft then (d.updLed (fun l => { l with flushing := false })).ev Ev.LEDGER_FLUSH_DONE 0 else d

/-- The line of tag `t`, whose fetch has completed, is written back for the flush that waits for it (R387). -/
def Dev.flushLine (d : Dev) (t : Nat) : Dev :=
  match d.line t with
  | some x =>
    if x.flush then
      let d := d.updLine t (fun x => { x with flush := false, dirty := x.dirty && x.st == .closed })
      if x.dirty && x.st != .closed then d.memAsk (.slot t (d.record x) true) else d.flushDone
    else d
  | none => d

/-- The tag cannot open: the line's energy moves to tag 0 and its cores are rebound to tag 0. -/
def Dev.fetchRefused (d : Dev) (x : Line) : Dev :=
  let cs := (upto d.led.bind.length).filter (fun c => d.led.bind.getD c none == some x.tag)
  let d := (d.updLine 0 (fun z => (z.add true x.eCore).add false x.eRest)).bindCores cs 0
  let d := d.updLed (fun l => { l with
    lines := l.lines.filter (fun y => y.tag != x.tag),
    bindPrev := l.bindPrev.map (fun b => if b == some x.tag then some 0 else b) })
  let d := (d.bump LEDGER.REFUSED_FULL).ledOnce Ev.STREAM_TABLE_FULL 0
  (if d.querying x.tag then d.queryPut 0 0 else d).flushDone

/-- The record of a fetched slot arrives for a line (R385). -/
def Dev.fetchDone (d : Dev) (t rec_ : Nat) : Dev :=
  match d.line t with
  | none => d
  | some x =>
    if !x.fetch then d else
    let r := lineOf t rec_
    let missed := d.led.away.any (fun a => a.1 == t && a.2)
    let d := d.updLed (fun l => { l with away := l.away.filter (fun a => a.1 != t) })
    if r.st == .open_ then
      let d := d.updLine t (fun x => { r with
        eCore := (r.eCore + x.eCore) % 2 ^ 64, eRest := (r.eRest + x.eRest) % 2 ^ 64, peak := max r.peak x.peak,
        fill := min (2 ^ 42 - 1) (r.fill + x.fill), overrun := r.overrun || x.overrun || missed, dirty := x.dirty || missed,
        flush := x.flush, forced := x.forced, closeB := x.closeB, closeM := x.closeM, alC := x.alC })
      (match x.endReq with
      | some _ => d.closeFetched t
      | none => d).flushLine t
    else if d.ledTags ≥ d.rd LEDGER.LIMIT_MAX_TAGS then d.fetchRefused x
    else
      let d := d.updLine t (fun x => { x with st := .open_, fetch := false, dirty := true })
      (match x.endReq with
      | some _ => d.closeFetched t
      | none => d).flushLine t

/-! ### Queries and flushes (R387) -/

/-- LEDGER_QUERY_DONE (R387): the record is copied once any fetch of the tag has completed. -/
def Dev.queryDone (d : Dev) : Dev :=
  if !d.led.query then d else
  let t := d.rd LEDGER.QUERY_TAG
  match d.line t with
  | some x => if x.fetch then d else d.queryPut (d.record x) x.st.code
  | none => if d.memOpen then d else d.queryPut 0 0

/-- LEDGER_QUERY (R387): a write of QUERY.GO, already made. -/
def Dev.ledQuery (d : Dev) : Dev :=
  let d := (d.wr LEDGER.QUERY_VALID 0).updLed (fun l => { l with query := true })
  let t := d.rd LEDGER.QUERY_TAG
  if (d.line t).isNone && d.memOpen then d.memAsk (.query t) else d.queryDone

/-- An overrun fell while the tag was OPEN in the store only, so its slot lacks OVERRUN (R384). -/
def Dev.slotOverrun (d : Dev) (t : Nat) : Bool := d.led.away.any (fun a => a.1 == t && a.2)

/-- The record of a slot with its OVERRUN bit set. -/
def withOverrun (rec_ : Nat) : Nat := rec_ ||| 2 ^ 226

/-- A query's slot arrives: the record of a tag that has no line, with the OVERRUN and the end that its slot lacks. -/
def Dev.querySlot (d : Dev) (t rec_ : Nat) : Dev :=
  if d.querying t then
    match d.line t with
    | some x => if x.fetch then d else d.queryPut (d.record x) x.st.code
    | none =>
      let r := if d.slotOverrun t then withOverrun rec_ else rec_
      if d.ending t then d.queryPut (d.record { lineOf t r with st := .closed }) TagSt.closed.code
      else d.queryPut r (bitsAt r 224 2)
  else d

/-- The slot of an OPEN tag that lacks OVERRUN arrives and is written back with it (R384, R387); a line allocated meanwhile
takes the bit as its fetch completes, and the flush waits for it. -/
def Dev.mendSlot (d : Dev) (t rec_ : Nat) : Dev :=
  if !d.slotOverrun t then d.flushDone
  else if (d.line t).isSome then d.updLine t (fun x => { x with flush := true })
  else
    (d.updLed (fun l => { l with away := l.away.map (fun a => if a.1 == t then (t, false) else a) })).memAsk
      (.slot t (withOverrun rec_) true)

/-- LEDGER_FLUSH (R387): every dirty line is written back, one whose fetch is outstanding once it completes; an OPEN record
in the store takes the OVERRUN it lacks. A CLOSED tag's slot is not written (R384). -/
def Dev.ledFlush (d : Dev) : Dev :=
  let dirty := d.led.lines.filter (fun x => x.dirty && x.st != .closed && !x.fetch)
  let mend := d.led.away.filter (fun a => a.2 && (d.line a.1).isNone && !d.ending a.1)
  let d := d.updLed (fun l => { l with
    flushing := true,
    lines := l.lines.map (fun x =>
      if x.fetch then { x with flush := x.endReq.isNone }
      else if x.st != .closed then { x with dirty := false } else x) })
  let d := dirty.foldl (fun d x => d.memAsk (.slot x.tag (d.record x) true)) d
  (mend.foldl (fun d a => d.memAsk (.mend a.1)) d).flushDone

/-- LEDGER_CLOSE (R378): a write of CLOSE.GO = 1 for a tag, acting at the next beat strobe (R396). -/
def Dev.ledClose (d : Dev) (t : Nat) : Dev := d.updLed (fun l => { l with closes := l.closes ++ [t] })

/-! ### The window (R115, R386) -/

/-- MEM_WIN_BASE_WRITE: a write, already made; `was` is VALID before it. -/
def Dev.winWrite (d : Dev) (was : Nat) : Dev :=
  if was == 0 && d.on TOP.MEM_WIN_BASE_VALID then
    if d.led.filled then d.memIssue
    else (d.updLed (fun l => { l with init := true, filled := true })).memIssue
  else d

/-- LEDGER_INIT_DONE (R386): the zero-fill completes; the command stands for all its writes that are left. -/
def Dev.initDone (d : Dev) : Dev :=
  if d.led.init then
    (({ d with memPort := { d.memPort with
      writes := d.memPort.writes.filter (fun r => match r with | .fill _ => false | _ => true) } }).updLed (fun l =>
        { l with init := false, fillAt := fillParts })).memIssue
  else d

/-- The zero-fill ends with its last write (R386). -/
def Dev.fillDone (d : Dev) : Dev :=
  if d.led.init && decide (d.led.fillAt ≥ fillParts)
      && !d.memPort.writes.any (fun r => match r with | .fill _ => true | _ => false) then
    d.updLed (fun l => { l with init := false })
  else d

/-! ### The estimator (R374, R375) -/

/-- Rail `n` covers the cores of channel `c` (R374). -/
def Dev.covers (d : Dev) (n c : Nat) : Bool := d.domRail (d.chDom c) == some n || (d.railDoms n).isEmpty

/-- The active cores covered by rail `n`. -/
def Dev.coveredCores (d : Dev) (n : Nat) : List Nat :=
  ((upto d.bld.creditCh).filter (fun c => d.covers n c)).flatMap (fun c => d.clCores c)

/-- p(c, n) of R374. -/
def Dev.estCore (d : Dev) (n c : Nat) : Nat :=
  (rshift (((d.act.cnt.getD c 0 * d.rd LEDGER.EST_GAIN 0 n : Nat)) : Int) (d.rd LEDGER.EST_SHIFT 0 n)).toNat

/-- P_est of rail `n` for the latched counts. -/
def Dev.estRail (d : Dev) (n : Nat) : Nat :=
  min 65535 (d.rd LEDGER.EST_S_STATIC 0 n + sumN ((d.coveredCores n).map (fun c => d.estCore n c)))

/-- The device as task 0x07 reads its set-points: as latched at the strobe (R15). -/
def Dev.estSeen (d : Dev) : Dev := { d with regs := d.led.seen }

/-- Rails whose estimates task 0x07 of the beat that waits has produced (R84, R189). -/
def Dev.estRails (d : Dev) : Nat :=
  if d.led.cutShort then min d.nRails (max (Config.railsShared d.tick.mono) (Config.railsEst d.tick.mono)) else d.nRails

/-- The estimates of the rails that task 0x07 has reached (R374); the others have none for the beat (R189). -/
def Dev.estimate (d : Dev) : Dev :=
  let d := d.eachRail (fun d n => d.updFlt n (fun f => { f with pest := none }))
  (upto d.estRails).foldl (fun d n =>
    let v := d.estSeen
    let p := v.estRail n
    let late := (upto d.bld.creditCh).any (fun c => v.covers n c && d.act.late.contains c)
    (d.wr LEDGER.EST_S_PEST p 0 n).updFlt n (fun f => { f with pest := some p, pestLate := late })) d

/-! ### Attribution (R380 to R382) -/

/-- Add to the weights w and fw of a tag. -/
def addW (t w fw : Nat) : List (Nat × Nat × Nat) → List (Nat × Nat × Nat)
  | [] => [(t, w, fw)]
  | (a, x, y) :: r => if a == t then (a, x + w, y + fw) :: r else (a, x, y) :: addW t w fw r

/-- The weights of rail `n` (R380): tag, w, fw. -/
def Dev.weights (d : Dev) (n : Nat) : List (Nat × Nat × Nat) :=
  let ws := (d.coveredCores n).foldl (fun ws c =>
    let p := d.estCore n c
    let f := p * (d.cl (c / 16)).prev / 256
    let t := (d.led.bindPrev.getD c none).getD 1
    addW 2 f 0 (addW t (p - f) f ws)) []
  addW 3 (d.rd LEDGER.EST_S_STATIC 0 n) 0 ws

/-- The energy each tag receives from one rail: tag, energy, filler energy. Tag 0 takes what cannot be shared. -/
def shares (ws : List (Nat × Nat × Nat)) (e : Nat) : List (Nat × Nat × Nat) :=
  let wt := sumN (ws.map (fun w => w.2.1))
  if wt == 0 then [(0, e, 0)]
  else
    let out := ws.map (fun w => (w.1, e * w.2.1 / wt, if w.1 ≥ 16 then e * w.2.2 / wt else 0))
    (0, e - sumN (out.map (fun w => w.2.1)), 0) :: out

/-- One tag takes energy of one rail. -/
def Dev.giveTag (d : Dev) (core : Bool) (s : Nat × Nat × Nat) : Dev :=
  d.updLine s.1 (fun x =>
    let x := x.add core s.2.1
    if s.2.2 == 0 then x else { x with fill := min (2 ^ 42 - 1) (x.fill + s.2.2), dirty := true })

/-- Add to the energy of a tag over the beat. -/
def addE (t e : Nat) : List (Nat × Nat) → List (Nat × Nat)
  | [] => [(t, e)]
  | (a, x) :: r => if a == t then (a, x + e) :: r else (a, x) :: addE t e r

/-- PEAK takes the energy of a tag in the beat (R382). -/
def Dev.peakTag (d : Dev) (t e : Nat) : Dev :=
  if t < 16 then d else
  let p := min 65535 (roundDivN (16 * e) 1000)
  d.updLine t (fun x => if p > x.peak then { x with peak := p, dirty := true } else x)

/-- Attribution of the beat that waits (R380, R381); after a stop the rails not yet shared go to tag 0 (R84). -/
def Dev.attribute (d : Dev) : Dev :=
  let k := if d.led.cutShort then min d.nRails (Config.railsShared d.tick.mono) else d.nRails
  let (d, es) := (upto d.nRails).foldl (fun (acc : Dev × List (Nat × Nat)) n =>
    match d.led.eBeat.getD n none with
    | none => acc
    | some e =>
      let ss := if n < k then shares (d.estSeen.weights n) e else [(0, e, 0)]
      let core := bitAt (d.estSeen.rd LEDGER.RCLASS_CORE) n
      (ss.foldl (fun d s => d.giveTag core s) acc.1, ss.foldl (fun l s => addE s.1 s.2.1 l) acc.2)) (d, [])
  es.foldl (fun d (x : Nat × Nat) => d.peakTag x.1 x.2) d

/-- TOTAL takes the measured energy of a beat (R381). -/
def Dev.addTotal (d : Dev) (e : Nat) : Dev :=
  let t := (d.rd LEDGER.TOTAL_LO_ENERGY + 2 ^ 32 * d.rd LEDGER.TOTAL_HI_ENERGY + e) % 2 ^ 64
  (d.wr LEDGER.TOTAL_LO_ENERGY (t % 2 ^ 32)).wr LEDGER.TOTAL_HI_ENERGY (t / 2 ^ 32)

/-- Task 0x07 of the beat that ends (R374, R375, R380): estimates and attribution. -/
def Dev.task07 (d : Dev) : Dev :=
  if d.led.eBeat.isEmpty then { d with act := { d.act with got := [] } } else
  let d := (d.actLatch.estimate).attribute
  (d.addTotal (sumN (d.led.eBeat.map (fun e => e.getD 0)))).updLed (fun l => { l with cutShort := false, eBeat := [] })

/-- TICK_OVERRUN of task 0x07 (R84, R384): OVERRUN on every OPEN tag. -/
def Dev.ledOverrun (d : Dev) : Dev :=
  d.updLed (fun l => { l with
    cutShort := true,
    lines := l.lines.map (fun x =>
      if decide (x.tag ≥ 16) && (x.st == .open_ || (x.fetch && !x.closing)) then { x with overrun := true, dirty := true } else x),
    away := l.away.map (fun a => (a.1, a.2 || !(l.ends.any (fun x => x.tag == a.1)
      || l.lines.any (fun x => x.tag == a.1 && x.closing)))) })

/-- The measured energy of the beat that has just ended, by rail (R380), for task 0x07 of this beat and the SUM of R340:
with the measured current also under FSTAT.IMPLAUS, as R190 has it (log entry 86). At the strobe that starts the first beat, none has ended. -/
def Dev.ledMeasure (d : Dev) : Dev :=
  if d.tick.mono == 0 then d else
  let es := (upto d.nRails).map (fun n =>
    if (d.rail n).flt.accB1.any then some (roundDivN (d.beatV n * d.measI n) 16) else none)
  let sum := sumN (es.map (fun (e : Option Nat) => e.getD 0))
  d.updLed (fun l => { l with eBeat := es, iv := l.iv + sum, seen := d.regs })

/-- A BUDGET grid point: the interval of R340 closes. -/
def Dev.ledInterval (d : Dev) : Dev := d.updLed (fun l => { l with ivLast := l.iv, iv := 0 })

/-! ### Closed tags (R378, R384) -/

/-- The closed tag to offer next: the earliest close whose last beat has been attributed. -/
def Dev.closedNext (d : Dev) : Option Line :=
  (d.led.lines.filter (fun x => x.st == .closed && decide (x.closeM + 2 ≤ d.tick.mono))).foldl
    (fun (b : Option Line) x => match b with
      | none => some x
      | some y => if x.closeM < y.closeM then some x else some y) none

/-- The tag returns to FREE and zeros go to its slot (R378, R384). -/
def Dev.freeTag (d : Dev) (t : Nat) : Dev :=
  if d.memOpen then
    (d.memAsk (.slot t 0 false)).updLed (fun l => { l with lines := l.lines.filter (fun y => y.tag != t) })
  else d.updLine t (fun _ => { tag := t, dirty := true })

end Sys2Proof.Machine
end

