-- ==== Sys2Proof/Machine/Export.lean ====
section
/-!
DEFINITION. Machine/Export.lean: the export queue (spec/16_budget_ledger.md R388 to R395, 02_ports.md R49).
-/
namespace Sys2Proof.Machine

/-- Change the queue. -/
def Dev.updEx (d : Dev) (f : Export → Export) : Dev := { d with ex := f d.ex }

/-! ### Places of the items (R391) -/

/-- Capacity in items (R391). -/
def Dev.exCap (d : Dev) : Nat := if d.on TOP.MEM_WIN_BASE_VALID then 262144 else 128

/-- Items held in a kind of place. -/
def Export.inLoc (x : Export) (l : XLoc) : Nat := (x.items.filter (fun i => i.loc == l)).length

/-- Index of the first item in a kind of place. -/
def Export.firstIn (x : Export) (l : XLoc) : Nat := x.items.findIdx (fun i => i.loc == l)

/-- Change item `k` counted from F. -/
def Dev.updItem (d : Dev) (k : Nat) (f : XItem → XItem) : Dev := d.updEx (fun x => { x with items := modAt x.items k f })

/-- Item `k` counted from F goes to its spill slot. -/
def Dev.exSpill (d : Dev) (k : Nat) : Dev :=
  match d.ex.items[k]? with
  | none => d
  | some i =>
    let d := d.updItem k (fun i => { i with loc := .spill, copy := true })
    if i.copy then d else (d.bump EXPORT.SPILLED_COUNT).memAsk (.spill (d.ex.f + k) i.data)

/-- The oldest tail item moves on: into the head while it has room and nothing is spilled, else to its spill slot. -/
def Dev.exMove (d : Dev) : Dev :=
  let k := d.ex.firstIn .tail
  if d.ex.inLoc .head < 64 && d.ex.inLoc .spill == 0 then d.updItem k (fun i => { i with loc := .head }) else d.exSpill k

/-- The item at T stands in the head before it is presented (R391, R392): one in the tail changes places with a transferred
head item where the head is full, and one in the spill is read back, a head item making way. -/
def Dev.exFetch (d : Dev) : Dev :=
  match d.ex.items[d.ex.t]? with
  | some i =>
    let full := decide (d.ex.inLoc .head ≥ 64)
    match i.loc with
    | .head => d
    | .tail =>
      let d := if full then d.updItem (d.ex.firstIn .head) (fun i => { i with loc := .tail }) else d
      d.updItem d.ex.t (fun i => { i with loc := .head })
    | .spill =>
      if i.rd then d else
      let d := if full then d.exSpill (d.ex.firstIn .head) else d
      (d.updItem d.ex.t (fun i => { i with rd := true })).memAsk (.unspill (d.ex.f + d.ex.t))
  | none => d

/-- EXPORT_FULL (R391): W - F has reached the capacity, raised at most once per BUDGET tick (R402). -/
def Dev.exFullNow (d : Dev) : Dev :=
  if decide (d.ex.items.length ≥ d.exCap) && !d.ex.fullSent then
    (d.updEx (fun x => { x with fullSent := true })).ev Ev.EXPORT_FULL 0
  else d

/-- A write that clears MEM_WIN_BASE.VALID may leave the queue full, where it was not before, `was` (R391). -/
def Dev.exCapFall (d was : Dev) : Dev := if d.ex.items.length < was.exCap then d.exFullNow else d

/-- One item enters the queue at W. -/
def Dev.exPush (d : Dev) (kind : Nat) (last : Bool) (data : Nat) : Dev :=
  let d := if d.ex.inLoc .tail ≥ 64 then d.exMove else d
  ((d.updEx (fun x => { x with
    idleMs := if x.items.length == x.t then 0 else x.idleMs,
    items := x.items ++ [⟨kind, last, data, .tail, false, false⟩] })).exFetch).exFullNow

/-- Room for `n` items. -/
def Dev.exRoom (d : Dev) (n : Nat) : Bool := decide (d.ex.items.length + n ≤ d.exCap)

/-- The read of a spilled item arrives: the item at T goes into the head, and another one, that a REWIND has left behind,
where the head has room. -/
def Dev.exUnspill (d : Dev) (item data : Nat) : Dev :=
  let k := item - d.ex.f
  if item < d.ex.f || !(d.ex.items.any (fun i => i.rd)) then d else
  let full := decide (d.ex.inLoc .head ≥ 64)
  let d := if full && k == d.ex.t then d.exSpill (d.ex.firstIn .head) else d
  d.updItem k (fun i =>
    if i.rd then { i with data := data, loc := if full && k != d.ex.t then .spill else .head, rd := false } else i)

/-- The item on the port, if any: EX_KIND, EX_LAST, EX_DATA (R392, R393). -/
def Dev.exPresent (d : Dev) : Option (Nat × Bool × Nat) :=
  match d.ex.pres with
  | some p => some p
  | none =>
    match d.ex.items[d.ex.t]? with
    | some i => if i.loc == .head then some (i.kind, i.last, i.data) else none
    | none => none

/-! ### Batches and signatures (R389, R390) -/

/-- The batch header item (R389). -/
def Dev.exHeader (d : Dev) (no : Nat) : Nat :=
  0x48425845 + putAt no 32 + putAt (d.tick.b % 2 ^ 64) 64 + putAt 0x53590401 128 + putAt (d.rd EXPORT.SEQ_SEQ) 160
    + putAt (d.rd EXPORT.KEY_ID_LO_KEY_ID) 192 + putAt (d.rd EXPORT.KEY_ID_HI_KEY_ID) 224

/-- A batch opens: its header enters (R390). -/
def Dev.exOpen (d : Dev) : Dev :=
  let no := d.rd EXPORT.BATCH_SEQ_BATCH
  let h := d.exHeader no
  let d := d.wr EXPORT.BATCH_SEQ_BATCH ((no + 1) % 2 ^ 32)
  (d.exPush 3 false h).updEx (fun x => { x with batch := some ⟨no, 0, 0, [h]⟩ })

/-- EXPORT_BATCH_CLOSE (R390): the open batch closes and its digest goes to the Warden. -/
def Dev.exClose (d : Dev) : Dev :=
  match d.ex.batch with
  | none => d
  | some b =>
    if b.n == 0 then d else
    let m := b.no + putAt b.n 32 + putAt (d.tick.b % 2 ^ 64) 64
    (d.bump EXPORT.BATCHES_COUNT).updEx (fun x => { x with batch := none, sign := some ⟨b.no, m, b.items, 0⟩ })

/-- The batch has reached MAX items. -/
def Dev.exFullBatch (d : Dev) : Dev :=
  match d.ex.batch with
  | some b => if b.n ≥ d.rd EXPORT.BATCH_MAX then d.exClose else d
  | none => d

/-- An item of kind 0 or 2 enters, opening a batch when none is open (R390). -/
def Dev.exItem (d : Dev) (kind data : Nat) : Dev :=
  let d := if d.ex.batch.isSome then d else d.exOpen
  let d := (d.exPush kind false data).updEx (fun x => { x with
    batch := x.batch.map (fun b => { b with n := b.n + 1, items := b.items ++ [data] }) })
  d.exFullBatch

/-- The record item of a closed tag (R388). -/
def Dev.exRecord (d : Dev) (x : Line) (batch : Nat) : Nat :=
  x.tag + putAt (bnat x.forced) 24 + putAt (bnat x.overrun) 25 + putAt (bnat x.alO) 26 + putAt (bnat x.alC) 27
    + putAt (d.rd EXPORT.SEQ_SEQ) 32 + putAt (x.openB % 2 ^ 48) 64 + putAt (x.closeB % 2 ^ 48) 128
    + putAt (x.eCore % 2 ^ 64) 192 + putAt (x.eRest % 2 ^ 64) 256 + putAt (x.fill % 2 ^ 42) 320
    + putAt (x.peak % 65536) 384 + putAt batch 416

/-- A record, or the header before it, may enter now (R390, R391): enabled, no signature outstanding, room for one item. -/
def Dev.exReady (d : Dev) : Bool :=
  d.on EXPORT.CTRL_EN && d.ex.sign.isNone && d.ex.sigs.isEmpty && d.exRoom 1

/-- EXPORT_RECORD_ENTER (R378, R391): the record of the next closed tag enters, and the tag returns to FREE. Where the
header takes the last place, the record waits. -/
def Dev.exEnter (d : Dev) : Dev :=
  if !d.exReady then d else
  match d.closedNext with
  | none => d
  | some x =>
    let d := if d.ex.batch.isSome then d else d.exOpen
    if !d.exRoom 1 then d else
    let no := match d.ex.batch with | some b => b.no | none => 0
    let d := (d.exItem 0 (d.exRecord x no)).wr EXPORT.SEQ_SEQ ((d.rd EXPORT.SEQ_SEQ + 1) % 2 ^ 32)
    (d.bump EXPORT.RECORDS_COUNT).freeTag x.tag

/-- Records enter while they can, at most `n`. -/
def exEnterAll : Nat → Dev → Dev
  | 0, d => d
  | n + 1, d => if d.exReady && d.closedNext.isSome then exEnterAll n d.exEnter else d

/-- The waiting signature items enter as room allows. -/
def Dev.exSigs (d : Dev) : Dev :=
  d.ex.sigs.foldl (fun d s =>
    if d.exRoom 1 then (d.exPush 1 s.1 s.2).updEx (fun x => { x with sigs := x.sigs.drop 1 }) else d) d

/-- The 48 bytes of a big-endian integer, as the low 384 bits of an item. -/
def bigEndian48 (v : Nat) : Nat := ofLe ((leBytes 48 v).reverse)

/-- The two signature items of a batch (R390). -/
def Dev.exSigned (d : Dev) (g : XSign) (r s status : Nat) : Dev :=
  let i0 := bigEndian48 r + putAt g.meta_ 384
  let i1 := bigEndian48 s + putAt g.no 384 + putAt status 416
  (d.updEx (fun x => { x with sign := none, sigs := [(false, i0), (true, i1)] })).exSigs

/-- EXPORT_SIGN_FAIL (R390): no signature in time; the batch is unsigned. -/
def Dev.exUnsigned (d : Dev) : Dev :=
  match d.ex.sign with
  | some g => ((d.exSigned g 0 0 1).bump EXPORT.UNSIGNED_COUNT).ev Ev.EXPORT_SIGN_FAIL 0
  | none => d

/-- The timer of EXPORT_SIGN_FAIL: SIGN.LIMIT BUDGET strobes. -/
def Dev.exSignFail (d : Dev) : Dev :=
  match d.ex.sign with
  | some g => if g.ms ≥ d.rd EXPORT.SIGN_LIMIT then d.exUnsigned else d
  | none => d

/-- The message that is signed (R390): header and items, then the metadata, as bytes. -/
def XSign.message (g : XSign) : List Nat := g.items.flatMap (fun i => leBytes 64 i) ++ leBytes 16 g.meta_

/-- EXPORT_SIGNATURE (R390): the Warden's signature with the private key returns. -/
def Dev.exSignature (d : Dev) (key : Nat) : Dev :=
  match d.ex.sign with
  | some g =>
    let (r, s) := Config.ecdsaSign key (Config.sha384 g.message) d.tick.mono
    d.exSigned g r s 0
  | none => d

/-! ### Reading (R392 to R394) -/

/-- EXPORT_TRANSFER (R49, R392): the presented item passes. -/
def Dev.exTransfer (d : Dev) : Dev :=
  match d.exPresent with
  | none => d
  | some (kind, last, data) =>
    let d := (d.send (.exItem kind last data)).updEx (fun x => match x.pres with
      | some _ => { x with pres := none, idleMs := 0, idle := false }
      | none => { x with t := x.t + 1, idleMs := 0, idle := false })
    d.exFetch

/-- REWIND (R393): an item on the port stays there until its transfer. -/
def Dev.exRewind (d : Dev) : Dev :=
  if d.ex.t == d.ex.m then d else
  let p := d.exPresent
  (d.updEx (fun x => { x with t := x.m, pres := p })).exFetch

/-- RELEASE (R393): the items below the mark are gone. -/
def Dev.exRelease (d : Dev) : Dev :=
  let k := d.ex.m
  let d := d.updEx (fun x => { x with f := x.f + k, t := x.t - k, m := 0, items := x.items.drop k })
  exEnterAll 8192 d.exSigs

/-- A write of CMD (R393): MARK, then REWIND, then RELEASE. -/
def Dev.exCmd (d : Dev) (v : Nat) : Dev :=
  let d := if bitAt v 0 then d.updEx (fun x => { x with m := x.t }) else d
  let d := if bitAt v 1 then d.exRewind else d
  if bitAt v 2 then d.exRelease else d

/-- EXPORT_IDLE (R394): TIMEOUT BUDGET strobes without a transfer while items are unread. -/
def Dev.exIdle (d : Dev) : Dev :=
  if decide (d.ex.idleMs ≥ d.rd EXPORT.IDLE_TIMEOUT) && decide (d.ex.t < d.ex.items.length) && !d.ex.idle then
    ((d.updEx (fun x => { x with idle := true })).ev Ev.EXPORT_IDLE 0).exClose
  else d

/-- A read of the spill that no item awaits any more: its data is dropped (R395). -/
def MemReq.orphan : MemReq → MemReq
  | .unspill _ => .unspill (2 ^ 64)
  | r => r

/-- EXPORT_PTR_FAULT (R395): the queue is reset; a new batch opens with a LOST marker. -/
def Dev.exPtrFault (d : Dev) : Dev :=
  let n := d.ex.items.length
  let recs := (d.ex.items.filter (fun i => i.kind == 0)).length
  let d := d.updEx (fun x => { x with
    f := 0, t := 0, m := 0, items := [], pres := none, batch := none, sign := none, sigs := [], idleMs := 0, idle := false })
  let d := { d with memPort := { d.memPort with
    reads := d.memPort.reads.map MemReq.orphan,
    wait := d.memPort.wait.filter (fun r => match r with | .spill _ _ => false | .unspill _ => false | _ => true) } }
  let d := ((d.bump EXPORT.PTR_RESETS_COUNT).bump EXPORT.LOST_REC_COUNT 0 0 recs).ev Ev.EXPORT_PTR_FAULT 0
  d.exItem 2 (n + putAt recs 32 + putAt (d.tick.b % 2 ^ 64) 64 + putAt (d.rd EXPORT.SEQ_SEQ) 128)

/-- A write of CTRL.EN, already made (R390): EN = 0 closes the open batch. -/
def Dev.exEnWrite (d : Dev) : Dev := if d.on EXPORT.CTRL_EN then d else d.exClose

/-- BUDGET strobe: batch age, signature limit, idle timer (R390, R394). -/
def Dev.exBudget (d : Dev) : Dev :=
  let d := d.updEx (fun x => { x with
    fullSent := false, idleMs := if x.t < x.items.length then min 65535 (x.idleMs + 1) else 0,
    batch := x.batch.map (fun b => { b with ms := min 65535 (b.ms + 1) }),
    sign := x.sign.map (fun g => { g with ms := min 65535 (g.ms + 1) }) })
  let d := d.exSignFail
  let d := match d.ex.batch with
    | some b => if b.ms ≥ d.rd EXPORT.BATCH_CLOSE_MS then d.exClose else d
    | none => d
  d.exIdle

/-! ### MEM port completions -/

/-- MEM_READ_DATA (R385, R387, R391): the data of the oldest read. -/
def Dev.memReadData (d : Dev) (data : Nat) : Dev :=
  match d.memPort.reads with
  | [] => d
  | r :: rest =>
    let d := { d with memPort := { d.memPort with reads := rest } }
    let d := match r with
      | .fetch t => (d.fetchDone t data).queryDone
      | .query t => d.querySlot t data
      | .mend t => d.mendSlot t data
      | .unspill i => d.exUnspill i data
      | _ => d
    d.memIssue

/-- MEM_WRITE_DONE (R48, R387): the oldest write completes. -/
def Dev.memWriteDone (d : Dev) : Dev :=
  match d.memPort.writes with
  | [] => d
  | _ :: rest => ((({ d with memPort := { d.memPort with writes := rest } }).flushDone).fillDone).memIssue

end Sys2Proof.Machine
end

