-- ==== Sys2Proof/Machine/Forecast.lean ====
section
/-!
DEFINITION. Machine/Forecast.lean: the Forecast engine (spec/12_forecast.md).
-/
namespace Sys2Proof.Machine

/-! ### Arithmetic (R289) -/

/-- A requantisation pair read from a bank: (c, s). -/
def pairAt (m : Mem) (a : Nat) : Int × Nat := (signedOf 32 (m.readLE a 4), bitsAt (m.readLE (a + 4) 1) 0 5)

/-- The R9 product of an accumulator and a pair. -/
def rq (x : Int) (p : Int × Nat) : Int := mulCoef x p.1 p.2

/-- rq8. -/
def rq8 (x : Int) (p : Int × Nat) : Int := clampI (rq x p) (-128) 127
/-- rq16. -/
def rq16 (x : Int) (p : Int × Nat) : Int := clampI (rq x p) (-32767) 32767
/-- rqu16. -/
def rqu16 (x : Int) (p : Int × Nat) : Nat := (clampI (rq x p) 0 65535).toNat
/-- rqu8. -/
def rqu8 (x : Int) (p : Int × Nat) : Nat := (clampI (rq x p) 0 255).toNat

/-- One int8 of a bank. -/
def i8 (m : Mem) (a : Nat) : Int := signedOf 8 (m.read a).toNat
/-- One int32 of a bank. -/
def i32 (m : Mem) (a : Nat) : Int := signedOf 32 (m.readLE a 4)

/-- An exact sum of products, saturated to 32 bits (R289). -/
def dot (b : Int) (xs ys : List Int) : Int := sat32 (b + sumI (List.zipWith (· * ·) xs ys))

/-- Row `o` of a matrix of `cols` columns at `base`. -/
def rowAt (m : Mem) (base cols o : Nat) : List Int := (upto cols).map (fun c => i8 m (base + cols * o + c))

/-- A layer of `n` outputs: requantised rows times the input plus bias (R290). -/
def layer (m : Mem) (wBase bBase pBase n : Nat) (xs : List Int) : List Int :=
  (upto n).map (fun o =>
    rq8 (dot (i32 m (bBase + 4 * o)) (rowAt m wBase xs.length o) xs) (pairAt m (pBase + 8 * o)))

/-! ### Softmax (R291) -/

/-- Largest v with (2v - 1)^256 ≤ 2^(4352 - f), bits from `k` down added to `v`. -/
def lutBits (f : Nat) : Nat → Nat → Nat
  | 0, v => v
  | k + 1, v => lutBits f k (if (2 * (v + 2 ^ k) - 1) ^ 256 ≤ 2 ^ (4352 - f) then v + 2 ^ k else v)

/-- lut(f) = round(65,536 x 2^(-f/256)), ties upward (R291). -/
def lut (f : Nat) : Nat := lutBits f 17 0

/-- One exponential of the softmax. -/
def softExp (mx : Int) : Option Int → Nat
  | none => 0
  | some l =>
    let dj := (mx - l).toNat
    if dj / 256 ≤ 16 then lut (dj % 256) >>> (dj / 256) else 0

/-- Largest of a list of integers, `x` for none larger. -/
def maxI (x : Int) : List Int → Int
  | [] => x
  | a :: r => maxI (max x a) r

/-- Add `k` to entry `i`. -/
def addAt (l : List Nat) (i k : Nat) : List Nat := modAt l i (fun x => x + k)

/-- The weights of a row of logits, a masked position being none (R291), and NULLROW. -/
def softmax (l : List (Option Int)) : List Nat × Bool :=
  match l.filterMap id with
  | [] => (l.map (fun _ => 0), true)
  | a :: r =>
    let inf : Option Int := some 0x7FFF
    let k := (l.filter (· == inf)).length
    if k ≠ 0 then
      (addAt (l.map (fun x => if x == inf then 32768 / k else 0)) (l.findIdx (· == inf)) (32768 - k * (32768 / k)), false)
    else
      let mx := maxI a r
      let e := l.map (softExp mx)
      let s := sumN e
      let w := e.map (fun x => x * 32768 / s)
      (addAt w (w.findIdx (· == maxN w)) (32768 - sumN w), false)

/-! ### The network (R290) -/

/-- Stages 1 and 2 for one unmasked position with remaining lead `lam`. -/
def embed (m : Mem) (w lam : Nat) : List Int :=
  let emb := pairAt m 0x20
  (upto 32).map (fun i =>
    let at_ (base row : Nat) : Int := i8 m (base + 32 * row + i)
    rq8 (at_ 0x200 (tokClass w) + at_ 0x2000 (tokCore w) + at_ 0xA00 (tokFmt w) + at_ 0xB00 (tokSize w)
      + at_ 0x1300 (tokDens w) + at_ 0x1500 (bnat (tokCluster w) + 2 * bnat (tokTag w != 0))
      + at_ 0x1600 (lam / 4)) emb)

/-- max(0, x) elementwise. -/
def relu (l : List Int) : List Int := l.map (fun x => max 0 x)

/-- The evaluation of a bank on 64 positions (token bits and lead, none where masked) and the raw features: predictions,
confidence, NULLROW. -/
def evalModel (m : Mem) (toks : List (Option (Nat × Nat))) (raw : List Int) : List Nat × Nat × Bool :=
  let u := raw.zipIdx.map (fun (x, i) => rq8 x (pairAt m (0x100 + 8 * i)))
  let xs := toks.map (fun t => t.map (fun (w, lam) => embed m w lam))
  let qk := layer m 0x6000 0xB000 0xC000 32 u
  let logit := pairAt m 0x28
  let (w, nul) := softmax (xs.map (fun x => x.map (fun v => rq16 (dot 0 qk v) logit)))
  let pool := pairAt m 0x30
  let a := (upto 32).map (fun i =>
    rq8 (sat32 (sumI (List.zipWith (fun (wj : Nat) (x : Option (List Int)) =>
      (wj : Int) * (match x with | some v => v.getD i 0 | none => 0)) w xs))) pool)
  let c := layer m 0x6400 0xB080 0xC100 32 a
  let h1 := relu (layer m 0x6800 0xB100 0xC200 64 (c ++ u))
  let h2 := relu (layer m 0x7800 0xB200 0xC400 64 h1)
  let o (i : Nat) : Int := dot (i32 m (0xB300 + 4 * i)) (rowAt m 0x8800 64 i) h2
  let p3 (i : Nat) : Int × Nat := pairAt m (0xC600 + 8 * i)
  ((upto 128).map (fun i => rqu16 (o i) (p3 i)), rqu8 (o 128) (p3 128), nul)

/-! ### Inputs and output of a beat (R288, R292) -/

/-- Active model bank. -/
def Fcast.bank (f : Fcast) : Mem := if f.act == 0 then f.bank0 else f.bank1
/-- Inactive model bank, which the TBL window shows. -/
def Fcast.idleBank (f : Fcast) : Mem := if f.act == 0 then f.bank1 else f.bank0
/-- Replace the inactive bank. -/
def Fcast.setIdle (f : Fcast) (m : Mem) : Fcast := if f.act == 0 then { f with bank1 := m } else { f with bank0 := m }

/-- The rail takes part in the raw features: present, running, in direct control (R288). -/
def Dev.fcRail (d : Dev) (n : Nat) : Bool :=
  decide (n < d.nRails) && !((d.rail n).cmd.st == .stopped) && !d.avs n

/-- i_now(n): the raw value of u(n). -/
def Dev.fcNow (d : Dev) (n : Nat) : Nat := if d.fcRail n then d.beatI n else 0

/-- I_est of the beat before the last (R189, R288); the spec states none where that beat has no P_est or no voltage (log
entry 86). -/
def Dev.fcEst (d : Dev) (n : Nat) : Nat :=
  let f := (d.rail n).flt
  let v := roundDivN f.accB2.sv f.accB2.n
  if !d.fcRail n then 0
  else match f.pest with
    | some p => if v == 0 then Config.estMissing n d.tick.mono else roundDivN (1000 * p) v
    | none => Config.estMissing n d.tick.mono

/-- The raw feature vector as a strobe latches it: what task 0x03 handed over in the beat before (R277, R288). -/
def Dev.fcRaw (d : Dev) : List Int :=
  let run := d.step.st == .run
  let nat (x : Nat) : Int := (x : Int)
  (upto 8).map (fun n => nat (d.fcNow n))
    ++ (upto 8).map (fun n => nat (if d.fcRail n && run then d.step.vals.getD n 0 else 0))
    ++ (upto 8).map (fun n => nat (d.fcEst n))
    ++ [nat (bnat run), nat (if run then d.step.bin else 0), nat (if run then d.step.pos % 2 ^ d.step.w else 0),
        0, 0, 0, 0, 0]

/-- The 64 positions of the window with their remaining leads (R269, R288). -/
def Dev.fcWindow (d : Dev) : List (Option (Nat × Nat)) :=
  let w := d.hintWindow.map (fun t => if tokClass t.w == 0 then none else some (t.w, min 255 (t.due - d.tick.b)))
  w ++ List.replicate (64 - w.length) none

/-- ok(n) of R292. -/
def Dev.fcOk (d : Dev) (n : Nat) : Bool :=
  let r := d.rail n
  !d.avs n && (r.cmd.st == .settled || r.cmd.st == .slewing || r.cmd.st == .waitFreq) && !r.flt.implaus
    && !r.flt.vsLost && !d.sqActive

/-- The last stage: requests from predictions (R292). -/
def Dev.fcFinish (d : Dev) (preds : List Nat) (conf : Nat) (nul : Bool) : FcOut :=
  let rs := upto d.nRails
  let lo := d.rd FCAST.CFG_K_LO
  let hi := d.rd FCAST.CFG_K_HI
  let use := rs.map (fun n => decide (conf ≥ d.rd FCAST.CFG_CONF_MIN) && !nul && d.fcOk n)
  let ifc := rs.map (fun n => maxN ((preds.drop (16 * n + lo)).take (hi + 1 - lo)))
  let pp := rs.map (fun n =>
    let i := ifc.getD n 0
    let now := d.fcNow n
    if use.getD n false && decide (i > now) then
      min (d.rd FCAST.HARD_FC_HARD_PPMAX)
        ((d.rd RAIL.LL_LL n * (i - now) * d.rd FCAST.CFG_FGAIN + 2 ^ 11) / 2 ^ 12)
    else 0)
  { preds := preds, conf := conf, nullrow := nul, use := use, ifc := ifc, ppfc := pp }

/-! ### Scoring (R294, R295) -/

/-- Score one rail at the evaluation of this beat. -/
def Dev.fcScore (d : Dev) (n : Nat) : Dev :=
  let s := d.rd FCAST.CFG_SCORE_SLOT
  let back := 4 * s + 4
  match d.fc.hist.find? (fun r => r.beat + back == d.tick.mono) with
  | none => d
  | some r =>
    let oks := (d.fc.ok5.getD n []).drop 1
    let cs := d.fc.cur4.getD n []
    if r.use.getD n false && oks.length == 4 && oks.all id && cs.length == 4 then
      let act := roundDivN (sumN cs) 4
      let e := ((r.pred.getD n 0 : Int) - (act : Int)).natAbs
      let (su, ct) := d.fc.errs.getD n (0, 0)
      { d with fc := { d.fc with errs := putPad (0, 0) (su + e, ct + 1) n d.fc.errs } }
    else d

/-- The close of the error sums (R295). -/
def Dev.fcClose (d : Dev) : Dev :=
  if !d.fc.closeDue then d else
  let lim := d.rd FCAST.ERR_LIMIT
  let minc := d.rd FCAST.ERR_MIN_COUNT
  let d := (upto d.nRails).foldl (fun d n =>
    let (su, ct) := d.fc.errs.getD n (0, 0)
    let d := d.wr FCAST.RAILERR_COUNT (min 65535 ct) 0 n
    if decide (ct ≥ minc) && decide (ct ≠ 0) then d.wr FCAST.RAILERR_MAE (min 65535 (su / ct)) 0 n else d) d
  let bad := (upto d.nRails).filter (fun n =>
    let (_, ct) := d.fc.errs.getD n (0, 0)
    decide (ct ≥ minc) && decide (d.rd FCAST.RAILERR_MAE 0 n > lim))
  let d := { d with fc := { d.fc with closeDue := false, errs := [] } }
  match bad with
  | [] => d
  | n :: _ =>
    let d := d.wr FCAST.STATUS_DEG_RAILS (sumN (bad.map (fun k => 2 ^ k)))
    (({ d with fc := { d.fc with degrade := true } }).bump FCAST.DEGRADES_COUNT).ev Ev.FORECAST_DEGRADED n

/-! ### The engine's beat -/

/-- A state transition (R296): the history, the error sums and the reuse count are cleared. -/
def Fcast.go (f : Fcast) (st : FcSt) : Fcast :=
  { f with st := st, hist := [], errs := [], reuse := 0, reused := false, degrade := false, faultDue := false }

/-- The overrun of task 0x05 (R84, R293): the evaluation is stopped and its output discarded. -/
def Dev.fcOverrun (d : Dev) : Dev :=
  if d.fc.late then
    let d := { d with fc := { d.fc with late := false, overran := true, nxt := none } }
    (d.bump TICK.OVR_FCAST_COUNT).ev Ev.TICK_OVERRUN 0x05
  else d

/-- FCAST_STALE (R293): from the fifth consecutive beat without a completed evaluation every pp_fc is 0. -/
def Dev.fcStale (d : Dev) : Dev :=
  if decide (d.fc.reuse ≥ 5) then
    let d := { d with fc := { d.fc with out := { d.fc.out with ppfc := [] } } }
    if d.fc.staleSent then d else ({ d with fc := { d.fc with staleSent := true } }).ev Ev.FCAST_STALE 0
  else d

/-- The strobe brings the last beat's result into force (R286, R293). -/
def Dev.fcPromote (d : Dev) : Dev :=
  let d := d.fcOverrun
  let f := d.fc
  if f.overran then
    let d := { d with fc := { f with overran := false, reused := true, reuse := f.reuse + 1 } }
    (d.bump FCAST.REUSES_COUNT).fcStale
  else
    match f.nxt with
    | some o => { d with fc := { f with out := o, nxt := none, reused := false, reuse := 0 } }
    | none => { d with fc := { f with out := { f.out with ppfc := [] } } }

/-- The check result code of the inactive bank (R300, R301), in the order of the check. -/
def modelCheck (m : Mem) (dirty ecc : Bool) : Nat :=
  let len := m.readLE 8 4
  if ecc then 7
  else if m.readLE 0 4 != 0x54534346 then 2
  else if m.readLE 4 2 != 1 then 3
  else if len < 0xCA20 || len > 0x40000 || len % 32 != 0 then 4
  else if crc32c (m.bytes 0 16 ++ [0, 0, 0, 0] ++ m.bytes 20 (len - 20)) != m.readLE 16 4 then 5
  else if dirty then 6 else 1

/-- A failed check (R301). -/
def Dev.fcLoadBad (d : Dev) (code : Nat) : Dev :=
  let d := { d with fc := { d.fc with pend := false, passed := false } }
  ((d.wr FCAST.STATUS_LOAD_RESULT code).bump FCAST.LOADS_FAILED).ev Ev.FCAST_LOAD_BAD code

/-- FCAST_LOAD_CHECK (R298, R301): the check ends, with an uncorrectable ECC error or not, after `corr` corrected ones. -/
def Dev.fcLoadCheck (d : Dev) (ecc : Bool) (corr : Nat) : Dev :=
  if !d.fc.pend || d.fc.passed then d else
  let d := d.bump FCAST.ECC_CORR 0 0 corr
  let d := if ecc then d.bump FCAST.ECC_UNCORR else d
  let r := modelCheck d.fc.idleBank d.fc.dirty ecc
  if r == 1 then { d with fc := { d.fc with passed := true } } else d.fcLoadBad r

/-- FCAST_SWAP_DONE (R296, R301): at the first beat strobe after a passed check the banks swap, unless the window was
written. -/
def Dev.fcSwapDone (d : Dev) : Dev :=
  if !d.fc.passed then d
  else if d.fc.dirty then d.fcLoadBad 6
  else
    let f := d.fc
    let d := { d with fc := { f with act := 1 - f.act, valid := true, pend := false, passed := false } }
    let d := (d.wr FCAST.MODEL_ID_ID (d.fc.bank.readLE 12 4)).wr FCAST.DIGEST_DIGEST (d.fc.bank.readLE 16 4)
    let d := (d.wr FCAST.STATUS_LOAD_RESULT 1).bump FCAST.LOADS_PASSED
    let d := if d.on FCAST.CTRL_EN && (f.st == .degraded || f.st == .fault) then { d with fc := d.fc.go .run } else d
    d.ev Ev.FCAST_SWAP_DONE 0

/-- The transitions that act at a beat strobe (R296). -/
def Dev.fcTransitions (d : Dev) : Dev :=
  let d := if d.fc.faultDue then { d with fc := d.fc.go .fault }
    else if d.fc.degrade then { d with fc := d.fc.go .degraded } else d
  let d := d.fcSwapDone
  let f := d.fc
  let d :=
    if !d.on FCAST.CTRL_EN then (if f.st == .off then d else { d with fc := f.go .off })
    else if f.st == .off && f.valid then { d with fc := f.go .run }
    else if f.st == .degraded && f.rearm then ({ d with fc := f.go .run }).ev Ev.FCAST_REARMED 0
    else d
  { d with fc := { d.fc with rearm := false } }

/-- An uncorrectable ECC error in the active bank (R298): output discarded without reuse, bank invalid, FC_FAULT at the
next strobe. -/
def Dev.fcEccFault (d : Dev) : Dev :=
  let d := { d with fc := { d.fc with faultDue := true, valid := false, nxt := none, late := false } }
  (d.bump FCAST.ECC_UNCORR).ev Ev.FCAST_ECC_FAULT 0

/-- The rail currents of the beat just ended and ok(n) of the beat that starts enter their histories (R294). -/
def Dev.fcHistory (d : Dev) : Dev :=
  let rs := upto d.nRails
  { d with fc := { d.fc with
    cur4 := rs.map (fun n => (d.beatI n :: d.fc.cur4.getD n []).take 4),
    ok5 := rs.map (fun n => (d.fcOk n :: d.fc.ok5.getD n []).take 5) } }

/-- A completed evaluation on the raw features (R286, R290 to R295, R297). -/
def Dev.fcComplete (d : Dev) (raw : List Int) : Dev :=
  let (preds, conf, nul) := evalModel d.fc.bank d.fcWindow raw
  let o := d.fcFinish preds conf nul
  let d := d.bump FCAST.EVALS_COUNT
  let d := if nul then d.bump FCAST.NULLROWS_COUNT else d
  let d := if conf < d.rd FCAST.CFG_CONF_MIN then d.bump FCAST.LOWCONF_COUNT else d
  let d := (upto d.nRails).foldl (fun d n => d.fcScore n) d
  let s := d.rd FCAST.CFG_SCORE_SLOT
  let r : FcRec := ⟨d.tick.mono, (upto d.nRails).map (fun n => preds.getD (16 * n + s) 0), o.use⟩
  let d := { d with fc := { d.fc with nxt := some o, hist := (r :: d.fc.hist).take 64 } }
  d.fcClose

/-- CYCLES reports the length of an evaluation (R297). -/
def Dev.fcLength (d : Dev) (cyc : Nat) : Dev :=
  (d.wr FCAST.CYCLES_LAST cyc).wr FCAST.CYCLES_MAX (max (d.rd FCAST.CYCLES_MAX) cyc)

/-- Task 0x05 of a beat on the features latched at its strobe: `corr` corrected ECC errors, and the cycles that the
evaluation had taken when an uncorrectable one stopped it (R288, R297, R298). `bud` marks a BUDGET strobe. -/
def Dev.fcBeat (d : Dev) (raw : List Int) (bud : Bool) (corr : Nat) (uncorr : Option Nat) : Dev :=
  let d := (d.fcTransitions).fcHistory
  let d := if bud then { d with fc := { d.fc with closeDue := true } } else d
  if d.fc.st != .run then d
  else
    let d := d.bump FCAST.ECC_CORR 0 0 corr
    let cyc := (if bud then 489 else 473) + d.rd FCAST.DBG_STALL + 2 * corr
    match uncorr with
    | some k => (d.fcLength (min k (min 900 cyc))).fcEccFault
    | none =>
      let d := d.fcLength (min 900 cyc)
      if cyc > 900 then { d with fc := { d.fc with late := true } } else d.fcComplete raw

/-! ### Register writes -/

/-- FCAST_SWAP (R301, R302): refused under R108 while PEND is set. -/
def Dev.fcSwap (d : Dev) : Dev :=
  if d.fc.pend then d.ev (Ev.badValue 0x15) 0
  else { d with fc := { d.fc with pend := true, passed := false, dirty := false } }

/-- FCAST_REARM (R296, R302). -/
def Dev.fcRearm (d : Dev) : Dev :=
  if d.fc.st == .degraded then { d with fc := { d.fc with rearm := true } } else d

/-- STATUS.STATE encoding of FCAST. -/
def FcSt.code : FcSt → Nat
  | .off => 0 | .run => 1 | .degraded => 2 | .fault => 3

end Sys2Proof.Machine
end

