-- ==== Sys2Proof/Machine/View.lean ====
section
/-!
DEFINITION. Machine/View.lean: what the read-only fields show whose value stands in the state of a function and not in the
register file. Each view lists pairs (lowest bit of the field, value) for one register, given its byte offset in the page
and its instance; a field that no view lists reads from the register file. The access unit of Machine/Bus.lean reads
every field through `State.fieldVal`.
-/
namespace Sys2Proof.Machine

/-- A 16-bit reading that saturates. -/
def sat16u (x : Nat) : Nat := min 65535 x

/-- A mask with bit k set for each k below `n` that satisfies `p`. -/
def maskOf (n : Nat) (p : Nat → Bool) : Nat := sumN ((upto n).map (fun k => if p k then 2 ^ k else 0))

/-! ### Measurements (R473) -/

/-- The HARD_ fields: the field, its LOCK bit, and whether it bounds from below (R23, R405, R471). -/
def hardFlds : List (Fld × Fld × Bool) :=
  [(RAIL.HARD_V_HARD_VMAX, RAIL.HARD_V_LOCK, false), (RAIL.HARD_V_HARD_VMIN, RAIL.HARD_V_LOCK, true),
   (RAIL.HARD_FDET_HARD_MINPH, RAIL.HARD_FDET_LOCK, true), (RAIL.HARD_FDET_HARD_SREL, RAIL.HARD_FDET_LOCK, false),
   (RAIL.HARD_FDET_HARD_SABS, RAIL.HARD_FDET_LOCK, false), (DROOP.HARD_CAL_HARD_CALMAX, DROOP.HARD_CAL_LOCK, false),
   (GOV.HARD_PL0_HARD_SUSTAIN, GOV.HARD_LOCK_LOCK, false), (GOV.HARD_PL0_HARD_FAST, GOV.HARD_LOCK_LOCK, false),
   (GOV.HARD_PL1_HARD_GUARD, GOV.HARD_LOCK_LOCK, true), (GOV.HARD_PL1_HARD_LEVEL, GOV.HARD_LOCK_LOCK, false),
   (GOV.HARD_PL1_HARD_THERMAL, GOV.HARD_LOCK_LOCK, false), (GOV.RHARD_HARD_TDC, GOV.HARD_LOCK_LOCK, false),
   (GOV.RHARD_HARD_EDC, GOV.HARD_LOCK_LOCK, false), (LEVEL.HARD_F_HARD_FMAX, LEVEL.HARD_F_LOCK, false),
   (CREDIT.HARD_RAMP_HARD_AMAX, CREDIT.HARD_RAMP_LOCK, false), (CREDIT.HARD_HARD_POOL, CREDIT.HARD_LOCK, false),
   (FCAST.HARD_FC_HARD_PPMAX, FCAST.HARD_FC_LOCK, false), (THERM.HARD_T_HARD_RORACT, THERM.HARD_T_LOCK, false),
   (THERM.HARD_T_HARD_TTRIP, THERM.HARD_T_LOCK, false), (BUDGET.HARD_GRANT_HARD_GRANT, BUDGET.HARD_GRANT_LOCK, false)]

/-- The LOCK bits of R470. -/
def lockFlds : List Fld :=
  [RAIL.HARD_V_LOCK, RAIL.HARD_FDET_LOCK, DROOP.HARD_CAL_LOCK, GOV.HARD_LOCK_LOCK, LEVEL.HARD_F_LOCK,
   CREDIT.HARD_RAMP_LOCK, CREDIT.HARD_LOCK, FCAST.HARD_FC_LOCK, THERM.HARD_T_LOCK, BUDGET.HARD_GRANT_LOCK]

/-- Two fields are the same. -/
def Fld.same (f g : Fld) : Bool := f.page == g.page && f.off == g.off && f.lo == g.lo

/-- Instances (page instance, register instance) that a LOCK or HARD_ field has on present rails. -/
def Dev.fldInsts (d : Dev) (f : Fld) : List (Nat × Nat) :=
  if f.page == 0x08 then (upto d.nRails).map (fun n => (n, 0))
  else if f.stride != 0 then (upto d.nRails).map (fun n => (0, n))
  else [(0, 0)]

/-- Set every LOCK bit (R470, R471). -/
def Dev.lockAll (d : Dev) : Dev :=
  lockFlds.foldl (fun d f => (d.fldInsts f).foldl (fun (d : Dev) (k : Nat × Nat) => d.wr f 1 k.1 k.2) d) d

/-- Every LOCK bit of R470 is set. -/
def Dev.allLocked (d : Dev) : Bool :=
  lockFlds.all (fun f => (d.fldInsts f).all (fun (k : Nat × Nat) => d.on f k.1 k.2))

/-- The registers that hold a HARD_ field or GOV.SAFE: page, offset and fields, in ascending address order of their first
instances; `per` says per rail (0 one, 1 by page, otherwise the distance within the page). -/
def hardRegs : List (Nat × Nat × Nat × List Fld) :=
  [(0x08, 0x058, 1, [RAIL.HARD_V_LOCK, RAIL.HARD_V_HARD_VMAX, RAIL.HARD_V_HARD_VMIN]),
   (0x08, 0x310, 1, [RAIL.HARD_FDET_LOCK, RAIL.HARD_FDET_HARD_MINPH, RAIL.HARD_FDET_HARD_SREL, RAIL.HARD_FDET_HARD_SABS]),
   (0x10, 0x068, 0, [DROOP.HARD_CAL_LOCK, DROOP.HARD_CAL_HARD_CALMAX]),
   (0x11, 0x06C, 0, [GOV.SAFE_MODE, GOV.SAFE_LEVEL_MAX]),
   (0x11, 0x070, 0, [GOV.HARD_PL0_HARD_SUSTAIN, GOV.HARD_PL0_HARD_FAST]),
   (0x11, 0x074, 0, [GOV.HARD_PL1_HARD_GUARD, GOV.HARD_PL1_HARD_LEVEL, GOV.HARD_PL1_HARD_THERMAL]),
   (0x11, 0x204, 16, [GOV.RHARD_HARD_TDC, GOV.RHARD_HARD_EDC]),
   (0x12, 0x04C, 0, [LEVEL.HARD_F_LOCK, LEVEL.HARD_F_HARD_FMAX]),
   (0x13, 0x050, 0, [CREDIT.HARD_RAMP_LOCK, CREDIT.HARD_RAMP_HARD_AMAX]),
   (0x13, 0x104, 32, [CREDIT.HARD_LOCK, CREDIT.HARD_HARD_POOL]),
   (0x15, 0x04C, 0, [FCAST.HARD_FC_LOCK, FCAST.HARD_FC_HARD_PPMAX]),
   (0x17, 0x05C, 0, [THERM.HARD_T_LOCK, THERM.HARD_T_HARD_RORACT, THERM.HARD_T_HARD_TTRIP]),
   (0x1A, 0x058, 0, [BUDGET.HARD_GRANT_LOCK, BUDGET.HARD_GRANT_HARD_GRANT])]

/-- The word of some fields at an instance. -/
def Dev.wordOf (d : Dev) (fs : List Fld) (i j : Nat) : Nat := sumN (fs.map (fun f => putAt (d.rd f i j) f.lo))

/-- The words of measurement 5, in ascending word address (R473). -/
def Dev.hardWords (d : Dev) : List Nat :=
  (upto d.nRails).flatMap (fun n => (hardRegs.filter (fun r => r.2.2.1 == 1)).map (fun r => d.wordOf r.2.2.2 n 0))
    ++ (hardRegs.filter (fun r => r.2.2.1 != 1)).flatMap (fun r =>
      if r.2.2.1 == 0 then [d.wordOf r.2.2.2 0 0] else (upto d.nRails).map (fun n => d.wordOf r.2.2.2 0 n))

/-- Measurement 5 is to be computed again when a HARD_ or SAFE word has changed (R473). -/
def Dev.measMark (d was : Dev) : Dev :=
  if d.hardWords == was.hardWords then d else { d with wrd := { d.wrd with measBusy := true } }

/-- The 48 bytes of a SHA-384 digest. -/
def digestBytes (x : Nat) : List Nat := (leBytes 48 x).reverse

/-- KEY_ID as bytes 0 to 7 (R466, R476). -/
def Dev.keyId (d : Dev) : List Nat := leBytes 4 (d.rd SEC.KEY_ID_LO_KEY_ID) ++ leBytes 4 (d.rd SEC.KEY_ID_HI_KEY_ID)

/-- A Steward image runs: the Steward is not empty. -/
def Dev.stwImage (d : Dev) : Bool := d.stw.st != .empty

/-- The value of measurement `i` as bytes (R473). -/
def Dev.measurement (d : Dev) (i : Nat) : List Nat :=
  match i with
  | 1 => digestBytes Config.romHash
  | 2 => match d.wrd.prov.patch with
    | some p => if d.on FW.WRD_STAT_PATCH_OK then digestBytes (Config.sha384 p) else []
    | none => []
  | 3 => digestBytes (if d.stwImage then Config.sha384 (d.stw.active.bytes 0 256) else Config.measNoImage)
  | 4 => [d.rd SEC.LC_STATE, d.rd SEC.KEY_STAT_CLASS] ++ leBytes 2 (d.rd SEC.MIN_SVN_SVN)
      ++ leBytes 2 (d.rd FW.STW_STAT_SVN)
      ++ [d.rd FW.WRD_STAT_PATCH_OK + 2 * d.rd SEC.BOOT_PROFILE + 4 * bnat d.allLocked, 0] ++ d.keyId
  | 5 => digestBytes (Config.sha384
      ((if d.wrd.meas5.isEmpty then (Dev.fresh d.bld).hardWords else d.wrd.meas5).flatMap (fun w => leBytes 4 w)))
  | 6 => if d.fc.valid then leBytes 4 (d.rd FCAST.MODEL_ID_ID) ++ leBytes 4 (d.rd FCAST.DIGEST_DIGEST) else []
  | _ => []

/-- MEAS_DATA (R473, R476). -/
def Dev.measWord (d : Dev) : Nat :=
  ofLe (((d.measurement (d.rd SEC.MEAS_SEL_INDEX)).drop (4 * d.rd SEC.MEAS_SEL_WORD)).take 4)

/-! ### Views -/

/-- RAIL pages (R145, R170, R190). -/
def Dev.viewRail (d : Dev) (n off j : Nat) : List (Nat × Nat) :=
  let r := d.rail n
  let l := r.loop
  if off == 0x21C then
    [(24, r.sw.grid.length), (16, (d.upPhases n).length), (1, bnat (r.cmd.st == .starting)), (0, bnat r.sw.braking)]
  else if off == 0x040 then [(2, bnat (!l.opened))]
  else if off == 0x044 then
    [(3, bnat (r.cmd.pp != 0)), (2, bnat l.opened), (1, bnat l.side), (0, bnat (!r.avs.q.isEmpty))]
  else if off == 0x048 then [(16, toMv4 l.r), (0, toMv4 l.v)]
  else if off == 0x04C then [(16, l.icmd), (0, sat16u l.isum.toNat)]
  else if off == 0x060 then [(16, toMv4 r.cmd.pp), (0, r.cmd.ppReq)]
  else if off == 0x064 then [(0, sat16u r.cmd.vreq)]
  else if off == 0x074 then
    [(24, match r.cmd.pend with | some c => c.id | none => 0), (16, r.cmd.lastId), (12, r.cmd.lastStatus),
     (3, bnat (match r.cmd.pend with | some c => c.clamped | none => false)), (0, r.cmd.st.code)]
  else if off == 0x100 then [(0, l.bank.getD j 0)]
  else if off == 0x120 then [(0, l.edit.getD j 0)]
  else if off == 0x144 then [(0, l.editCrc)]
  else if off == 0x148 then [(1, bnat l.dirty), (0, l.actBank)]
  else if off == 0x314 then
    [(24, r.flt.h), (16, d.h0 n), (3, bnat r.flt.sqReq), (2, bnat r.flt.implaus), (1, bnat r.flt.vsLost),
     (0, bnat (decide (r.flt.h < d.h0 n)))]
  else []

/-- PHASE pages (R146). -/
def Dev.viewPhase (d : Dev) (p off : Nat) : List (Nat × Nat) :=
  let x := d.phase p
  if off == 0x048 then [(8, x.fcause), (4, x.link.code), (0, x.st.code)]
  else if off == 0x04C then [(16, unsignedOf 16 x.trim), (0, unsignedOf 12 x.avg)]
  else []

/-- DROOP page (R213). -/
def Dev.viewDroop (d : Dev) (off j : Nat) : List (Nat × Nat) :=
  if off == 0x048 then [(0, d.gov.set.gustg)]
  else if off == 0x060 then [(16, d.cal.delta), (11, bnat d.cal.forced), (8, d.cal.rail), (0, d.cal.st.code)]
  else if off == 0x074 then [(30, d.wave.st.code), (24, d.wave.trig), (0, d.wave.start)]
  else if off == 0x100 then
    let x := d.dom j
    [(3, bnat x.wait), (2, bnat x.defer_), (1, bnat x.long), (0, bnat x.gust)]
  else if off == 0x200 then [(8, d.satRail j), (0, d.satDom j)]
  else if off == 0x204 then
    let x := d.sat j
    [(7, bnat x.stuck), (6, bnat x.suspect), (2, x.level), (1, bnat x.persist), (0, bnat (bitAt x.acc 0))]
  else []

/-- GOV page (R234). -/
def Dev.viewGov (d : Dev) (off j : Nat) : List (Nat × Nat) :=
  let g := d.gov
  if off == 0x044 then
    [(28, g.capSrc), (27, bnat g.stale), (26, bnat g.safe), (24, g.mode), (16, g.cap), (8, g.target), (0, g.lgov)]
  else if off == 0x07C then [(16, g.agreed), (0, sat16u g.cLocal)]
  else if off == 0x084 then [(0, sat16u g.psetUse)]
  else if off == 0x088 then [(16, sat16u (winValue g.lim.ySus)), (0, sat16u g.lim.fast)]
  else if off == 0x08C then [(16, sat16u g.lim.pBeat), (0, sat16u (winValue g.lim.yTh))]
  else if off == 0x20C then [(23, g.pf.getD j 256), (0, sat16u (d.tdcw j))]
  else []

/-- LEVEL page (R236). -/
def Dev.viewLevel (d : Dev) (off j : Nat) : List (Nat × Nat) :=
  let x := d.dom j
  if off == 0x180 then [(16, x.target), (0, x.conf)]
  else if off == 0x200 then [(30, x.hs), (16, x.weak), (0, sat16u x.need)]
  else []

/-- CREDIT page (R257). -/
def Dev.viewCredit (d : Dev) (off j : Nat) : List (Nat × Nat) :=
  let c := d.rd CREDIT.LANE_SEL_CORE
  let units (s : Nat) : Nat := match d.leaseAt c s with | some l => l.units | none => 0
  let p := d.pool j
  if off == 0x064 then
    let w := d.waiting c
    [(31, bnat w.isSome), (29, match w with | some r => r.cls | none => 0), (28, bnat (d.leaseAt c 1).isSome),
     (27, bnat (d.leaseAt c 0).isSome), (0, match w with | some r => sat16u r.wait | none => 0)]
  else if off == 0x068 then [(16, units 1), (0, units 0)]
  else if off == 0x108 then [(16, p.avail), (0, p.p)]
  else if off == 0x10C then [(16, p.grsv), (0, p.g)]
  else if off == 0x110 then [(16, p.a), (0, p.b)]
  else if off == 0x114 then
    let q := d.credit.queue.filter (fun r => r.rail == j)
    [(16, match q with | r :: _ => sat16u r.wait | [] => 0), (0, q.length)]
  else []

/-- HINT page (R270, R282). -/
def Dev.viewHint (d : Dev) (off : Nat) : List (Nat × Nat) :=
  let h := d.hint.fifo
  let w : Nat := match h with | t :: _ => t.w | [] => 0
  if off == 0x044 then [(0, d.hint.count)]
  else if off == 0x060 then [(0, w)]
  else if off == 0x064 then [(0, w / 2 ^ 32)]
  else if off == 0x068 then [(0, match h with | t :: _ => t.due | [] => 0)]
  else []

/-- STEP page (R284). -/
def Dev.viewStep (d : Dev) (off : Nat) : List (Nat × Nat) :=
  let x := d.step
  if off == 0x044 then
    [(30, x.st.code), (29, bnat x.pend), (28, x.act), (24, x.w), (16, maskOf 8 (fun n => x.ffSusp.contains n)), (0, x.bin)]
  else if off == 0x048 then [(0, x.pos)]
  else if off == 0x068 then [(0, x.entry (d.rd STEP.ACT_SEL_RAIL) (d.rd STEP.ACT_SEL_BIN))]
  else []

/-- FCAST page (R303). -/
def Dev.viewFcast (d : Dev) (off j : Nat) : List (Nat × Nat) :=
  let x := d.fc
  if off == 0x050 then
    [(30, x.st.code), (29, bnat x.pend), (28, x.act), (27, bnat x.out.nullrow), (26, bnat (x.out.use.any id)),
     (25, bnat x.reused), (16, x.out.conf)]
  else if off == 0x064 then [(0, x.out.preds.getD (16 * d.rd FCAST.PRED_SEL_RAIL + d.rd FCAST.PRED_SEL_SLOT) 0)]
  else if off == 0x100 then [(16, x.out.ifc.getD j 0), (0, x.out.ppfc.getD j 0)]
  else []

/-- SENS_DATA of the selected sensor (R328). -/
def Dev.viewSens (d : Dev) : List (Nat × Nat) :=
  let i := d.rd THERM.SENS_SEL_INDEX
  let put (s : Sens) : List (Nat × Nat) :=
    [(31, bnat s.valid), (30, bnat s.excl), (16, s.xcount), (0, unsignedOf 16 s.temp)]
  if i < d.therm.ts.length then put (d.therm.sens i)
  else if i == 0x100 then put d.therm.cs
  else if 0x110 ≤ i ∧ i < 0x110 + d.therm.xt.length then
    let x := d.therm.xt.getD (i - 0x110) {}
    [(31, bnat x.ok), (30, 0), (16, 0), (0, unsignedOf 16 x.temp)]
  else []

/-- THERM page (R328), without the registers of PD_AON. -/
def Dev.viewTherm (d : Dev) (off j : Nat) : List (Nat × Nat) :=
  let t := d.therm
  let z := d.zone j
  if off == 0x044 then
    [(28, maskOf 4 (fun k => (d.seg k).fail)), (16, t.cap), (8, d.hotZone), (2, bnat (t.zones.any (fun (x : Zone) => x.lost))),
     (1, bnat (t.zones.any (fun (x : Zone) => x.alarm))), (0, bnat d.tick.thermFast)]
  else if off == 0x064 then [(16, t.memSrc), (0, t.memCap)]
  else if off == 0x074 then d.viewSens
  else if off == 0x078 then [(0, unsignedOf 16 t.cs.temp)]
  else if off == 0x07C then [(0, unsignedOf 32 t.g)]
  else if off == 0x10C then
    [(31, bnat z.lost), (30, bnat z.idle), (29, bnat z.alarm), (16, z.src), (0, unsignedOf 16 z.max_)]
  else if off == 0x300 then [(0, unsignedOf 16 z.ror)]
  else if off == 0x400 then [(0, maskOf 32 (fun k => (t.sens (32 * j + k)).excl))]
  else if off == 0x420 then
    [(0, maskOf 32 (fun k => t.csRun && decide (32 * j + k < t.ts.length) && !(t.sens (32 * j + k)).valid))]
  else []

/-- ISOBAR page (R352). -/
def Dev.viewIsobar (d : Dev) (off : Nat) : List (Nat × Nat) :=
  let i := d.iso
  if off == 0x064 then [(0, bnat i.apply.isSome)]
  else if off == 0x070 then
    [(16, i.cfg.epoch), (10, i.misrun), (9, bnat d.isoRise), (8, bnat i.comb), (0, i.st.code)]
  else if off == 0x074 then [(0, i.cfg.group)]
  else if off == 0x078 then [(16, d.gov.agreed)]
  else if off == 0x07C then
    match i.pend with
    | p :: _ => [(16, keyCeil p.key), (0, 1)]
    | [] => [(16, 0), (0, 0)]
  else if off == 0x0B4 then [(24, i.cfg.h), (16, i.cfg.step), (8, i.cfg.depth), (0, i.cfg.children)]
  else []

/-- CL_STAT.STATE encoding (R367). -/
def DzSt.code : DzSt → Nat
  | .run => 0 | .fill => 1 | .pre => 2

/-- DRIZZLE page (R367). -/
def Dev.viewDrizzle (d : Dev) (off j : Nat) : List (Nat × Nat) :=
  if off == 0x054 then [(30, bnat d.dz.pre.isSome)]
  else if off == 0x104 then
    let x := d.cl j
    [(30, x.st.code), (16, min 255 (x.e / 256)), (8, x.w), (0, x.fill)]
  else []

/-- LEDGER page (R399). -/
def Dev.viewLedger (d : Dev) (off : Nat) : List (Nat × Nat) :=
  if off == 0x04C then [(31, bnat d.led.init), (30, bnat d.led.flushing), (0, d.ledTags)]
  else if off == 0x050 then [(16, d.linesPinned), (0, d.linesUsed)]
  else if off == 0x06C then
    let t := ((d.led.bind.getD (d.rd LEDGER.BIND_SEL_CORE) none).getD 1)
    [(31, bnat (match d.line t with | some x => x.fetch | none => false)), (0, t)]
  else []

/-- Items wait for a valid window (R391, R401). -/
def Dev.spillWait (d : Dev) : Bool :=
  !d.on TOP.MEM_WIN_BASE_VALID && (decide (d.ex.inLoc .spill > 0) || decide (d.ex.inLoc .tail > 0 ∧ d.ex.inLoc .head ≥ 64))

/-- EXPORT page (R401). -/
def Dev.viewExport (d : Dev) (off : Nat) : List (Nat × Nat) :=
  let x := d.ex
  let n := x.items.length
  if off == 0x054 then [(0, n)]
  else if off == 0x058 then [(0, n - x.t)]
  else if off == 0x05C then [(0, x.t - x.m)]
  else if off == 0x060 then
    [(31, bnat x.idle), (30, bnat (decide (n ≥ d.exCap))), (29, bnat x.batch.isSome), (28, bnat x.sign.isSome),
     (27, bnat d.spillWait)]
  else []

/-- STW_STAT.STATE encoding (R427). -/
def StwSt.code : StwSt → Nat
  | .empty => 0 | .run => 1 | .sleep => 2 | .swap => 3

/-- WRD_STAT.STATE encoding (R427). -/
def WrdSt.code : WrdSt → Nat
  | .boot => 0 | .ready => 1 | .sleep => 2

/-- BARO page (R448). -/
def Dev.viewBaro (d : Dev) (off : Nat) : List (Nat × Nat) :=
  if off == 0x044 then
    let x := d.baro
    [(28, x.frz), (27, bnat x.snap.isSome), (26, bnat x.pass.isSome), (12, min 2047 x.dirty.length),
     (0, ((upto 2048).filter (fun i => x.kind i != 0)).length)]
  else []

/-- RES[r] (R490). -/
def Dev.viewRes (d : Dev) (r : Nat) : List (Nat × Nat) :=
  let c := d.owner r
  [(30, c.kind), (28, c.path), (20, c.mid), (16, c.feat), (15, bnat (r == 0 && d.capWiping))]

/-- STATE.ALIGN encoding (R119). -/
def Align.code : Align → Nat
  | .free => 0 | .aligning => 1 | .aligned => 2

/-- TICK page (R119). -/
def Dev.viewTick (d : Dev) (off : Nat) : List (Nat × Nat) :=
  let t := d.tick
  if off == 0x040 then [(3, bnat t.thermFast), (2, bnat t.gtValid), (0, t.align.code)]
  else if off == 0x044 then [(0, unsignedOf 16 t.err)]
  else if off == 0x048 then [(0, t.b)]
  else if off == 0x04C then [(0, t.b / 2 ^ 32)]
  else []

/-- TOP page (R114). -/
def State.viewTop (s : State) (off : Nat) : List (Nat × Nat) :=
  let b := s.dev.bld
  if off == 0x044 then [(16, b.cores), (8, b.phases), (0, b.rails)]
  else if off == 0x048 then [(16, sumN b.segs), (8, b.dsMap.length), (0, b.domains)]
  else if off == 0x04C then [(16, b.vsPresent), (8, b.creditCh), (0, b.hintPorts)]
  else if off == 0x050 then [(16, s.aon.count), (0, s.aon.last)]
  else if off == 0x060 then [(30, bnat s.dev.memBusy)]
  else if off == 0x074 then [(16, s.hdr.lost), (0, s.hdr.ring.length)]
  else match s.hdr.ring with
    | e :: _ =>
      if off == 0x078 then [(24, e.param), (23, 1), (16, e.sev), (0, 256 * e.page + e.loc)]
      else if off == 0x07C then [(0, e.beat)]
      else []
    | [] => []

/-- SEC page (R476). -/
def State.viewSec (s : State) (off : Nat) : List (Nat × Nat) :=
  if off == 0x050 then [(0, s.aon.secs)]
  else if off == 0x054 then [(31, bnat s.aon.loaded), (0, s.aon.secs / 2 ^ 32)]
  else if off == 0x058 then [(0, s.aon.pcc)]
  else if off == 0x088 then [(31, bnat s.dev.wrd.measBusy)]
  else if off == 0x08C then [(0, s.dev.measWord)]
  else []

/-- What the fields of the register at `off`, instance `j`, of instance `i` of the page kind `base` show beyond the
register file. -/
def State.view (s : State) (base i off j : Nat) : List (Nat × Nat) :=
  let d := s.dev
  match base with
  | 0x00 => s.viewTop off
  | 0x01 => d.viewTick off
  | 0x02 => s.viewSec off
  | 0x03 => if off == 0x118 then [(0, bnat (if j == 2 then s.aon.wakeHS else if j == 5 then s.aon.wakeWS else false))] else []
  | 0x04 => if off == 0x044 then [(30, d.stw.st.code), (29, d.stw.bank)]
            else if off == 0x074 then [(30, d.wrd.st.code)] else []
  | 0x05 => if off == 0x100 then d.viewRes j else []
  | 0x06 => d.viewPhase (40 * i + j) off
  | 0x08 => d.viewRail i off j
  | 0x10 => d.viewDroop off j
  | 0x11 => d.viewGov off j
  | 0x12 => d.viewLevel off j
  | 0x13 => d.viewCredit off j
  | 0x14 => d.viewHint off
  | 0x15 => d.viewFcast off j
  | 0x16 => d.viewStep off
  | 0x17 =>
    let q := s.aon.squall
    if off == 0x08C then
      [(31, bnat q.active), (30, bnat q.recDone), (29, bnat q.nvFail), (24, q.cause), (16, q.trigs)]
    else if off == 0x090 then [(1, bnat s.aon.prochot), (0, bnat s.aon.coolant)]
    else d.viewTherm off j
  | 0x18 => d.viewIsobar off
  | 0x19 => d.viewDrizzle off j
  | 0x1B => d.viewLedger off
  | 0x1C => d.viewExport off
  | 0x1D => d.viewBaro off
  | 0x1E => if off == 0x064 then [(24, d.tune.reason), (20, d.tune.st.code), (0, d.tune.count)] else []
  | _ => []

/-- The value of field `f` of instance `i` of its page kind, register instance `j`. -/
def State.fieldVal (s : State) (f : Fld) (i j : Nat) : Nat :=
  match (s.view f.page i f.off j).find? (fun v => v.1 == f.lo) with
  | some v => v.2 % 2 ^ f.wid
  | none => s.dev.rd f i j

end Sys2Proof.Machine
end

