-- ==== Sys2Proof/Machine/Aperture.lean ====
section
/-!
DEFINITION. Machine/Aperture.lean: addresses, presence, readiness and guards of the register aperture, and the common page
header (R92 to R97, R103 to R107, R113).
-/
namespace Sys2Proof.Machine

/-! ### Addresses -/

/-- Lowest page number of the kind of page `p` (R94, PAGE_ID.KIND). -/
def pageBase (p : Nat) : Nat := if p == 0x07 then 0x06 else if 0x08 ≤ p ∧ p ≤ 0x0F then 0x08 else p

/-- Instance of page `p` within its kind (R94). -/
def pageInst (p : Nat) : Nat := p - pageBase p

/-- The page exists: 0x1F and the pages of absent rails are reserved in their entirety (R93, R113). -/
def Dev.pagePresent (d : Dev) (p : Nat) : Bool :=
  if 0x08 ≤ p ∧ p ≤ 0x0F then decide (p - 0x08 < d.nRails) else decide (p < 0x1F)

/-- The register of page `p` at byte offset `off`, with its instance (R92). -/
def regAt (p off : Nat) : Option (Reg × Nat) :=
  let rec go : List Reg → Option (Reg × Nat)
    | [] => none
    | r :: l =>
      if r.stride == 0 then (if r.off == off then some (r, 0) else go l)
      else if r.off ≤ off ∧ (off - r.off) % r.stride = 0 ∧ (off - r.off) / r.stride < r.cnt then
        some (r, (off - r.off) / r.stride)
      else go l
  go (regsOfPage p)

/-- Instance `j` of the register at `off` in instance `i` of the page kind exists; the registers of absent instances are
reserved locations (R107, R113 and the page rule of each chapter). -/
def Dev.regPresent (d : Dev) (base i off j : Nat) : Bool :=
  match base with
  | 0x03 => off != 0x118 || j == 2 || j == 5
  | 0x06 => decide (40 * i + j < d.phases.length)
  | 0x10 => if off < 0x100 then true else if off < 0x200 then decide (j < d.doms.length) else decide (j < d.sats.length)
  | 0x11 => decide (off < 0x200) || decide (j < d.nRails)
  | 0x12 =>
    if off < 0x080 then true else if off < 0x0C0 then decide (32 * j < d.bld.cores)
    else if off < 0x100 then decide (4 * j < d.bld.creditCh) else decide (j < d.doms.length)
  | 0x13 => decide (off < 0x100) || decide (j < d.nRails)
  | 0x14 => decide (off < 0x100) || decide (j < d.bld.hintPorts)
  | 0x15 => decide (off < 0x100) || decide (j < d.nRails)
  | 0x16 => decide (off < 0x100) || decide (j < d.nRails)
  | 0x17 => !(off == 0x380 || off == 0x384) || decide (j < d.therm.xt.length)
  | 0x19 => decide (off < 0x100) || decide (j < d.dz.cl.length)
  | 0x1B => decide (off < 0x100) || decide (j < d.nRails)
  | _ => true

/-- The bits of a field that belong to present instances (R236, R257, R282, R367): the others read zero and ignore writes. -/
def Dev.liveMask (d : Dev) (f : Fld) (j : Nat) : Nat :=
  if f.same LEVEL.CORE_EN_EN then 2 ^ min 32 (d.bld.cores - 32 * j) - 1
  else if f.same CREDIT.CH_EN_EN || f.same DRIZZLE.PRERAMP_MASK_CH then 2 ^ min f.wid d.bld.creditCh - 1
  else if f.same HINT.PORT_EN_EN then 2 ^ min f.wid d.bld.hintPorts - 1
  else 2 ^ f.wid - 1

/-- PAGE_STATUS.READY (R95, R455): FW waits for both control-core RAMs. -/
def Dev.ready (d : Dev) (p : Nat) : Bool :=
  !d.wiping.contains p && !(p == 0x04 && d.wiping.contains 0x104)

/-! ### Guards -/

/-- The access may write a field of the guard; `m` is the mailbox (R104, R408, R427). -/
def Guard.okWrite (g : Guard) (m : Nat) (a : Acc) : Bool :=
  match g with
  | .open_ => true
  | .priv => a.priv || a.sec
  | .sec => a.sec
  | .send => mbSender m a
  | .recv => mbReceiver m a
  | .either => mbSender m a || mbReceiver m a
  | .sendRead => mbSender m a
  | .privPort => a.path == .regPort && (a.priv || a.sec)
  | .privStw => a.path == .steward && (a.priv || a.sec)

/-- The access may read a field of the guard: DATA is readable by both sides (R408). -/
def Guard.okRead (g : Guard) (m : Nat) (a : Acc) : Bool :=
  match g with
  | .sendRead => mbSender m a || mbReceiver m a
  | g => g.okWrite m a

/-- PATH code of GUARD_LAST (R105, R476). -/
def missPath : Path → Nat
  | .regPort => 0
  | .tblPort => 1
  | .steward => 2
  | .warden => 3

/-- One guard miss (R105, R477): aperture 0 register, 1 table, and its address. -/
def Dev.guardMiss (d : Dev) (a : Acc) (aper addr : Nat) : Dev :=
  let d := d.bump SEC.GUARD_MISS_COUNT
  let d := ((d.wr SEC.GUARD_LAST_PATH (missPath a.path)).wr SEC.GUARD_LAST_APERTURE aper).wr SEC.GUARD_LAST_MID a.mid.toNat
  let d := d.wr SEC.GUARD_LAST_ADDR addr
  if d.missSent then d else ({ d with missSent := true }).ev Ev.SEC_GUARD_MISS (missPath a.path)

/-! ### The header (R94 to R97) -/

/-- PAGE_CAP (R94 and the page rule of each chapter). -/
def Dev.pageCap (d : Dev) (p : Nat) : Nat :=
  match pageBase p with
  | 0x06 => min 40 (d.phases.length - 40 * pageInst p)
  | 0x08 => bitsAt d.bld.vsPresent (pageInst p) 1
  | 0x10 => d.sats.length
  | 0x14 => 4096
  | 0x15 => 262144
  | 0x17 => sumN ((upto 4).map (fun n => putAt (d.bld.segs.getD n 0) (8 * n)))
  | 0x18 => 16384
  | 0x1B => 8192
  | 0x1C => 262144
  | 0x1D => 2048
  | 0x1E => 65536
  | _ => 0

/-- PAGE_STATUS.BUSY, as each page's chapter names it (R94). -/
def Dev.pageBusy (d : Dev) (p : Nat) : Bool :=
  let i := pageInst p
  match pageBase p with
  | 0x02 => !d.on SEC.BOOT_DONE
  | 0x04 => d.on FW.SWAP_STAT_BUSY
  | 0x05 => d.capWiping
  | 0x06 => (upto 40).any (fun j => let l := (d.phase (40 * i + j)).link; l == .train || l == .config)
  | 0x08 => (d.rail i).cmd.st == .starting
  | 0x10 => d.cal.running || d.wave.st == .armed
  | 0x11 => d.changePrepared
  | 0x12 => d.on LEVEL.BANK_PEND
  | 0x14 => d.hintBusy
  | 0x15 => d.fc.pend
  | 0x16 => d.step.pend
  | 0x18 => d.iso.apply.isSome
  | 0x19 => d.dz.pre.isSome
  | 0x1A => d.bud.poll
  | 0x1B => d.led.query || d.led.flushing || d.led.init
  | 0x1C => d.ex.sign.isSome
  | 0x1D => d.baro.pass.isSome || d.baro.snap.isSome
  | 0x1E => d.tune.running
  | _ => false

/-- PAGE_STATUS.BUSY of any page; on the THERM page it is 1 from S0 until the critical record completes or fails (R325). -/
def State.pageBusy (s : State) (p : Nat) : Bool :=
  if p == 0x17 then s.aon.squall.st != .none else s.dev.pageBusy p

/-- PAGE_STATUS (R94). -/
def State.pageStatus (s : State) (p : Nat) : Nat :=
  let f := s.hdr.faultOf p
  putAt (bnat (f != 0)) 11 + putAt (faultSev p f 32) 8 + putAt (bnat (s.aon.posted.any (fun w => w.1 == p))) 2
    + putAt (bnat (s.pageBusy p)) 1 + bnat (s.dev.ready p)

/-- The header write guard of R93. -/
def headerGuard (p : Nat) : Guard := if p == 0x02 then .sec else .priv

/-- A header register as an access reads it, and whether the read meets a guard it lacks (R94, R105): FATAL bits of
PAGE_FAULT read zero to a master that is not secure. -/
def State.headerRead (s : State) (a : Acc) (p off : Nat) : Nat × Bool :=
  let ok := (headerGuard p).okRead 0 a
  if off == 0x00 then (putAt (pageInst p) 16 + putAt (pageBase p) 8 + p, false)
  else if off == 0x04 then (0x0401, false)
  else if off == 0x08 then (s.dev.pageCap p, false)
  else if off == 0x0C then (s.pageStatus p, false)
  else if off == 0x10 then
    let f := s.hdr.faultOf p
    (if a.sec then f else if ok then f - (f &&& fatalMask p) else 0, !ok)
  else if off == 0x14 then (if ok then s.hdr.enOf p else 0, !ok)
  else if off == 0x18 then
    let r := s.hdr.routeOf p
    ((if a.sec then r % 32 else if a.priv then r % 16 else 0), !(a.sec || a.priv))
  else (0, false)

/-- A write to a header register (R94, R96, R97, R99), and whether it meets a guard it lacks. FATAL bits of PAGE_FAULT clear
for a secure master only. -/
def State.headerWrite (s : State) (a : Acc) (p off v : Nat) : State × Bool :=
  let ok := (headerGuard p).okWrite 0 a
  if off == 0x10 then
    let may := if a.sec then 2 ^ 32 - 1 else if ok then (2 ^ 32 - 1) - fatalMask p else 0
    let clr := v &&& may
    ({ s with hdr := { s.hdr with fault := sparseSet 0 p (s.hdr.faultOf p - (s.hdr.faultOf p &&& clr)) s.hdr.fault } },
      v != clr)
  else if off == 0x14 then
    if ok then ({ s with hdr := { s.hdr with en := sparseSet 0 p v s.hdr.en } }, false)
    else (s, v != s.hdr.enOf p)
  else if off == 0x18 then
    let may := (if a.sec then 16 else 0) + (if a.sec || a.priv then 15 else 0)
    let mask := bitsAt v 16 5
    let sel := mask &&& may
    let old := s.hdr.routeOf p
    ({ s with hdr := { s.hdr with route := sparseSet 0 p (old - (old &&& sel) + (v &&& sel)) s.hdr.route } }, mask != sel)
  else (s, false)

end Sys2Proof.Machine
end

