-- ==== Sys2Proof/Machine/WriteRules.lean ====
section
/-!
DEFINITION. Machine/WriteRules.lean: when a register write, or one field of it, is refused (R108 and the rule of each
chapter), and when a clamp starts to act (R23).
-/
namespace Sys2Proof.Machine

/-! ### Single fields -/

/-- The field of a word. -/
def Fld.of (f : Fld) (v : Nat) : Nat := bitsAt v f.lo f.wid

/-- The rail runs and its phases switch: PERIOD may not change (R145). -/
def Dev.newPeriod (d : Dev) (n v : Nat) : Nat :=
  let p := RAIL.PWM_PERIOD.of v
  if p < 50 || 250 < p || d.railSwitching n then d.rd RAIL.PWM_PERIOD n else p

/-- Least PERIOD of the PMBus master at a SPEED code (R65). -/
def pmbPeriodMin (speed : Nat) : Nat := if speed == 2 then 1 else if speed == 1 then 2 else 5

/-- A value beyond its range, or one that a relation among fields of the page forbids, as written in word `v` (R108):
refused whether or not it changes the field. -/
def Dev.valueRefused (d : Dev) (f : Fld) (i j v : Nat) : Bool :=
  let x := f.of v
  decide (x < f.rmin) || decide (f.rmax < x) ||
  match f.page with
  | 0x04 => f.same FW.SHED_L1 && decide (x ≥ FW.SHED_L2.of v)
  | 0x08 =>
    if f.same RAIL.PWM_TMAX then decide (x > 16 * d.newPeriod i v - 32)
    else if f.off == RAIL.ADDSHED_ADD_I.off then decide (RAIL.ADDSHED_ADD_I.of v ≤ RAIL.ADDSHED_SHED_I.of v)
    else false
  | 0x10 => f.off == DROOP.GBUB_GBUB1.off && decide (x > 256)
  | 0x11 =>
    if f.same GOV.BAND_LO || f.same GOV.BAND_HI then decide (GOV.BAND_LO.of v ≤ GOV.BAND_HI.of v)
    else if f.same GOV.BAND_T_LO || f.same GOV.BAND_T_HI then decide (GOV.BAND_T_LO.of v ≤ GOV.BAND_T_HI.of v)
    else false
  | 0x12 => f.same LEVEL.DOM_RAIL && decide (8 ≤ x) && decide (x ≤ 14)
  | 0x15 => (f.same FCAST.CFG_K_LO || f.same FCAST.CFG_K_HI) && decide (FCAST.CFG_K_LO.of v > FCAST.CFG_K_HI.of v)
  | 0x17 =>
    if f.off == THERM.ZLIM_T_CTRL.off then
      decide (signedOf 16 (THERM.ZLIM_T_CTRL.of v) > signedOf 16 (THERM.ZLIM_T_ALARM.of v))
        || decide (signedOf 16 (THERM.ZLIM_T_ALARM.of v) > signedOf 16 (d.rd THERM.ZTRIP_T_TRIP 0 j))
    else if f.off == THERM.ZTRIP_T_TRIP.off then
      decide (signedOf 16 (d.rd THERM.ZLIM_T_ALARM 0 j) > signedOf 16 x)
    else if f.off == THERM.XTMEM_T1.off then
      decide (signedOf 16 (THERM.XTMEM_T1.of v) ≤ signedOf 16 (THERM.XTMEM_T0.of v))
    else false
  | 0x1A =>
    if f.same BUDGET.PMB_CFG_PERIOD then
      let sp := BUDGET.PMB_CFG_SPEED.of v
      decide (x < pmbPeriodMin (if sp == 3 then d.rd BUDGET.PMB_CFG_SPEED else sp))
    else f.same BUDGET.GRANT1_SEQ && d.rd BUDGET.GRANT0_VALID_MS == 0
  | 0x18 => f.same ISOBAR.INDEX_INDEX && decide (x ≥ d.rd ISOBAR.EPOCH_COUNT_COUNT)
  | 0x1D => f.same BARO.SUBJ_CFG_SOURCE && !sourceOk x
  | 0x1E => (f.same TUNE.CAP_CFG_SEL_A || f.same TUNE.CAP_CFG_SEL_B) && decide (x > 7)
  | _ => false

/-- The LOCK bit that guards a HARD_ field or a LOCK bit, if it is one (R470, R471). -/
def lockOf (f : Fld) : Option Fld :=
  match hardFlds.find? (fun h => h.1.same f) with
  | some h => some h.2.1
  | none => lockFlds.find? (fun l => l.same f)

/-- The LOCK bit `l` of a HARD_ field is set; the lock stands in the field's register, or once for the page. -/
def Dev.lockSet (d : Dev) (l f : Fld) (i j : Nat) : Bool := d.on l i (if l.off == f.off then j else 0)

/-- A change of a HARD_ field or LOCK bit of a locked register is refused (R471). -/
def Dev.hardRefused (d : Dev) (f : Fld) (i j : Nat) : Bool :=
  match lockOf f with
  | none => false
  | some l => d.lockSet l f i j

/-- Every write to a HARD_ field or LOCK bit is refused before the profile is applied, from another path than the Warden
(R454). -/
def Dev.profileRefused (d : Dev) (a : Acc) (f : Fld) : Bool :=
  (lockOf f).isSome && !d.on SEC.BOOT_PROFILE && a.path != .warden

/-- A change of the field from its present value is refused in the present state (R108). -/
def State.changeRefused (s : State) (f : Fld) (i j v : Nat) : Bool :=
  let d := s.dev
  let x := f.of v
  d.hardRefused f i j ||
  match f.page with
  | 0x00 => f.same TOP.MEM_WIN_BASE_BASE && d.on TOP.MEM_WIN_BASE_VALID
  | 0x08 =>
    if f.same RAIL.CTRL_RUN then x == 1 && d.runRefused i s.aon.squall.active (d.on SEC.BOOT_PROFILE)
    else if f.same RAIL.CTRL_MODE then d.on RAIL.CTRL_RUN i
    else if f.same RAIL.CTRL_LOOP then x == 0 && d.openRefused i
    else if f.same RAIL.PWM_PERIOD then d.railSwitching i
    else false
  | 0x12 => (f.same LEVEL.DOM_RAIL || f.off == LEVEL.CHDOM_DOM0.off) && d.mapLocked
  | 0x1E => d.tune.running && f.acc == .rw
  | _ => false

/-- A write of one field is refused. -/
def State.fldRefused (s : State) (a : Acc) (f : Fld) (i j v : Nat) : Bool :=
  s.dev.valueRefused f i j v || s.dev.profileRefused a f
    || (f.of v != s.fieldVal f i j && s.changeRefused f i j v)

/-! ### Whole writes -/

/-- The whole write is refused: PHASE CTRL (R144), RAIL CMD (R155), PRERAMP_CTRL with GO = 1 (R361). -/
def Dev.wordRefused (d : Dev) (base i off j v : Nat) : Bool :=
  if base == 0x06 && off == PHASE.CTRL_EN.off then
    d.phCtrlRefused (40 * i + j) (PHASE.CTRL_EN.of v) (PHASE.CTRL_RAIL.of v) (PHASE.CTRL_CLEAR.of v)
  else if base == 0x08 && off == RAIL.CMD_TARGET.off then
    !d.on RAIL.CTRL_SRC i || decide (RAIL.CMD_SLEW.of v < 1) || decide (RAIL.CMD_SLEW.of v > 200)
  else if base == 0x19 && off == DRIZZLE.PRERAMP_CTRL_GO.off then
    DRIZZLE.PRERAMP_CTRL_GO.of v == 1 && d.preRefused (DRIZZLE.PRERAMP_CTRL_LEVEL.of v)
  else false

/-! ### Clamps (R23) -/

/-- The bounded fields with a HARD_ bound on the same page: field, bound, bounded from below, signed. -/
def clampPairs : List (Fld × Fld × Bool × Bool) :=
  [(RAIL.VLIM_VMAX, RAIL.HARD_V_HARD_VMAX, false, false), (RAIL.VLIM_VMIN, RAIL.HARD_V_HARD_VMIN, true, false),
   (RAIL.SQUALL_VRET, RAIL.HARD_V_HARD_VMAX, false, false), (RAIL.SENSEDET_REL, RAIL.HARD_FDET_HARD_SREL, false, false),
   (RAIL.SENSEDET_ABS, RAIL.HARD_FDET_HARD_SABS, false, false),
   (RAIL.SENSEDET_RIP_ABS, RAIL.HARD_FDET_HARD_SABS, false, false),
   (RAIL.DERATE_MIN_PHASES, RAIL.HARD_FDET_HARD_MINPH, true, false),
   (DROOP.CAL_STEP_MAX, DROOP.HARD_CAL_HARD_CALMAX, false, false),
   (GOV.CTRL_LEVEL_MAX, GOV.HARD_PL1_HARD_LEVEL, false, false),
   (GOV.CTRL_HOLD_LEVEL_CAP, GOV.HARD_PL1_HARD_LEVEL, false, false),
   (GOV.SAFE_LEVEL_MAX, GOV.HARD_PL1_HARD_LEVEL, false, false),
   (GOV.PROCHOT_LEVEL, GOV.HARD_PL1_HARD_LEVEL, false, false),
   (GOV.PLIM0_PL_SUSTAIN, GOV.HARD_PL0_HARD_SUSTAIN, false, false),
   (GOV.PLIM0_PL_FAST, GOV.HARD_PL0_HARD_FAST, false, false),
   (GOV.PLIM1_PL_THERMAL, GOV.HARD_PL1_HARD_THERMAL, false, false),
   (GOV.MPA_GUARD, GOV.HARD_PL1_HARD_GUARD, true, false),
   (GOV.RLIM_TDC, GOV.RHARD_HARD_TDC, false, false), (GOV.RLIM_EDC, GOV.RHARD_HARD_EDC, false, false),
   (CREDIT.POOL_POOL, CREDIT.HARD_HARD_POOL, false, false),
   (THERM.ROR_ROR_ACT, THERM.HARD_T_HARD_RORACT, false, false),
   (THERM.ALARM_ALARM_LEVEL, GOV.HARD_PL1_HARD_LEVEL, false, false),
   (THERM.ZTRIP_T_TRIP, THERM.HARD_T_HARD_TTRIP, false, true),
   (BUDGET.GRANT0_WATTS, BUDGET.HARD_GRANT_HARD_GRANT, false, false),
   (BUDGET.FLOOR_FLOOR, BUDGET.HARD_GRANT_HARD_GRANT, false, false)]

/-- Instances of a bounded field within its page. -/
def Dev.clampInsts (d : Dev) (f : Fld) : List Nat :=
  if f.stride == 0 then [0]
  else if f.same GOV.MPA_GUARD then upto 4
  else if f.same THERM.ZTRIP_T_TRIP then upto 32
  else upto d.nRails

/-- The clamp of a bounded field acts: the value in use differs from the value written. -/
def Dev.clampActs (d : Dev) (c : Fld × Fld × Bool × Bool) (i j : Nat) : Bool :=
  let (f, h, below, sgn) := c
  let x := d.rd f i j
  let b := d.rd h i (if h.stride == f.stride then j else 0)
  if sgn then decide (signedOf 16 x > signedOf 16 b)
  else if below then decide (x < b)
  else decide (x > b)

/-- The clamps that a write of the register at `off` of page `base` may start, each with the page of its bounded field and its
state after `d`. -/
def Dev.clampsOf (d : Dev) (base i off : Nat) : List (Nat × Bool) :=
  (clampPairs.filter (fun c =>
    (c.1.page == base && (c.1.off == off || decide (0 < c.1.stride))) || (c.2.1.page == base && c.2.1.off == off))).flatMap
    (fun c => (d.clampInsts c.1).map (fun j => (c.1.page, d.clampActs c i j)))

/-- One `_CLAMP` event, of the page that holds the bounded field, for each clamp that has started to act between `was` and
`d`. -/
def Dev.clampEvents (d was : Dev) (base i off : Nat) : Dev :=
  ((List.zip (was.clampsOf base i off) (d.clampsOf base i off)).filter (fun p => !p.1.2 && p.2.2)).foldl
    (fun d p => d.ev (Ev.clamp p.2.1) i i) d

end Sys2Proof.Machine
end

