-- ==== Sys2Proof/Machine/WriteEffects.lean ====
section
/-!
DEFINITION. Machine/WriteEffects.lean: what a register write does beyond storing its fields: the commands that the pages
define on their registers. Each effect takes the device after the fields of the word are stored, the device before the
write, and `ok`, which tells whether a field of the word was accepted from this access.
-/
namespace Sys2Proof.Machine

/-- A write of 1 to a one-bit field that was accepted. -/
def Fld.set1 (f : Fld) (ok : Fld → Bool) (v : Nat) : Bool := ok f && f.of v == 1

/-- Raise `_BAD_VALUE` of instance `i` of a page kind (R108, R109). -/
def Dev.bad (d : Dev) (base : Nat) (i : Nat := 0) : Dev :=
  if base == 0x18 then d.isoNotice (Ev.badValue 0x18) 0 else d.ev (Ev.badValue base) i i

/-- PHASE pages (R129, R144, R146). -/
def Dev.wrotePhase (d was : Dev) (ok : Fld → Bool) (p off v : Nat) : Dev :=
  if off == PHASE.CTRL_EN.off then
    if ok PHASE.CTRL_EN then d.phCtrlDone p (was.phEn p) (PHASE.CTRL_CLEAR.of v) (PHASE.CTRL_RETRAIN.of v) else d
  else if off == PHASE.CFG_IPK_MAX.off then
    if d.rdPh PHASE.CFG_IPK_MAX p == was.rdPh PHASE.CFG_IPK_MAX p then d else d.phIpkDone p
  else d

/-- R179: an accepted FINJ write names a phase of the rail that switches. -/
def Dev.finjWrite (d : Dev) (n p : Nat) : Dev :=
  if decide (p < d.phases.length) && d.phRail p == n && (d.phase p).st.switching then
    d.updFlt n (fun x => { x with finj := insertAsc p x.finj })
  else d.bad 0x08 n

/-- CTRL of a RAIL page: SRC, MODE, RUN, LOOP (R155, R157, R159, R160, R168: a run on a rail that leaves direct control
aborts). -/
def Dev.wroteRailCtrl (d was : Dev) (ok : Fld → Bool) (n v : Nat) : Dev :=
  let d := if d.avs n && !was.avs n then d.tuneAbortOn n 2 else d
  let d := if d.rd RAIL.CTRL_SRC n == was.rd RAIL.CTRL_SRC n then d else d.srcWrite n (d.rd RAIL.CTRL_SRC n)
  let d := if was.on RAIL.CTRL_RUN n then (if d.on RAIL.CTRL_RUN n then d else d.railStop n)
           else if d.on RAIL.CTRL_RUN n then d.railStart n else d
  if ok RAIL.CTRL_LOOP then d.loopWrite n (RAIL.CTRL_LOOP.of v) else d

/-- RAIL pages. A PWM write that gives TMAX its present value sends no WRITE TMAX (R141; log entry 83). -/
def Dev.wroteRail (d was : Dev) (ok : Fld → Bool) (n off j v : Nat) : Dev :=
  if off == RAIL.CTRL_RUN.off then d.wroteRailCtrl was ok n v
  else if off == RAIL.CMD_TARGET.off then (if ok RAIL.CMD_TARGET then d.hostCmd n else d)
  else if off == RAIL.COEF_EDIT_W.off then (if ok RAIL.COEF_EDIT_W then d.coefWrite n j v else d)
  else if off == RAIL.PWM_TMAX.off then
    if d.rd RAIL.PWM_TMAX n == was.rd RAIL.PWM_TMAX n then d else d.tmaxDone n
  else if off == RAIL.FINJ_GO.off then (if RAIL.FINJ_GO.set1 ok v then d.finjWrite n (RAIL.FINJ_PHASE.of v) else d)
  else d

/-- TUNE page (R166, R168). -/
def Dev.wroteTune (d : Dev) (a : Acc) (ok : Fld → Bool) (off v : Nat) : Dev :=
  if off == TUNE.CTRL_ARM.off then
    let d := if TUNE.CTRL_STOP.set1 ok v then d.tuneAbort 6 else d
    if TUNE.CTRL_ARM.set1 ok v then d.tuneArm a else d
  else d

/-- DROOP page (R202, R208, R212). -/
def Dev.wroteDroop (d : Dev) (a : Acc) (ok : Fld → Bool) (off j v : Nat) : Dev :=
  if off == DROOP.CAL_CTRL_GO.off then
    if DROOP.CAL_CTRL_GO.set1 ok v then d.calDue (DROOP.CAL_CTRL_RAIL.of v) else d
  else if off == DROOP.WAVE_CFG_ARM.off then
    let d := if DROOP.WAVE_CFG_STOP.set1 ok v then d.waveAbort else d
    if DROOP.WAVE_CFG_ARM.set1 ok v then d.waveArm a else d
  else if off == DROOP.MAP_USE.off && ok DROOP.MAP_USE then d.mapUse j (DROOP.MAP_USE.of v)
  else d

/-- LEVEL page (R223, R224). -/
def Dev.wroteLevel (d was : Dev) (ok : Fld → Bool) (off v : Nat) : Dev :=
  if off == LEVEL.BANK_SWAP.off then (if LEVEL.BANK_SWAP.set1 ok v then d.wr LEVEL.BANK_PEND 1 else d)
  else if off == LEVEL.FITCTL_HOLD.off then d.fitctlDone (was.rd LEVEL.FITCTL_HOLD)
  else d

/-- STEP page (R274). -/
def Dev.wroteStep (d : Dev) (ok : Fld → Bool) (off v : Nat) : Dev :=
  if off == STEP.CTRL_SWAP.off then
    let d := if STEP.CTRL_SWAP.set1 ok v then d.stepSwapReq else d
    if STEP.CTRL_SWAP_NOW.set1 ok v then d.stepSwapNow else d
  else d

/-- FCAST page (R296, R301). A change of EN acts at the next beat strobe (R296). -/
def Dev.wroteFcast (d : Dev) (ok : Fld → Bool) (off v : Nat) : Dev :=
  if off == FCAST.CTRL_SWAP.off then
    let d := if FCAST.CTRL_SWAP.set1 ok v then d.fcSwap else d
    if FCAST.CTRL_REARM.set1 ok v then d.fcRearm else d
  else d

/-- CRIT_WDATA (R326): a word of the reported record, and the index after it. -/
def Dev.critWord (d : Dev) (v : Nat) : Dev :=
  let k := d.rd THERM.CRIT_IDX_IDX
  (d.wr THERM.CRITREC_WORD v 0 k).wr THERM.CRIT_IDX_IDX ((k + 1) % 16)

/-- CRIT_IDX.DONE (R326, R329): the reported record is complete. -/
def Dev.critDone (d : Dev) : Dev := (d.wr THERM.CRITSTAT_VALID 1).ev Ev.THERM_CRIT_REPORT 0

/-- THERM page (R314, R322, R326). -/
def Dev.wroteTherm (d was : Dev) (ok : Fld → Bool) (off v : Nat) : Dev :=
  if off == THERM.CTRL_XCHK_EN.off then
    if was.on THERM.CTRL_XCHK_EN && !d.on THERM.CTRL_XCHK_EN then d.xchkOff else d
  else if off == THERM.SQ_FORCE_KEY.off then
    if ok THERM.SQ_FORCE_KEY then (if v == 0x5C01 then d.squallReq 4 0 else d.bad 0x17) else d
  else if off == THERM.CRIT_WDATA_DATA.off then (if ok THERM.CRIT_WDATA_DATA then d.critWord v else d)
  else if off == THERM.CRIT_IDX_DONE.off then (if THERM.CRIT_IDX_DONE.set1 ok v then d.critDone else d)
  else d

/-- ISOBAR page (R330). -/
def Dev.wroteIsobar (d : Dev) (ok : Fld → Bool) (off v : Nat) : Dev :=
  if off == ISOBAR.APPLY_CTRL_GO.off && ISOBAR.APPLY_CTRL_GO.set1 ok v then
    if d.applyRefused then d.bad 0x18 else d.applyGo
  else d

/-- DRIZZLE page (R361). -/
def Dev.wroteDrizzle (d : Dev) (ok : Fld → Bool) (off v : Nat) : Dev :=
  if off == DRIZZLE.PRERAMP_CTRL_GO.off && DRIZZLE.PRERAMP_CTRL_GO.set1 ok v then d.preGo else d

/-- BUDGET page (R369). -/
def Dev.wroteBudget (d : Dev) (ok : Fld → Bool) (off : Nat) : Dev :=
  if off == BUDGET.GRANT1_SEQ.off && ok BUDGET.GRANT1_SEQ then d.grantSubmit else d

/-- LEDGER page (R378, R387): a close names a tag from 16 up. -/
def Dev.wroteLedger (d : Dev) (ok : Fld → Bool) (off v : Nat) : Dev :=
  if off == LEDGER.CTRL_FLUSH.off then (if LEDGER.CTRL_FLUSH.set1 ok v then d.ledFlush else d)
  else if off == LEDGER.CLOSE_GO.off then
    if LEDGER.CLOSE_GO.set1 ok v then
      if LEDGER.CLOSE_TAG.of v < 16 then d.bad 0x1B else d.ledClose (LEDGER.CLOSE_TAG.of v)
    else d
  else if off == LEDGER.QUERY_GO.off then (if LEDGER.QUERY_GO.set1 ok v then d.ledQuery else d)
  else d

/-- EXPORT page (R390, R393). -/
def Dev.wroteExport (d was : Dev) (ok : Fld → Bool) (off v : Nat) : Dev :=
  if off == EXPORT.CMD_MARK.off then (if ok EXPORT.CMD_MARK then d.exCmd v else d)
  else if off == EXPORT.CTRL_EN.off then
    if !ok EXPORT.CTRL_EN then d
    else if !d.on EXPORT.CTRL_EN then d.exEnWrite
    else if was.on EXPORT.CTRL_EN then d else exEnterAll 8192 d
  else d

/-- FW page (R406, R407, R422): a signature outstanding at a Warden reset completes unsigned (R390). -/
def Dev.wroteFw (d : Dev) (ok : Fld → Bool) (off v : Nat) : Dev :=
  if off == FW.STW_CTRL_HALT.off then
    if ok FW.STW_CTRL_HALT then (if v == 0x5E7D then d.stwHalt.snapStopped d else d.bad 0x04) else d
  else if off == FW.HEARTBEAT_BEAT.off then (if ok FW.HEARTBEAT_BEAT then d.heartbeat else d)
  else if off == FW.WRD_CTRL_RESTART.off then
    if ok FW.WRD_CTRL_RESTART then
      if v == 0x3A5D then (if d.ex.sign.isSome then d.exUnsigned else d).wrdRestart.snapStopped d else d.bad 0x04
    else d
  else d

/-- MBOX page (R410, R411). DB is cleared as its W1C field is stored; WAKE is posted. -/
def Dev.wroteMbox (d was : Dev) (ok : Fld → Bool) (off m v : Nat) : Dev :=
  if off == MBOX.DATA_WORD.off then (if ok MBOX.DATA_WORD then d.mbWrite m v else d)
  else if off == MBOX.RING_RING.off then
    if ok MBOX.RING_RING then d.dbSet m (2 * MBOX.RING_RING.of v) else d
  else if off == MBOX.CTRL_TAKE.off then (if MBOX.CTRL_TAKE.set1 ok v then d.mbTake m else d)
  else if off == MBOX.DB_MASK_MASK.off then d.dbRise was m
  else d

/-- CLAIM page (R479, R483, R487). -/
def Dev.wroteClaim (d was : Dev) (a : Acc) (ok : Fld → Bool) (off j v : Nat) : Dev :=
  if off == CLAIM.REQ_OP.off then
    if ok CLAIM.REQ_OP then (d.claimReq a (CLAIM.REQ_OP.of v) (CLAIM.REQ_FEATURE.of v) (CLAIM.REQ_RES.of v)).snapStopped d
    else d
  else if off == CLAIM.BREAK_GO.off then
    if CLAIM.BREAK_GO.set1 ok v then
      if d.breakRefused (CLAIM.BREAK_RES.of v) then d.bad 0x05 else (d.claimBreak (CLAIM.BREAK_RES.of v)).snapStopped d
    else d
  else if off == CLAIM.TMR_RUN.off then d.tmrDone j (was.on CLAIM.TMR_RUN 0 j)
  else d

/-- BARO page (R433, R439 to R443). -/
def Dev.wroteBaro (d : Dev) (a : Acc) (ok : Fld → Bool) (off j v : Nat) : Dev :=
  if off == BARO.FREEZE_HOLD.off then
    let d := if BARO.FREEZE_HOLD.set1 ok v then d.freezeHold a else d
    if BARO.FREEZE_RELEASE.set1 ok v then d.freezeRelease a else d
  else if off == BARO.MIRROR_NOW.off then (if BARO.MIRROR_NOW.set1 ok v then d.mirrorStart else d)
  else if off == BARO.SNAP_GO.off then
    if BARO.SNAP_GO.set1 ok v then (if d.snapRefused a then d.bad 0x1D else d.snapGo) else d
  else if off == BARO.RESTORE_DONE.off then
    if BARO.RESTORE_DONE.set1 ok v then (if d.restoreRefused then d.bad 0x1D else d.restoreDone) else d
  else if 0x100 ≤ off then
    if ok BARO.SUBJ_CFG_INSTANCE then d.subjWritten j else d
  else d

/-- LOCKALL (R454, R471, R473). -/
def Dev.lockAllWrite (d : Dev) (a : Acc) (v : Nat) : Dev :=
  if v == 0x10CA && (d.on SEC.BOOT_PROFILE || a.path == .warden) then d.lockAll.measMark d
  else d.bad 0x02

/-- The staged words of LOAD_OPS (R461), and LOCKALL. -/
def Dev.wroteSec (d : Dev) (a : Acc) (ok : Fld → Bool) (off v : Nat) : Dev :=
  if off == SEC.LOAD_OPS_LO_SECONDS.off then (if ok SEC.LOAD_OPS_LO_SECONDS then d.wr SEC.LOAD_OPS_LO_SECONDS v else d)
  else if off == SEC.LOAD_OPS_HI_SECONDS.off then (if ok SEC.LOAD_OPS_HI_SECONDS then d.wr SEC.LOAD_OPS_HI_SECONDS v else d)
  else if off == SEC.LOCKALL_KEY.off then (if ok SEC.LOCKALL_KEY then d.lockAllWrite a v else d)
  else d

/-- The effects of a write on the core domain. -/
def Dev.wrote (d was : Dev) (a : Acc) (ok : Fld → Bool) (base i off j v : Nat) : Dev :=
  match base with
  | 0x00 => if off == TOP.MEM_WIN_BASE_VALID.off then exEnterAll 8192 ((d.winWrite (was.rd TOP.MEM_WIN_BASE_VALID)).exCapFall was).exSigs else d
  | 0x02 => d.wroteSec a ok off v
  | 0x03 => d.wroteMbox was ok off j v
  | 0x04 => d.wroteFw ok off v
  | 0x05 => d.wroteClaim was a ok off j v
  | 0x06 => d.wrotePhase was ok (40 * i + j) off v
  | 0x08 => d.wroteRail was ok i off j v
  | 0x10 => d.wroteDroop a ok off j v
  | 0x12 => d.wroteLevel was ok off v
  | 0x15 => d.wroteFcast ok off v
  | 0x16 => d.wroteStep ok off v
  | 0x17 => d.wroteTherm was ok off v
  | 0x18 => d.wroteIsobar ok off v
  | 0x19 => d.wroteDrizzle ok off v
  | 0x1A => d.wroteBudget ok off
  | 0x1B => d.wroteLedger ok off v
  | 0x1C => d.wroteExport was ok off v
  | 0x1D => d.wroteBaro a ok off j v
  | 0x1E => d.wroteTune a ok off v
  | _ => d

/-! ### Registers of the whole block -/

/-- A posted always-on write (R101). -/
def State.post (s : State) (p : Nat) (w : AonWrite) : State :=
  { s with aon := { s.aon with posted := s.aon.posted ++ [(p, w)] } }

/-- EVT_NEXT (R110): the consumer's POP discards the head; another path's write is refused. -/
def State.evtNext (s : State) (a : Acc) (pop : Bool) : State :=
  let mine := if s.dev.on TOP.EVT_CFG_CONSUMER then a.path == .steward else a.path == .regPort
  if !mine then { s with dev := s.dev.bad 0x00 }
  else if pop then { s with hdr := { s.hdr with ring := s.hdr.ring.drop 1 } }
  else s

/-- BLOCK_RESET (R116). -/
def State.blockResetKey (s : State) (v : Nat) : State :=
  if v == 0xB10C then s.coreReset 5 else { s with dev := s.dev.bad 0x00 }

/-- LOAD_PCC (R461): GO posts the load of both counters. -/
def State.loadPcc (s : State) (v : Nat) : State :=
  let d := s.dev
  s.post 0x02 (.load (d.rd SEC.LOAD_OPS_LO_SECONDS + putAt (d.rd SEC.LOAD_OPS_HI_SECONDS) 32) (SEC.LOAD_PCC_COUNT.of v))

/-- Writes that act on more than the core domain: the event ring, resets, and the always-on registers (R98, R101). -/
def State.wroteAon (s : State) (a : Acc) (ok : Fld → Bool) (base off j v : Nat) : State :=
  match base with
  | 0x00 =>
    if off == TOP.EVT_NEXT_POP.off then (if ok TOP.EVT_NEXT_POP then s.evtNext a (TOP.EVT_NEXT_POP.of v == 1) else s)
    else if off == TOP.BLOCK_RESET_KEY.off then (if ok TOP.BLOCK_RESET_KEY then s.blockResetKey v else s)
    else if off == TOP.RESET_CAUSE_LAST.off then s.post 0x00 .nothing
    else s
  | 0x02 =>
    if off == SEC.LOAD_PCC_GO.off then (if SEC.LOAD_PCC_GO.set1 ok v then s.loadPcc v else s)
    else if off == SEC.OPSEC_LO_SECONDS.off || off == SEC.OPSEC_HI_SECONDS.off || off == SEC.PCC_COUNT.off then
      s.post 0x02 .nothing
    else s
  | 0x03 =>
    if off == MBOX.WAKE_WAKE.off && ok MBOX.WAKE_WAKE then s.post 0x03 (.wake j (MBOX.WAKE_WAKE.of v)) else s
  | 0x17 =>
    if off == THERM.SQ_STAT_CAUSE.off || off == THERM.INPUTS_COOLANT.off then s.post 0x17 .nothing else s
  | _ => s

end Sys2Proof.Machine
end

