-- ==== Sys2Proof/Machine/Bus.lean ====
section
/-!
DEFINITION. Machine/Bus.lean: accesses to the register aperture and the table aperture (R98 to R103, R105, R108, R111, R112).
-/
namespace Sys2Proof.Machine

/-! ### Register writes -/

/-- The field's stored value is not the register file's: its effect puts the value where it stands (R159, R160, R410). -/
def Fld.elsewhere (f : Fld) : Bool :=
  f.same RAIL.CTRL_LOOP || f.same RAIL.COEF_EDIT_W || f.same MBOX.DATA_WORD

/-- The write meets the field without its guard (R105): it would change bits that exist. -/
def State.meets (s : State) (a : Acc) (f : Fld) (i j v : Nat) : Bool :=
  let x := f.of v &&& s.dev.liveMask f j
  !f.grd.okWrite j a &&
  match f.acc with
  | .rw => x != s.fieldVal f i j &&& s.dev.liveMask f j
  | .wo => x != 0
  | .w1c => x != 0
  | _ => false

/-- The access may write the field and the value is not refused. -/
def State.accepts (s : State) (a : Acc) (i j v : Nat) (f : Fld) : Bool :=
  f.grd.okWrite j a && !s.fldRefused a f i j v

/-- A field the access may write is refused (R108). -/
def State.refuses (s : State) (a : Acc) (f : Fld) (i j v : Nat) : Bool :=
  (f.acc == .rw || f.acc == .wo) && f.grd.okWrite j a && s.fldRefused a f i j v

/-- Store one field of a write; `s` is the state before the write (R98). -/
def State.store (s : State) (a : Acc) (i j v : Nat) (d : Dev) (f : Fld) : Dev :=
  match f.acc with
  | .rw => if s.accepts a i j v f && !f.elsewhere then d.wr f (f.of v &&& s.dev.liveMask f j) i j else d
  | .w1c => if f.grd.okWrite j a then d.wr f (d.rd f i j - (d.rd f i j &&& f.of v)) i j else d
  | _ => d

/-- Equal `_BAD_VALUE` events of one write are one event (R108). -/
def onceBad : List Event → List Event
  | [] => []
  | e :: l => if e.loc == 0x1F && l.any (fun x => x.page == e.page && x.loc == 0x1F) then onceBad l else e :: onceBad l

/-- The write of a present register of a page that is READY, its fields stored and its effects carried out. -/
def State.writeReg (s : State) (a : Acc) (r : Reg) (base i j v : Nat) : State :=
  let ok := s.accepts a i j v
  let d := r.flds.foldl (s.store a i j v) s.dev
  let d := if r.flds.any (fun f => s.refuses a f i j v) then d.bad base i else d
  let d := d.clampEvents s.dev base i r.off
  let hard := r.flds.any (fun f => (hardFlds.any (fun h => h.1.same f)) || f.same GOV.SAFE_MODE || f.same GOV.SAFE_LEVEL_MAX
    || lockFlds.any (fun l => l.same f))
  let d := if hard then d.measMark s.dev else d
  let s := { s with dev := d.wrote s.dev a ok base i r.off j v }
  s.wroteAon a ok base r.off j v

/-- R487: a TMR write from a path that does not own the timer is answered NOT_OWNER and has no effect. -/
def Dev.tmrForeign (d : Dev) (a : Acc) (base off j : Nat) : Bool :=
  base == 0x05 && off == CLAIM.TMR_RUN.off && (a.priv || a.sec) && !d.owns a (10 + j)

/-- A write to the register aperture: word address `adr`, value `v` (R92, R95, R100, R105, R107, R108). -/
def State.busWrite (s : State) (a : Acc) (adr v : Nat) : State :=
  let p := adr / 1024
  let off := adr % 1024 * 4
  if !s.dev.pagePresent p then s
  else if off < 0x40 then
    let w := s.headerWrite a p off v
    if w.2 then { w.1 with dev := w.1.dev.guardMiss a 0 adr } else w.1
  else
    let base := pageBase p
    let i := pageInst p
    match regAt p off with
    | none => s
    | some (r, j) =>
      if !s.dev.regPresent base i r.off j then s
      else if !s.dev.ready p then { s with dev := s.dev.ev Ev.TOP_NOT_READY p }
      else
        let miss := r.flds.any (fun f => s.meets a f i j v)
        let s := if miss then { s with dev := s.dev.guardMiss a 0 adr } else s
        if s.dev.tmrForeign a base r.off j then { s with dev := s.dev.notOwner a (10 + j) }
        else if s.dev.wordRefused base i r.off j v && r.flds.all (fun f => f.acc == .ro || f.grd.okWrite j a) then
          { s with dev := s.dev.bad base i }
        else
          let t := s.writeReg a r base i j v
          { t with dev := { t.dev with evq := s.dev.evq ++ onceBad (t.dev.evq.drop s.dev.evq.length) } }

/-! ### Register reads -/

/-- Registers _LO whose read takes a snapshot for the _HI after them (R103): page and offset. -/
def loRegs : List (Nat × Nat) :=
  [(0x01, 0x048), (0x02, 0x050), (0x02, 0x078), (0x14, 0x060), (0x18, 0x0B8), (0x1B, 0x070), (0x1C, 0x06C)]

/-- What a path has snapshot of the pair at word `adr` (R103). -/
def Dev.snapOf (d : Dev) (path adr : Nat) : Nat :=
  match d.snaps.find? (fun x => x.1 == path && x.2.1 == adr) with
  | some x => x.2.2
  | none => 0

/-- Take a snapshot of the upper half. -/
def Dev.snapPut (d : Dev) (path adr hi : Nat) : Dev :=
  { d with snaps := (d.snaps.filter (fun x => !(x.1 == path && x.2.1 == adr))) ++ [(path, adr, hi)] }

/-- The word of some fields as an access reads it: WO fields and fields whose guard it lacks read zero (R98, R105). -/
def State.readWord (s : State) (a : Acc) (r : Reg) (i j : Nat) : Nat :=
  sumN (r.flds.map (fun f =>
    if f.acc == .wo || !f.grd.okRead j a then 0 else putAt (s.fieldVal f i j &&& s.dev.liveMask f j) f.lo))

/-- A read of the register aperture: the state after it, and the word (R95, R98, R103, R105, R107). -/
def State.busRead (s : State) (a : Acc) (adr : Nat) : State × Nat :=
  let p := adr / 1024
  let off := adr % 1024 * 4
  if !s.dev.pagePresent p then (s, 0)
  else if off < 0x40 then
    let r := s.headerRead a p off
    (if r.2 then { s with dev := s.dev.guardMiss a 0 adr } else s, r.1)
  else
    let base := pageBase p
    let i := pageInst p
    match regAt p off with
    | none => (s, 0)
    | some (r, j) =>
      if !s.dev.regPresent base i r.off j then (s, 0)
      else if !s.dev.ready p then ({ s with dev := s.dev.ev Ev.TOP_NOT_READY p }, 0)
      else if r.flds.all (fun f => !f.grd.okRead j a) then ({ s with dev := s.dev.guardMiss a 0 adr }, 0)
      else
        let w := s.readWord a r i j
        if loRegs.contains (base, off) then
          match regAt p (off + 4) with
          | some (h, _) => ({ s with dev := s.dev.snapPut (missPath a.path) adr (s.readWord a h i 0) }, w)
          | none => (s, w)
        else if loRegs.contains (base, off - 4) then (s, s.dev.snapOf (missPath a.path) (adr - 1))
        else (s, w)

/-! ### The table aperture (R111, R112) -/

/-- The windows of R111. -/
inductive Win where
  | fcast | capture | baro | step | fit | level | levelAct | cal | mbox
  deriving DecidableEq, Repr

/-- The window at byte offset `o`, and its base; none for reserved locations and for entries of absent instances. -/
def Dev.winAt (d : Dev) (o : Nat) : Option (Win × Nat) :=
  if o < 0x40000 then some (.fcast, 0)
  else if o < 0x80000 then some (.capture, 0x40000)
  else if o < 0x90000 then some (.baro, 0x80000)
  else if o < 0xA0000 then (if (o - 0x90000) / 8192 < d.nRails then some (.step, 0x90000) else none)
  else if o < 0xA8000 then some (.fit, 0xA0000)
  else if o < 0xA9000 then some (.level, 0xA8000)
  else if o < 0xAA000 then some (.levelAct, 0xA9000)
  else if o < 0xAC000 then none
  else if o < 0xAE000 then (if (o - 0xAC000) / 32 < d.therm.ts.length then some (.cal, 0xAC000) else none)
  else if o < 0xAF000 then (if (o - 0xAE000) / 16 < d.therm.ts.length then some (.cal, 0xAC000) else none)
  else if o < 0xAF040 then some (.cal, 0xAC000)
  else if o < 0xB0000 then none
  else if o < 0xB6000 then some (.mbox, 0xB0000)
  else none

/-- Owner page of a window. -/
def Win.page : Win → Nat
  | .fcast => 0x15
  | .capture => 0x1E
  | .baro => 0x1D
  | .step => 0x16
  | .fit => 0x12
  | .level => 0x12
  | .levelAct => 0x12
  | .cal => 0x17
  | .mbox => 0x03

/-- The memory a window shows (R112, R223, R273, R299, R438), and the offset of its first byte in it. -/
def Dev.winMem (d : Dev) (w : Win) : Mem × Nat :=
  match w with
  | .fcast => (d.fc.idleBank, 0)
  | .capture => (d.capRam, 0)
  | .baro => (d.baro.ram, 65536 * d.rd BARO.WIN_PAGE)
  | .step => (d.step.idleBank, 0)
  | .fit => (d.fit, 0)
  | .level => (d.levelIdle, 0)
  | .levelAct => (d.levelBank, 0)
  | .cal => (d.therm.cal, 0)
  | .mbox => (d.mbox.buf, 0)

/-- The access may read the window (R111, R408, R485). -/
def Dev.winReadOk (d : Dev) (a : Acc) (w : Win) (o : Nat) : Bool :=
  match w with
  | .mbox => mbSender (o / 4096) a || mbReceiver (o / 4096) a
  | .capture => (a.priv || a.sec) && d.owns a 0
  | _ => a.priv || a.sec

/-- The access may write the window (R111, R408). -/
def Dev.winWriteOk (w : Win) (a : Acc) (o : Nat) : Bool :=
  match w with
  | .mbox => mbSender (o / 4096) a
  | _ => a.priv || a.sec

/-- A table read of the 8 B at address `adr` (8 B units): the state after it, and the data (R95, R105, R485). -/
def State.tblRead (s : State) (a : Acc) (adr : Nat) : State × Nat :=
  match s.dev.winAt (8 * adr) with
  | none => (s, 0)
  | some (w, b) =>
    if !s.dev.ready w.page then (s, 0)
    else if !s.dev.winReadOk a w (8 * adr - b) then ({ s with dev := s.dev.guardMiss a 1 adr }, 0)
    else (s, (s.dev.winMem w).1.readLE ((s.dev.winMem w).2 + (8 * adr - b)) 8)

/-- The bytes of a strobed write: bit 0 selects bytes 3:0, bit 1 bytes 7:4 (R44). -/
def strobed (m : Mem) (o strb v : Nat) (live : Nat → Bool := fun _ => true) : Mem :=
  (upto 8).foldl (fun (m : Mem) k =>
    if bitAt strb (k / 4) && live (o + k) then m.write (o + k) (BitVec.ofNat 8 (v / 256 ^ k)) else m) m

/-- The byte at `o` of a level table belongs to a present domain (R113, R223). -/
def Dev.levelLive (d : Dev) (o : Nat) : Bool := decide (o % 64 / 2 < d.doms.length)

/-- The window takes a write (R112, R224, R299, R301, R410, R443, R485). -/
def Dev.winWr (d : Dev) (a : Acc) (w : Win) (o strb v : Nat) : Dev :=
  match w with
  | .fcast =>
    { d with fc := { (d.fc.setIdle (strobed d.fc.idleBank o strb v)) with dirty := d.fc.dirty || d.fc.pend } }
  | .capture => d
  | .baro =>
    if a.path == .warden && !d.on BARO.STATUS_RESTORED then
      d.updBaro (fun x => { x with ram := strobed x.ram (65536 * d.rd BARO.WIN_PAGE + o) strb v })
    else d.bad 0x1D
  | .step => { d with step := d.step.setIdle (strobed d.step.idleBank o strb v) }
  | .fit => if d.on LEVEL.FITCTL_HOLD then { d with fit := strobed d.fit o strb v } else d.bad 0x12
  | .level =>
    if d.rd LEVEL.BANK_ACT == 0 then { d with lvl1 := strobed d.lvl1 o strb v d.levelLive }
    else { d with lvl0 := strobed d.lvl0 o strb v d.levelLive }
  | .levelAct => d.bad 0x12
  | .cal => d.updTherm (fun t => { t with cal := strobed t.cal o strb v })
  | .mbox =>
    if d.mbFull (o / 4096) then d.mbOverrun (o / 4096)
    else { d with mbox := { d.mbox with buf := strobed d.mbox.buf o strb v } }

/-- A table write of up to 8 B at address `adr` (8 B units) (R44, R95, R105, R112). -/
def State.tblWrite (s : State) (a : Acc) (adr strb v : Nat) : State :=
  let d := s.dev
  match d.winAt (8 * adr) with
  | none => s
  | some (w, b) =>
    if !d.ready w.page then { s with dev := d.ev Ev.TOP_NOT_READY w.page }
    else if strb % 4 == 0 then s
    else if !Dev.winWriteOk w a (8 * adr - b) then { s with dev := d.guardMiss a 1 adr }
    else { s with dev := d.winWr a w (8 * adr - b) strb v }

end Sys2Proof.Machine
end

