-- ==== Sys2Proof/Machine/BaroCmds.lean ====
section
/-!
DEFINITION. Machine/BaroCmds.lean: the meanings of the commands of the Barograph (R430 to R449), one definition per row.
-/
namespace Sys2Proof.Machine

/-- BARO_WINDOW_CLOSE (R433): A window closes and commits a record placed under the store rules. -/
def execBaroWindowClose (s : State) : Host.Outcome State Fault Refusal :=
  .next (s.act (fun d => d.baroCommits))

/-- BARO_FREEZE_HOLD (R439): A write of FREEZE.HOLD = 1 grants the freeze to the path. -/
def execBaroFreezeHold (a : Acc) (v : BitVec 32) (s : State) : Host.Outcome State Fault Refusal :=
  .next (s.actAll (fun s => s.busWrite a (BARO.FREEZE_HOLD.adr 0 0) v.toNat))

/-- BARO_FREEZE_RELEASE (R439): A write of FREEZE.RELEASE = 1 by the holder ends the freeze and places the shadow. -/
def execBaroFreezeRelease (a : Acc) (v : BitVec 32) (s : State) : Host.Outcome State Fault Refusal :=
  .next (s.actAll (fun s => s.busWrite a (BARO.FREEZE_RELEASE.adr 0 0) v.toNat))

/-- BARO_FREEZE_TIMEOUT (R439): A freeze held for 100 BUDGET strobes ends itself. -/
def execBaroFreezeTimeout (s : State) : Host.Outcome State Fault Refusal :=
  .next (s.act (fun d => d.freezeTimeout))

/-- BARO_SNAP (R440): A write of SNAP.GO = 1 copies slots into the capture RAM. -/
def execBaroSnap (a : Acc) (v : BitVec 32) (s : State) : Host.Outcome State Fault Refusal :=
  .next (s.actAll (fun s => s.busWrite a (BARO.SNAP_GO.adr 0 0) v.toNat))

/-- BARO_SNAP_DONE (R440): The snapshot copy ends and shadowed commits are placed. -/
def execBaroSnapDone (s : State) : Host.Outcome State Fault Refusal :=
  .next (s.act (fun d => d.snapDone))

/-- BARO_MIRROR_NOW (R441): A write of MIRROR.NOW starts a mirror pass. -/
def execBaroMirrorNow (a : Acc) (v : BitVec 32) (s : State) : Host.Outcome State Fault Refusal :=
  .next (s.actAll (fun s => s.busWrite a (BARO.MIRROR_NOW.adr 0 0) v.toNat))

/-- BARO_MIRROR_PERIOD (R441): Every MIRROR.PERIOD seconds a mirror pass starts. -/
def execBaroMirrorPeriod (s : State) : Host.Outcome State Fault Refusal :=
  .next (s.act (fun d => d.mirrorPeriod))

/-- BARO_MIRROR_DONE (R442): A mirror pass finishes its dirty slots. -/
def execBaroMirrorDone (s : State) : Host.Outcome State Fault Refusal :=
  .next (s.act (fun d => d.mirrorDone))

/-- BARO_RESTORE_DONE (R443): A write of RESTORE.DONE = 1 sets NEXT_SEQ and RESTORED. -/
def execBaroRestoreDone (a : Acc) (v : BitVec 32) (s : State) : Host.Outcome State Fault Refusal :=
  .next (s.actAll (fun s => s.busWrite a (BARO.RESTORE_DONE.adr 0 0) v.toNat))

/-- BARO_NO_RESTORE (R443): No restore one second after READY starts the recorder on an empty store. -/
def execBaroNoRestore (s : State) : Host.Outcome State Fault Refusal :=
  .next (s.act (fun d => d.noRestore))

end Sys2Proof.Machine
end

