-- ==== Sys2Proof/Machine/BudgetCmds.lean ====
section
/-!
DEFINITION. Machine/BudgetCmds.lean: the meanings of the commands of grants, asks and the PMBus master (R65, R369 to R373), one definition per row.
-/
namespace Sys2Proof.Machine

/-- GRANT_SUBMIT (R369): A write of BUDGET GRANT1 submits a grant. -/
def execGrantSubmit (a : Acc) (v : BitVec 32) (s : State) : Host.Outcome State Fault Refusal :=
  .next (s.actAll (fun s => s.busWrite a (BUDGET.GRANT1_SEQ.adr 0 0) v.toNat))

/-- BUDGET_EXPIRED (R371): A grant's validity ends and P_GRANT falls to FLOOR. -/
def execBudgetExpired (s : State) : Host.Outcome State Fault Refusal :=
  .next (s.act (fun d => d.grantExpire))

/-- BUDGET_ASK (R372): Every 10,000 beats an ask is published. -/
def execBudgetAsk (s : State) : Host.Outcome State Fault Refusal :=
  .next (s.act (fun d => d.budgetAsk))

/-- PMB_POLL_START (R65): Every PERIOD BUDGET ticks the PMBus master starts a poll of all devices. -/
def execPmbPollStart (s : State) : Host.Outcome State Fault Refusal :=
  .next (s.act (fun d => d.pollStart))

/-- PMB_POLL_DONE (R373): A poll completes and updates the readings, or counts a failure. -/
def execPmbPollDone (fail : Option Nat) (r0 : List (List (BitVec 8))) (r1 : List (List (BitVec 8))) (s : State) : Host.Outcome State Fault Refusal :=
  .next (s.act (fun d => d.pollDone fail (r0.map (fun l => l.map (fun x => x.toNat))) (r1.map (fun l => l.map (fun x => x.toNat)))))

/-- PMB_ALERT (R65): A falling PMB_SMBALERT_N is answered through the ARA, STATUS_WORD and CLEAR_FAULTS. -/
def execPmbAlert (adr : BitVec 7) (status : BitVec 16 × BitVec 8) (s : State) : Host.Outcome State Fault Refusal :=
  .next (s.act (fun d => d.pmbAlert adr.toNat status.1.toNat status.2.toNat))

/-- PMB_TIMEOUT (R65): SCL held low for 25 ms ends the transaction as a bus timeout. -/
def execPmbTimeout (k : Nat) (s : State) : Host.Outcome State Fault Refusal :=
  .next (s.act (fun d => if k < 2 then d.pmbTimeout k else d))

/-- SMBALERT_RELEASE (R486): PMB_SMBALERT_N rises, and under SMBALERT forwarding ALERT_N is released within 2 GCLK cycles.
-/
def execSmbalertRelease (s : State) : Host.Outcome State Fault Refusal :=
  .next (s.act (fun d => d.updBud (fun b => { b with alertLow := false })))

end Sys2Proof.Machine
end

