-- ==== Sys2Proof/Machine/BusCmds.lean ====
section
/-!
DEFINITION. Machine/BusCmds.lean: the meanings of the commands of the accesses to the register and table apertures that no other row names (R44, R98 to R112), one definition per row.
-/
namespace Sys2Proof.Machine

/-- REGISTER_WRITE (R100): A write to a register without behaviour of its own takes effect on the next GCLK edge, subject
to guards and clamps. -/
def execRegisterWrite (a : Acc) (adr : BitVec 15) (v : BitVec 32) (s : State) : Host.Outcome State Fault Refusal :=
  .next (s.actAll (fun s => s.busWrite a adr.toNat v.toNat))

/-- TBL_WRITE (R112): A table-port write updates the selected bytes of its window. -/
def execTblWrite (a : Acc) (adr : BitVec 17) (strb : BitVec 2) (v : BitVec 64) (s : State) : Host.Outcome State Fault Refusal :=
  .next (s.actAll (fun s => s.tblWrite a adr.toNat strb.toNat v.toNat))

/-- REGISTER_READ (R103): A register read returns its value and can take a _LO snapshot, raise TOP_NOT_READY, or count a
guard miss. -/
def execRegisterRead (a : Acc) (adr : BitVec 15) (s : State) : Host.Outcome State Fault Refusal :=
  .next (s.actAll (fun s => (s.busRead a adr.toNat).1.onDev (fun d => d.send (.rdata (s.busRead a adr.toNat).2))))

/-- TBL_READ (R485): A table-port read returns window data and counts a guard miss, for example on the capture RAM from a
path that does not own it. -/
def execTblRead (a : Acc) (adr : BitVec 17) (s : State) : Host.Outcome State Fault Refusal :=
  .next (s.actAll (fun s => (s.tblRead a adr.toNat).1.onDev (fun d => d.send (.rdata (s.tblRead a adr.toNat).2))))

end Sys2Proof.Machine
end

