-- ==== Sys2Proof/Machine/ClaimCmds.lean ====
section
/-!
DEFINITION. Machine/ClaimCmds.lean: the meanings of the commands of claims and general timers (R478 to R487), one definition per row.
-/
namespace Sys2Proof.Machine

/-- CLAIM (R479): A CLAIM request grants or refuses ownership of a shared resource. -/
def execClaim (a : Acc) (v : BitVec 32) (s : State) : Host.Outcome State Fault Refusal :=
  .next (s.actAll (fun s => s.busWrite a (CLAIM.REQ_OP.adr 0 0) v.toNat))

/-- RELEASE (R479): A RELEASE request frees a resource its path owns. -/
def execRelease (a : Acc) (v : BitVec 32) (s : State) : Host.Outcome State Fault Refusal :=
  .next (s.actAll (fun s => s.busWrite a (CLAIM.REQ_OP.adr 0 0) v.toNat))

/-- CLAIM_BREAK (R483): A secure write of BREAK.GO = 1 ends a path's claim. -/
def execClaimBreak (a : Acc) (v : BitVec 32) (s : State) : Host.Outcome State Fault Refusal :=
  .next (s.actAll (fun s => s.busWrite a (CLAIM.BREAK_GO.adr 0 0) v.toNat))

/-- CAPTURE_WIPE_DONE (R481): The capture RAM wipe after a claim ends completes. -/
def execCaptureWipeDone (s : State) : Host.Outcome State Fault Refusal :=
  .next (s.act (fun d => d.captureWiped))

/-- TMR_WRITE (R487): An owner's write to TMR[k] loads and starts or stops a general timer. -/
def execTmrWrite (k : Nat) (a : Acc) (v : BitVec 32) (s : State) : Host.Outcome State Fault Refusal :=
  .next (s.actAll (fun s => if k < 16 then s.busWrite a (CLAIM.TMR_RUN.adr 0 k) v.toNat else s))

/-- CLAIM_TIMER (R487): A general timer expires, sets EXPIRED and reloads or stops. -/
def execClaimTimer (k : Nat) (s : State) : Host.Outcome State Fault Refusal :=
  .next (s.act (fun d => if k < 16 then (if d.timerDue k then d.timerExpire k else d) else d))

end Sys2Proof.Machine
end

