-- ==== Sys2Proof/Machine/ClockCmds.lean ====
section
/-!
DEFINITION. Machine/ClockCmds.lean: the meanings of the commands of the clock-domain handshakes (R58, R227 to R230), one definition per row.
-/
namespace Sys2Proof.Machine

/-- CD_PREP_ACK (R58): CD_n_PREP_ACK rises and the prepared DPLL is locked. -/
def execCdPrepAck (m : Nat) (s : State) : Host.Outcome State Fault Refusal :=
  .next (s.act (fun d => if m < d.doms.length then d.prepAck m else d))

/-- CD_SWITCH_RAISE (R227): The governor raises CD_n_SWITCH on the first edge at which PREP_ACK, voltage and Gust
conditions allow it. -/
def execCdSwitchRaise (m : Nat) (s : State) : Host.Outcome State Fault Refusal :=
  .next (s.act (fun d => if m < d.doms.length then d.trySwitch m else d))

/-- CD_SWITCH_ACK (R58): CD_n_SWITCH_ACK confirms the new frequency and ends the handshake. -/
def execCdSwitchAck (m : Nat) (s : State) : Host.Outcome State Fault Refusal :=
  .next (s.act (fun d => if m < d.doms.length then d.switchAck m else d))

/-- CD_UNGATE (R227): A gated domain is ungated once its frequency is confirmed and its rail's command is COMPLETE. -/
def execCdUngate (m : Nat) (s : State) : Host.Outcome State Fault Refusal :=
  .next (s.act (fun d => if m < d.doms.length then d.tryUngate m else d))

/-- LEVEL_PREP_TIMEOUT (R228): PREP_ACK absent for CLOCK.PREP µs makes the governor lower PREP and retry. -/
def execLevelPrepTimeout (m : Nat) (s : State) : Host.Outcome State Fault Refusal :=
  .next (s.act (fun d => if m < d.doms.length then d.prepTimeout m else d))

/-- LEVEL_SWITCH_TIMEOUT (R228): SWITCH_ACK absent for CLOCK.SWITCH ns is reported while the governor goes on waiting. -/
def execLevelSwitchTimeout (m : Nat) (s : State) : Host.Outcome State Fault Refusal :=
  .next (s.act (fun d => if m < d.doms.length then d.switchTimeout m else d))

/-- CD_ACK_FALL (R227): CD_n_PREP_ACK or CD_n_SWITCH_ACK falls after PREP is lowered, and the governor may then prepare
the new target. -/
def execCdAckFall (m : Nat) (sw : Bool) (s : State) : Host.Outcome State Fault Refusal :=
  .next (s.act (fun d => if m < d.doms.length then d.ackFall m sw else d))

end Sys2Proof.Machine
end

