-- ==== Sys2Proof/Machine/CreditCmds.lean ====
section
/-!
DEFINITION. Machine/CreditCmds.lean: the meanings of the commands of power credits and activity counts (R239 to R258, R375), one definition per row.
-/
namespace Sys2Proof.Machine

/-- CREDIT_REQUEST (R245): A credit request is taken and answered GRANT, WAIT or DENY. -/
def execCreditRequest (reqs : List (Nat × BitVec 32)) (strobe : Bool) (s : State) : Host.Outcome State Fault Refusal :=
  .next (s.act (fun d => d.creditRequest (reqs.map (fun r => (r.1, r.2.toNat))) strobe))

/-- CREDIT_RETURN (R243): A lease return ends the lease, or is late and ignored. -/
def execCreditReturn (c : Nat) (w : BitVec 16) (s : State) : Host.Outcome State Fault Refusal :=
  .next (s.act (fun d => if c < d.bld.cores then d.creditReturn c w.toNat else d))

/-- CREDIT_GRANT (R248): A waiting request at the front of a rail's queue is granted once pool and bucket allow. -/
def execCreditGrant (s : State) : Host.Outcome State Fault Refusal :=
  .next (s.act (fun d => d.creditGrants))

/-- CREDIT_RECLAIM (R251): A lease that expires without a return is reclaimed. -/
def execCreditReclaim (c : Nat) (slot : Nat) (s : State) : Host.Outcome State Fault Refusal :=
  .next (s.act (fun d => if c < d.bld.cores then d.creditReclaim c slot else d))

/-- FILL_TIMEOUT (R242): A FILLER request that has waited FILL_WAIT RAIL ticks is denied. -/
def execFillTimeout (c : Nat) (s : State) : Host.Outcome State Fault Refusal :=
  .next (s.act (fun d => d.fillTimeout c))

/-- MEDIUM_PROMOTE (R248): A MEDIUM request that has waited PROMOTE RAIL ticks is promoted among HEAVY requests. -/
def execMediumPromote (c : Nat) (s : State) : Host.Outcome State Fault Refusal :=
  .next (s.act (fun d => d.mediumPromote c))

/-- CREDIT_STARVE (R253): A front request that has waited STARVE.LIMIT RAIL ticks is reported. -/
def execCreditStarve (n : Nat) (s : State) : Host.Outcome State Fault Refusal :=
  .next (s.act (fun d => if n < d.nRails then d.creditStarve n else d))

/-- ACTIVITY_COUNTS (R244): A channel's activity counts for the beat just ended arrive. -/
def execActivityCounts (ch : Nat) (late : Bool) (counts : List (BitVec 16)) (s : State) : Host.Outcome State Fault Refusal :=
  .next (s.act (fun d => d.activityCounts ch late (counts.map (fun x => x.toNat))))

end Sys2Proof.Machine
end

