-- ==== Sys2Proof/Machine/DrizzleCmds.lean ====
section
/-!
DEFINITION. Machine/DrizzleCmds.lean: the meanings of the commands of Drizzle (R354 to R367), one definition per row.
-/
namespace Sys2Proof.Machine

/-- DRIZZLE_IDLE_SET (R355): A core idle for IDLE.BEATS beats has its waiting flag set. -/
def execDrizzleIdleSet (c : Nat) (s : State) : Host.Outcome State Fault Refusal :=
  .next (s.act (fun d => d.idleSet c))

/-- DRIZZLE_WAIT_EXPIRED (R354): A waiting flag set for WAIT_MAX ms clears. -/
def execDrizzleWaitExpired (c : Nat) (s : State) : Host.Outcome State Fault Refusal :=
  .next (s.act (fun d => d.waitExpire c))

/-- PRERAMP_GO (R361): A write of PRERAMP_CTRL.GO = 1 schedules a preramp, or is refused. -/
def execPrerampGo (a : Acc) (v : BitVec 32) (s : State) : Host.Outcome State Fault Refusal :=
  .next (s.actAll (fun s => s.busWrite a (DRIZZLE.PRERAMP_CTRL_GO.adr 0 0) v.toNat))

/-- PRERAMP_START (R361): At beat BEAT − k the masked clusters enter DZ_PRE. -/
def execPrerampStart (s : State) : Host.Outcome State Fault Refusal :=
  .next (s.act (fun d => d.preStart))

/-- DRIZZLE_PRERAMP_DONE (R361): The preramp reaches beat BEAT. -/
def execDrizzlePrerampDone (s : State) : Host.Outcome State Fault Refusal :=
  .next (s.act (fun d => d.preDone))

/-- DRIZZLE_PRERAMP_LAPSED (R362): Without JOB_BEGIN for HOLD_MS after BEAT the cluster enters DZ_FILL. -/
def execDrizzlePrerampLapsed (s : State) : Host.Outcome State Fault Refusal :=
  .next (s.act (fun d => d.preLapse))

end Sys2Proof.Machine
end

