-- ==== Sys2Proof/Machine/DroopCmds.lean ====
section
/-!
DEFINITION. Machine/DroopCmds.lean: the meanings of the commands of droop satellites, Gusts, calibration and waveform capture (R195 to R216), one definition per row.
-/
namespace Sys2Proof.Machine

/-- DS_EVT_ACCEPT (R200): A changed DS_n_EVT value is accepted, starting or ending Gusts and persistence bubbles. -/
def execDsEvtAccept (k : Nat) (evt : BitVec 4) (cyc : Nat) (s : State) : Host.Outcome State Fault Refusal :=
  .next (s.act (fun d => if k < d.sats.length then d.evtAccept k evt.toNat cyc else d))

/-- SERVO_STEP (R195): At each servo interval the satellite moves its coarse setting toward a CODE of 40. -/
def execServoStep (k : Nat) (s : State) : Host.Outcome State Fault Refusal :=
  .next (s.act (fun d => d.updSat k (fun x => x.servo)))

/-- GUST_RELEASE_WAIT_END (R204): The wait of 64 compute-core cycles after a Gust ends passes, and a withheld SWITCH may
rise. -/
def execGustReleaseWaitEnd (m : Nat) (s : State) : Host.Outcome State Fault Refusal :=
  .next (s.act (fun d => if m < d.doms.length then d.releaseWaitEnd m else d))

/-- GUST_LONG (R205): At 24,000 GCLK cycles of Gust a pending increase is abandoned and a pending decrease switches. -/
def execGustLong (m : Nat) (s : State) : Host.Outcome State Fault Refusal :=
  .next (s.act (fun d => if m < d.doms.length then d.gustLong m else d))

/-- DROOP_STUCK (R202): A satellite in Gust for STUCK.LIMIT beats is taken out of use and forces a calibration. -/
def execDroopStuck (k : Nat) (s : State) : Host.Outcome State Fault Refusal :=
  .next (s.act (fun d => if k < d.sats.length then d.droopStuck k else d))

/-- MAP_USE_WRITE (R202): A write of MAP.USE = 1 returns a satellite to use and clears STUCK. -/
def execMapUseWrite (k : Nat) (a : Acc) (v : BitVec 32) (s : State) : Host.Outcome State Fault Refusal :=
  .next (s.actAll (fun s => if k < 64 then s.busWrite a (DROOP.MAP_USE.adr 0 k) v.toNat else s))

/-- CAL_PERIOD_DUE (R208): A rail calibration becomes due every CAL_CFG.PERIOD seconds. -/
def execCalPeriodDue (s : State) : Host.Outcome State Fault Refusal :=
  .next (s.act (fun d => d.calPeriod))

/-- CAL_GO (R208): A write of CAL_CTRL.GO makes a calibration of the named rail due. -/
def execCalGo (a : Acc) (v : BitVec 32) (s : State) : Host.Outcome State Fault Refusal :=
  .next (s.actAll (fun s => s.busWrite a (DROOP.CAL_CTRL_GO.adr 0 0) v.toNat))

/-- CAL_START (R208): A due calibration starts at the first beat at which its quiet conditions and claim hold. -/
def execCalStart (s : State) : Host.Outcome State Fault Refusal :=
  .next (s.act (fun d => d.calStart))

/-- CAL_GAP_END (R209): The gap before a pulse ends and the reference steps down by delta. -/
def execCalGapEnd (s : State) : Host.Outcome State Fault Refusal :=
  .next (s.act (fun d => d.calGapEnd))

/-- CAL_PULSE_END (R209): A pulse ends, crossing drops are recorded, and the run steps deeper or finishes with results. -/
def execCalPulseEnd (s : State) : Host.Outcome State Fault Refusal :=
  .next (s.act (fun d => d.calPulseEnd))

/-- WAVE_ARM (R212): A write of WAVE_CFG.ARM = 1 arms a droop waveform capture, or is refused. -/
def execWaveArm (a : Acc) (v : BitVec 32) (s : State) : Host.Outcome State Fault Refusal :=
  .next (s.actAll (fun s => s.busWrite a (DROOP.WAVE_CFG_ARM.adr 0 0) v.toNat))

/-- WAVE_STOP (R212): A write of WAVE_CFG.STOP = 1 ends the capture as ABORTED. -/
def execWaveStop (a : Acc) (v : BitVec 32) (s : State) : Host.Outcome State Fault Refusal :=
  .next (s.actAll (fun s => s.busWrite a (DROOP.WAVE_CFG_STOP.adr 0 0) v.toNat))

/-- DROOP_WAVE_DONE (R212): The post-trigger sample count completes and the capture is DONE. -/
def execDroopWaveDone (s : State) : Host.Outcome State Fault Refusal :=
  .next (s.act (fun d => d.waveDone))

/-- DS_CLK_EDGE (R196): On each rising edge of DS_n_CLK a droop satellite latches CODE, sets its crossing level, drives
DS_n_STRETCH and updates DS_n_EVT including PERSIST. -/
def execDsClkEdge (k : Nat) (code : BitVec 6) (s : State) : Host.Outcome State Fault Refusal :=
  .next (s.act (fun d => d.updSat k (fun x => x.edge code.toNat)))

/-- SATELLITE_IN_USE (R200): 100 ns after a domain's CD_n_GATE falls its satellites come into use, which can start a Gust
at once from an already accepted LEVEL. -/
def execSatelliteInUse (m : Nat) (cyc : Nat) (s : State) : Host.Outcome State Fault Refusal :=
  .next (s.act (fun d => if m < d.doms.length then d.satellitesInUse m cyc else d))

end Sys2Proof.Machine
end

