-- ==== Sys2Proof/Machine/ExportCmds.lean ====
section
/-!
DEFINITION. Machine/ExportCmds.lean: the meanings of the commands of the export queue (R388 to R395), one definition per row.
-/
namespace Sys2Proof.Machine

/-- A condition of R390 for the close of the open batch holds: MAX items or CLOSE_MS. -/
def Dev.exCloseDue (d : Dev) : Bool :=
  match d.ex.batch with
  | some b => decide (b.n ≥ d.rd EXPORT.BATCH_MAX) || decide (b.ms ≥ d.rd EXPORT.BATCH_CLOSE_MS)
  | none => false

/-- EXPORT_RECORD_ENTER (R391): A closed tag's record enters the queue once there is room and no signature is outstanding.
-/
def execExportRecordEnter (s : State) : Host.Outcome State Fault Refusal :=
  .next (s.act (fun d => d.exEnter))

/-- EXPORT_BATCH_CLOSE (R390): A batch closes at MAX items or CLOSE_MS and its digest goes to the Warden for signing. -/
def execExportBatchClose (s : State) : Host.Outcome State Fault Refusal :=
  .next (s.act (fun d => if d.exCloseDue then d.exClose else d))

/-- EXPORT_SIGNATURE (R390): The Warden's signature completes a batch with its signature items. -/
def execExportSignature (s : State) : Host.Outcome State Fault Refusal :=
  .next (s.act (fun d => match d.wrd.key with
    | some key => d.exSignature key
    | none => d))

/-- EXPORT_SIGN_FAIL (R390): No signature within SIGN.LIMIT closes the batch unsigned. -/
def execExportSignFail (s : State) : Host.Outcome State Fault Refusal :=
  .next (s.act (fun d => d.exSignFail))

/-- EXPORT_TRANSFER (R392): An item passes on the export stream port. -/
def execExportTransfer (s : State) : Host.Outcome State Fault Refusal :=
  .next (s.act (fun d => d.exTransfer))

/-- EXPORT_MARK (R393): CMD.MARK sets M := T. -/
def execExportMark (a : Acc) (v : BitVec 32) (s : State) : Host.Outcome State Fault Refusal :=
  .next (s.actAll (fun s => s.busWrite a (EXPORT.CMD_MARK.adr 0 0) v.toNat))

/-- EXPORT_REWIND (R393): CMD.REWIND sets T := M. -/
def execExportRewind (a : Acc) (v : BitVec 32) (s : State) : Host.Outcome State Fault Refusal :=
  .next (s.actAll (fun s => s.busWrite a (EXPORT.CMD_REWIND.adr 0 0) v.toNat))

/-- EXPORT_RELEASE (R393): CMD.RELEASE sets F := M and frees space. -/
def execExportRelease (a : Acc) (v : BitVec 32) (s : State) : Host.Outcome State Fault Refusal :=
  .next (s.actAll (fun s => s.busWrite a (EXPORT.CMD_RELEASE.adr 0 0) v.toNat))

/-- EXPORT_IDLE (R394): IDLE.TIMEOUT without a transfer rings the idle doorbell and closes the open batch. -/
def execExportIdle (s : State) : Host.Outcome State Fault Refusal :=
  .next (s.act (fun d => d.exIdle))

/-- EXPORT_PTR_FAULT (R395): Duplicated queue pointers that differ reset the queue and emit a LOST marker. -/
def execExportPtrFault (s : State) : Host.Outcome State Fault Refusal :=
  .next (s.act (fun d => d.exPtrFault))

/-- EXPORT_EN_WRITE (R390): A write of EXPORT CTRL.EN = 0 closes the open batch and stops entry. -/
def execExportEnWrite (a : Acc) (v : BitVec 32) (s : State) : Host.Outcome State Fault Refusal :=
  .next (s.actAll (fun s => s.busWrite a (EXPORT.CTRL_EN.adr 0 0) v.toNat))

end Sys2Proof.Machine
end

