-- ==== Sys2Proof/Machine/ForecastCmds.lean ====
section
/-!
DEFINITION. Machine/ForecastCmds.lean: the meanings of the commands of the Forecast engine (R283 to R304), one definition per row.
-/
namespace Sys2Proof.Machine

/-- FCAST_STALE (R293): A fifth consecutive beat without a completed evaluation sets every pp_fc to 0. -/
def execFcastStale (s : State) : Host.Outcome State Fault Refusal :=
  .next (s.act (fun d => d.fcStale))

/-- FCAST_SWAP (R301): A write of FCAST CTRL.SWAP = 1 starts the check of the inactive model bank. -/
def execFcastSwap (a : Acc) (v : BitVec 32) (s : State) : Host.Outcome State Fault Refusal :=
  .next (s.actAll (fun s => s.busWrite a (FCAST.CTRL_SWAP.adr 0 0) v.toNat))

/-- FCAST_LOAD_CHECK (R301): The model check ends in a pass or in a failure code. -/
def execFcastLoadCheck (ecc : Bool × Nat) (s : State) : Host.Outcome State Fault Refusal :=
  .next (s.act (fun d => d.fcLoadCheck ecc.1 ecc.2))

/-- FCAST_SWAP_DONE (R301): At the first beat strobe after a passed check the model banks swap. -/
def execFcastSwapDone (s : State) : Host.Outcome State Fault Refusal :=
  .next (s.act (fun d => d.fcSwapDone))

/-- FCAST_REARM (R296): A write of CTRL.REARM = 1 returns a degraded engine to FC_RUN. -/
def execFcastRearm (a : Acc) (v : BitVec 32) (s : State) : Host.Outcome State Fault Refusal :=
  .next (s.actAll (fun s => s.busWrite a (FCAST.CTRL_REARM.adr 0 0) v.toNat))

/-- FCAST_EN_WRITE (R296): A write of CTRL.EN enables the engine or moves it to FC_OFF. -/
def execFcastEnWrite (a : Acc) (v : BitVec 32) (s : State) : Host.Outcome State Fault Refusal :=
  .next (s.actAll (fun s => s.busWrite a (FCAST.CTRL_EN.adr 0 0) v.toNat))

end Sys2Proof.Machine
end

