-- ==== Sys2Proof/Machine/GovCmds.lean ====
section
/-!
DEFINITION. Machine/GovCmds.lean: the meanings of the commands of the governor, PROCHOT and the level tables (R217 to R238), one definition per row.
-/
namespace Sys2Proof.Machine

/-- INPUTS.PROCHOT follows the filter (R221); the cap follows at the next beat strobe. -/
def State.prochotPin (s : State) (acts : Bool) : State :=
  { s with
    aon := { s.aon with prochot := acts }
    dev := { s.dev with gov := { s.dev.gov with prochotIn := acts } } }

/-- GOV_ESC_LEVEL (R219): An escalation count reaching LEVEL_BEATS lowers L_gov by one. -/
def execGovEscLevel (sc : Nat) (s : State) : Host.Outcome State Fault Refusal :=
  .next (s.act (fun d => if sc < d.nRails + 1 then d.escLevel sc else d))

/-- GOV_ESC_POOL (R219): An escalation count reaching POOL_BEATS at L0 lowers the pool factors. -/
def execGovEscPool (sc : Nat) (s : State) : Host.Outcome State Fault Refusal :=
  .next (s.act (fun d => if sc < d.nRails + 1 then d.escPool sc else d))

/-- GOV_STEP_UP (R220): A step-up count reaching STEP_UP_HOLD raises pool factors, or otherwise L_gov. -/
def execGovStepUp (s : State) : Host.Outcome State Fault Refusal :=
  .next (s.act (fun d => d.stepUp))

/-- GOV_SAFE_POLICY (R222): After 100 ms of POLICY_STALE the governor applies SAFE.MODE and SAFE.LEVEL_MAX. -/
def execGovSafePolicy (s : State) : Host.Outcome State Fault Refusal :=
  .next (s.act (fun d => d.safePolicy))

/-- PROCHOT (R221): The filtered PROCHOT_N acts and applies the PROCHOT level cap. -/
def execProchot (s : State) : Host.Outcome State Fault Refusal :=
  .next (s.actAll (fun s => s.prochotPin true))

/-- PROCHOT_RELEASE (R221): The filtered PROCHOT_N stops acting, INPUTS.PROCHOT clears and the PROCHOT cap is released at
the next beat. -/
def execProchotRelease (s : State) : Host.Outcome State Fault Refusal :=
  .next (s.actAll (fun s => s.prochotPin false))

/-- LEVEL_BANK_SWAP (R223): A write of LEVEL BANK.SWAP = 1 requests a level-table bank swap. -/
def execLevelBankSwap (a : Acc) (v : BitVec 32) (s : State) : Host.Outcome State Fault Refusal :=
  .next (s.actAll (fun s => s.busWrite a (LEVEL.BANK_SWAP.adr 0 0) v.toNat))

/-- LEVEL_TABLE_CHECK (R223): At the next BUDGET tick the inactive level bank is checked and swapped or refused. -/
def execLevelTableCheck (s : State) : Host.Outcome State Fault Refusal :=
  .next (s.act (fun d => d.levelTableCheck))

/-- FITCTL_WRITE (R224): A write of FITCTL.HOLD freezes fitness needs or releases them for rereading. -/
def execFitctlWrite (a : Acc) (v : BitVec 32) (s : State) : Host.Outcome State Fault Refusal :=
  .next (s.actAll (fun s => s.busWrite a (LEVEL.FITCTL_HOLD.adr 0 0) v.toNat))

end Sys2Proof.Machine
end

