-- ==== Sys2Proof/Machine/HintCmds.lean ====
section
/-!
DEFINITION. Machine/HintCmds.lean: the meanings of the commands of hints and step tables (R259 to R282), one definition per row.
-/
namespace Sys2Proof.Machine

/-- HINT_TOKEN (R262): A token on an enabled hint port is written to the FIFO, dropped or refused as bad. -/
def execHintToken (toks : List (Nat × BitVec 64)) (transit : Nat) (cyc : Nat) (s : State) : Host.Outcome State Fault Refusal :=
  .next (s.act (fun d => d.hintToken (toks.map (fun t => (t.1, t.2.toNat))) transit cyc))

/-- HINT_PTR_FAULT (R266): Duplicated FIFO pointers that differ reset the FIFO and discard its entries. -/
def execHintPtrFault (s : State) : Host.Outcome State Fault Refusal :=
  .next (s.act (fun d => d.hintPtrFault))

/-- STEP_SWAP (R274): A write of STEP CTRL.SWAP = 1 requests a bank swap at the next position reset. -/
def execStepSwap (a : Acc) (v : BitVec 32) (s : State) : Host.Outcome State Fault Refusal :=
  .next (s.actAll (fun s => s.busWrite a (STEP.CTRL_SWAP.adr 0 0) v.toNat))

/-- STEP_SWAP_NOW (R274): A write of CTRL.SWAP_NOW = 1 swaps step banks at the next beat, or is refused in STEP_RUN. -/
def execStepSwapNow (a : Acc) (v : BitVec 32) (s : State) : Host.Outcome State Fault Refusal :=
  .next (s.actAll (fun s => s.busWrite a (STEP.CTRL_SWAP_NOW.adr 0 0) v.toNat))

end Sys2Proof.Machine
end

