-- ==== Sys2Proof/Machine/IsobarCmds.lean ====
section
/-!
DEFINITION. Machine/IsobarCmds.lean: the meanings of the commands of Isobar (R329 to R353), one definition per row.
-/
namespace Sys2Proof.Machine

/-- ISOBAR_APPLY_GO (R330): A write of APPLY_CTRL.GO = 1 schedules the staged group set, or is refused. -/
def execIsobarApplyGo (a : Acc) (v : BitVec 32) (s : State) : Host.Outcome State Fault Refusal :=
  .next (s.actAll (fun s => s.busWrite a (ISOBAR.APPLY_CTRL_GO.adr 0 0) v.toNat))

/-- ISOBAR_APPLY (R331): At the apply beat the staged set takes effect and the state is chosen. -/
def execIsobarApply (s : State) : Host.Outcome State Fault Refusal :=
  .next (s.act (fun d => d.isoApply))

/-- ISOBAR_MESSAGE (R336): A fabric message is received, validated and handled as a result, drop, DEPART or child
contribution. -/
def execIsobarMessage (src : BitVec 32) (w : BitVec 512) (s : State) : Host.Outcome State Fault Refusal :=
  .next (s.act (fun d => d.isoMessage src.toNat w.toNat))

/-- ISOBAR_TIMEOUT (R338): A round with no result by its deadline aborts. -/
def execIsobarTimeout (s : State) : Host.Outcome State Fault Refusal :=
  .next (s.act (fun d => d.isoTimeout))

/-- ISOBAR_RESULT_APPLY (R339): At s + 32 or s + 256 a pending MIN result updates AGREED. -/
def execIsobarResultApply (s : State) : Host.Outcome State Fault Refusal :=
  .next (s.act (fun d => d.isoPendApply))

/-- ISOBAR_FB_SEND (R349): At s + STEP × (H − h) a member sends its partial aggregate upward. -/
def execIsobarFbSend (s : State) : Host.Outcome State Fault Refusal :=
  .next (s.act (fun d => d.fbSend))

end Sys2Proof.Machine
end

