-- ==== Sys2Proof/Machine/LedgerCmds.lean ====
section
/-!
DEFINITION. Machine/LedgerCmds.lean: the meanings of the commands of the energy ledger and the MEM port (R47, R48, R374 to R387), one definition per row.
-/
namespace Sys2Proof.Machine

/-- LEDGER_CLOSE (R378): A write of LEDGER CLOSE.GO = 1 force-closes a tag. -/
def execLedgerClose (a : Acc) (v : BitVec 32) (s : State) : Host.Outcome State Fault Refusal :=
  .next (s.actAll (fun s => s.busWrite a (LEDGER.CLOSE_GO.adr 0 0) v.toNat))

/-- LEDGER_QUERY (R387): A write of QUERY.GO = 1 requests a copy of a tag's record. -/
def execLedgerQuery (a : Acc) (v : BitVec 32) (s : State) : Host.Outcome State Fault Refusal :=
  .next (s.actAll (fun s => s.busWrite a (LEDGER.QUERY_GO.adr 0 0) v.toNat))

/-- LEDGER_QUERY_DONE (R387): Once any fetch completes the record is copied into QDATA. -/
def execLedgerQueryDone (s : State) : Host.Outcome State Fault Refusal :=
  .next (s.act (fun d => d.queryDone))

/-- LEDGER_FLUSH (R387): A write of CTRL.FLUSH = 1 writes back every dirty line. -/
def execLedgerFlush (a : Acc) (v : BitVec 32) (s : State) : Host.Outcome State Fault Refusal :=
  .next (s.actAll (fun s => s.busWrite a (LEDGER.CTRL_FLUSH.adr 0 0) v.toNat))

/-- LEDGER_FLUSH_DONE (R387): The last write-back of a flush completes. -/
def execLedgerFlushDone (s : State) : Host.Outcome State Fault Refusal :=
  .next (s.act (fun d => d.flushDone))

/-- LEDGER_INIT_DONE (R386): The zero-fill of the ledger region completes. -/
def execLedgerInitDone (s : State) : Host.Outcome State Fault Refusal :=
  .next (s.act (fun d => d.initDone))

/-- MEM_READ_DATA (R385): Read data of a ledger fetch or spill read returns and is merged or moved to the head. -/
def execMemReadData (w : BitVec 512) (s : State) : Host.Outcome State Fault Refusal :=
  if !s.dev.memPort.reads.isEmpty then .next (s.act (fun d => d.memReadData w.toNat))
  else .fault (.unsolicited "MEM read")

/-- MEM_WRITE_DONE (R48): MEM_W_DONE completes a write-back or spill write. -/
def execMemWriteDone (s : State) : Host.Outcome State Fault Refusal :=
  if !s.dev.memPort.writes.isEmpty then .next (s.act (fun d => d.memWriteDone))
  else .fault (.unsolicited "MEM write")

end Sys2Proof.Machine
end

