-- ==== Sys2Proof/Machine/Ticks.lean ====
section
/-!
DEFINITION. Machine/Ticks.lean: the tick scheduler (R73 to R91): what a beat strobe, a RAIL strobe and a BUDGET strobe run,
in the order of R80 to R82 and R86, and the overruns of R83 and R84.
-/
namespace Sys2Proof.Machine

/-- Change the scheduler. -/
def Dev.updTick (d : Dev) (f : Tick → Tick) : Dev := { d with tick := f d.tick }

/-! ### Alignment (R77, R78) -/

/-- GT_VALID_FALL (R78): the scheduler enters FREE, and Isobar moves to ISO_WAIT (R332). -/
def Dev.gtFall (d : Dev) : Dev :=
  let d := d.updTick (fun t => { t with align := .free, gtValid := false, gtWhole := false, err := 0 })
  ((d.bump TICK.GT_LOSSES_COUNT).ev Ev.TICK_GT_LOST 0).isoUnalign

/-- e of R77. -/
def gtError (gt : Nat) : Int :=
  let e : Int := ((gt % 1000 : Nat) : Int)
  if e ≥ 500 then e - 1000 else e

/-- The sampling of GT_NS at a beat strobe: state, length of the next beat, and the relabelling of b (R77, R78). -/
def Dev.alignBeat (d : Dev) (gt : Nat) (valid : Bool) : Dev :=
  let d := if d.tick.gtValid && !valid then d.gtFall else d
  let t := d.tick
  let e := gtError gt
  let st := if t.align == .free && t.gtWhole && valid then .aligning else t.align
  let len := if st == .free then 100 else if e ≥ 10 then 99 else if e < 0 then 101 else 100
  let hit := st == .aligning && len == 100
  let d := d.updTick (fun t => { t with
    align := if hit then .aligned else st, len := len, gtValid := valid, gtWhole := valid, gt := gt,
    err := if valid then e else 0, b := if hit then gt / 1000 else t.b })
  if hit then d.ev Ev.TICK_ALIGNED 0 else d

/-! ### The grid (R73, R75, R79) -/

/-- A grid point is skipped: it comes sooner after the previous tick of its kind than `gap` beats (R79). -/
def gridSkips (mono gap : Nat) : Option Nat → Bool
  | some l => decide (mono < l + gap)
  | none => false

/-- The grid point of a THERM tick: every even beat in fast sampling, b mod 16 = 8 otherwise. -/
def Tick.thermPoint (t : Tick) : Bool := if t.thermFast then t.b % 2 == 0 else t.b % 16 == 8

/-- Count a skipped grid point. -/
def Dev.gridSkip (d : Dev) : Dev := (d.bump TICK.SKIPS_COUNT).ev Ev.TICK_SKIPPED 0

/-- The THERM grid point of this beat. -/
def Dev.gridTherm (d : Dev) : Dev :=
  let t := d.tick
  if !t.thermPoint then d
  else if gridSkips t.mono (if t.thermFast then 2 else 8) t.lastTherm then d.gridSkip
  else (d.thermLatch.eachRail (fun d n => d.avsTherm n)).updTick (fun t => { t with thermDue := 1, lastTherm := some t.mono })

/-- The ISOBAR grid point of this beat. -/
def Dev.gridIso (d : Dev) : Dev :=
  let t := d.tick
  if t.b % 16 != 0 then d
  else if gridSkips t.mono 8 t.lastIso then d.gridSkip
  else
    let d := { d with iso := { d.iso with ceil := d.gov.cLocal, cause := d.gov.cCause } }
    d.updTick (fun t => { t with isoDue := true, lastIso := some t.mono })

/-- The BUDGET grid point of this beat. -/
def Dev.gridBudget (d : Dev) : Dev :=
  let t := d.tick
  if t.b % 1000 != 0 then d
  else if gridSkips t.mono 500 t.lastBud then d.gridSkip
  else d.updTick (fun t => { t with budDue := true, lastBud := some t.mono })

/-- The ticks that start at this strobe. -/
def Dev.grid (d : Dev) : Dev := d.gridTherm.gridIso.gridBudget

/-! ### The beat (R80) -/

/-- The beat means of every rail move on (R189, R190). A suspension of learning that holds at the strobe touches the beat
that ends and the beat that starts (R276). -/
def Dev.beatShift (d : Dev) : Dev :=
  d.eachRail (fun d n => 
    let off := d.learnOff n
    d.updFlt n (fun x =>
      { x with accB2 := x.accB1, accB1 := { x.acc with susp := x.acc.susp || off }, acc := { susp := off } }))

/-- The beat index rises, and REFCLK time moves by the beat that ends (R73). -/
def Dev.beatTime (d : Dev) : Dev :=
  d.updTick (fun t =>
    let t := { t with railIdx := 0, cyc := 0, thermDue := if t.thermDue == 1 then 2 else 0, isoDue := false, budDue := false }
    if t.started then { t with b := (t.b + 1) % 2 ^ 64, mono := t.mono + 1, ref := t.ref + t.len }
    else { t with started := true })

/-- Events raised at most once per BUDGET tick may be raised again. -/
def Dev.newTick (d : Dev) : Dev :=
  { d with
    act := { d.act with sent := [] }
    led := { d.led with sent := [] }
    dz := { d.dz with sent := false }
    hint := { d.hint with dropSent := [], badSent := [] }
    fc := { d.fc with staleSent := false }
    credit := { d.credit with lateSent := [], pools := d.credit.pools.map (fun (p : CPool) => { p with recSent := false }) }
    rails := d.rails.map (fun (r : Rail) => { r with loop := { r.loop with satSent := false } })
    phases := d.phases.map (fun (p : Phase) => { p with rxErrSent := false })
    sats := d.sats.map (fun (x : Sat) => { x with slimSent := false })
    doms := d.doms.map (fun (x : Dom) => { x with cancelSent := false, forcedSent := false })
    claims := { d.claims with busySent := [], notSent := [] }
    mbox := { d.mbox with ovSent := [] }
    missSent := false }

/-- The open loops have been open for one more BUDGET strobe (R162). -/
def Dev.openAge (d : Dev) : Dev :=
  d.eachRail (fun d n =>
    if (d.rail n).loop.opened then
      let d := d.bump RAIL.HOLD_LIMIT_OPEN_MS n
      if d.rd RAIL.HOLD_LIMIT_OPEN_MS n ≥ d.rd RAIL.HOLD_LIMIT_OPEN_LIMIT n then
        d.updLoop n (fun l => { l with openDue := true })
      else d
    else d)

/-- Task 0x09 (R82, R91): the timers and deadlines of every tick that started at this beat strobe, in ascending order of
page. -/
def Dev.task09 (d : Dev) : Dev :=
  let bud := d.tick.timersBud && !d.tick.budDue
  let d := d.updTick (fun t => { t with timersDue := false })
  let d := if d.held 0x09 then d else
    let d := if bud then d.hbMonitor else d
    let d := d.timersBeat
    let d := if bud then d.openAge else d
    let d := d.stuckBeat
    let d := if bud then d.calMs else d
    let d := ((d.calBeat.safePolicy).isoTimeout).dzTimers
    if bud then (((d.grantTimer).pollTick).exBudget).baroTimers else d
  d.served 0x09 0x09

/-- Task 0x09 runs once every tick that started at the strobe of its beat has run: the first RAIL tick, an ISOBAR slot, a
BUDGET tick (R76, R82, R86). -/
def Dev.edgeTimers (d : Dev) : Dev :=
  if d.tick.timersDue && d.tick.railIdx != 0 && !d.tick.isoDue && !d.tick.budDue then d.task09 else d

/-- The end of the beat before: its timers, where a tick they wait for has not come, and task 0x07 (R80, R82). -/
def Dev.beatEnds (d : Dev) : Dev := (if d.tick.timersDue then d.task09 else d).task07

/-- Tasks 0x03 and 0x04 with the retirement of hints (R267, R271, R278). -/
def Dev.beatStep (d : Dev) : Dev :=
  let d := d.hintStamp
  ((if d.held 0x03 then d.hintHeld else d.hintRetire).ledBeat).stepBeat

/-- The ageing steps and the window records that task 0x31 owes (R82, R226, R433), from beat 1 of the BUDGET tick on; an
overrun leaves them to the next BUDGET tick (R84). -/
def Dev.task31 (d : Dev) : Dev :=
  if d.tick.budDue || d.baro.held then d
  else ((upto d.tick.ageDue).foldl (fun d _ => d.ageStep) (d.updTick (fun t => { t with ageDue := 0 }))).baroCommits

/-- What a BUDGET strobe latches and starts anew before the beat's own work (R76, R86). -/
def Dev.budStrobe (d : Dev) : Dev := (((d.newTick).thermBudget).isoBudget).isoSumDue

/-- BEAT (R73, R80, R86): arrivals and computation; the timers of the beat follow the ticks that start at its strobe
(R82). -/
def Dev.beat (d : Dev) (gt : Nat) (valid : Bool) (corr : Nat) (uncorr : Option Nat) : Dev :=
  let old := d.tick.b
  let d := (d.beatEnds.edge).beatShift.beatTime
  let d := (((d.pfLatch).alignBeat gt valid).thermBeat).grid
  let bud := d.tick.budDue
  let d := if bud then d.budStrobe else d
  let d := ((d.baroBeat old).hbBeat).isoBeat
  let d := ((d.fcPromote).ppRequests).edge
  let src := d.gov.capSrc
  let d := (d.govBeat.thrLatch src).askBeat.ledMeasure
  let d := if bud then d.ledInterval else d
  let raw := d.fcRaw
  let d := (d.beatStep).fcBeat raw bud corr uncorr
  let d := if d.held 0x06 then d.dzHeld else d.dzBeat
  let d := (d.edge).task31
  let d := d.updTick (fun t => { t with timersDue := true, timersBud := bud })
  (exEnterAll 8192 d).served 0x01 0x08

/-! ### The RAIL tick (R81) -/

/-- RAIL_TICK: the tasks of the tick, the gap or pulse of a calibration that ends in it, the clock handshakes that the new
voltages allow (R209, R227), and the timers of a beat that has waited for it. -/
def Dev.railStrobe (d : Dev) (vs : List (List Nat)) : Dev := ((((d.railTick vs).calGapEnd).calPulseEnd).clockScan).edgeTimers

/-- ISOBAR_SLOT: the slot of this beat, and the timers of a beat that has waited for it. -/
def Dev.slotStrobe (d : Dev) (energy : Nat) : Dev := (d.isoSlot energy).edgeTimers

/-! ### The BUDGET tick (R82) -/

/-- The GRANT request that a BUDGET tick has taken in hand is answered (R415). -/
def Dev.grantAnswer (d : Dev) : Dev :=
  match d.stw.grant with
  | some tag =>
    let last := d.rd BUDGET.GRANT_STAT_LAST
    let d := { d with stw := { d.stw with grant := none } }
    let req := putAt 1 24 + putAt tag 20
    if last == 1 then d.reply 2 req 0 [] else d.reply 2 req 5 (leBytes 4 last)
  | none => d

/-- Task 0x30 (R82, R223, R231, R370, R372): grant intake, power set-point, table bank swaps, the ask. -/
def Dev.task30 (d : Dev) : Dev :=
  if d.held 0x30 then d else (((d.grantIntake.budgetLoop).levelTableCheck).askStrobe).budgetAsk

/-- BUDGET_TICK: the work of a BUDGET tick, with the Steward's load over the interval that ends (R423) and the operating
time (R461), and the timers of a beat that has waited for it (R82, R86). -/
def Dev.budgetTick (d : Dev) (load : Nat) (t : OpTime) : Dev :=
  if !d.tick.budDue then d else
  let d := (d.updTick (fun t => { t with budDue := false, ageDue := t.ageDue + 1 })).grantCount
  let d := d.task30
  let d := { d with gov := { d.gov with pinAge := d.gov.pinAge.map (· + 1) } }
  let d := d.fwShed load
  let d := (d.grantAnswer).baroBudget t
  (d.edgeTimers).served 0x30 0x30

/-! ### Overruns (R83, R84) -/

/-- The variable tasks apart from 0x05, and their overrun counters. -/
def varTasks : List (Nat × Fld) :=
  [(0x07, TICK.OVR_LEDGER_COUNT), (0x08, TICK.OVR_BARO_COUNT), (0x21, TICK.OVR_ISOBAR_COUNT),
   (0x31, TICK.OVR_AGEING_COUNT)]

/-- What follows from the overrun of a variable task (R84). -/
def Dev.overrunOf (d : Dev) (t : Nat) : Dev :=
  match t with
  | 0x07 => d.ledOverrun
  | 0x08 => d.baroOverrun
  | 0x21 => d.isoOverrun
  | 0x31 => d.updBaro (fun x => { x with held := true })
  | _ => d

/-- TICK_OVERRUN (R84). An evaluation of Forecast counts once, and only in its own beat (R293). -/
def Dev.tickOverrun (d : Dev) (t : Nat) : Dev :=
  if t == 0x05 then d.fcOverrun else
  match varTasks.find? (fun v => v.1 == t) with
  | some v => ((d.bump v.2).ev Ev.TICK_OVERRUN t).overrunOf t
  | none => d

/-- The fixed tasks (R80 to R82). -/
def fixedTasks : List Nat := [0x01, 0x02, 0x03, 0x04, 0x06, 0x09, 0x0A, 0x0B, 0x0C, 0x0D, 0x0E, 0x10, 0x11, 0x20, 0x30]

/-- TICK_FIXED_OVERRUN (R83): the outputs of the task's coming run are held. -/
def Dev.tickFixedOverrun (d : Dev) (t : Nat) : Dev :=
  if fixedTasks.contains t then
    let d := ((d.bump TICK.FIXED_OVR_COUNT).wr TICK.FIXED_OVR_LAST_TASK t).ev Ev.TICK_FIXED_OVERRUN t
    d.updTick (fun x => { x with missed := insertAsc t x.missed })
  else d

end Sys2Proof.Machine
end

