-- ==== Sys2Proof/Machine/Requests.lean ====
section
/-!
DEFINITION. Machine/Requests.lean: how a control core takes a request (R409, R414, R424), and the requests that the Steward
answers on MB_HS with the notices it sends on MB_SH (R415, R416), except SPDM.
-/
namespace Sys2Proof.Machine

/-! ### Taking a request -/

/-- The OPs of the catalogue (R415) for the mailbox. -/
def catalogue (m : Nat) : List Nat :=
  match m with
  | 0 => [0x10, 0x11, 0x12, 0x13, 0x14, 0x15, 0x16]
  | 2 => [0x01, 0x02, 0x03, 0x04, 0x05, 0x06]
  | 4 => [0x20, 0x21, 0x22, 0x23, 0x24]
  | _ => []

/-- The core that receives on `m` runs (R33, R406, R457). -/
def Dev.coreUp (d : Dev) (m : Nat) : Bool := if m == 2 then d.stw.st == .run else d.wrd.st == .ready

/-- Answer the request `w` that came on `m`, payload in bytes (R414). -/
def State.reply (s : State) (m w status : Nat) (bytes : List Nat) : State := s.onDev (fun d => d.reply m w status bytes)

/-- R424: at level 2 the Steward answers BUSY, except to GRANT and BARO. -/
def Dev.shedsBusy (d : Dev) (m op : Nat) : Bool := m == 2 && d.rd FW.STW_LOAD_SHED == 2 && op != 0x01 && op != 0x05

/-- The request with `op` that waits on `m`, of those words that `mine` names, is taken (R410) and handled by `f`. An OP
outside the catalogue is answered UNKNOWN, a LEN above 1,024 BAD (R409, R414), the notice 0x24 without an answer; LC_REQ (0x13)
and BARO_CLEAR (0x16) refuse such a LEN themselves (R445, R464); a word that is itself an answer is taken and
left. Without such a message, or while the core does not run, nothing happens. -/
def State.request (s : State) (m op : Nat) (mine : State → Nat → Bool) (f : State → Nat → State) : State :=
  let w := s.dev.mbWord m
  if !s.dev.coreUp m || !s.dev.mbFull m then s
  else if !(catalogue m).contains (msgOP w) then
    let t := s.onDev (fun d => d.mbTake m)
    if msgOP w ≥ 0x80 then t else t.reply m w 4 []
  else if msgOP w == op && mine s w then
    let t := s.onDev (fun d => d.mbTake m)
    if msgLEN w > 1024 && op != 0x13 && op != 0x16 then (if op == 0x24 then t else t.reply m w 2 [])
    else if s.dev.shedsBusy m op then t.onDev (fun d => d.answerOn m (answerMsg w 1 (d.rd FW.SHED_RETRY) []))
    else f t w
  else s

/-- Every word with the OP. -/
def anyWord (_ : State) (_ : Nat) : Bool := true

/-- Payload word `k` of a request that has been taken from `m`. -/
def State.pay (s : State) (m k : Nat) : Nat := s.dev.mbPayload m k

/-! ### Register accesses of the control cores -/

/-- The Steward writes a register. -/
def State.stwWrite (s : State) (adr v : Nat) : State := s.busWrite accSteward adr v

/-! ### MB_HS (R415) -/

/-- GRANT: GRANT0, then GRANT1; the answer follows the next BUDGET tick. A further GRANT waits until then. -/
def State.reqGrant (s : State) : State :=
  s.request 2 0x01 (fun s _ => s.dev.stw.grant.isNone) (fun s w =>
    if msgLEN w != 2 then s.reply 2 w 2 []
    else
      let w0 := s.pay 2 0
      let w1 := s.pay 2 1 % 2 ^ 16
      let s := (s.stwWrite (BUDGET.GRANT0_WATTS.adr 0 0) w0).stwWrite (BUDGET.GRANT1_SEQ.adr 0 0) w1
      s.onDev (fun d => { d with stw := { d.stw with grant := some (msgTAG w) } }))

/-- POLICY: MODE and LEVEL_MAX go to GOV.CTRL; its other field keeps its value. -/
def State.reqPolicy (s : State) : State :=
  s.request 2 0x02 anyWord (fun s w =>
    if msgLEN w != 1 then s.reply 2 w 2 []
    else
      let x := s.pay 2 0
      let v := putAt (bitsAt x 24 2) 24 + putAt (bitsAt x 16 6) 16 + s.dev.rd GOV.CTRL_HOLD_LEVEL_CAP
      (s.stwWrite (GOV.CTRL_MODE.adr 0 0) v).reply 2 w 0 [])

/-- TELEM_CFG: the period of a set (R416). -/
def State.reqTelemCfg (s : State) : State :=
  s.request 2 0x03 anyWord (fun s w =>
    let x := s.pay 2 0
    let k := bitsAt x 16 8
    if msgLEN w != 1 || decide (k > 4) then s.reply 2 w 2 []
    else
      (s.onDev (fun d => { d with stw := { d.stw with periods := modAt d.stw.periods k (fun _ => bitsAt x 0 16) } })).reply
        2 w 0 [])

/-- PING. -/
def State.reqPing (s : State) : State :=
  s.request 2 0x06 anyWord (fun s w =>
    if msgLEN w != 0 then s.reply 2 w 2 [] else s.reply 2 w 0 (leBytes 4 (s.dev.rd FW.STW_VERSION_VERSION)))

/-- BARO: the chapter that R415 names gives no request layout; STATUS and payload of the answer are free values. -/
def State.reqBaro (s : State) : State :=
  s.request 2 0x05 anyWord (fun s w =>
    let a := Config.baroAnswer (s.dev.mbBytes 2)
    s.reply 2 w (a.1 % 6) (a.2.take 4096))

/-! ### Notices on MB_SH (R415, R416) -/

/-- The registers of a telemetry set, in order; a register of an absent rail is none (R416). -/
def Dev.telemetryRegs (d : Dev) (k : Nat) : List (Option Nat) :=
  let rails (f : Fld) (byPage : Bool) : List (Option Nat) :=
    (upto 8).map (fun n => if n < d.nRails then some (if byPage then f.adr n 0 else f.adr 0 n) else none)
  some (TICK.BEAT_LO_BEAT.adr 0 0) ::
  match k with
  | 0 => [some (GOV.STATE_LGOV.adr 0 0), some (GOV.PMEAS0_SUSTAIN.adr 0 0), some (GOV.PMEAS1_BEAT.adr 0 0),
      some (BUDGET.P_GRANT_P_GRANT.adr 0 0), some (BUDGET.ASK_W.adr 0 0), some (THERM.STATUS_CAP.adr 0 0),
      some (ISOBAR.CEIL_SENT.adr 0 0), some (FCAST.STATUS_STATE.adr 0 0)]
  | 1 => (List.zipWith (fun a b => [a, b]) (rails RAIL.VOLT_VMEAS true) (rails RAIL.CURR_ISUM true)).flatten
  | 2 => (upto 32).map (fun z => some (THERM.ZSTAT_MAX.adr 0 z))
  | 3 => [some (LEDGER.TOTAL_LO_ENERGY.adr 0 0), some (LEDGER.TOTAL_HI_ENERGY.adr 0 0),
      some (ISOBAR.JOB_ENERGY_LO_ENERGY.adr 0 0), some (ISOBAR.JOB_ENERGY_HI_ENERGY.adr 0 0), some (ISOBAR.JOB_INFO_CONTRIB.adr 0 0)]
  | 4 => rails GOV.RSTAT_TDCW false
  | _ => []

/-- The payload words of a set: SUMMARY packs P_GRANT and ASK.W into one word (R416). -/
def telemetryPack (k : Nat) (ws : List Nat) : List Nat :=
  if k == 0 then ws.take 4 ++ [ws.getD 4 0 % 2 ^ 16 + putAt (ws.getD 5 0 % 2 ^ 16) 16] ++ ws.drop 6 else ws

/-- Words for the registers named, zero for none. -/
def State.readAll (s : State) : List (Option Nat) → State × List Nat
  | [] => (s, [])
  | none :: r => let y := s.readAll r; (y.1, 0 :: y.2)
  | some a :: r =>
    let x := s.busRead accSteward a
    let y := x.1.readAll r
    (y.1, x.2 :: y.2)

/-- R424: at shed level 1 or more a notice within TSLOW ms of the last one is left out. -/
def Dev.noticeSlow (d : Dev) : Bool :=
  d.rd FW.STW_LOAD_SHED != 0 &&
  match d.stw.noticeAt with
  | some b => decide (d.tick.mono < b + 1000 * d.rd FW.SHED_T_TSLOW)
  | none => false

/-- TELEMETRY: the end of a period of set `k` (R416): a notice, unless the set is stopped, the Steward does not run, MB_SH
is FULL or the shed level leaves it out. -/
def State.telemetry (s : State) (k : Nat) : State :=
  let d := s.dev
  if d.stw.st != .run || d.stw.periods.getD k 0 == 0 || d.mbFull 3 || d.noticeSlow then s
  else
    let x := s.readAll (d.telemetryRegs k)
    let ws := telemetryPack k x.2
    let msg : Msg := ⟨putAt 0x40 24 + putAt ws.length 9 + k, wordBytes ws⟩
    x.1.onDev (fun d => ({ d with stw := { d.stw with noticeAt := some d.tick.mono, out := d.stw.out ++ [msg] } }).mbPump)

/-- ASK: the notice of the latest BUDGET_ASK (R415). -/
def State.askNotice (s : State) : State :=
  if s.dev.stw.st != .run || !s.dev.stw.askDue then s
  else
    let x := s.busRead accSteward (BUDGET.ASK_W.adr 0 0)
    let msg : Msg := ⟨putAt 0x41 24 + putAt 1 9, leBytes 4 x.2⟩
    x.1.onDev (fun d => ({ d with stw := { d.stw with askDue := false, out := d.stw.out ++ [msg] } }).mbPump)

end Sys2Proof.Machine
end

