-- ==== Sys2Proof/Machine/Nvlife.lean ====
section
/-!
DEFINITION. Machine/Nvlife.lean: the life records (R460, R461), the identity key (R465, R466) and what the Warden reads of the
provisioning area (R467, R468).
-/
namespace Sys2Proof.Machine

/-- Change the Warden. -/
def State.updWrd (s : State) (f : Warden → Warden) : State := s.onDev (fun d => { d with wrd := f d.wrd })

/-- A field of the SEC page. -/
def State.sec (s : State) (f : Fld) : Nat := s.dev.rd f

/-! ### Life-cycle states (R459) -/

/-- Key class of a state, 0 for none. -/
def keyClass (st : Nat) : Nat := if st == 5 then 0 else if st == 4 then 2 else 1

/-- The ROM development key is accepted in the state. -/
def devKeyOk (st : Nat) : Bool := st == 0 || st == 1 || st == 2 || st == 4

/-! ### Life records (R460, R461) -/

/-- A life record. -/
def State.lifeRecord (s : State) (seq state transitions : Nat) : List Nat :=
  withCrc ([0x53, 0x59, 0x4C, 0x43] ++ leBytes 4 seq ++ [state, 0] ++ leBytes 2 (s.sec SEC.MIN_SVN_SVN)
    ++ leBytes 4 (s.aon.pcc % 2 ^ 24) ++ leBytes 8 (s.aon.secs % 2 ^ 40) ++ leBytes 2 transitions ++ List.replicate 34 0)

/-- The copy that does not hold the later record. -/
def lifeOther (at_ : Nat) : Nat := if at_ == 17472 then 17473 else 17472

/-- Start the life-record write `why` with the next LIFE_SEQ. -/
def State.lifeStart (s : State) (why : LifeWhy) : State :=
  let seq := (s.sec SEC.LIFE_SEQ_SEQ + 1) % 2 ^ 32
  let w := s.dev.wrd
  let bytes := match why with
    | .change target _ => s.lifeRecord seq target ((w.transitions + 1) % 2 ^ 16)
    | _ => s.lifeRecord seq (s.sec SEC.LC_STATE) w.transitions
  (s.updWrd (fun w => { w with lifeRun := some (why, seq) })).onDev (fun d =>
    d.nvAsk ⟨.life why, true, lifeOther w.lifeAt, bytes⟩)

/-- Ask for a life-record write: they are serialised (R461), and nothing is written once LC.BROKEN is set (R460). -/
def State.lifeAsk (s : State) (why : LifeWhy) : State :=
  if s.dev.on SEC.LC_BROKEN then s
  else if s.dev.wrd.lifeRun.isSome then s.updWrd (fun w => { w with lifeQ := w.lifeQ ++ [why] })
  else s.lifeStart why

/-- The request word of an answer on MB_WH: OP and TAG. -/
def reqWord (op tag : Nat) : Nat := putAt op 24 + putAt tag 20

/-- What the response to a life-record write means (R460, R464, R469). -/
def State.lifeResult (s : State) (why : LifeWhy) (ok : Bool) : State :=
  match why with
  | .counters => if ok then s else s.onDev (fun d => d.ev Ev.SEC_LIFE_BAD)
  | .svn tag => (if ok then s else s.onDev (fun d => d.ev Ev.SEC_LIFE_BAD)).onDev (fun d => d.swapFinish (some tag))
  | .change target tag =>
    if ok then
      let s := s.onDev (fun d => (d.wr SEC.LC_STATE target).ev Ev.SEC_LC_CHANGE target)
      (s.updWrd (fun w => { w with transitions := (w.transitions + 1) % 2 ^ 16, lcReset := true })).reply 0
        (reqWord 0x13 tag) 0 []
    else (s.onDev (fun d => d.ev Ev.SEC_LC_DENIED 5)).reply 0 (reqWord 0x13 tag) 5 (leBytes 4 5)

/-- The write in progress is answered; the next one starts. -/
def State.lifeDone (s : State) (ok : Bool) : State :=
  match s.dev.wrd.lifeRun with
  | none => s
  | some (why, seq) =>
    let s := s.updWrd (fun w => { w with lifeRun := none, lifeAt := if ok then lifeOther w.lifeAt else w.lifeAt })
    let s := if ok then s.onDev (fun d => d.wr SEC.LIFE_SEQ_SEQ seq) else s
    let s := s.lifeResult why ok
    match s.dev.wrd.lifeQ with
    | [] => s
    | n :: r => (s.updWrd (fun w => { w with lifeQ := r })).lifeStart n

/-- LIFE_RECORD_HOURLY (R461): the record of the hour is asked for, once LC.VALID says that there are values to write. -/
def State.lifeHourly (s : State) : State :=
  if !s.aon.hour then s
  else
    let s := { s with aon := { s.aon with hour := false } }
    if s.dev.on SEC.LC_VALID then s.lifeAsk .counters else s

/-- OPSEC_TICK (R461): one more second; the counter saturates (R476). -/
def State.opsecTick (s : State) : State :=
  let n := satAdd 40 s.aon.secs 1
  { s with aon := { s.aon with secs := n, hour := s.aon.hour || (n != s.aon.secs && n % 3600 == 0) } }

/-! ### Keys (R389, R466, R467) -/

/-- The 48 bytes of an integer, most significant first. -/
def be48 (x : Nat) : List Nat := (leBytes 48 x).reverse

/-- The integer of bytes, most significant first. -/
def ofBe (l : List Nat) : Nat := ofLe l.reverse

/-- 0x04, X, Y of the instance public key. -/
def pubBytes (key : Nat) : List Nat := let p := Config.p384Point key; 0x04 :: be48 p.1 ++ be48 p.2

/-- KEY_ID of a 97 B public key: bytes 0 to 7 of its SHA-384. -/
def keyIdOf (pub : List Nat) : List Nat := (digestBytes (Config.sha384 pub)).take 8

/-- "SY4-IDENTITY", the class byte, and the bytes of R466. -/
def identityLabel (cls : Nat) : List Nat :=
  [0x53, 0x59, 0x34, 0x2D, 0x49, 0x44, 0x45, 0x4E, 0x54, 0x49, 0x54, 0x59] ++ [cls] ++ [0x53, 0x59, 0x04, 0x01]

/-- The identity key d of R466. -/
def identityKey (secret cls : Nat) : Nat :=
  let sec := leBytes 32 secret
  let t := digestBytes (Config.hmac384 sec (identityLabel cls ++ [1])) ++ digestBytes (Config.hmac384 sec (identityLabel cls ++ [2]))
  ofBe (t.take 56) % (Config.p384Order - 1) + 1

/-- The key is derived and loaded: KEY_STAT, SEC.KEY_ID, EXPORT.KEY_ID, SEC_KEY_READY (R457, R466). -/
def State.keyReady (s : State) (secret : Nat) : State :=
  let cls := keyClass (s.sec SEC.LC_STATE)
  let key := identityKey secret cls
  let id := keyIdOf (pubBytes key)
  let lo := ofLe (id.take 4)
  let hi := ofLe (id.drop 4)
  (s.updWrd (fun w => { w with key := some key })).onDev (fun d =>
    let d := (d.wr SEC.KEY_STAT_VALID 1).wr SEC.KEY_STAT_CLASS cls
    let d := (d.wr SEC.KEY_ID_LO_KEY_ID lo).wr SEC.KEY_ID_HI_KEY_ID hi
    ((d.wr EXPORT.KEY_ID_LO_KEY_ID lo).wr EXPORT.KEY_ID_HI_KEY_ID hi).ev Ev.SEC_KEY_READY cls)

/-! ### The certificate chain (R468) -/

/-- Total length of the DER element that starts a list, 0 where its length is not in the short or the one to three byte
form. -/
def derLen (l : List Nat) : Nat :=
  let b := l.getD 1 0
  if l.length < 2 then 0
  else if b < 0x80 then 2 + b
  else if b == 0x81 then 3 + l.getD 2 0
  else if b == 0x82 then 4 + 256 * l.getD 2 0 + l.getD 3 0
  else if b == 0x83 then 5 + 65536 * l.getD 2 0 + 256 * l.getD 3 0 + l.getD 4 0
  else 0

/-- The last DER element of a sequence of them, at most `k`. -/
def derLast : Nat → List Nat → List Nat
  | 0, l => l
  | k + 1, l =>
    let n := derLen l
    if n == 0 || l.length ≤ n then l else derLast k (l.drop n)

/-- `x` appears within `l`. -/
def appears (x : List Nat) : List Nat → Bool
  | [] => x.isEmpty
  | a :: r => x.isPrefixOf (a :: r) || appears x r

/-- R462, R468: the chain's leaf certificate contains the instance's public key. The chain starts with length, reserved
bytes and the root hash. -/
def State.leafHasKey (s : State) : Bool :=
  match s.dev.wrd.prov.chain, s.dev.wrd.key with
  | some c, some k => appears (pubBytes k) (derLast 64 (c.drop 52))
  | _, _ => false

/-! ### Signatures of the Warden -/

/-- The counter that keeps free values apart rises. -/
def State.freshUp (s : State) : State := s.updWrd (fun w => { w with fresh := w.fresh + 1 })

/-- ECDSA of a message with the instance's key: r, s. -/
def State.sign (s : State) (key : Nat) (msg : List Nat) : Nat × Nat :=
  Config.ecdsaSign key (Config.sha384 msg) (2 ^ 64 + s.dev.wrd.fresh)

end Sys2Proof.Machine
end

