-- ==== Sys2Proof/Machine/Images.lean ====
section
/-!
DEFINITION. Machine/Images.lean: Steward images and swaps (R417 to R421, R426, R469).
-/
namespace Sys2Proof.Machine

/-- Change the Steward. -/
def State.updStw (s : State) (f : Steward → Steward) : State := s.onDev (fun d => { d with stw := f d.stw })

/-- A swap is in hand: its check, its grace, its steps. -/
def State.swapping (s : State) : Bool := s.dev.swapOn

/-! ### The image header (R417) -/

/-- CODE_LEN. -/
def imgLen (m : Mem) : Nat := m.readLE 0x10 4
/-- ENTRY. -/
def imgEntry (m : Mem) : Nat := m.readLE 0x14 4
/-- SVN. -/
def imgSvn (m : Mem) : Nat := m.readLE 0x0C 2
/-- RAISE_SVN. -/
def imgRaise (m : Mem) : Bool := bitAt (m.readLE 0x06 2) 0

/-! ### Loading (R418) -/

/-- IMAGE_BEGIN. -/
def State.reqImageBegin (s : State) : State :=
  s.request 0 0x10 anyWord (fun s w =>
    if msgLEN w != 0 then s.reply 0 w 2 []
    else if s.swapping then s.reply 0 w 3 []
    else (s.updStw (fun x => { x with staging := [], chunks := [] })).reply 0 w 0 [])

/-- IMAGE_CHUNK. -/
def State.reqImageChunk (s : State) : State :=
  s.request 0 0x11 anyWord (fun s w =>
    let k := msgARG w
    if decide (k > 63) || msgLEN w == 0 then s.reply 0 w 2 []
    else if s.swapping then s.reply 0 w 3 []
    else
      let bytes := s.dev.mbBytes 0
      (s.updStw (fun x => { x with
        staging := x.staging.writeBytes (4096 * k) bytes, chunks := insertAsc k x.chunks })).reply 0 w 0 [])

/-- IMAGE_SWAP: the check starts (R419); DENIED while a swap runs. -/
def State.reqImageSwap (s : State) : State :=
  s.request 0 0x12 anyWord (fun s w =>
    if msgLEN w != 0 then s.reply 0 w 2 []
    else if s.swapping then s.reply 0 w 3 []
    else (s.updWrd (fun x => { x with swap := .check (msgTAG w) })).onDev (fun d => d.wr FW.SWAP_STAT_BUSY 1))

/-! ### The check (R419, R469) -/

/-- The accepted key that KEY_ID names, if any: RAW takes no provisioned key, SCRAP none at all (R459, R469). -/
def State.imageKey (s : State) (id : List Nat) : Option (List Nat) :=
  let st := s.sec SEC.LC_STATE
  let prov := (s.dev.wrd.prov.imageKeys.filter (fun k => bitAt k.1 st && st != 5 && st != 0)).map (·.2)
  let keys := if devKeyOk st then Config.romDevKey :: prov else prov
  keys.find? (fun k => keyIdOf k == id)

/-- The first failing check of the staging bank, none when all pass. -/
def State.imageCheck (s : State) : Option Nat :=
  let m := s.dev.stw.staging
  let len := imgLen m
  if m.bytes 0 4 != [0x53, 0x54, 0x57, 0x44] || m.readLE 4 2 != 1 then some 2
  else if len % 64 != 0 || decide (len < 64) || decide (len > 0x3FF00) || decide (imgEntry m < 0x100)
      || decide (imgEntry m > 0xFF + len) then some 3
  else if !(upto ((0xFF + len) / 4096 + 1)).all (fun k => s.dev.stw.chunks.contains k) then some 4
  else match s.imageKey (m.bytes 0x50 8) with
    | none => some 5
    | some key =>
      if imgSvn m < s.sec SEC.MIN_SVN_SVN then some 6
      else if m.bytes 0x20 48 != digestBytes (Config.sha384 (m.bytes 0x100 len)) then some 7
      else if !Config.ecdsaOk key (Config.sha384 (m.bytes 0 0x80)) (ofBe (m.bytes 0x80 48)) (ofBe (m.bytes 0xB0 48)) then some 8
      else none

/-! ### The swap (R420, R421) -/

/-- Step 5 of R421: the answer, after the life record when MIN_SVN rises (R469). Where the answer is lost, or no life record
can be written, the swap is complete at once. -/
def State.swapAnswer (s : State) (tag : Option Nat) : State :=
  let m := s.dev.stw.active
  if imgRaise m && decide (imgSvn m > s.sec SEC.MIN_SVN_SVN) then
    let s := s.onDev (fun d => d.wr SEC.MIN_SVN_SVN (imgSvn m))
    match tag with
    | some t =>
      if s.dev.on SEC.LC_BROKEN then s.onDev (fun d => d.swapFinish tag)
      else (s.updWrd (fun w => { w with swap := .record tag })).lifeAsk (.svn t)
    | none => (s.lifeAsk .counters).onDev (fun d => d.swapFinish none)
  else s.onDev (fun d => d.swapFinish tag)

/-- Steps 1 and 2 of R421, for the IMAGE_SWAP request with the tag; the others follow one by one at the next beat strobes
(log entry 89). -/
def State.doSwap (s : State) (tag : Nat) : State :=
  let s := s.onDev (fun d => ((d.ev Ev.FW_SWAP_START).stwReset).snapStopped d)
  (s.updStw (fun x => { x with st := .swap })).updWrd (fun w => { w with swap := .held (some tag) })

/-- Step 3 of R421. -/
def State.swapTurn (s : State) (tag : Option Nat) : State :=
  (s.updStw (fun x => { x with bank := 1 - x.bank, active := x.staging, staging := [], chunks := [] })).updWrd (fun w =>
    { w with swap := .turned tag })

/-- Steps 4 and 5 of R421. -/
def State.swapStart (s : State) (tag : Option Nat) : State :=
  let s := s.updStw (fun x => { x with st := .run, ran := true, newImage := true })
  let m := s.dev.stw.active
  (s.onDev (fun d => ((d.wr FW.STW_STAT_SVN (imgSvn m)).wr FW.STW_VERSION_VERSION (m.readLE 8 4)).mbPump)).swapAnswer tag

/-- The next step of a swap whose first steps are done. -/
def State.swapStep (s : State) : State :=
  match s.dev.wrd.swap with
  | .held tag => s.swapTurn tag
  | .turned tag => s.swapStart tag
  | _ => s

/-- IMAGE_CHECK_DONE (R419, R420): the check fails, or passes; a running Steward gets its notice and its grace. -/
def State.imageChecked (s : State) : State :=
  match s.dev.wrd.swap with
  | .check tag =>
    match s.imageCheck with
    | some c =>
      let s := s.onDev (fun d => ((d.swapEnd).wr FW.SWAP_STAT_RESULT c).ev Ev.FW_IMAGE_BAD c)
      s.reply 0 (reqWord 0x12 tag) 5 (leBytes 4 c)
    | none =>
      if s.dev.stw.st == .run then
        let msg : Msg := ⟨putAt 0x30 24 + s.dev.rd FW.SWAP_GRACE, []⟩
        (s.updWrd (fun x => { x with swap := .grace tag })).onDev (fun d => d.answerOn 4 msg)
      else s.doSwap tag
  | _ => s

/-- The wait for SWAP_READY or the end of the grace is over (R420). -/
def State.graceOver (s : State) : State :=
  match s.dev.wrd.swap with
  | .grace tag => s.doSwap tag
  | _ => s

/-- SWAP_READY: the notice of the Steward (R415, R420). -/
def State.reqSwapReady (s : State) : State := s.request 4 0x24 anyWord (fun s _ => s.graceOver)

end Sys2Proof.Machine
end

