-- ==== Sys2Proof/Machine/MboxCmds.lean ====
section
/-!
DEFINITION. Machine/MboxCmds.lean: the meanings of the commands of mailboxes, control cores and image swaps (R33, R34, R403 to R424), one definition per row.
-/
namespace Sys2Proof.Machine

/-- MBOX_DATA_WRITE (R410): A sender's DATA write stores a message word, or meets FULL and counts an overrun. -/
def execMboxDataWrite (m : Nat) (a : Acc) (v : BitVec 32) (s : State) : Host.Outcome State Fault Refusal :=
  .next (s.actAll (fun s => if m < 6 then s.busWrite a (MBOX.DATA_WORD.adr 0 m) v.toNat else s))

/-- MBOX_TAKE (R410): A write of CTRL.TAKE = 1 clears FULL. -/
def execMboxTake (m : Nat) (a : Acc) (v : BitVec 32) (s : State) : Host.Outcome State Fault Refusal :=
  .next (s.actAll (fun s => if m < 6 then s.busWrite a (MBOX.CTRL_TAKE.adr 0 m) v.toNat else s))

/-- MBOX_RING (R411): A write to RING sets doorbell bits. -/
def execMboxRing (m : Nat) (a : Acc) (v : BitVec 32) (s : State) : Host.Outcome State Fault Refusal :=
  .next (s.actAll (fun s => if m < 6 then s.busWrite a (MBOX.RING_RING.adr 0 m) v.toNat else s))

/-- MBOX_DB_CLEAR (R411): The receiver clears doorbell bits by writing 1 to them. -/
def execMboxDbClear (m : Nat) (a : Acc) (v : BitVec 32) (s : State) : Host.Outcome State Fault Refusal :=
  .next (s.actAll (fun s => if m < 6 then s.busWrite a (MBOX.DB_DB.adr 0 m) v.toNat else s))

/-- CORE_SLEEP (R33): A control core's sleep request gates its domain. -/
def execCoreSleep (warden : Bool) (s : State) : Host.Outcome State Fault Refusal :=
  .next (s.act (fun d => d.coreSleep warden))

/-- CORE_WAKE (R413): A doorbell or routed event wakes a gated control core. -/
def execCoreWake (warden : Bool) (s : State) : Host.Outcome State Fault Refusal :=
  .next (s.act (fun d => d.coreWake warden))

/-- STEWARD_HALT (R406): A write of 0x0000_5E7D to FW.STW_CTRL core-resets the Steward. -/
def execStewardHalt (a : Acc) (v : BitVec 32) (s : State) : Host.Outcome State Fault Refusal :=
  .next (s.actAll (fun s => s.busWrite a (FW.STW_CTRL_HALT.adr 0 0) v.toNat))

/-- WARDEN_RESTART (R407): A secure write of 0x0000_3A5D to WRD_CTRL core-resets the Warden. -/
def execWardenRestart (a : Acc) (v : BitVec 32) (s : State) : Host.Outcome State Fault Refusal :=
  .next (s.actAll (fun s => s.busWrite a (FW.WRD_CTRL_RESTART.adr 0 0) v.toNat))

/-- HEARTBEAT (R422): A Steward write to FW.HEARTBEAT is latched and may end POLICY_STALE. -/
def execHeartbeat (a : Acc) (v : BitVec 32) (s : State) : Host.Outcome State Fault Refusal :=
  .next (s.actAll (fun s => s.busWrite a (FW.HEARTBEAT_BEAT.adr 0 0) v.toNat))

/-- FW_POLICY_STALE (R422): Three missed heartbeats put the governor in POLICY_STALE. -/
def execFwPolicyStale (s : State) : Host.Outcome State Fault Refusal :=
  .next (s.act (fun d => d.policyStale))

/-- IMAGE_BEGIN (R418): MB_HW IMAGE_BEGIN wipes the staging bank and the chunk map. -/
def execImageBegin (s : State) : Host.Outcome State Fault Refusal :=
  .next (s.actAll (fun s => s.reqImageBegin))

/-- IMAGE_CHUNK (R418): MB_HW IMAGE_CHUNK copies a chunk into the staging bank. -/
def execImageChunk (s : State) : Host.Outcome State Fault Refusal :=
  .next (s.actAll (fun s => s.reqImageChunk))

/-- IMAGE_SWAP (R419): MB_HW IMAGE_SWAP starts the Warden's check of the staged image. -/
def execImageSwap (s : State) : Host.Outcome State Fault Refusal :=
  .next (s.actAll (fun s => s.reqImageSwap))

/-- IMAGE_CHECK_DONE (R420): The image check fails with its code, or passes and the Warden sends SWAP_NOTICE. -/
def execImageCheckDone (s : State) : Host.Outcome State Fault Refusal :=
  .next (s.actAll (fun s => s.imageChecked))

/-- SWAP_READY (R420): MB_SW SWAP_READY from the Steward lets the swap proceed. -/
def execSwapReady (s : State) : Host.Outcome State Fault Refusal :=
  .next (s.actAll (fun s => s.reqSwapReady))

/-- SWAP_GRACE_END (R420): GRACE ms without SWAP_READY lets the swap proceed. -/
def execSwapGraceEnd (s : State) : Host.Outcome State Fault Refusal :=
  .next (s.actAll (fun s => s.graceOver))

end Sys2Proof.Machine
end

