-- ==== Sys2Proof/Machine/PhaseCmds.lean ====
section
/-!
DEFINITION. Machine/PhaseCmds.lean: the meanings of the commands of phases and Phase Links (R121 to R153), one definition per row.
-/
namespace Sys2Proof.Machine

/-- FORWARD_SLOT (R134): Each 50-bit forward slot of a Phase Link sends the highest-priority due frame. -/
def execForwardSlot (p : Nat) (q : Nat) (s : State) : Host.Outcome State Fault Refusal :=
  .next (s.act (fun d => if p < d.phases.length then d.forwardSlot p q else d))

/-- RAIL_CYCLE_START (R133): A rail's switching cycle boundary applies pending changes of the active set and the
interleave. -/
def execRailCycleStart (n : Nat) (c : Nat) (s : State) : Host.Outcome State Fault Refusal :=
  .next (s.act (fun d => if n < d.nRails then d.railCycleStart n c else d))

/-- RETURN_FRAME (R130): A return slot is taken whole, with its sample, report, bring-up progress, link-loss and
stage-fault handling. -/
def execReturnFrame (p : Nat) (m : Nat) (code : BitVec 50) (s : State) : Host.Outcome State Fault Refusal :=
  .next (s.act (fun d => if p < d.phases.length then d.returnFrame p m code.toNat else d))

/-- LINK_STEP_TIMEOUT (R129): A bring-up step exceeds its limit and the attempt restarts, or after three failures the
phase faults. -/
def execLinkStepTimeout (p : Nat) (s : State) : Host.Outcome State Fault Refusal :=
  .next (s.act (fun d => if p < d.phases.length then d.linkStepTimeout p else d))

/-- PHASE_EN_WRITE (R129): A write of PHASE CTRL.EN starts link bring-up or returns a phase to OFF. -/
def execPhaseEnWrite (p : Nat) (a : Acc) (v : BitVec 32) (s : State) : Host.Outcome State Fault Refusal :=
  .next (s.actAll (fun s => if p < 80 then s.busWrite a (PHASE.CTRL_EN.adr (p / 40) (p % 40)) v.toNat else s))

/-- PHASE_RETRAIN (R129): A write of CTRL.RETRAIN = 1 in OFF runs link bring-up again. -/
def execPhaseRetrain (p : Nat) (a : Acc) (v : BitVec 32) (s : State) : Host.Outcome State Fault Refusal :=
  .next (s.actAll (fun s => if p < 80 then s.busWrite a (PHASE.CTRL_RETRAIN.adr (p / 40) (p % 40)) v.toNat else s))

/-- PHASE_CLEAR (R144): A write of CTRL.CLEAR = 1 returns a FAULTED phase to OFF, directly or through a new bring-up. -/
def execPhaseClear (p : Nat) (a : Acc) (v : BitVec 32) (s : State) : Host.Outcome State Fault Refusal :=
  .next (s.actAll (fun s => if p < 80 then s.busWrite a (PHASE.CTRL_CLEAR.adr (p / 40) (p % 40)) v.toNat else s))

/-- PHASE_FORCED (R179): A write of RAIL FINJ.GO = 1 removes the named phase with cause 0x6. -/
def execPhaseForced (n : Nat) (a : Acc) (v : BitVec 32) (s : State) : Host.Outcome State Fault Refusal :=
  .next (s.actAll (fun s => if n < 8 then s.busWrite a (RAIL.FINJ_GO.adr n 0) v.toNat else s))

end Sys2Proof.Machine
end

