-- ==== Sys2Proof/Machine/RailCmds.lean ====
section
/-!
DEFINITION. Machine/RailCmds.lean: the meanings of the commands of rails, their loops and the TUNE run (R154 to R194), one definition per row.
-/
namespace Sys2Proof.Machine

/-- RAIL_VS_LOST (R187): Four counted RAIL ticks without a VS sample freeze regulation and set VS_LOST. -/
def execRailVsLost (n : Nat) (s : State) : Host.Outcome State Fault Refusal :=
  .next (s.act (fun d => if n < d.nRails then d.vsLost n else d))

/-- RAIL_VS_SQUALL (R188): 64 counted RAIL ticks without a VS sample request a Squall. -/
def execRailVsSquall (n : Nat) (s : State) : Host.Outcome State Fault Refusal :=
  .next (s.act (fun d => if n < d.nRails then d.vsSquall n else d))

/-- RAIL_RUN (R157): A write of RAIL CTRL.RUN = 1 starts the rail with soft start, or is refused. -/
def execRailRun (n : Nat) (a : Acc) (v : BitVec 32) (s : State) : Host.Outcome State Fault Refusal :=
  .next (s.actAll (fun s => if n < 8 then s.busWrite a (RAIL.CTRL_RUN.adr n 0) v.toNat else s))

/-- RAIL_STOP (R157): A write of RUN = 0 stops the rail, refuses the pending command and reclaims its leases. -/
def execRailStop (n : Nat) (a : Acc) (v : BitVec 32) (s : State) : Host.Outcome State Fault Refusal :=
  .next (s.actAll (fun s => if n < 8 then s.busWrite a (RAIL.CTRL_RUN.adr n 0) v.toNat else s))

/-- LOOP_OPEN (R159): A write of LOOP = 0 opens the loop, hands regulation to HOLD and copies the active coefficient bank.
-/
def execLoopOpen (n : Nat) (a : Acc) (v : BitVec 32) (s : State) : Host.Outcome State Fault Refusal :=
  .next (s.actAll (fun s => if n < 8 then s.busWrite a (RAIL.CTRL_LOOP.adr n 0) v.toNat else s))

/-- LOOP_CLOSE (R160): A write of LOOP = 1 closes the loop bumplessly, swapping banks if the digest matches. -/
def execLoopClose (n : Nat) (a : Acc) (v : BitVec 32) (s : State) : Host.Outcome State Fault Refusal :=
  .next (s.actAll (fun s => if n < 8 then s.busWrite a (RAIL.CTRL_LOOP.adr n 0) v.toNat else s))

/-- RAIL_OPEN_TIMEOUT (R162): The loop closes itself after OPEN_LIMIT BUDGET strobes. -/
def execRailOpenTimeout (n : Nat) (s : State) : Host.Outcome State Fault Refusal :=
  .next (s.act (fun d => if n < d.nRails then d.openTimeout n else d))

/-- COEF_EDIT_WRITE (R159): A COEF_EDIT write updates the edit bank or, with the loop closed, is ignored and counted. -/
def execCoefEditWrite (n : Nat) (k : Nat) (a : Acc) (v : BitVec 32) (s : State) : Host.Outcome State Fault Refusal :=
  .next (s.actAll (fun s => if n < 8 ∧ k < 8 then s.busWrite a (RAIL.COEF_EDIT_W.adr n k) v.toNat else s))

/-- RAIL_SRC_WRITE (R155): A change of CTRL.SRC switches command source, taking the governor's latest command on return to
0. -/
def execRailSrcWrite (n : Nat) (a : Acc) (v : BitVec 32) (s : State) : Host.Outcome State Fault Refusal :=
  .next (s.actAll (fun s => if n < 8 then s.busWrite a (RAIL.CTRL_SRC.adr n 0) v.toNat else s))

/-- RAIL_CMD (R155): A host write of RAIL CMD issues a voltage command, or is refused as a whole. -/
def execRailCmd (n : Nat) (a : Acc) (v : BitVec 32) (s : State) : Host.Outcome State Fault Refusal :=
  .next (s.actAll (fun s => if n < 8 then s.busWrite a (RAIL.CMD_TARGET.adr n 0) v.toNat else s))

/-- AVS_RESPONSE (R165): An AVSBus transaction ends with its response, a retry or AVS_ERROR. -/
def execAvsResponse (n : Nat) (ok : Bool) (status : BitVec 5) (w : BitVec 16) (s : State) : Host.Outcome State Fault Refusal :=
  .next (s.act (fun d => if n < d.nRails then d.avsResponse n ok status.toNat w.toNat else d))

/-- RAIL_AVS_TIMEOUT (R165): An AVS command that has not settled AVS.TIMEOUT µs after the ramp reached T completes
AVS_TIMEOUT. -/
def execRailAvsTimeout (n : Nat) (s : State) : Host.Outcome State Fault Refusal :=
  .next (s.act (fun d => if n < d.nRails then d.avsTimeout n else d))

/-- TUNE_ARM (R166): A write of TUNE CTRL.ARM = 1 starts an injection and capture run, or is refused. -/
def execTuneArm (a : Acc) (v : BitVec 32) (s : State) : Host.Outcome State Fault Refusal :=
  .next (s.actAll (fun s => s.busWrite a (TUNE.CTRL_ARM.adr 0 0) v.toNat))

/-- TUNE_STOP (R168): A write of CTRL.STOP = 1 aborts the run. -/
def execTuneStop (a : Acc) (v : BitVec 32) (s : State) : Host.Outcome State Fault Refusal :=
  .next (s.actAll (fun s => s.busWrite a (TUNE.CTRL_STOP.adr 0 0) v.toNat))

/-- TUNE_DONE (R167): The last capture sample is written and the run enters DONE. -/
def execTuneDone (s : State) : Host.Outcome State Fault Refusal :=
  .next (s.act (fun d => d.tuneDone))

end Sys2Proof.Machine
end

