-- ==== Sys2Proof/Machine/Spdm.lean ====
section
/-!
DEFINITION. Machine/Spdm.lean: the SPDM 1.3 responses of the Steward (R472, R474). The rule fixes what each response says; the
layout of the messages and the codes stand in the SPDM standard, which is not in the spec (PRESUMED, log entry 53).
-/
namespace Sys2Proof.Machine

/-- ASCII bytes. -/
def ascii (t : String) : List Nat := t.toList.map Char.toNat

/-- The combined prefix of SPDM 1.3 (R474): 64 B, then zeros and the context string in 36 B. -/
def spdmPrefix (context : Nat) : List Nat :=
  let v := ascii "dmtf-spdm-v1.3.*"
  let c := if context == 1 then ascii "responder-challenge_auth signing" else ascii "responder-measurements signing"
  v ++ v ++ v ++ v ++ List.replicate (36 - c.length) 0 ++ c

/-- r then s of a digest under a context, big-endian. -/
def State.spdmSig (s : State) (key context : Nat) (digest : List Nat) : List Nat :=
  let g := s.sign key (spdmPrefix context ++ digest)
  be48 g.1 ++ be48 g.2

/-- RequestResponseCode of an SPDM request that waits, byte 1. PRESUMED, log entry 53. -/
def Dev.spdmCode (d : Dev) : Nat := (d.mbBytes 2).getD 1 0

/-- The codes of the supported requests, in the order of R472. PRESUMED, log entry 53. -/
def spdmCodes : List Nat := [0x84, 0xE1, 0xE3, 0x81, 0x82, 0x83, 0xE0]

/-- A 1.3 message header: code, parameters 1 and 2. -/
def spdmHead (code p q : Nat) : List Nat := [0x13, code, p, q]

/-- ERROR with its code and data: 0x01 InvalidRequest, 0x05 Unspecified, 0x07 UnsupportedRequest. -/
def spdmError (code data : Nat) : List Nat := spdmHead 0x7F code data

/-- VERSION: one entry, 1.3. -/
def spdmVersion : List Nat := [0x10, 0x04, 0, 0, 0, 1] ++ leBytes 2 0x1300

/-- CAPABILITIES: CTExponent 14; flags CERT_CAP, CHAL_CAP, MEAS_CAP with signature and no other; both sizes 4,096. -/
def spdmCapabilities : List Nat := spdmHead 0x61 0 0 ++ [0, 14, 0, 0] ++ leBytes 4 0x16 ++ leBytes 4 4096 ++ leBytes 4 4096

/-- ALGORITHMS: of what the request offers, the DMTF measurement specification, ECDSA P-384 and SHA-384; SHA-384 for
measurements; no algorithm structures. -/
def spdmAlgorithms (req : List Nat) : List Nat :=
  let spec := req.getD 6 0 &&& 1
  spdmHead 0x63 0 0 ++ leBytes 2 36 ++ [spec, 0] ++ leBytes 4 (4 * spec) ++ leBytes 4 (ofLe ((req.drop 8).take 4) &&& 0x80)
    ++ leBytes 4 (ofLe ((req.drop 12).take 4) &&& 0x02) ++ List.replicate 16 0

/-- The digest of a certificate chain. -/
def spdmChainHash (chain : List Nat) : List Nat := digestBytes (Config.sha384 chain)

/-- DIGESTS: slot 0 only. -/
def spdmDigests (chain : List Nat) : List Nat := spdmHead 0x01 1 1 ++ spdmChainHash chain

/-- CERTIFICATE: from the offset on as much of slot 0's chain as the request asks for and a message of 4,096 B holds; another
slot, or an offset beyond the end, is an invalid request. -/
def spdmCertificate (chain req : List Nat) : List Nat :=
  let off := ofLe ((req.drop 4).take 2)
  if req.getD 2 0 % 16 != 0 || decide (off ≥ chain.length) then spdmError 0x01 0
  else
    let part := (chain.drop off).take (min 4088 (ofLe ((req.drop 6).take 2)))
    spdmHead 0x02 0 0 ++ leBytes 2 part.length ++ leBytes 2 (chain.length - off - part.length) ++ part

/-- Length of the value of measurement `i` (R473). -/
def measLen (i : Nat) : Nat := if i == 4 then 16 else if i == 6 then 8 else 48

/-- DMTF type of measurement `i` (R473); of a raw bit stream the rule gives no value type. -/
def measType (i : Nat) : Nat :=
  match i with
  | 1 => 0x00
  | 2 => 0x01
  | 3 => 0x01
  | 5 => 0x03
  | _ => 0x80 + Config.spdmRawType i % 128

/-- The measurement block of index `i`. -/
def Dev.spdmBlock (d : Dev) (i : Nat) : List Nat :=
  let n := measLen i
  [i, 1] ++ leBytes 2 (3 + n) ++ [measType i] ++ leBytes 2 n ++ (d.measurement i ++ List.replicate n 0).take n

/-- The measurement blocks of all indices, singly or together. -/
def Dev.spdmRecord (d : Dev) (op : Nat) : List Nat :=
  if op == 0xFF then (upto 6).flatMap (fun k => d.spdmBlock (k + 1)) else if op == 0 then [] else d.spdmBlock op

/-- The responder's nonce, a free value. -/
def State.spdmNonce (s : State) : List Nat := leBytes 32 (Config.spdmNonce s.dev.wrd.fresh)

/-- CHALLENGE_AUTH up to its signature: measurement summary hash over all indices, or none. -/
def State.spdmChallenge (s : State) (chain req : List Nat) : List Nat :=
  spdmHead 0x03 0 1 ++ spdmChainHash chain ++ s.spdmNonce
    ++ (if req.getD 3 0 == 0xFF then digestBytes (Config.sha384 (s.dev.spdmRecord 0xFF)) else [])
    ++ [0, 0] ++ (req.drop 36).take 8

/-- GET_MEASUREMENTS asks for a signature. -/
def spdmMeasSigned (req : List Nat) : Bool := req.getD 2 0 % 2 == 1

/-- MEASUREMENTS up to its signature: how many indices there are, one of them, or all. -/
def State.spdmMeasurements (s : State) (req : List Nat) : List Nat :=
  let op := req.getD 3 0
  let rec_ := s.dev.spdmRecord op
  spdmHead 0x60 (if op == 0 then 6 else 0) 0 ++ [if op == 0xFF then 6 else if op == 0 then 0 else 1] ++ leBytes 3 rec_.length
    ++ rec_ ++ s.spdmNonce ++ [0, 0] ++ (req.drop (if spdmMeasSigned req then 37 else 4)).take 8

/-- The request asks for what the rule does not offer: another slot than 0, another summary than all indices or none, an index
that is not there. -/
def spdmInvalid (code : Nat) (req : List Nat) : Bool :=
  if code == 0x83 then req.getD 2 0 != 0 || (req.getD 3 0 != 0 && req.getD 3 0 != 0xFF)
  else if code == 0xE0 then
    (decide (req.getD 3 0 > 6) && req.getD 3 0 != 0xFF) || (spdmMeasSigned req && req.getD 36 0 % 16 != 0)
  else false

/-- The request asks for a signature: CHALLENGE always, GET_MEASUREMENTS when it says so. -/
def spdmSigned (code : Nat) (req : List Nat) : Bool := code == 0x83 || (code == 0xE0 && spdmMeasSigned req)

/-- A response that needs neither the chain nor the key. -/
def State.spdmPlain (s : State) (code : Nat) (req : List Nat) : List Nat :=
  match code with
  | 0x84 => spdmVersion
  | 0xE1 => spdmCapabilities
  | 0xE3 => spdmAlgorithms req
  | _ => s.spdmMeasurements req

/-- A response that needs the chain and the key; a signature stands behind CHALLENGE_AUTH and signed MEASUREMENTS (R474). -/
def State.spdmKeyed (s : State) (code key : Nat) (chain req : List Nat) : List Nat :=
  if code == 0x81 then spdmDigests chain
  else if code == 0x82 then spdmCertificate chain req
  else
    let resp := if code == 0x83 then s.spdmChallenge chain req else s.spdmMeasurements req
    resp ++ s.spdmSig key (if code == 0x83 then 1 else 2) (Config.spdmDigest req resp)

/-- The bytes of the SPDM response to a supported request (R472): ERROR Unspecified without the chain or the key it needs. -/
def State.spdmResponse (s : State) (code : Nat) (req : List Nat) : List Nat :=
  if spdmInvalid code req then spdmError 0x01 0
  else if code == 0x81 || code == 0x82 || spdmSigned code req then
    match s.dev.wrd.prov.chain, s.dev.wrd.key with
    | some c, some k => s.spdmKeyed code k c req
    | _, _ => spdmError 0x05 0
  else s.spdmPlain code req

end Sys2Proof.Machine
end

