-- ==== Sys2Proof/Machine/Security.lean ====
section
/-!
DEFINITION. Machine/Security.lean: the requests that the Warden answers for life cycle, certificates, the Barograph clear and
the Steward (R405, R415, R444 to R446, R462 to R464, R468, R474), and SPDM on MB_HS (R472).
-/
namespace Sys2Proof.Machine

/-! ### LC_REQ (R463, R464) -/

/-- FUNC of an LC_REQ word. -/
def lcFunc (w : Nat) : Nat := bitsAt (msgARG w) 6 3

/-- The life-record write of a transition is asked for and not answered (R464). -/
def Warden.changing (w : Warden) : Bool :=
  let is (y : LifeWhy) : Bool := match y with
    | .change _ _ => true
    | _ => false
  (match w.lifeRun with
    | some r => is r.1
    | none => false) || w.lifeQ.any is

/-- LC_REQ with FUNC `f`; a reserved FUNC is taken by each of them. The Warden answers a TRANSITION before it takes a further
LC_REQ. -/
def lcMine (f : Nat) (s : State) (w : Nat) : Bool := (lcFunc w == f || decide (lcFunc w ≥ 4)) && !s.dev.wrd.changing

/-- Take an LC_REQ with FUNC `f` and LEN among `lens`: DENIED during a Steward swap (R475), BAD for a reserved FUNC or another
LEN. -/
def State.lcRequest (s : State) (f : Nat) (lens : List Nat) (g : State → Nat → State) : State :=
  s.request 0 0x13 (lcMine f) (fun s w =>
    if s.swapping then s.reply 0 w 3 []
    else if lcFunc w != f || !lens.contains (msgLEN w) then s.reply 0 w 2 [] else g s w)

/-- Bytes over which a nonce is formed (R444, R463): KEY_ID, RESET_CAUSE, the power-cycle count, `mid`, b and GT_NS. -/
def State.nonceBytes (s : State) (mid : List Nat) (gt : Nat) : List Nat :=
  s.dev.keyId ++ leBytes 4 (putAt s.aon.count 16 + s.aon.last) ++ leBytes 4 s.aon.pcc ++ mid ++ leBytes 8 s.dev.tick.b
    ++ leBytes 8 gt

/-- Bytes 0 to 31 of the SHA-384. -/
def State.nonce (s : State) (mid : List Nat) (gt : Nat) : List Nat :=
  (digestBytes (Config.sha384 (s.nonceBytes mid gt))).take 32

/-- LC_NONCE. -/
def State.reqLcNonce (s : State) (gt : Nat) : State :=
  s.lcRequest 0 [0] (fun s w =>
    let n := s.nonce (leBytes 4 (s.sec SEC.LIFE_SEQ_SEQ)) gt
    (s.updWrd (fun x => { x with lcNonce := some n })).reply 0 w 0 n)

/-- LC_NONCE_EXPIRE. -/
def State.lcNonceExpire (s : State) : State := s.updWrd (fun x => { x with lcNonce := none })

/-- R462: the transition is listed, and whether it must be signed. -/
def lcListed (cur target : Nat) : Option Bool :=
  match cur, target with
  | 0, 1 => some false
  | 1, 2 => some false
  | 1, 3 => some false
  | 2, 5 => some false
  | 3, 4 => some true
  | 3, 5 => some true
  | 4, 5 => some false
  | 4, 4 => some true
  | _, _ => none

/-- The further requirement of R462. -/
def State.lcMeets (s : State) (cur target : Nat) : Bool :=
  let p := s.dev.wrd.prov
  if cur == 1 && (target == 2 || target == 3) then
    s.dev.on SEC.BOOT_PROV && s.leafHasKey
      && (target == 2 || (p.returnKey.isSome && p.imageKeys.any (fun k => bitAt k.1 3)))
  else true

/-- A TRANSITION is refused: the event of R464 and the answer. FAILED carries its code in the payload. -/
def State.lcRefuse (s : State) (w status code : Nat) : State :=
  (s.onDev (fun d => d.ev Ev.SEC_LC_DENIED code)).reply 0 w status (if status == 5 then leBytes 4 code else [])

/-- The signature of a TRANSITION: words 0 to 7 the nonce, 8 to 19 r, 20 to 31 s (R463). The FAILED code, none when it
verifies. -/
def State.lcSigned (s : State) (nonce : Option (List Nat)) (cur target : Nat) : Option Nat :=
  let b := s.dev.mbBytes 0
  if nonce != some (b.take 32) then some 1
  else match s.dev.wrd.prov.returnKey with
    | none => some 2
    | some key =>
      let msg := [0x4C, 0x43, 0x54, 0x52] ++ s.dev.keyId ++ b.take 32 ++ [cur, target]
      if Config.ecdsaOk key (Config.sha384 msg) (ofBe ((b.drop 32).take 48)) (ofBe ((b.drop 80).take 48)) then none else some 3

/-- LC_TRANSITION (R464). -/
def State.reqLcTransition (s : State) : State :=
  s.request 0 0x13 (lcMine 1) (fun s w =>
    let cur := s.sec SEC.LC_STATE
    let target := bitsAt (msgARG w) 0 3
    let nonce := s.dev.wrd.lcNonce
    let s := if lcFunc w == 1 then s.lcNonceExpire else s
    if lcFunc w != 1 then s.reply 0 w (if s.swapping then 3 else 2) []
    else match lcListed cur target with
      | none => s.lcRefuse w 3 3
      | some signed =>
        if !s.dev.on SEC.LC_VALID || s.swapping then s.lcRefuse w 3 3
        else if msgLEN w != (if signed then 32 else 0) then s.lcRefuse w 2 2
        else match (if signed then s.lcSigned nonce cur target else none) with
          | some c => s.lcRefuse w 5 c
          | none =>
            if !s.lcMeets cur target then s.lcRefuse w 5 4
            else if cur == target then (s.onDev (fun d => d.wr SEC.LC_DEBUG_AUTH 1)).reply 0 w 0 []
            else if s.dev.on SEC.LC_BROKEN then s.lcRefuse w 5 5
            else s.lifeAsk (.change target (msgTAG w)))

/-- PROV_WRITE. -/
def State.reqProvWrite (s : State) : State :=
  s.lcRequest 2 [17] (fun s w =>
    let st := s.sec SEC.LC_STATE
    if st != 0 && st != 1 then s.reply 0 w 3 []
    else
      let idx := 16384 + bitsAt (s.pay 0 0) 0 10
      let bytes := (s.dev.mbBytes 0).drop 4
      s.onDev (fun d => d.nvAsk ⟨.prov (msgTAG w), true, idx, bytes⟩))

/-- PUBKEY. -/
def State.reqPubkey (s : State) : State :=
  s.lcRequest 3 [0] (fun s w =>
    match s.dev.wrd.key with
    | some k => s.reply 0 w 0 (pubBytes k ++ [0, 0, 0])
    | none => s.reply 0 w 5 (leBytes 4 2))

/-! ### CERT_READ (R468) -/

/-- CERT_READ. -/
def State.reqCertRead (s : State) : State :=
  s.request 0 0x14 anyWord (fun s w =>
    let k := bitsAt (msgARG w) 0 8
    match s.dev.wrd.prov.chain with
    | none => s.reply 0 w 5 (leBytes 4 2)
    | some c => if 4096 * k < c.length then s.reply 0 w 0 ((c.drop (4096 * k)).take 4096) else s.reply 0 w 2 [])

/-! ### The Barograph clear (R444 to R446) -/

/-- BARO_NONCE. -/
def State.reqBaroNonce (s : State) (gt : Nat) : State :=
  s.request 0 0x15 anyWord (fun s w =>
    if msgLEN w != 0 then s.reply 0 w 2 []
    else
      let n := s.nonce [] gt
      (s.updWrd (fun x => { x with baroNonce := some n })).reply 0 w 0 n)

/-- BARO_NONCE_EXPIRE. -/
def State.baroNonceExpire (s : State) : State := s.updWrd (fun x => { x with baroNonce := none })

/-- A BARO_CLEAR is refused (R445). -/
def State.baroRefuse (s : State) (w status code : Nat) : State :=
  (s.onDev (fun d => d.ev Ev.BARO_CLEAR_DENIED code)).reply 0 w status (if status == 5 then leBytes 4 code else [])

/-- The operating time of R435. -/
def State.opTime (s : State) : OpTime := ⟨s.aon.secs + putAt s.aon.pcc 40, s.aon.loaded⟩

/-- BARO_CLEAR (R445, R446). -/
def State.reqBaroClear (s : State) : State :=
  s.request 0 0x16 anyWord (fun s w =>
    let b := s.dev.mbBytes 0
    let nonce := b.take 32
    let scope := ofLe ((b.drop 32).take 4)
    let held := s.dev.wrd.baroNonce
    let s := s.baroNonceExpire
    let x := s.dev.baro
    if msgLEN w != 33 || decide (scope ≥ 16) || decide (scope % 8 > 4) then s.baroRefuse w 2 0
    else if s.sec SEC.LC_STATE == 5 then s.baroRefuse w 3 5
    else if held != some nonce then s.baroRefuse w 5 1
    else match s.dev.wrd.prov.clearKey with
      | none => s.baroRefuse w 5 2
      | some key =>
        let r := ofBe ((b.drop 36).take 48)
        let t := ofBe ((b.drop 84).take 48)
        let msg := [0x42, 0x43, 0x4C, 0x52] ++ s.dev.keyId ++ nonce ++ [scope]
        if !Config.ecdsaOk key (Config.sha384 msg) r t then s.baroRefuse w 5 3
        else if x.allPinned (scope % 8) (bitAt scope 3) then s.baroRefuse w 5 4
        else
          let y := s.dev.baroClear scope (keyIdOf key) nonce r t s.opTime
          ({ s with dev := y.1 }).reply 0 w 0 (leBytes 4 y.2))

/-! ### SEC_WRITE (R405) -/

/-- The value that a HARD_ field holds as its bound: a temperature is signed (R8, R318). -/
def hardValue (f : Fld) (x : Nat) : Int := if f.same THERM.HARD_T_HARD_TTRIP then signedOf 16 x else (x : Int)

/-- A masked field of a SEC_WRITE passes: the value in force is `was`, the new one `v`; a field of a locked register, its
LOCK bit included, fails. -/
def Dev.secPasses (d : Dev) (f : Fld) (i j was v : Nat) : Bool :=
  match hardFlds.find? (fun h => h.1.same f) with
  | some (_, l, below) => !d.lockSet l f i j && (if below then decide (hardValue f v ≥ hardValue f was) else decide (hardValue f v ≤ hardValue f was))
  | none =>
    if lockFlds.any (fun l => l.same f) then !d.lockSet f f i j && v == 1
    else f.same GOV.SAFE_LEVEL_MAX && decide (v ≤ was)

/-- The word that results from a masked write. -/
def maskedWord (old v m : Nat) : Nat := (old - (old &&& m)) + (v &&& m)

/-- R405: the word to write, none where the request is refused. Only PAGE_IRQ_ROUTE.SEC_LINE passes among header fields. -/
def State.secWord (s : State) (adr v m : Nat) : Option Nat :=
  let p := adr / 1024
  let off := adr % 1024 * 4
  let d := s.dev
  if !d.pagePresent p then none
  else if off == 0x18 then (if m == 16 && bitAt v 4 then some (putAt 16 16 + 16) else none)
  else if off < 0x40 then none
  else match regAt p off with
    | none => none
    | some (r, j) =>
      let i := pageInst p
      let old := sumN (r.flds.map (fun f => putAt (d.rd f i j) f.lo))
      let new := maskedWord old v m
      let hit := r.flds.filter (fun f => f.of m != 0)
      if d.regPresent (pageBase p) i r.off j && !hit.isEmpty && hit.all (fun f => d.secPasses f i j (f.of old) (f.of new))
      then some new else none

/-- SEC_WRITE. -/
def State.reqSecWrite (s : State) : State :=
  s.request 4 0x22 anyWord (fun s w =>
    if msgLEN w != 3 then s.reply 4 w 2 []
    else
      let adr := s.pay 4 0 % 2 ^ 15
      match s.secWord adr (s.pay 4 1) (s.pay 4 2) with
      | some x => (s.busWrite accWarden adr x).reply 4 w 0 []
      | none => (s.onDev (fun d => (d.bump FW.SEC_REFUSED_COUNT).ev Ev.FW_SEC_REFUSED (adr / 1024))).reply 4 w 3 [])

/-! ### SPDM (R472, R474) -/

/-- SPDM_SIGN. -/
def State.reqSpdmSign (s : State) : State :=
  s.request 4 0x23 anyWord (fun s w =>
    let c := msgARG w
    if msgLEN w != 12 || (c != 1 && c != 2) then s.reply 4 w 2 []
    else match s.dev.wrd.key with
      | none => s.reply 4 w 5 (leBytes 4 2)
      | some k => (s.reply 4 w 0 (s.spdmSig k c (s.dev.mbBytes 4))).freshUp)

/-- An SPDM request of one of the supported kinds. The Steward has the Warden sign as needed (R415, R474). -/
def State.reqSpdm (s : State) (code : Nat) : State :=
  s.request 2 0x04 (fun s _ => s.dev.spdmCode == code) (fun s w =>
    (s.reply 2 w 0 ((s.spdmResponse code (s.dev.mbBytes 2)).take 4096)).freshUp)

/-- Any other SPDM request: ERROR UnsupportedRequest, BAD for an empty message. -/
def State.reqSpdmOther (s : State) : State :=
  s.request 2 0x04 (fun s _ => !spdmCodes.contains s.dev.spdmCode) (fun s w =>
    if msgLEN w == 0 then s.reply 2 w 2 []
    else s.reply 2 w 0 (spdmError 0x07 s.dev.spdmCode))

/-! ### NV_READ, NV_WRITE and the responses of the NV port (R52, R415) -/

/-- The first record and the count of an NV request word, none where they are BAD. -/
def nvSpan (x : Nat) : Option (Nat × Nat) :=
  let n := bitsAt x 16 5
  if decide (1 ≤ n) && decide (n ≤ 16) then some (bitsAt x 0 15, n) else none

/-- The Steward's own records only. -/
def nvAllowed (first n : Nat) : Bool := decide (18432 ≤ first) && decide (first + n ≤ 32768)

/-- The Warden has no NV request of the Steward in hand. -/
def noJob (s : State) (_ : Nat) : Bool := s.dev.wrd.nvJob.isNone

/-- NV_READ. -/
def State.reqNvRead (s : State) : State :=
  s.request 4 0x20 noJob (fun s w =>
    if msgLEN w != 1 then s.reply 4 w 2 [] else
    match nvSpan (s.pay 4 0) with
    | none => s.reply 4 w 2 []
    | some (first, n) =>
      if !nvAllowed first n then s.reply 4 w 3 []
      else (s.updWrd (fun x => { x with nvJob := some ⟨msgTAG w, false, n, [], false⟩ })).onDev (fun d =>
        (upto n).foldl (fun d k => d.nvAsk ⟨.stw, false, first + k, []⟩) d))

/-- NV_WRITE. -/
def State.reqNvWrite (s : State) : State :=
  s.request 4 0x21 noJob (fun s w =>
    match nvSpan (s.pay 4 0) with
    | none => s.reply 4 w 2 []
    | some (first, n) =>
      if msgLEN w != 1 + 16 * n then s.reply 4 w 2 []
      else if !nvAllowed first n then s.reply 4 w 3 []
      else
        let b := (s.dev.mbBytes 4).drop 4
        (s.updWrd (fun x => { x with nvJob := some ⟨msgTAG w, true, n, [], false⟩ })).onDev (fun d =>
          (upto n).foldl (fun d k => d.nvAsk ⟨.stw, true, first + k, (b.drop (64 * k)).take 64⟩) d))

/-- A record of the Steward's request is answered; the last one brings the answer. -/
def State.nvJobStep (s : State) (ok : Bool) (data : List Nat) : State :=
  match s.dev.wrd.nvJob with
  | none => s
  | some j =>
    let j := { j with left := j.left - 1, data := if j.write then [] else j.data ++ data, bad := j.bad || !ok }
    if j.left > 0 then s.updWrd (fun x => { x with nvJob := some j })
    else
      let s := s.updWrd (fun x => { x with nvJob := none })
      let req := reqWord (if j.write then 0x21 else 0x20) j.tag
      if j.bad then s.reply 4 req 5 (leBytes 4 (Config.failCode (bnat j.write))) else s.reply 4 req 0 j.data

/-- NV_RESPONSE (R52): the response to the oldest ordinary request outstanding. -/
def State.nvResponse (s : State) (status : Nat) (data : Nat) : State :=
  match s.dev.nv.out with
  | [] => s
  | r :: rest =>
    let s := s.onDev (fun d => { d with nv := { d.nv with out := rest } })
    let ok := status == 0
    let s := match r.src with
      | .ring => s
      | .life _ => s.lifeDone ok
      | .prov tag =>
        if ok then s.reply 0 (reqWord 0x13 tag) 0 [] else s.reply 0 (reqWord 0x13 tag) 5 (leBytes 4 (Config.failCode 2))
      | .mirror => s.onDev (fun d => d.mirrorAnswer ok)
      | .stw => s.nvJobStep ok (leBytes 64 data)
    s.onDev (fun d => d.nvPump)

end Sys2Proof.Machine
end

