-- ==== Sys2Proof/Machine/Boot.lean ====
section
/-!
DEFINITION. Machine/Boot.lean: the wipe (R455, R456), the Warden's boot (R457, R458, R460, R461, R465, R467, R470), its restores
(R326, R443), and test access (R70).
-/
namespace Sys2Proof.Machine

/-! ### Wipe and READY (R455, R456) -/

/-- PAGE_WIPE_DONE: the memories of a page that are being wiped end their read-back. -/
def Dev.pageWipeDone (d : Dev) (page : Nat) (ok : Bool) : Dev :=
  if !d.wiping.contains page || d.wipeBad.contains page then d
  else if ok then
    { d with
      wiping := d.wiping.filter (fun p => p != page)
      wrd := { d.wrd with wiped := d.wrd.wiped || page == 0x04 } }
  else
    (({ d with wipeBad := insertAsc page d.wipeBad }).wr SEC.BOOT_WIPE_FAIL 1).ev Ev.SEC_WIPE_FAIL (page % 256)

/-! ### What the Warden reads of the NV store -/

/-- One record, none where its read ends in an error. -/
def BootIn.record (x : BootIn) (i : Nat) : Option (List Nat) := if x.bad.contains i then none else some (x.nv.bytes (64 * i) 64)

/-- `n` bytes from record `i` on, none where a read ends in an error. -/
def BootIn.span (x : BootIn) (i n : Nat) : Option (List Nat) :=
  if (upto (ceilDiv n 64)).any (fun k => x.bad.contains (i + k)) then none else some (x.nv.bytes (64 * i) n)

/-- The NV port takes no read now: a critical record waits for its acceptance, a request presented does, or 8 are outstanding
(R52). -/
def Dev.nvClosed (d : Dev) : Bool :=
  d.nv.block || d.nv.pres.isSome || decide (d.nv.out.length + bnat d.nv.critOut ≥ 8)

/-- The last four bytes are the CRC-32C of those before them. -/
def crcOk (l : List Nat) : Bool := decide (l.length ≥ 4) && leBytes 4 (crc32c (l.take (l.length - 4))) == l.drop (l.length - 4)

/-! ### Step 2: the life records (R460) -/

/-- A copy: whether it carries the MAGIC, and its bytes when it is valid. -/
def BootIn.lifeCopy (x : BootIn) (i : Nat) : Bool × Option (List Nat) :=
  match x.record i with
  | none => (false, none)
  | some r =>
    let magic := r.take 4 == [0x53, 0x59, 0x4C, 0x43]
    (magic, if magic && crcOk r then some r else none)

/-- The later valid copy with its record index. -/
def BootIn.lifeLater (x : BootIn) : Option (Nat × List Nat) :=
  match (x.lifeCopy 17472).2, (x.lifeCopy 17473).2 with
  | none, none => none
  | some a, none => some (17472, a)
  | none, some b => some (17473, b)
  | some a, some b => if older (ofLe ((a.drop 4).take 4)) (ofLe ((b.drop 4).take 4)) then some (17473, b) else some (17472, a)

/-- Step 2: state, MIN_SVN, LIFE_SEQ and Transitions; LC.VALID. -/
def State.bootLife (s : State) (x : BootIn) : State :=
  let s := s.onDev (fun d => (d.wr SEC.BOOT_STEP 2).send (.nvReads 17472 2))
  match x.lifeLater with
  | some (i, r) =>
    (s.updWrd (fun w => { w with lifeAt := i, transitions := ofLe ((r.drop 0x18).take 2) })).onDev (fun d =>
      let d := (d.wr SEC.LC_BROKEN 0).wr SEC.LC_STATE (r.getD 8 0 % 8)
      let d := d.wr SEC.MIN_SVN_SVN (ofLe ((r.drop 0x0A).take 2))
      (d.wr SEC.LIFE_SEQ_SEQ (ofLe ((r.drop 4).take 4))).wr SEC.LC_VALID 1)
  | none =>
    let broken := (x.lifeCopy 17472).1 || (x.lifeCopy 17473).1
    (s.updWrd (fun w => { w with lifeAt := 17473, transitions := 0 })).onDev (fun d =>
      let d := ((d.wr SEC.LC_STATE (if broken then 5 else 0)).wr SEC.LC_BROKEN (bnat broken)).wr SEC.LC_VALID 1
      let d := (d.wr SEC.MIN_SVN_SVN 0).wr SEC.LIFE_SEQ_SEQ 0
      if broken then d.ev Ev.SEC_LIFE_BAD else d)

/-! ### Step 3: the provisioning area (R467) -/

/-- A directory entry: KIND, STATES, LENGTH, START. -/
def dirEntry (dir : List Nat) (k : Nat) : Nat × Nat × Nat × Nat :=
  let e := (dir.drop (8 + 8 * k)).take 8
  (e.getD 0 0, e.getD 1 0, ofLe ((e.drop 2).take 2), ofLe ((e.drop 4).take 2))

/-- The directory when it is valid. -/
def BootIn.directory (x : BootIn) : Option (List Nat) :=
  match x.record 16384 with
  | none => none
  | some r =>
    let n := r.getD 4 0
    if r.take 4 == [0x53, 0x59, 0x50, 0x56] && decide (1 ≤ n) && decide (n ≤ 6) && crcOk r then some r else none

/-- The pairs of a profile item: word address and value (R470). -/
def profilePairs : Nat → List Nat → List (Nat × Nat)
  | 0, _ => []
  | k + 1, l =>
    if l.length < 8 then [] else (ofLe (l.take 4) % 2 ^ 15, ofLe ((l.drop 4).take 4)) :: profilePairs k (l.drop 8)

/-- An item with a good CRC takes its place; `body` is without the CRC, `all` with it. -/
def Prov.take (p : Prov) (kind states : Nat) (body all : List Nat) : Prov :=
  match kind with
  | 1 => { p with chain := some body }
  | 2 => { p with patch := some all }
  | 3 => { p with clearKey := some body }
  | 4 => { p with returnKey := some body }
  | 5 => { p with imageKeys := p.imageKeys ++ [(states, body)] }
  | 6 => { p with profile := profilePairs 256 body }
  | _ => p

/-- The item lies within the provisioning area, so that its read touches no other record (R50, R467). -/
def itemFits (e : Nat × Nat × Nat × Nat) : Bool := decide (e.2.2.2 + ceilDiv e.2.2.1 64 ≤ 1024)

/-- One entry: its item is read, or left out with SEC_PROV_BAD, unread where it does not lie within the area (log entry 88). -/
def State.bootItem (s : State) (x : BootIn) (e : Nat × Nat × Nat × Nat) : State :=
  if !itemFits e then s.onDev (fun d => d.ev Ev.SEC_PROV_BAD e.1) else
  let s := s.onDev (fun d => d.send (.nvReads (16384 + e.2.2.2) (ceilDiv e.2.2.1 64)))
  match x.span (16384 + e.2.2.2) e.2.2.1 with
  | none => s.onDev (fun d => d.ev Ev.SEC_PROV_BAD e.1)
  | some l =>
    if crcOk l then s.updWrd (fun w => { w with prov := w.prov.take e.1 e.2.1 (l.take (l.length - 4)) l })
    else s.onDev (fun d => d.ev Ev.SEC_PROV_BAD e.1)

/-- Step 3: directory, items, patch. -/
def State.bootProv (s : State) (x : BootIn) : State :=
  let s := (s.updWrd (fun w => { w with prov := {} })).onDev (fun d => (d.wr SEC.BOOT_STEP 3).send (.nvReads 16384 1))
  let s := match x.directory with
    | none => s.onDev (fun d => (d.wr SEC.BOOT_PROV 0).ev Ev.SEC_PROV_BAD 0)
    | some dir =>
      ((upto (dir.getD 4 0)).map (dirEntry dir)).foldl (fun s e => s.bootItem x e) (s.onDev (fun d => d.wr SEC.BOOT_PROV 1))
  if s.dev.wrd.prov.patch.isSome && x.patchOk then s.onDev (fun d => d.wr FW.WRD_STAT_PATCH_OK 1)
  else s.onDev (fun d => (d.wr FW.WRD_STAT_PATCH_OK 0).ev Ev.SEC_PATCH_BAD)

/-! ### Step 4: hard limits (R470) -/

/-- The word holds HARD_ fields, LOCK bits, GOV.SAFE and reserved bits alone. -/
def profileWord (adr : Nat) : Bool :=
  match regAt (adr / 1024) (adr % 1024 * 4) with
  | none => false
  | some (r, _) => adr % 1024 ≥ 16 && r.flds.all (fun f =>
      hardFlds.any (fun h => h.1.same f) || lockFlds.any (fun l => l.same f) || f.same GOV.SAFE_MODE || f.same GOV.SAFE_LEVEL_MAX)

/-- The pairs from index `k` on, in item order. -/
def State.profilePairs (s : State) (k : Nat) : List (Nat × Nat) → State
  | [] => s
  | (adr, v) :: r =>
    (if profileWord adr then s.busWrite accWarden adr v
     else s.onDev (fun d => d.ev Ev.SEC_PROFILE_BAD (k % 256))).profilePairs (k + 1) r

/-- Step 4. -/
def State.bootProfile (s : State) : State :=
  let s := (s.onDev (fun d => d.wr SEC.BOOT_STEP 4)).profilePairs 0 s.dev.wrd.prov.profile
  s.onDev (fun d =>
    let st := d.rd SEC.LC_STATE
    let e := if st == 3 || st == 4 then d.lockAll else d
    (e.measMark d).wr SEC.BOOT_PROFILE 1)

/-! ### Step 5: the counters (R461) -/

/-- Step 5: the stored seconds and the stored count plus one are loaded, and a life record is written. -/
def State.bootCounters (s : State) (x : BootIn) : State :=
  if s.aon.loaded then s
  else
    let (secs, pcc) := match x.lifeLater with
      | some (_, r) => (ofLe ((r.drop 0x10).take 8) % 2 ^ 40, ofLe ((r.drop 0x0C).take 4) % 2 ^ 24)
      | none => (0, 0)
    let n := min (2 ^ 24 - 1) (pcc + 1)
    let s := s.onDev (fun d =>
      let d := (d.wr SEC.BOOT_STEP 5).wr SEC.LOAD_OPS_LO_SECONDS (secs % 2 ^ 32)
      (d.wr SEC.LOAD_OPS_HI_SECONDS (secs / 2 ^ 32)).wr SEC.LOAD_PCC_COUNT n)
    ({ s with aon := { s.aon with secs := secs, pcc := n, loaded := true } }).lifeAsk .counters

/-! ### Step 7: the critical records (R326) -/

/-- A critical record: its bytes when MAGIC and CRC are valid. -/
def BootIn.crit (x : BootIn) (i : Nat) : Option (List Nat) :=
  match x.record i with
  | none => none
  | some r => if r.take 4 == [0x53, 0x51, 0x43, 0x52] && crcOk r then some r else none

/-- SEQ of a critical record (R324). -/
def critSeq (r : List Nat) : Nat := ofLe ((r.drop 4).take 4)

/-- The newest valid ring record: its slot and bytes. -/
def BootIn.critNewest (x : BootIn) : Option (Nat × List Nat) :=
  (upto 63).foldl (fun (m : Option (Nat × List Nat)) k =>
    match x.crit (17408 + k), m with
    | none, m => m
    | some r, none => some (k, r)
    | some r, some (j, q) => if older (critSeq q) (critSeq r) then some (k, r) else some (j, q)) none

/-- Report a record through CRIT_IDX and CRIT_WDATA (R326). -/
def Dev.critReport (d : Dev) (r : List Nat) : Dev :=
  let d := (upto 16).foldl (fun (d : Dev) k => d.critWord (ofLe ((r.drop (4 * k)).take 4))) (d.wr THERM.CRIT_IDX_IDX 0)
  d.critDone

/-- Step 7. -/
def State.bootCrit (s : State) (x : BootIn) : State :=
  s.onDev (fun d =>
    let d := (d.wr SEC.BOOT_STEP 7).send (.nvReads 17408 64)
    let (slot, seq) := match x.critNewest with
      | some (k, r) => ((k + 1) % 63, (critSeq r + 1) % 2 ^ 32)
      | none => (0, 0)
    let d := ((d.wr THERM.CRIT_HEAD_VALID 1).wr THERM.CRIT_HEAD_SLOT slot).wr THERM.CRIT_SEQ_SEQ seq
    match x.crit 17471 with
    | some e =>
      let copy := withCrc ((e.take 4) ++ leBytes 4 seq ++ (e.drop 8).take 52)
      let d := ((d.critReport e).nvAsk ⟨.ring, true, 17408 + slot, copy⟩).nvAsk ⟨.ring, true, 17471, List.replicate 64 0⟩
      (d.wr THERM.CRIT_HEAD_SLOT ((slot + 1) % 63)).wr THERM.CRIT_SEQ_SEQ ((seq + 1) % 2 ^ 32)
    | none =>
      match x.critNewest with
      | some (_, r) => d.critReport r
      | none => d)

/-! ### Step 8: the Barograph (R443) -/

/-- A version of a slot in copy `c`: its bytes where KIND is 0x01 or 0x02, none in another case. -/
def BootIn.version (x : BootIn) (c slot : Nat) : Option (List Nat) :=
  match x.span (8192 * c + 4 * slot) 256 with
  | none => none
  | some r => if r.getD 4 0 == 1 || r.getD 4 0 == 2 then some r else none

/-- The version of a slot to restore, and how many versions failed their CRC. -/
def BootIn.restoreSlot (x : BootIn) (slot : Nat) : Option (List Nat) × Nat :=
  let vs := (upto 2).filterMap (fun c => x.version c slot)
  let ok := vs.filter crcOk
  (match ok with
    | [] => none
    | [a] => some a
    | a :: b :: _ => if older (ofLe (a.take 4)) (ofLe (b.take 4)) then some b else some a, vs.length - ok.length)

/-- Restore one slot: the counts of RESTORE_STAT and the latest SEQ so far. -/
def Dev.restoreOne (x : BootIn) (d : Dev × Option Nat) (slot : Nat) : Dev × Option Nat :=
  let v := x.restoreSlot slot
  let e := d.1.bump BARO.RESTORE_STAT_BAD 0 0 v.2
  match v.1 with
  | none => (e, d.2)
  | some r =>
    let seq := ofLe (r.take 4)
    let e := (e.bump BARO.RESTORE_STAT_SLOTS).updBaro (fun b => { b with ram := b.ram.writeBytes (256 * slot) r })
    (e, match d.2 with
      | none => some seq
      | some m => if older m seq then some seq else some m)

/-- Step 8: skipped where the wipe of the page has failed; a restore that comes too late is refused (R443, R475). -/
def State.bootBaro (s : State) (x : BootIn) : State :=
  s.onDev (fun d =>
    let d := d.wr SEC.BOOT_STEP 8
    if d.wiping.contains 0x1D then d
    else if d.restoreRefused then d.ev (Ev.badValue 0x1D)
    else
      let y := (upto 2048).foldl (Dev.restoreOne x) (d.send (.nvReads 0 16384), none)
      let next := match y.2 with
        | some m => (m + 1) % 2 ^ 32
        | none => 0
      (y.1.wr BARO.RST_SEQ_SEQ next).restoreDone)

/-! ### The boot (R457, R458)

The steps follow one another on edges of their own, so that the events of a step enter the ring before those of the next. -/

/-- The edge on which a step ends. -/
def State.stepEnd (s : State) : State := s.onDev (fun d => d.edge)

/-- The boot waits in step `k` (`late`; 0 for step 6). -/
def State.bootWait (s : State) (x : BootIn) (k : Nat) : State :=
  (s.updWrd (fun w => { w with late := k, waiting := some x })).onDev (fun d => d.wr SEC.BOOT_STEP (if k == 0 then 6 else k))

/-- Step 9. -/
def State.bootDone (s : State) : State :=
  (s.updWrd (fun w => { w with st := .ready, restart := false, waiting := none, late := 0, got := none })).onDev (fun d =>
    (((d.wr SEC.BOOT_STEP 9).wr SEC.BOOT_DONE 1).ev Ev.SEC_BOOT_DONE).mbPump)

/-- Steps 8 and 9; step 8 waits while the NV port takes no read (R52), and for the wipe of the Barograph (R455). -/
def State.bootLast (s : State) (x : BootIn) : State :=
  if s.dev.nvClosed || s.dev.stillWiped 0x1D then s.bootWait x 8 else (s.bootBaro x).stepEnd.bootDone

/-- Steps 7 to 9; step 7 waits while the NV port takes no read (R52). -/
def State.bootEnd (s : State) (x : BootIn) : State :=
  if s.dev.nvClosed then s.bootWait x 7 else (s.bootCrit x).stepEnd.bootLast x

/-- Step 6 ends without a key (R465): parameter 1 for a timeout, 2 for a refused value. -/
def Dev.keyFail (d : Dev) (why : Nat) : Dev := d.ev Ev.SEC_KEY_FAIL why

/-- Step 6 with the secret: the key is derived, or the secret refused (R465, R466). -/
def State.bootKey (s : State) (x : BootIn) (secret : Nat) : State :=
  (if secret == 0 || secret == 2 ^ 256 - 1 then s.onDev (fun d => d.keyFail 2) else s.keyReady secret).stepEnd.bootEnd x

/-- Step 6: not in SCRAP; it waits for the secret, unless that has come or has been given up before. -/
def State.bootSix (s : State) (x : BootIn) : State :=
  if s.sec SEC.LC_STATE == 5 then s.bootEnd x
  else match s.dev.wrd.got with
    | none => s.bootWait x 0
    | some y =>
      let s := (s.updWrd (fun w => { w with got := none })).onDev (fun d => d.wr SEC.BOOT_STEP 6)
      match y with
      | some secret => s.bootKey x secret
      | none => s.bootEnd x

/-- Steps 4 to 9: step 4 waits until no page that the profile names is still being wiped. -/
def State.bootFour (s : State) (x : BootIn) : State :=
  if s.dev.wrd.prov.profile.any (fun p => s.dev.stillWiped (p.1 / 1024)) then s.bootWait x 4
  else (((s.bootProfile).stepEnd.bootCounters x).stepEnd).bootSix x

/-- Steps 2 to 9, and after a core reset steps 2, 3 and 9; step 2 waits while the NV port takes no read (R52). -/
def State.bootTwo (s : State) (x : BootIn) : State :=
  if s.dev.nvClosed then s.bootWait x 2
  else
    let s := ((s.bootLife x).stepEnd.bootProv x).stepEnd
    if s.dev.wrd.restart then s.bootDone else s.bootFour x

/-- A boot that waits in a step other than 6 goes on with what it was given, as far as it can. -/
def State.bootGoOn (s : State) (x : BootIn) : State :=
  match s.dev.wrd.late with
  | 2 => s.bootTwo x
  | 4 => s.bootFour x
  | 7 => s.bootEnd x
  | 8 => s.bootLast x
  | _ => s

/-- WARDEN_BOOT: the Warden runs its ROM on what it reads: ID_REQ rises (R53), then the steps follow. -/
def State.wardenBoot (s : State) (x : BootIn) : State :=
  let w := s.dev.wrd
  if !w.wiped || w.st != .boot then s
  else match w.waiting with
    | some y => s.bootGoOn y
    | none =>
      if w.restart then s.bootTwo x
      else ((s.updWrd (fun w => { w with idReq := true })).onDev (fun d => d.wr SEC.BOOT_STEP 1)).bootTwo x

/-- The eighth beat of the secret lowers ID_REQ (R53); in step 6 the key is derived or refused (R465, R466), before it the
secret is kept for step 6. -/
def State.idSecret (s : State) (secret : Nat) : State :=
  if !s.dev.wrd.idReq then s
  else
    let s := s.updWrd (fun w => { w with idReq := false })
    match s.dev.wrd.waiting with
    | none => s
    | some x =>
      match s.dev.wrd.late with
      | 0 => s.bootKey x secret
      | 2 => s.updWrd (fun w => { w with got := w.got.or (some (some secret)) })
      | 4 => s.updWrd (fun w => { w with got := w.got.or (some (some secret)) })
      | _ => s

/-- SEC_KEY_FAIL (R465): 1 ms after ID_REQ rose the secret has not arrived; before step 6 it is given up for that step. -/
def State.secKeyFail (s : State) : State :=
  match s.dev.wrd.waiting with
  | none => s
  | some x =>
    if !s.dev.wrd.idReq || s.dev.wrd.got.isSome then s
    else match s.dev.wrd.late with
      | 0 => (s.onDev (fun d => d.keyFail 1)).stepEnd.bootEnd x
      | 2 => (s.onDev (fun d => d.keyFail 1)).updWrd (fun w => { w with got := some none })
      | 4 =>
        if s.sec SEC.LC_STATE == 5 then s
        else (s.onDev (fun d => d.keyFail 1)).updWrd (fun w => { w with got := some none })
      | _ => s

/-! ### Measurement 5 (R473) -/

/-- MEAS_RECOMPUTE. -/
def Dev.measRecompute (d : Dev) : Dev := { d with wrd := { d.wrd with meas5 := d.hardWords, measBusy := false } }

/-! ### Test access (R70) -/

/-- The instrument may be selected in the present life-cycle state. -/
def State.testAllowed (s : State) (x : Nat) : Bool :=
  let st := s.sec SEC.LC_STATE
  x == 0 || (decide (x ≤ 3) && s.dev.on SEC.LC_VALID
    && (decide (st ≤ 2) || (st == 4 && s.dev.on SEC.LC_DEBUG_AUTH)))

/-- What MBIST leaves in the block's memories: free values (R71). -/
def Dev.testMems (d : Dev) (use : Nat) : Dev :=
  let mem (k : Nat) : Mem := Mem.writeBytes [] 0 (Config.testLeaves (16 * use + k))
  { d with
    capRam := mem 0, lvl0 := mem 1, lvl1 := mem 2, fit := mem 3
    mbox := { d.mbox with buf := mem 4 }
    step := { d.step with bank0 := mem 5, bank1 := mem 6 }
    fc := { d.fc with bank0 := mem 7, bank1 := mem 8 }
    therm := { d.therm with cal := mem 9 }
    baro := { d.baro with ram := mem 10 }
    stw := { d.stw with active := mem 11, staging := mem 12 } }

/-- TEST_ACCESS: an instrument is selected where the life-cycle state allows it; BLOCK_ID reads TOP.BLOCK_ID. -/
def State.testAccess (s : State) (x : Nat) : State :=
  if !s.testAllowed x then s
  else
    let s := { s with test := insertAsc x s.test }
    if x == 0 then s.onDev (fun d => d.send (.rdata 0x53590401))
    else if x == 1 then { s with testUse := s.testUse + 1, dev := s.dev.testMems s.testUse }
    else s

/-! ### Posted always-on writes (R101) -/

/-- What a posted write does when it completes. -/
def State.aonDone (s : State) (w : AonWrite) : State :=
  match w with
  | .wake m v => { s with aon := if m == 2 then { s.aon with wakeHS := v == 1 } else { s.aon with wakeWS := v == 1 } }
  | .nothing => s
  | .load secs pcc => { s with aon := { s.aon with secs := secs % 2 ^ 40, pcc := pcc % 2 ^ 24, loaded := true } }

/-- The oldest posted write of page `p`, and the others. -/
def takePosted (p : Nat) : List (Nat × AonWrite) → Option (AonWrite × List (Nat × AonWrite))
  | [] => none
  | x :: r =>
    if x.1 == p then some (x.2, r)
    else match takePosted p r with
      | some (w, l) => some (w, x :: l)
      | none => none

/-- AON_WRITE_DONE. -/
def State.aonWriteDone (s : State) (p : Nat) : State :=
  match takePosted p s.aon.posted with
  | none => s
  | some (w, l) => ({ s with aon := { s.aon with posted := l } }).aonDone w

end Sys2Proof.Machine
end

