-- ==== Sys2Proof/Machine/ResetCmds.lean ====
section
/-!
DEFINITION. Machine/ResetCmds.lean: the meanings of the commands of resets, wipes, test access and boot (R70, R71, R101, R116, R450 to R465), one definition per row.
-/
namespace Sys2Proof.Machine

/-- COLD_RESET (R450): COLD_RST_N clears and wipes every domain, including PD_AON. -/
def execColdReset (s : State) : Host.Outcome State Fault Refusal :=
  .next (s.actAll (fun s => s.coldReset))

/-- WARM_RESET (R450): WARM_RST_N clears and wipes PD_CORE, PD_WARDEN and PD_STEWARD and keeps PD_AON. -/
def execWarmReset (s : State) : Host.Outcome State Fault Refusal :=
  .next (s.actAll (fun s => s.coreReset 2))

/-- BLOCK_RESET_PIN (R450): BLOCK_RST_N resets the same domains as WARM and records its own cause. -/
def execBlockResetPin (s : State) : Host.Outcome State Fault Refusal :=
  .next (s.actAll (fun s => s.coreReset 3))

/-- BLOCK_RESET (R116): A write of 0x0000_B10C to TOP.BLOCK_RESET asserts a BLOCK reset for 120 GCLK cycles. -/
def execBlockReset (a : Acc) (v : BitVec 32) (s : State) : Host.Outcome State Fault Refusal :=
  .next (s.actAll (fun s => s.busWrite a (TOP.BLOCK_RESET_KEY.adr 0 0) v.toNat))

/-- TEST_DESELECT (R71): Deselecting any instrument other than BLOCK_ID performs a BLOCK reset with a full wipe. -/
def execTestDeselect (x : Nat) (s : State) : Host.Outcome State Fault Refusal :=
  .next (s.actAll (fun s => s.testDeselect x))

/-- LIFE_CYCLE_RESET (R464): After a transition, the life-cycle reset starts at the host's TAKE of the answer or 1 ms
after the answer. -/
def execLifeCycleReset (s : State) : Host.Outcome State Fault Refusal :=
  .next (s.actAll (fun s => s.lifeCycleReset))

/-- PAGE_WIPE_DONE (R455): A page's memories finish their wipe and read-back, and the page reports READY or a wipe
failure. -/
def execPageWipeDone (page : Nat) (ok : Bool) (s : State) : Host.Outcome State Fault Refusal :=
  .next (s.act (fun d => d.pageWipeDone page ok))

/-- TEST_ACCESS (R70): A test-access instrument (BLOCK_ID, MBIST, PL_LOOP or RING_LOOP) is selected through the IEEE 1687
network and runs where the life-cycle state allows. -/
def execTestAccess (x : Nat) (s : State) : Host.Outcome State Fault Refusal :=
  .next (s.actAll (fun s => s.testAccess x))

/-- AON_WRITE_DONE (R101): A posted always-on write completes and WR_PENDING falls. -/
def execAonWriteDone (page : Nat) (s : State) : Host.Outcome State Fault Refusal :=
  .next (s.actAll (fun s => s.aonWriteDone page))

/-- WARDEN_BOOT (R457): After its RAM is wiped the Warden runs boot steps 1 to 9. -/
def execWardenBoot (nv : List (Nat × BitVec 8)) (bad : List Nat) (patchOk : Bool) (s : State) : Host.Outcome State Fault Refusal :=
  .next (s.actAll (fun s => s.wardenBoot ⟨nv, bad, patchOk⟩))

/-- ID_SECRET (R465): The eighth beat of the secret arrives and the identity key is derived or refused. -/
def execIdSecret (secret : BitVec 256) (s : State) : Host.Outcome State Fault Refusal :=
  .next (s.actAll (fun s => s.idSecret secret.toNat))

/-- SEC_KEY_FAIL (R465): No secret within 1 ms of ID_REQ leaves the instance without a key. -/
def execSecKeyFail (s : State) : Host.Outcome State Fault Refusal :=
  .next (s.actAll (fun s => s.secKeyFail))

/-- LOAD_PCC (R461): A write of LOAD_PCC.GO = 1 loads the operating-seconds and power-cycle counters. -/
def execLoadPcc (a : Acc) (v : BitVec 32) (s : State) : Host.Outcome State Fault Refusal :=
  .next (s.actAll (fun s => s.busWrite a (SEC.LOAD_PCC_GO.adr 0 0) v.toNat))

/-- OPSEC_TICK (R461): Every 25,000,000 AONCLK edges the operating-seconds counter rises. -/
def execOpsecTick (s : State) : Host.Outcome State Fault Refusal :=
  .next (s.actAll (fun s => s.opsecTick))

/-- LIFE_RECORD_HOURLY (R461): At each multiple of 3,600 s a life record is written. -/
def execLifeRecordHourly (s : State) : Host.Outcome State Fault Refusal :=
  .next (s.actAll (fun s => s.lifeHourly))

/-- LOCKALL (R471): A write of 0x0000_10CA to SEC.LOCKALL sets every LOCK bit. -/
def execLockall (a : Acc) (v : BitVec 32) (s : State) : Host.Outcome State Fault Refusal :=
  .next (s.actAll (fun s => s.busWrite a (SEC.LOCKALL_KEY.adr 0 0) v.toNat))

/-- MEAS_RECOMPUTE (R473): A change of a HARD_ or SAFE word is followed by recomputing measurement 5. -/
def execMeasRecompute (s : State) : Host.Outcome State Fault Refusal :=
  .next (s.act (fun d => if d.wrd.measBusy then d.measRecompute else d))

/-- MEM_WIN_BASE_WRITE (R115): A write of TOP.MEM_WIN_BASE sets or clears the MEM window, starting the first zero-fill. -/
def execMemWinBaseWrite (a : Acc) (v : BitVec 32) (s : State) : Host.Outcome State Fault Refusal :=
  .next (s.actAll (fun s => s.busWrite a (TOP.MEM_WIN_BASE_VALID.adr 0 0) v.toNat))

/-- EVT_NEXT (R110): A write of EVT_NEXT.POP = 1 by the consumer discards the head event. -/
def execEvtNext (a : Acc) (v : BitVec 32) (s : State) : Host.Outcome State Fault Refusal :=
  .next (s.actAll (fun s => s.busWrite a (TOP.EVT_NEXT_POP.adr 0 0) v.toNat))

/-- PAGE_FAULT_CLEAR (R96): A W1C write to PAGE_FAULT clears fault bits, FATAL bits only from a secure master. -/
def execPageFaultClear (page : Nat) (a : Acc) (v : BitVec 32) (s : State) : Host.Outcome State Fault Refusal :=
  .next (s.actAll (fun s => if page < 0x20 then s.busWrite a (1024 * page + 4) v.toNat else s))

end Sys2Proof.Machine
end

