-- ==== Sys2Proof/Machine/SquallCmds.lean ====
section
/-!
DEFINITION. Machine/SquallCmds.lean: the meanings of the commands of the Squall sequencer and the critical record (R52, R322 to R328), one definition per row.
-/
namespace Sys2Proof.Machine

/-- THERM_COOLANT (R322): COOLANT_FAULT_N low for 25 AONCLK samples sets the Squall latch. -/
def execThermCoolant (s : State) : Host.Outcome State Fault Refusal :=
  .next (s.actAll (fun s => s.coolant))

/-- SQ_FORCE (R322): A write of 0x0000_5C01 to SQ_FORCE starts a Squall with cause 0x4. -/
def execSqForce (a : Acc) (v : BitVec 32) (s : State) : Host.Outcome State Fault Refusal :=
  .next (s.actAll (fun s => s.busWrite a (THERM.SQ_FORCE_KEY.adr 0 0) v.toNat))

/-- SQUALL_GATE (R323): 1,200 GCLK cycles after S0 every domain clock is gated. -/
def execSquallGate (s : State) : Host.Outcome State Fault Refusal :=
  .next (s.act (fun d => d.squallGate))

/-- CRIT_RECORD_PRESENT (R52): The critical record is presented on the NV port once no earlier request waits for
acceptance. -/
def execCritRecordPresent (s : State) : Host.Outcome State Fault Refusal :=
  .next (s.actAll (fun s => s.critPresent))

/-- CRIT_RECORD_RESPONSE (R325): The critical record's NV response sets REC_DONE, or leads to a retry or NVFAIL. -/
def execCritRecordResponse (status : BitVec 2) (s : State) : Host.Outcome State Fault Refusal :=
  if s.aon.squall.st == .accepted then .next (s.actAll (fun s => s.critResponse status.toNat))
  else .fault (.unsolicited "critical record")

/-- CRIT_WDATA_WRITE (R326): A write to CRIT_WDATA stores a word of the reported record and advances IDX. -/
def execCritWdataWrite (a : Acc) (v : BitVec 32) (s : State) : Host.Outcome State Fault Refusal :=
  .next (s.actAll (fun s => s.busWrite a (THERM.CRIT_WDATA_DATA.adr 0 0) v.toNat))

/-- CRIT_IDX_DONE (R326): A write of CRIT_IDX.DONE = 1 sets CRITSTAT.VALID. -/
def execCritIdxDone (a : Acc) (v : BitVec 32) (s : State) : Host.Outcome State Fault Refusal :=
  .next (s.actAll (fun s => s.busWrite a (THERM.CRIT_IDX_DONE.adr 0 0) v.toNat))

end Sys2Proof.Machine
end

