-- ==== Sys2Proof/Machine/StewardCmds.lean ====
section
/-!
DEFINITION. Machine/StewardCmds.lean: the meanings of the commands of the requests that the Steward answers and the notices it sends (R415, R416, R472), one definition per row.
-/
namespace Sys2Proof.Machine

/-- GRANT (R415): MB_HS GRANT makes the Steward submit a grant and answer after the next BUDGET tick. -/
def execGrant (s : State) : Host.Outcome State Fault Refusal :=
  .next (s.actAll (fun s => s.reqGrant))

/-- POLICY (R415): MB_HS POLICY makes the Steward write GOV.CTRL. -/
def execPolicy (s : State) : Host.Outcome State Fault Refusal :=
  .next (s.actAll (fun s => s.reqPolicy))

/-- TELEM_CFG (R416): MB_HS TELEM_CFG sets or stops the period of a telemetry set. -/
def execTelemCfg (s : State) : Host.Outcome State Fault Refusal :=
  .next (s.actAll (fun s => s.reqTelemCfg))

/-- TELEMETRY (R416): At the end of a set's period the Steward sends a TELEMETRY notice on MB_SH. -/
def execTelemetry (k : Nat) (s : State) : Host.Outcome State Fault Refusal :=
  .next (s.actAll (fun s => s.telemetry k))

/-- ASK (R415): The Steward sends the ASK notice on MB_SH on each BUDGET_ASK. -/
def execAsk (s : State) : Host.Outcome State Fault Refusal :=
  .next (s.actAll (fun s => s.askNotice))

/-- BARO (R415): MB_HS BARO requests Barograph management from the Steward. -/
def execBaro (s : State) : Host.Outcome State Fault Refusal :=
  .next (s.actAll (fun s => s.reqBaro))

/-- PING (R415): MB_HS PING is answered OK with STW_VERSION. -/
def execPing (s : State) : Host.Outcome State Fault Refusal :=
  .next (s.actAll (fun s => s.reqPing))

/-- GET_VERSION (R472): SPDM GET_VERSION is answered VERSION 1.3. -/
def execGetVersion (s : State) : Host.Outcome State Fault Refusal :=
  .next (s.actAll (fun s => s.reqSpdm 0x84))

/-- GET_CAPABILITIES (R472): SPDM GET_CAPABILITIES is answered with the supported capabilities. -/
def execGetCapabilities (s : State) : Host.Outcome State Fault Refusal :=
  .next (s.actAll (fun s => s.reqSpdm 0xE1))

/-- NEGOTIATE_ALGORITHMS (R472): SPDM NEGOTIATE_ALGORITHMS is answered with P-384 and SHA-384. -/
def execNegotiateAlgorithms (s : State) : Host.Outcome State Fault Refusal :=
  .next (s.actAll (fun s => s.reqSpdm 0xE3))

/-- GET_DIGESTS (R472): SPDM GET_DIGESTS is answered for slot 0. -/
def execGetDigests (s : State) : Host.Outcome State Fault Refusal :=
  .next (s.actAll (fun s => s.reqSpdm 0x81))

/-- GET_CERTIFICATE (R472): SPDM GET_CERTIFICATE returns the slot 0 chain. -/
def execGetCertificate (s : State) : Host.Outcome State Fault Refusal :=
  .next (s.actAll (fun s => s.reqSpdm 0x82))

/-- CHALLENGE (R472): SPDM CHALLENGE is answered with a signed CHALLENGE_AUTH. -/
def execChallenge (s : State) : Host.Outcome State Fault Refusal :=
  .next (s.actAll (fun s => s.reqSpdm 0x83))

/-- GET_MEASUREMENTS (R472): SPDM GET_MEASUREMENTS returns measurement indices 1 to 6, signed on request. -/
def execGetMeasurements (s : State) : Host.Outcome State Fault Refusal :=
  .next (s.actAll (fun s => s.reqSpdm 0xE0))

/-- SPDM_UNSUPPORTED (R472): Any other SPDM request is answered ERROR UnsupportedRequest. -/
def execSpdmUnsupported (s : State) : Host.Outcome State Fault Refusal :=
  .next (s.actAll (fun s => s.reqSpdmOther))

end Sys2Proof.Machine
end

