-- ==== Sys2Proof/Machine/ThermCmds.lean ====
section
/-!
DEFINITION. Machine/ThermCmds.lean: the meanings of the commands of the thermal monitor (R305 to R321) and the site power-up of satellites (R199, R308), one definition per row.
-/
namespace Sys2Proof.Machine

/-- THERM_RING_FAIL (R307): Eight consecutive failed passes of a segment set RING_FAIL. -/
def execThermRingFail (k : Nat) (s : State) : Host.Outcome State Fault Refusal :=
  .next (s.act (fun d => if k < 4 then d.thermRingFail k else d))

/-- THERM_EXCLUDED (R314): A sensor whose xcount reaches XCHK.COUNT is excluded. -/
def execThermExcluded (n : Nat) (s : State) : Host.Outcome State Fault Refusal :=
  .next (s.act (fun d => d.thermExclude n))

/-- THERM_READMIT (R314): An excluded sensor whose xcount reaches READMIT is readmitted. -/
def execThermReadmit (n : Nat) (s : State) : Host.Outcome State Fault Refusal :=
  .next (s.act (fun d => d.thermReadmit n))

/-- THERM_ZONE_LOST (R315): A configured zone with no valid member for 8 passes is lost. -/
def execThermZoneLost (z : Nat) (s : State) : Host.Outcome State Fault Refusal :=
  .next (s.act (fun d => if z < 32 then d.zoneLost z else d))

/-- THERM_FAST_RELEASE (R316): FAST.HOLD consecutive quiet results release fast sampling. -/
def execThermFastRelease (s : State) : Host.Outcome State Fault Refusal :=
  .next (s.act (fun d => d.fastRelease))

/-- THERM_RELEASE (R319): After RELEASE.MS quiet BUDGET strobes the thermal cap returns to L63. -/
def execThermRelease (s : State) : Host.Outcome State Fault Refusal :=
  .next (s.act (fun d => d.thermRelease))

/-- XT_SAMPLE (R66): A toggle of XT_n_STB delivers a new external temperature. -/
def execXtSample (x : Nat) (valid : Bool) (temp : Option (BitVec 16)) (s : State) : Host.Outcome State Fault Refusal :=
  .next (s.act (fun d => d.xtSample x valid (temp.map (fun v => v.toNat))))

/-- THERM_XT_STALE (R312): An XT input that has not toggled for XT_STALE.MS becomes invalid. -/
def execThermXtStale (x : Nat) (s : State) : Host.Outcome State Fault Refusal :=
  .next (s.act (fun d => if x < d.therm.xt.length then d.xtStale x else d))

/-- SITE_POWER_UP (R199): At site power-up a droop satellite drives no stretch and a zero DS_n_EVT with its coarse setting
at 128, and a thermal satellite reports PWR = 0 in its first frame. -/
def execSitePowerUp (droop : Bool) (k : Nat) (s : State) : Host.Outcome State Fault Refusal :=
  .next (s.act (fun d => if droop then d.updSat k (fun x => x.powerUp) else d.thermPowerUp k))

end Sys2Proof.Machine
end

