-- ==== Sys2Proof/Machine/TickCmds.lean ====
section
/-!
DEFINITION. Machine/TickCmds.lean: the meanings of the commands of the ticks and their overruns (R73 to R91), one definition per row.
-/
namespace Sys2Proof.Machine

/-- BEAT (R73): A beat strobe latches arrivals and runs the beat tasks and timers, including alignment of the beat length
to global time. -/
def execBeat (gt : BitVec 64) (valid : Bool) (corr : Nat) (uncorr : Option Nat) (s : State) : Host.Outcome State Fault Refusal :=
  .next (s.actAll (fun s => s.swapStep.onDev (fun d => d.beat gt.toNat valid corr uncorr)))

/-- RAIL_TICK (R81): A RAIL strobe runs the compensator, the current distribution, the credit ramp update, the fault
monitor and the RAIL-tick timers. -/
def execRailTick (vs : List (List Nat)) (s : State) : Host.Outcome State Fault Refusal :=
  .next (s.act (fun d => d.railStrobe vs))

/-- THERM_TICK (R82): A THERM strobe starts a ring sampling pass, and task 0x11 then evaluates temperatures, zones, limits
and the memory cap. -/
def execThermTick (ring : List (List (BitVec 24)) × List (Option (BitVec 14))) (cs : BitVec 14 × Bool) (s : State) : Host.Outcome State Fault Refusal :=
  .next (s.actAll (fun s => (if cs.2 then s.coolant else s).onDev (fun d =>
    d.thermTick (ring.1.map (fun l => l.map (fun x => x.toNat))) (ring.2.map (fun r => r.map (fun x => x.toNat))) cs.1.toNat)))

/-- ISOBAR_SLOT (R337): At an ISOBAR slot start the engine builds and sends its MIN, SUM or PROBE contribution. -/
def execIsobarSlot (s : State) : Host.Outcome State Fault Refusal :=
  .next (s.act (fun d => d.slotStrobe d.led.ivLast))

/-- BUDGET_TICK (R82): A BUDGET strobe runs grant intake, the power set-point, table bank swaps, ageing and window
rollover. -/
def execBudgetTick (load : Nat) (s : State) : Host.Outcome State Fault Refusal :=
  .next (s.actAll (fun s => s.onDev (fun d => d.budgetTick load s.opTime)))

/-- TICK_OVERRUN (R84): A variable task that has not finished at the end of its window is stopped, and its overrun result
applies. -/
def execTickOverrun (t : Nat) (s : State) : Host.Outcome State Fault Refusal :=
  .next (s.act (fun d => d.tickOverrun t))

/-- TICK_FIXED_OVERRUN (R83): A fixed task that misses its window has its outputs held at the values of its last completed
run. -/
def execTickFixedOverrun (t : Nat) (s : State) : Host.Outcome State Fault Refusal :=
  .next (s.act (fun d => d.tickFixedOverrun t))

/-- GT_VALID_FALL (R78): GT_VALID falls, the scheduler enters FREE, and Isobar moves to ISO_WAIT. -/
def execGtValidFall (s : State) : Host.Outcome State Fault Refusal :=
  .next (s.act (fun d => d.gtFall))

end Sys2Proof.Machine
end

