-- ==== Sys2Proof/Machine/WardenCmds.lean ====
section
/-!
DEFINITION. Machine/WardenCmds.lean: the meanings of the commands of the requests that the Warden answers, and the NV port (R50 to R52, R405, R415, R463, R464, R468, R474), one definition per row.
-/
namespace Sys2Proof.Machine

/-- LC_NONCE (R463): LC_REQ NONCE is answered with a fresh nonce. -/
def execLcNonce (gt : BitVec 64) (s : State) : Host.Outcome State Fault Refusal :=
  .next (s.actAll (fun s => s.reqLcNonce gt.toNat))

/-- LC_TRANSITION (R464): LC_REQ TRANSITION checks and carries out a life-cycle transition. -/
def execLcTransition (s : State) : Host.Outcome State Fault Refusal :=
  .next (s.actAll (fun s => s.reqLcTransition))

/-- PROV_WRITE (R463): LC_REQ PROV_WRITE writes a provisioning record in RAW or TEST. -/
def execProvWrite (s : State) : Host.Outcome State Fault Refusal :=
  .next (s.actAll (fun s => s.reqProvWrite))

/-- PUBKEY (R463): LC_REQ PUBKEY returns the instance public key. -/
def execPubkey (s : State) : Host.Outcome State Fault Refusal :=
  .next (s.actAll (fun s => s.reqPubkey))

/-- LC_NONCE_EXPIRE (R463): A life-cycle nonce becomes invalid 60 s after its answer. -/
def execLcNonceExpire (s : State) : Host.Outcome State Fault Refusal :=
  .next (s.actAll (fun s => s.lcNonceExpire))

/-- CERT_READ (R468): MB_HW CERT_READ returns a 4 KiB part of the certificate chain. -/
def execCertRead (s : State) : Host.Outcome State Fault Refusal :=
  .next (s.actAll (fun s => s.reqCertRead))

/-- BARO_NONCE (R444): MB_HW BARO_NONCE is answered with a clearing nonce. -/
def execBaroNonce (gt : BitVec 64) (s : State) : Host.Outcome State Fault Refusal :=
  .next (s.actAll (fun s => s.reqBaroNonce gt.toNat))

/-- BARO_NONCE_EXPIRE (R444): A Barograph nonce becomes invalid 60 s after its answer. -/
def execBaroNonceExpire (s : State) : Host.Outcome State Fault Refusal :=
  .next (s.actAll (fun s => s.baroNonceExpire))

/-- BARO_CLEAR (R446): MB_HW BARO_CLEAR verifies a signed scope and clears Barograph records. -/
def execBaroClear (s : State) : Host.Outcome State Fault Refusal :=
  .next (s.actAll (fun s => s.reqBaroClear))

/-- NV_READ (R415): MB_SW NV_READ reads Steward persistent records through the Warden. -/
def execNvRead (s : State) : Host.Outcome State Fault Refusal :=
  .next (s.actAll (fun s => s.reqNvRead))

/-- NV_WRITE (R415): MB_SW NV_WRITE writes Steward persistent records through the Warden. -/
def execNvWrite (s : State) : Host.Outcome State Fault Refusal :=
  .next (s.actAll (fun s => s.reqNvWrite))

/-- SEC_WRITE (R405): MB_SW SEC_WRITE writes a SEC field only if it cannot weaken protection. -/
def execSecWrite (s : State) : Host.Outcome State Fault Refusal :=
  .next (s.actAll (fun s => s.reqSecWrite))

/-- SPDM_SIGN (R474): MB_SW SPDM_SIGN signs a digest under an SPDM context prefix. -/
def execSpdmSign (s : State) : Host.Outcome State Fault Refusal :=
  .next (s.actAll (fun s => s.reqSpdmSign))

/-- NV_RESPONSE (R52): An NV response completes a read or a write request. -/
def execNvResponse (status : BitVec 2) (w : BitVec 512) (s : State) : Host.Outcome State Fault Refusal :=
  if !s.dev.nv.out.isEmpty then .next (s.actAll (fun s => s.nvResponse status.toNat w.toNat))
  else .fault (.unsolicited "NV request")

/-- NV_REQUEST_ACCEPT (R52): The NV port accepts a presented request, and after the critical record is accepted, other
requests may be presented again. -/
def execNvRequestAccept (s : State) : Host.Outcome State Fault Refusal :=
  if s.aon.squall.st == .presented || s.dev.nv.pres.isSome then .next (s.actAll (fun s => s.nvAccepted))
  else .fault (.unsolicited "NV request presented")

end Sys2Proof.Machine
end

