-- ==== Sys2Proof/Machine/Dispatch.lean ====
section
/-!
DEFINITION. Machine/Dispatch.lean: one arm per constructor of Instr, each a direct call of the meaning of its row.
-/
namespace Sys2Proof.Machine

/-- The effect of a command on everything but the queue. -/
def exec (i : Instr) (s : State) : Host.Outcome State Fault Refusal :=
  match i with
  | .coldReset => Sys2Proof.Machine.execColdReset s
  | .warmReset => Sys2Proof.Machine.execWarmReset s
  | .blockResetPin => Sys2Proof.Machine.execBlockResetPin s
  | .blockReset a v => Sys2Proof.Machine.execBlockReset a v s
  | .testDeselect x => Sys2Proof.Machine.execTestDeselect x s
  | .lifeCycleReset => Sys2Proof.Machine.execLifeCycleReset s
  | .pageWipeDone page ok => Sys2Proof.Machine.execPageWipeDone page ok s
  | .beat gt valid corr uncorr => Sys2Proof.Machine.execBeat gt valid corr uncorr s
  | .railTick vs => Sys2Proof.Machine.execRailTick vs s
  | .thermTick ring cs => Sys2Proof.Machine.execThermTick ring cs s
  | .isobarSlot => Sys2Proof.Machine.execIsobarSlot s
  | .budgetTick load => Sys2Proof.Machine.execBudgetTick load s
  | .tickOverrun t => Sys2Proof.Machine.execTickOverrun t s
  | .tickFixedOverrun t => Sys2Proof.Machine.execTickFixedOverrun t s
  | .gtValidFall => Sys2Proof.Machine.execGtValidFall s
  | .forwardSlot p q => Sys2Proof.Machine.execForwardSlot p q s
  | .railCycleStart n c => Sys2Proof.Machine.execRailCycleStart n c s
  | .returnFrame p m code => Sys2Proof.Machine.execReturnFrame p m code s
  | .linkStepTimeout p => Sys2Proof.Machine.execLinkStepTimeout p s
  | .phaseEnWrite p a v => Sys2Proof.Machine.execPhaseEnWrite p a v s
  | .phaseRetrain p a v => Sys2Proof.Machine.execPhaseRetrain p a v s
  | .phaseClear p a v => Sys2Proof.Machine.execPhaseClear p a v s
  | .phaseForced n a v => Sys2Proof.Machine.execPhaseForced n a v s
  | .railVsLost n => Sys2Proof.Machine.execRailVsLost n s
  | .railVsSquall n => Sys2Proof.Machine.execRailVsSquall n s
  | .railRun n a v => Sys2Proof.Machine.execRailRun n a v s
  | .railStop n a v => Sys2Proof.Machine.execRailStop n a v s
  | .loopOpen n a v => Sys2Proof.Machine.execLoopOpen n a v s
  | .loopClose n a v => Sys2Proof.Machine.execLoopClose n a v s
  | .railOpenTimeout n => Sys2Proof.Machine.execRailOpenTimeout n s
  | .coefEditWrite n k a v => Sys2Proof.Machine.execCoefEditWrite n k a v s
  | .railSrcWrite n a v => Sys2Proof.Machine.execRailSrcWrite n a v s
  | .railCmd n a v => Sys2Proof.Machine.execRailCmd n a v s
  | .avsResponse n ok status w => Sys2Proof.Machine.execAvsResponse n ok status w s
  | .railAvsTimeout n => Sys2Proof.Machine.execRailAvsTimeout n s
  | .tuneArm a v => Sys2Proof.Machine.execTuneArm a v s
  | .tuneStop a v => Sys2Proof.Machine.execTuneStop a v s
  | .tuneDone => Sys2Proof.Machine.execTuneDone s
  | .dsEvtAccept k evt cyc => Sys2Proof.Machine.execDsEvtAccept k evt cyc s
  | .servoStep k => Sys2Proof.Machine.execServoStep k s
  | .gustReleaseWaitEnd m => Sys2Proof.Machine.execGustReleaseWaitEnd m s
  | .gustLong m => Sys2Proof.Machine.execGustLong m s
  | .droopStuck k => Sys2Proof.Machine.execDroopStuck k s
  | .mapUseWrite k a v => Sys2Proof.Machine.execMapUseWrite k a v s
  | .calPeriodDue => Sys2Proof.Machine.execCalPeriodDue s
  | .calGo a v => Sys2Proof.Machine.execCalGo a v s
  | .calStart => Sys2Proof.Machine.execCalStart s
  | .calGapEnd => Sys2Proof.Machine.execCalGapEnd s
  | .calPulseEnd => Sys2Proof.Machine.execCalPulseEnd s
  | .waveArm a v => Sys2Proof.Machine.execWaveArm a v s
  | .waveStop a v => Sys2Proof.Machine.execWaveStop a v s
  | .droopWaveDone => Sys2Proof.Machine.execDroopWaveDone s
  | .govEscLevel sc => Sys2Proof.Machine.execGovEscLevel sc s
  | .govEscPool sc => Sys2Proof.Machine.execGovEscPool sc s
  | .govStepUp => Sys2Proof.Machine.execGovStepUp s
  | .govSafePolicy => Sys2Proof.Machine.execGovSafePolicy s
  | .prochot => Sys2Proof.Machine.execProchot s
  | .levelBankSwap a v => Sys2Proof.Machine.execLevelBankSwap a v s
  | .levelTableCheck => Sys2Proof.Machine.execLevelTableCheck s
  | .fitctlWrite a v => Sys2Proof.Machine.execFitctlWrite a v s
  | .cdPrepAck m => Sys2Proof.Machine.execCdPrepAck m s
  | .cdSwitchRaise m => Sys2Proof.Machine.execCdSwitchRaise m s
  | .cdSwitchAck m => Sys2Proof.Machine.execCdSwitchAck m s
  | .cdUngate m => Sys2Proof.Machine.execCdUngate m s
  | .levelPrepTimeout m => Sys2Proof.Machine.execLevelPrepTimeout m s
  | .levelSwitchTimeout m => Sys2Proof.Machine.execLevelSwitchTimeout m s
  | .creditRequest reqs strobe => Sys2Proof.Machine.execCreditRequest reqs strobe s
  | .creditReturn c w => Sys2Proof.Machine.execCreditReturn c w s
  | .creditGrant => Sys2Proof.Machine.execCreditGrant s
  | .creditReclaim c slot => Sys2Proof.Machine.execCreditReclaim c slot s
  | .fillTimeout c => Sys2Proof.Machine.execFillTimeout c s
  | .mediumPromote c => Sys2Proof.Machine.execMediumPromote c s
  | .creditStarve n => Sys2Proof.Machine.execCreditStarve n s
  | .activityCounts ch late counts => Sys2Proof.Machine.execActivityCounts ch late counts s
  | .hintToken toks transit cyc => Sys2Proof.Machine.execHintToken toks transit cyc s
  | .hintPtrFault => Sys2Proof.Machine.execHintPtrFault s
  | .stepSwap a v => Sys2Proof.Machine.execStepSwap a v s
  | .stepSwapNow a v => Sys2Proof.Machine.execStepSwapNow a v s
  | .fcastStale => Sys2Proof.Machine.execFcastStale s
  | .fcastSwap a v => Sys2Proof.Machine.execFcastSwap a v s
  | .fcastLoadCheck ecc => Sys2Proof.Machine.execFcastLoadCheck ecc s
  | .fcastSwapDone => Sys2Proof.Machine.execFcastSwapDone s
  | .fcastRearm a v => Sys2Proof.Machine.execFcastRearm a v s
  | .fcastEnWrite a v => Sys2Proof.Machine.execFcastEnWrite a v s
  | .thermRingFail k => Sys2Proof.Machine.execThermRingFail k s
  | .thermExcluded n => Sys2Proof.Machine.execThermExcluded n s
  | .thermReadmit n => Sys2Proof.Machine.execThermReadmit n s
  | .thermZoneLost z => Sys2Proof.Machine.execThermZoneLost z s
  | .thermFastRelease => Sys2Proof.Machine.execThermFastRelease s
  | .thermRelease => Sys2Proof.Machine.execThermRelease s
  | .xtSample x valid temp => Sys2Proof.Machine.execXtSample x valid temp s
  | .thermXtStale x => Sys2Proof.Machine.execThermXtStale x s
  | .thermCoolant => Sys2Proof.Machine.execThermCoolant s
  | .sqForce a v => Sys2Proof.Machine.execSqForce a v s
  | .squallGate => Sys2Proof.Machine.execSquallGate s
  | .critRecordPresent => Sys2Proof.Machine.execCritRecordPresent s
  | .critRecordResponse status => Sys2Proof.Machine.execCritRecordResponse status s
  | .critWdataWrite a v => Sys2Proof.Machine.execCritWdataWrite a v s
  | .critIdxDone a v => Sys2Proof.Machine.execCritIdxDone a v s
  | .isobarApplyGo a v => Sys2Proof.Machine.execIsobarApplyGo a v s
  | .isobarApply => Sys2Proof.Machine.execIsobarApply s
  | .isobarMessage src w => Sys2Proof.Machine.execIsobarMessage src w s
  | .isobarTimeout => Sys2Proof.Machine.execIsobarTimeout s
  | .isobarResultApply => Sys2Proof.Machine.execIsobarResultApply s
  | .isobarFbSend => Sys2Proof.Machine.execIsobarFbSend s
  | .drizzleIdleSet c => Sys2Proof.Machine.execDrizzleIdleSet c s
  | .drizzleWaitExpired c => Sys2Proof.Machine.execDrizzleWaitExpired c s
  | .prerampGo a v => Sys2Proof.Machine.execPrerampGo a v s
  | .prerampStart => Sys2Proof.Machine.execPrerampStart s
  | .drizzlePrerampDone => Sys2Proof.Machine.execDrizzlePrerampDone s
  | .drizzlePrerampLapsed => Sys2Proof.Machine.execDrizzlePrerampLapsed s
  | .grantSubmit a v => Sys2Proof.Machine.execGrantSubmit a v s
  | .budgetExpired => Sys2Proof.Machine.execBudgetExpired s
  | .budgetAsk => Sys2Proof.Machine.execBudgetAsk s
  | .pmbPollStart => Sys2Proof.Machine.execPmbPollStart s
  | .pmbPollDone fail r0 r1 => Sys2Proof.Machine.execPmbPollDone fail r0 r1 s
  | .pmbAlert adr status => Sys2Proof.Machine.execPmbAlert adr status s
  | .pmbTimeout k => Sys2Proof.Machine.execPmbTimeout k s
  | .ledgerClose a v => Sys2Proof.Machine.execLedgerClose a v s
  | .ledgerQuery a v => Sys2Proof.Machine.execLedgerQuery a v s
  | .ledgerQueryDone => Sys2Proof.Machine.execLedgerQueryDone s
  | .ledgerFlush a v => Sys2Proof.Machine.execLedgerFlush a v s
  | .ledgerFlushDone => Sys2Proof.Machine.execLedgerFlushDone s
  | .memWinBaseWrite a v => Sys2Proof.Machine.execMemWinBaseWrite a v s
  | .ledgerInitDone => Sys2Proof.Machine.execLedgerInitDone s
  | .memReadData w => Sys2Proof.Machine.execMemReadData w s
  | .memWriteDone => Sys2Proof.Machine.execMemWriteDone s
  | .exportRecordEnter => Sys2Proof.Machine.execExportRecordEnter s
  | .exportBatchClose => Sys2Proof.Machine.execExportBatchClose s
  | .exportSignature => Sys2Proof.Machine.execExportSignature s
  | .exportSignFail => Sys2Proof.Machine.execExportSignFail s
  | .exportTransfer => Sys2Proof.Machine.execExportTransfer s
  | .exportMark a v => Sys2Proof.Machine.execExportMark a v s
  | .exportRewind a v => Sys2Proof.Machine.execExportRewind a v s
  | .exportRelease a v => Sys2Proof.Machine.execExportRelease a v s
  | .exportIdle => Sys2Proof.Machine.execExportIdle s
  | .exportPtrFault => Sys2Proof.Machine.execExportPtrFault s
  | .exportEnWrite a v => Sys2Proof.Machine.execExportEnWrite a v s
  | .mboxDataWrite m a v => Sys2Proof.Machine.execMboxDataWrite m a v s
  | .mboxTake m a v => Sys2Proof.Machine.execMboxTake m a v s
  | .mboxRing m a v => Sys2Proof.Machine.execMboxRing m a v s
  | .mboxDbClear m a v => Sys2Proof.Machine.execMboxDbClear m a v s
  | .coreSleep warden => Sys2Proof.Machine.execCoreSleep warden s
  | .coreWake warden => Sys2Proof.Machine.execCoreWake warden s
  | .grant => Sys2Proof.Machine.execGrant s
  | .policy => Sys2Proof.Machine.execPolicy s
  | .telemCfg => Sys2Proof.Machine.execTelemCfg s
  | .telemetry k => Sys2Proof.Machine.execTelemetry k s
  | .ask => Sys2Proof.Machine.execAsk s
  | .baro => Sys2Proof.Machine.execBaro s
  | .ping => Sys2Proof.Machine.execPing s
  | .getVersion => Sys2Proof.Machine.execGetVersion s
  | .getCapabilities => Sys2Proof.Machine.execGetCapabilities s
  | .negotiateAlgorithms => Sys2Proof.Machine.execNegotiateAlgorithms s
  | .getDigests => Sys2Proof.Machine.execGetDigests s
  | .getCertificate => Sys2Proof.Machine.execGetCertificate s
  | .challenge => Sys2Proof.Machine.execChallenge s
  | .getMeasurements => Sys2Proof.Machine.execGetMeasurements s
  | .spdmUnsupported => Sys2Proof.Machine.execSpdmUnsupported s
  | .imageBegin => Sys2Proof.Machine.execImageBegin s
  | .imageChunk => Sys2Proof.Machine.execImageChunk s
  | .imageSwap => Sys2Proof.Machine.execImageSwap s
  | .imageCheckDone => Sys2Proof.Machine.execImageCheckDone s
  | .swapReady => Sys2Proof.Machine.execSwapReady s
  | .swapGraceEnd => Sys2Proof.Machine.execSwapGraceEnd s
  | .lcNonce gt => Sys2Proof.Machine.execLcNonce gt s
  | .lcTransition => Sys2Proof.Machine.execLcTransition s
  | .provWrite => Sys2Proof.Machine.execProvWrite s
  | .pubkey => Sys2Proof.Machine.execPubkey s
  | .lcNonceExpire => Sys2Proof.Machine.execLcNonceExpire s
  | .certRead => Sys2Proof.Machine.execCertRead s
  | .baroNonce gt => Sys2Proof.Machine.execBaroNonce gt s
  | .baroNonceExpire => Sys2Proof.Machine.execBaroNonceExpire s
  | .baroClear => Sys2Proof.Machine.execBaroClear s
  | .nvRead => Sys2Proof.Machine.execNvRead s
  | .nvWrite => Sys2Proof.Machine.execNvWrite s
  | .secWrite => Sys2Proof.Machine.execSecWrite s
  | .spdmSign => Sys2Proof.Machine.execSpdmSign s
  | .nvResponse status w => Sys2Proof.Machine.execNvResponse status w s
  | .stewardHalt a v => Sys2Proof.Machine.execStewardHalt a v s
  | .wardenRestart a v => Sys2Proof.Machine.execWardenRestart a v s
  | .heartbeat a v => Sys2Proof.Machine.execHeartbeat a v s
  | .fwPolicyStale => Sys2Proof.Machine.execFwPolicyStale s
  | .wardenBoot nv bad patchOk => Sys2Proof.Machine.execWardenBoot nv bad patchOk s
  | .idSecret secret => Sys2Proof.Machine.execIdSecret secret s
  | .secKeyFail => Sys2Proof.Machine.execSecKeyFail s
  | .loadPcc a v => Sys2Proof.Machine.execLoadPcc a v s
  | .opsecTick => Sys2Proof.Machine.execOpsecTick s
  | .lifeRecordHourly => Sys2Proof.Machine.execLifeRecordHourly s
  | .lockall a v => Sys2Proof.Machine.execLockall a v s
  | .measRecompute => Sys2Proof.Machine.execMeasRecompute s
  | .baroWindowClose => Sys2Proof.Machine.execBaroWindowClose s
  | .baroFreezeHold a v => Sys2Proof.Machine.execBaroFreezeHold a v s
  | .baroFreezeRelease a v => Sys2Proof.Machine.execBaroFreezeRelease a v s
  | .baroFreezeTimeout => Sys2Proof.Machine.execBaroFreezeTimeout s
  | .baroSnap a v => Sys2Proof.Machine.execBaroSnap a v s
  | .baroSnapDone => Sys2Proof.Machine.execBaroSnapDone s
  | .baroMirrorNow a v => Sys2Proof.Machine.execBaroMirrorNow a v s
  | .baroMirrorPeriod => Sys2Proof.Machine.execBaroMirrorPeriod s
  | .baroMirrorDone => Sys2Proof.Machine.execBaroMirrorDone s
  | .baroRestoreDone a v => Sys2Proof.Machine.execBaroRestoreDone a v s
  | .baroNoRestore => Sys2Proof.Machine.execBaroNoRestore s
  | .claim a v => Sys2Proof.Machine.execClaim a v s
  | .release a v => Sys2Proof.Machine.execRelease a v s
  | .claimBreak a v => Sys2Proof.Machine.execClaimBreak a v s
  | .captureWipeDone => Sys2Proof.Machine.execCaptureWipeDone s
  | .tmrWrite k a v => Sys2Proof.Machine.execTmrWrite k a v s
  | .claimTimer k => Sys2Proof.Machine.execClaimTimer k s
  | .evtNext a v => Sys2Proof.Machine.execEvtNext a v s
  | .pageFaultClear page a v => Sys2Proof.Machine.execPageFaultClear page a v s
  | .aonWriteDone page => Sys2Proof.Machine.execAonWriteDone page s
  | .registerWrite a adr v => Sys2Proof.Machine.execRegisterWrite a adr v s
  | .tblWrite a adr strb v => Sys2Proof.Machine.execTblWrite a adr strb v s
  | .dsClkEdge k code => Sys2Proof.Machine.execDsClkEdge k code s
  | .sitePowerUp droop k => Sys2Proof.Machine.execSitePowerUp droop k s
  | .satelliteInUse m cyc => Sys2Proof.Machine.execSatelliteInUse m cyc s
  | .prochotRelease => Sys2Proof.Machine.execProchotRelease s
  | .smbalertRelease => Sys2Proof.Machine.execSmbalertRelease s
  | .cdAckFall m sw => Sys2Proof.Machine.execCdAckFall m sw s
  | .nvRequestAccept => Sys2Proof.Machine.execNvRequestAccept s
  | .registerRead a adr => Sys2Proof.Machine.execRegisterRead a adr s
  | .tblRead a adr => Sys2Proof.Machine.execTblRead a adr s
  | .testAccess x => Sys2Proof.Machine.execTestAccess x s

end Sys2Proof.Machine
end

