-- ==== Sys2Proof/Machine/Pins.lean ====
section
/-!
DEFINITION. Machine/Pins.lean: what the block drives at its output pins between two commands, as functions of the state. Pins
that are fields of the state (the clock-control pins, DS_n_STRETCH, PL_n_TX, MEMTHR_CAP, ID_REQ) are read there; what a
command sends at a port stands in `Dev.out`.
-/
namespace Sys2Proof.Machine

/-- Some page with a set bit in both PAGE_FAULT and PAGE_FAULT_EN is routed to line `j` of PAGE_IRQ_ROUTE (R97). -/
def Hdr.routed (h : Hdr) (j : Nat) : Bool :=
  h.fault.any (fun x => bitAt (h.routeOf x.1) j
    && (upto 32).any (fun k => bitAt (h.faultOf x.1) k && bitAt (h.enOf x.1) k))

/-- IRQ_HOST[j] (R97). -/
def Hdr.irqHost (h : Hdr) (j : Nat) : Bool := decide (j < 4) && h.routed j

/-- IRQ_SEC (R97): also any set bit whose code is FATAL. -/
def Hdr.irqSec (h : Hdr) : Bool :=
  h.routed 4 || h.fault.any (fun x => (upto 32).any (fun k => bitAt (h.faultOf x.1) k && codeSev x.1 k == 4))

/-- TRIP_N is driven low (R41, R322). -/
def State.tripLow (s : State) : Bool := s.aon.squall.active

/-- STOP_n (R453, R323): the domain of channel `n` is gated, or a Squall is in force. -/
def Dev.stopHigh (d : Dev) (n : Nat) : Bool := d.sqActive || (d.dom (d.chDom n)).gate

/-- FILL_n (R359). -/
def Dev.fillOut (d : Dev) (n : Nat) : Nat := (d.cl n).fill

end Sys2Proof.Machine
end

