-- ==== Sys2Proof/Safety.lean ====
section
/-!
DEFINITION. Safety.lean: the terms in which the statements are made: a block between two commands, what the end of a command
leaves, and the properties of the state that every command keeps.
-/
namespace Sys2Proof

/-- The access meets the PRIV guard of R104: the privileged or the secure attribute. -/
def Acc.privOk (a : Acc) : Bool := a.priv || a.sec

end Sys2Proof

namespace Sys2Proof.Machine

/-- Nothing of a command in progress is left in the device: no event waits for the ring, no sample for the recorder, no
trigger for the Squall sequencer. -/
def Dev.quiet (d : Dev) : Bool := d.evq.isEmpty && d.evd.isEmpty && d.sqReq.isEmpty && d.smp.isEmpty

/-- Every wake event that the mailboxes hold has reached its control core (R34, R413). -/
def State.wakesDone (s : State) : Bool := decide (s.dev.wakeScan s.aon.wakeHS s.aon.wakeWS = s.dev)

/-- The block between two commands: `quiet`, and the event ring holds at most its 32 entries (R110). -/
def State.settled (s : State) : Bool := s.dev.quiet && s.wakesDone && decide (s.hdr.ring.length ≤ 32)

/-- The event that a code raised now enters (R109, R110); `inst` counts pages of the kind. -/
def State.event (s : State) (c : Code) (param : Nat := 0) (inst : Nat := 0) : Event :=
  ⟨c.page + inst, c.loc, c.sev, param % 256, s.dev.tick.b % 2 ^ 32⟩

/-- The state after a command that leaves the device `d`, raises the events `es` in this order, sends `out` at the ports,
and takes the samples that `d` lists: the events are entered (R96, R110), the samples join those of the beat (R432), and
what the mailboxes hold wakes a gated core (R34). -/
def State.ends (s : State) (es : List Event) (out : List Out) (d : Dev) : State :=
  { s with
    hdr := s.hdr.enterAll es
    dev := (({ d with out := out, evq := [], evd := [], sqReq := [] }).samplesIn).wakeScan s.aon.wakeHS s.aon.wakeWS }

/-- The fields `fs` of a register take their parts of the written word (R98, R100); `i` counts pages of the kind, `j`
instances of the register within the page. -/
def Dev.stores (d : Dev) (fs : List Fld) (i j : Nat) (v : BitVec 32) : Dev :=
  fs.foldl (fun (d : Dev) f => d.wr f (bitsAt v.toNat f.lo f.wid) i j) d

/-- Every register field apart from those with the keys `ks` reads the same in both files. -/
def RegsAgree (ks : List Nat) (r q : RegFile) : Prop := ∀ k dflt, k ∉ ks → sparseGet dflt k q = sparseGet dflt k r

/-- The command ends with a next state that has the property. -/
def Reaches (c : Instr) (s : State) (p : State → Prop) : Prop := ∃ t, exec c s = .next t ∧ p t

/-- Mailbox `m` holds the message (R409 to R411): its payload stands in the buffer, the word in DATA, FULL is set, ABORTED
clear, and doorbell bit 0 set. -/
def Dev.holds (d : Dev) (m word : Nat) (bytes : List Nat) : Dev :=
  { ((((d.wr MBOX.DATA_WORD word 0 m).wr MBOX.STAT_FULL 1 0 m).wr MBOX.STAT_ABORTED 0 0 m).wr MBOX.DB_DB
      ((d.rd MBOX.DB_DB 0 m) ||| 1) 0 m) with
    mbox := { d.mbox with buf := d.mbox.buf.writeBytes (0x1000 * m) bytes } }

/-- The event of setting doorbell bits of MB_WH or MB_SH while no enabled one is set (R411); none for another mailbox. -/
def State.rings (s : State) (m bits : Nat) : List Event :=
  if s.dev.mbNotify m = false ∧ ((s.dev.rd MBOX.DB_DB 0 m) ||| bits) &&& (s.dev.rd MBOX.DB_MASK_MASK 0 m) ≠ 0 then
    (if m = 1 then [s.event Ev.MBOX_DB_WH] else if m = 3 then [s.event Ev.MBOX_DB_SH] else [])
  else []

/-- No message waits in a control core for its mailbox (R414). -/
def Dev.nothingToSend (d : Dev) : Bool := d.stw.out.isEmpty && d.wrd.outH.isEmpty && d.wrd.outS.isEmpty

/-- The core that sends on mailbox `m`, MB_SH the Steward and MB_WH or MB_WS the Warden, runs, and `m` is not FULL (R414). -/
def Dev.mayPost (d : Dev) (m : Nat) : Bool :=
  !d.mbFull m && (if m = 3 then d.stw.st == .run else d.wrd.st == .ready)

/-- No message that waits in a control core can go out now. -/
def Dev.sendIdle (d : Dev) : Bool :=
  (d.stw.out.isEmpty || !d.mayPost 3) && (d.wrd.outH.isEmpty || !d.mayPost 1) && (d.wrd.outS.isEmpty || !d.mayPost 5)

/-- A request of the catalogue waits on `m` with the operation code and length, for a core that runs, has no other message
that could go out, and is not to answer it BUSY (R408, R414, R415, R424). -/
def Dev.asks (d : Dev) (m op len : Nat) : Bool :=
  d.coreUp m && d.mbFull m && decide (msgOP (d.mbWord m) = op) && decide (msgLEN (d.mbWord m) = len) && d.sendIdle
    && !d.shedsBusy m op

/-- A message on `m` goes out, or waits in its core (R414). -/
def Dev.posts (d : Dev) (m word : Nat) (bytes : List Nat) : Dev :=
  if d.mayPost m then d.holds m word bytes
  else if m = 3 then { d with stw := { d.stw with out := d.stw.out ++ [⟨word, bytes⟩] } }
  else if m = 1 then { d with wrd := { d.wrd with outH := d.wrd.outH ++ [⟨word, bytes⟩] } }
  else { d with wrd := { d.wrd with outS := d.wrd.outS ++ [⟨word, bytes⟩] } }

/-- The events of `Dev.posts` (R411). -/
def State.postRings (s : State) (m : Nat) : List Event := if s.dev.mayPost m then s.rings m 1 else []

/-- The word of the answer to the request that waits on `m`: OP + 0x80, its TAG, the status, and the length in words
(R409, R414). -/
def Dev.answerWord (d : Dev) (m status len : Nat) : Nat :=
  putAt (msgOP (d.mbWord m) + 0x80) 24 + putAt (msgTAG (d.mbWord m)) 20 + putAt len 9 + putAt status 5

/-- The request on `m` is taken and its answer goes out on the reverse mailbox, or waits while that is FULL. -/
def Dev.answered (d : Dev) (m status : Nat) (bytes : List Nat) : Dev :=
  (d.wr MBOX.STAT_FULL 0 0 m).posts (mbReverse m) (d.answerWord m status (ceilDiv bytes.length 4)) bytes

/-- The NV port presents no further request now: one is presented already, a critical record comes first, or 8 are
outstanding (R52). -/
def NvPort.closed (p : NvPort) : Bool := p.pres.isSome || p.block || decide (8 ≤ p.out.length + bnat p.critOut)

/-- The first request that waits is presented if it may be (R52): the port after it, and what is sent. -/
def NvPort.next (p : NvPort) : NvPort × List Out :=
  match p.wait with
  | r :: l => if p.closed then (p, []) else ({ p with pres := some r, wait := l }, [.nvReq r.write false r.idx r.data])
  | [] => (p, [])

/-- Requests of one origin are asked for, behind those of their rank (R52, R441, R461). -/
def NvPort.gets (p : NvPort) (rs : List NvReq) : NvPort × List Out :=
  NvPort.next { p with wait := rs.foldl (fun l r => nvInsert r l) p.wait }

/-- The events of the answer to the request on `m` (R411). -/
def State.answerRings (s : State) (m : Nat) : List Event := s.postRings (mbReverse m)

/-- The registers whose write is a command: it does more than store its fields (R98 and the rules of the chapters), or the
chapter refuses it as a whole. -/
def commandRegs : List Fld :=
  [TOP.MEM_WIN_BASE_VALID, TOP.EVT_NEXT_POP, TOP.BLOCK_RESET_KEY, TOP.RESET_CAUSE_LAST,
   SEC.LOAD_OPS_LO_SECONDS, SEC.LOAD_OPS_HI_SECONDS, SEC.LOAD_PCC_GO, SEC.LOCKALL_KEY, SEC.OPSEC_LO_SECONDS,
   SEC.OPSEC_HI_SECONDS, SEC.PCC_COUNT,
   MBOX.DATA_WORD, MBOX.RING_RING, MBOX.CTRL_TAKE, MBOX.DB_MASK_MASK, MBOX.WAKE_WAKE,
   FW.STW_CTRL_HALT, FW.HEARTBEAT_BEAT, FW.WRD_CTRL_RESTART,
   CLAIM.REQ_OP, CLAIM.BREAK_GO, CLAIM.TMR_RUN, PHASE.CTRL_EN, PHASE.CFG_IPK_MAX,
   RAIL.CTRL_RUN, RAIL.CMD_TARGET, RAIL.COEF_EDIT_W, RAIL.PWM_TMAX, RAIL.FINJ_GO,
   DROOP.CAL_CTRL_GO, DROOP.WAVE_CFG_ARM, DROOP.MAP_USE, LEVEL.BANK_SWAP, LEVEL.FITCTL_HOLD,
   FCAST.CTRL_SWAP, STEP.CTRL_SWAP, THERM.CTRL_XCHK_EN, THERM.SQ_FORCE_KEY, THERM.CRIT_WDATA_DATA,
   THERM.CRIT_IDX_DONE, THERM.SQ_STAT_CAUSE, THERM.INPUTS_COOLANT, ISOBAR.APPLY_CTRL_GO, DRIZZLE.PRERAMP_CTRL_GO,
   BUDGET.GRANT1_SEQ, LEDGER.CTRL_FLUSH, LEDGER.CLOSE_GO, LEDGER.QUERY_GO, EXPORT.CMD_MARK, EXPORT.CTRL_EN,
   BARO.FREEZE_HOLD, BARO.MIRROR_NOW, BARO.SNAP_GO, BARO.RESTORE_DONE, BARO.SUBJ_CFG_INSTANCE,
   BARO.SUBJ_ORG_ORIGIN, BARO.SUBJ_TW_TW, BARO.SUBJ_TC_TC, TUNE.CTRL_ARM]

/-- The register of page kind `base` at offset `off` is a register of `commandRegs`. -/
def commandReg (base off : Nat) : Bool := commandRegs.any (fun f => f.page == base && f.off == off)

/-- The register holds a bounded field or a HARD_ bound (R23). -/
def clampReg (base off : Nat) : Bool :=
  clampPairs.any (fun c => (c.1.page == base && (c.1.off == off || decide (0 < c.1.stride)))
    || (c.2.1.page == base && c.2.1.off == off))

/-- A register access that reaches a register (R92, R93, R107, R113): page `p`, register `r`, instance `j`. -/
def Dev.reaches (d : Dev) (adr p : Nat) (r : Reg) (j : Nat) : Bool :=
  decide (adr / 1024 = p) && d.pagePresent p && decide (0x40 ≤ adr % 1024 * 4)
    && decide (regAt p (adr % 1024 * 4) = some (r, j)) && d.regPresent (pageBase p) (pageInst p) r.off j

/-- The register takes a word field by field: each field is RW and the access may write it, and its value is not refused
(R104, R108), or it is RO. -/
def State.wordOk (s : State) (a : Acc) (r : Reg) (i j v : Nat) : Bool :=
  r.flds.all (fun f => f.acc == .ro || (f.acc == .rw && f.grd.okWrite j a && !s.fldRefused a f i j v))

/-- The `_CLAMP` events of the clamps that start to act with a write of the register at `off` that leaves the device `d`
(R23). -/
def State.clampsBegun (s : State) (d : Dev) (base i off : Nat) : List Event :=
  ((List.zip (s.dev.clampsOf base i off) (d.clampsOf base i off)).filter (fun p => !p.1.2 && p.2.2)).map
    (fun p => s.event (Ev.clamp p.2.1) i i)

/-- The windows of the table aperture that take the write (R112, R224, R410, R443). -/
def Dev.winTakes (d : Dev) (a : Acc) (w : Win) (o : Nat) : Bool :=
  match w with
  | .fit => d.on LEVEL.FITCTL_HOLD
  | .mbox => !d.mbFull (o / 4096)
  | .baro => a.path == .warden && !d.on BARO.STATUS_RESTORED
  | .capture => false
  | .levelAct => false
  | _ => true

end Sys2Proof.Machine
end

