-- ==== Sys2Proof/Certificates/Slice0/Obligations.lean ====
section
/-!
DEFINITION. Certificates/Slice0/Obligations.lean: the statements for the provers. A clause speaks of one command of
the block in every settled state that meets its hypotheses: `s.ends es out d` is the state after it, with the device
`d`, the events `es` raised and `out` sent; what a clause does not name has not changed.
-/
open Sys2Proof Sys2Proof.Machine

/-- COLD_RESET leaves PD_AON, the headers and the core domain as fresh, with every memory page being wiped.
WARM_RESET, BLOCK_RESET_PIN, BLOCK_RESET (the key 0x0000_B10C from a PRIV access), TEST_DESELECT of an instrument
other than BLOCK_ID and LIFE_CYCLE_RESET after a completed transition leave the core domain fresh and keep PD_AON
apart from RESET_CAUSE: LAST takes the cause of the reset (2, 3, 5, 4, 6), COUNT rises and saturates, and posted
always-on writes are lost (the model's choice, log entry 20). The droop and thermal satellites hold their own state, a
running conversion too (log entry 21). Stated for a clear Squall latch; a set latch has its own statement. Rests on:
R71, R116, R117, R450, R451, R452, R455, R464. -/
def Obligations.ResetsClearTheirDomains : Prop :=
  (∀ (s : State),
      s.settled = true →
      Reaches (.coldReset) s (fun t => t.aon = {} ∧ t.hdr = {} ∧ (
        let n := Dev.fresh s.dev.bld;
        t.dev = { n with
          sats := t.dev.sats, therm := { n.therm with ts := t.dev.therm.ts },
          bud := { n.bud with alertLow := s.dev.bud.alertLow }, gov := { n.gov with prochotIn := false } })
          ∧ t.dev.sats.map (fun (x : Sat) => (x.coarse, x.cyc, x.sum, x.evt)) = s.dev.sats.map (fun (x : Sat) =>
          (x.coarse, x.cyc, x.sum, x.evt)) ∧ t.dev.therm.ts = s.dev.therm.ts.map (fun (x : Sens) => ({ powered :=
                                                                                                         x.powered,
                                                                                                       powerUp :=
                                                                                                         x.powerUp,
                                                                                                       reg := x.reg,
                                                                                                       conv := x.conv
                                                                                                         } : Sens))
          ∧ t.pending = s.pending ∧ t.testUse = s.testUse ∧ t.test = s.test)) ∧
  (∀ (s : State),
      s.settled = true →
      s.aon.squall.active = false →
      Reaches (.warmReset) s (fun t => t.aon = { s.aon with
        last := 2, count := min 65535 (s.aon.count + 1), posted := [] } ∧ t.hdr = {} ∧ (
        let n := Dev.fresh s.dev.bld;
        t.dev = { n with
          sats := t.dev.sats, therm := { n.therm with ts := t.dev.therm.ts },
          bud := { n.bud with alertLow := s.dev.bud.alertLow }, gov := { n.gov with prochotIn := s.aon.prochot } })
          ∧ t.dev.sats.map (fun (x : Sat) => (x.coarse, x.cyc, x.sum, x.evt)) = s.dev.sats.map (fun (x : Sat) =>
          (x.coarse, x.cyc, x.sum, x.evt)) ∧ t.dev.therm.ts = s.dev.therm.ts.map (fun (x : Sens) => ({ powered :=
                                                                                                         x.powered,
                                                                                                       powerUp :=
                                                                                                         x.powerUp,
                                                                                                       reg := x.reg,
                                                                                                       conv := x.conv
                                                                                                         } : Sens))
          ∧ t.pending = s.pending ∧ t.testUse = s.testUse ∧ t.test = s.test)) ∧
  (∀ (s : State),
      s.settled = true →
      s.aon.squall.active = false →
      Reaches (.blockResetPin) s (fun t => t.aon = { s.aon with
        last := 3, count := min 65535 (s.aon.count + 1), posted := [] } ∧ t.hdr = {} ∧ (
        let n := Dev.fresh s.dev.bld;
        t.dev = { n with
          sats := t.dev.sats, therm := { n.therm with ts := t.dev.therm.ts },
          bud := { n.bud with alertLow := s.dev.bud.alertLow }, gov := { n.gov with prochotIn := s.aon.prochot } })
          ∧ t.dev.sats.map (fun (x : Sat) => (x.coarse, x.cyc, x.sum, x.evt)) = s.dev.sats.map (fun (x : Sat) =>
          (x.coarse, x.cyc, x.sum, x.evt)) ∧ t.dev.therm.ts = s.dev.therm.ts.map (fun (x : Sens) => ({ powered :=
                                                                                                         x.powered,
                                                                                                       powerUp :=
                                                                                                         x.powerUp,
                                                                                                       reg := x.reg,
                                                                                                       conv := x.conv
                                                                                                         } : Sens))
          ∧ t.pending = s.pending ∧ t.testUse = s.testUse ∧ t.test = s.test)) ∧
  (∀ (a : Acc) (v : BitVec 32) (s : State),
      s.settled = true →
      s.aon.squall.active = false →
      s.dev.ready 0x00 = true →
      a.privOk = true →
      v = 0x0000B10C#32 →
      Reaches (.blockReset a v) s (fun t => t.aon = { s.aon with
        last := 5, count := min 65535 (s.aon.count + 1), posted := [] } ∧ t.hdr = {} ∧ (
        let n := Dev.fresh s.dev.bld;
        t.dev = { n with
          sats := t.dev.sats, therm := { n.therm with ts := t.dev.therm.ts },
          bud := { n.bud with alertLow := s.dev.bud.alertLow }, gov := { n.gov with prochotIn := s.aon.prochot } })
          ∧ t.dev.sats.map (fun (x : Sat) => (x.coarse, x.cyc, x.sum, x.evt)) = s.dev.sats.map (fun (x : Sat) =>
          (x.coarse, x.cyc, x.sum, x.evt)) ∧ t.dev.therm.ts = s.dev.therm.ts.map (fun (x : Sens) => ({ powered :=
                                                                                                         x.powered,
                                                                                                       powerUp :=
                                                                                                         x.powerUp,
                                                                                                       reg := x.reg,
                                                                                                       conv := x.conv
                                                                                                         } : Sens))
          ∧ t.pending = s.pending ∧ t.testUse = s.testUse ∧ t.test = s.test)) ∧
  (∀ (x : Nat) (s : State),
      s.settled = true →
      s.aon.squall.active = false →
      s.test.contains x = true →
      x ≠ 0 →
      Reaches (.testDeselect x) s (fun t => t.aon = { s.aon with
        last := 4, count := min 65535 (s.aon.count + 1), posted := [] } ∧ t.hdr = {} ∧ (
        let n := Dev.fresh s.dev.bld;
        t.dev = { n with
          sats := t.dev.sats, therm := { n.therm with ts := t.dev.therm.ts },
          bud := { n.bud with alertLow := s.dev.bud.alertLow }, gov := { n.gov with prochotIn := s.aon.prochot } })
          ∧ t.dev.sats.map (fun (x : Sat) => (x.coarse, x.cyc, x.sum, x.evt)) = s.dev.sats.map (fun (x : Sat) =>
          (x.coarse, x.cyc, x.sum, x.evt)) ∧ t.dev.therm.ts = s.dev.therm.ts.map (fun (x : Sens) => ({ powered :=
                                                                                                         x.powered,
                                                                                                       powerUp :=
                                                                                                         x.powerUp,
                                                                                                       reg := x.reg,
                                                                                                       conv := x.conv
                                                                                                         } : Sens))
          ∧ t.pending = s.pending ∧ t.testUse = s.testUse ∧ t.test = s.test.filter (fun y => y != x))) ∧
  (∀ (x : Nat) (s : State),
      s.settled = true →
      s.test.contains x = true →
      x = 0 →
      exec (.testDeselect x) s = .next (({ s with test := s.test.filter (fun y => y != x) }).ends [] [] s.dev)) ∧
  (∀ (s : State),
      s.settled = true →
      s.aon.squall.active = false →
      s.dev.wrd.lcReset = true →
      Reaches (.lifeCycleReset) s (fun t => t.aon = { s.aon with
        last := 6, count := min 65535 (s.aon.count + 1), posted := [] } ∧ t.hdr = {} ∧ (
        let n := Dev.fresh s.dev.bld;
        t.dev = { n with
          sats := t.dev.sats, therm := { n.therm with ts := t.dev.therm.ts },
          bud := { n.bud with alertLow := s.dev.bud.alertLow }, gov := { n.gov with prochotIn := s.aon.prochot } })
          ∧ t.dev.sats.map (fun (x : Sat) => (x.coarse, x.cyc, x.sum, x.evt)) = s.dev.sats.map (fun (x : Sat) =>
          (x.coarse, x.cyc, x.sum, x.evt)) ∧ t.dev.therm.ts = s.dev.therm.ts.map (fun (x : Sens) => ({ powered :=
                                                                                                         x.powered,
                                                                                                       powerUp :=
                                                                                                         x.powerUp,
                                                                                                       reg := x.reg,
                                                                                                       conv := x.conv
                                                                                                         } : Sens))
          ∧ t.pending = s.pending ∧ t.testUse = s.testUse ∧ t.test = s.test))

/-- With SQ_STAT.ACTIVE = 1, WARM_RESET, BLOCK_RESET_PIN, BLOCK_RESET, TEST_DESELECT of an instrument other than
BLOCK_ID and LIFE_CYCLE_RESET leave the latch with its cause, triggers and record, and record the cause of the reset.
The core domain comes up with the Squall acting and its clocks gated; resource 9 belongs to Squall as its safety
owner, and ALERT_N is low; the record step waits again unless REC_DONE stands. Rests on: R32, R71, R116, R325, R450,
R451, R464, R482, R486. -/
def Obligations.ResetKeepsSquallLatch : Prop :=
  (∀ (s : State),
      s.settled = true →
      s.aon.squall.active = true →
      Reaches (.warmReset) s (fun t => t.aon.last = 2 ∧ t.aon.squall.active = true
        ∧ t.aon.squall.cause = s.aon.squall.cause ∧ t.aon.squall.trigs = s.aon.squall.trigs
        ∧ t.aon.squall.bytes = s.aon.squall.bytes ∧ t.aon.squall.recDone = s.aon.squall.recDone
        ∧ t.aon.squall.st = (if s.aon.squall.recDone then .none else .waiting)
        ∧ t.dev.sqActive = true ∧ t.dev.sqGated = true ∧ t.dev.owner 9 = { kind := 3, feat := 7 }
        ∧ t.dev.alertLow = true ∧ t.dev.nv.block = !s.aon.squall.recDone ∧ t.dev.regs.get SEC.BOOT_DONE 0 0 = 0)) ∧
  (∀ (s : State),
      s.settled = true →
      s.aon.squall.active = true →
      Reaches (.blockResetPin) s (fun t => t.aon.last = 3 ∧ t.aon.squall.active = true
        ∧ t.aon.squall.cause = s.aon.squall.cause ∧ t.aon.squall.trigs = s.aon.squall.trigs
        ∧ t.aon.squall.bytes = s.aon.squall.bytes ∧ t.aon.squall.recDone = s.aon.squall.recDone
        ∧ t.aon.squall.st = (if s.aon.squall.recDone then .none else .waiting)
        ∧ t.dev.sqActive = true ∧ t.dev.sqGated = true ∧ t.dev.owner 9 = { kind := 3, feat := 7 }
        ∧ t.dev.alertLow = true ∧ t.dev.nv.block = !s.aon.squall.recDone ∧ t.dev.regs.get SEC.BOOT_DONE 0 0 = 0)) ∧
  (∀ (a : Acc) (v : BitVec 32) (s : State),
      s.settled = true →
      s.aon.squall.active = true →
      s.dev.ready 0x00 = true →
      a.privOk = true →
      v = 0x0000B10C#32 →
      Reaches (.blockReset a v) s (fun t => t.aon.last = 5 ∧ t.aon.squall.active = true
        ∧ t.aon.squall.cause = s.aon.squall.cause ∧ t.aon.squall.trigs = s.aon.squall.trigs
        ∧ t.aon.squall.bytes = s.aon.squall.bytes ∧ t.aon.squall.recDone = s.aon.squall.recDone
        ∧ t.aon.squall.st = (if s.aon.squall.recDone then .none else .waiting)
        ∧ t.dev.sqActive = true ∧ t.dev.sqGated = true ∧ t.dev.owner 9 = { kind := 3, feat := 7 }
        ∧ t.dev.alertLow = true ∧ t.dev.nv.block = !s.aon.squall.recDone ∧ t.dev.regs.get SEC.BOOT_DONE 0 0 = 0)) ∧
  (∀ (x : Nat) (s : State),
      s.settled = true →
      s.aon.squall.active = true →
      s.test.contains x = true →
      x ≠ 0 →
      Reaches (.testDeselect x) s (fun t => t.aon.last = 4 ∧ t.aon.squall.active = true
        ∧ t.aon.squall.cause = s.aon.squall.cause ∧ t.aon.squall.trigs = s.aon.squall.trigs
        ∧ t.aon.squall.bytes = s.aon.squall.bytes ∧ t.aon.squall.recDone = s.aon.squall.recDone
        ∧ t.aon.squall.st = (if s.aon.squall.recDone then .none else .waiting)
        ∧ t.dev.sqActive = true ∧ t.dev.sqGated = true ∧ t.dev.owner 9 = { kind := 3, feat := 7 }
        ∧ t.dev.alertLow = true ∧ t.dev.nv.block = !s.aon.squall.recDone ∧ t.dev.regs.get SEC.BOOT_DONE 0 0 = 0)) ∧
  (∀ (s : State),
      s.settled = true →
      s.aon.squall.active = true →
      s.dev.wrd.lcReset = true →
      Reaches (.lifeCycleReset) s (fun t => t.aon.last = 6 ∧ t.aon.squall.active = true
        ∧ t.aon.squall.cause = s.aon.squall.cause ∧ t.aon.squall.trigs = s.aon.squall.trigs
        ∧ t.aon.squall.bytes = s.aon.squall.bytes ∧ t.aon.squall.recDone = s.aon.squall.recDone
        ∧ t.aon.squall.st = (if s.aon.squall.recDone then .none else .waiting)
        ∧ t.dev.sqActive = true ∧ t.dev.sqGated = true ∧ t.dev.owner 9 = { kind := 3, feat := 7 }
        ∧ t.dev.alertLow = true ∧ t.dev.nv.block = !s.aon.squall.recDone ∧ t.dev.regs.get SEC.BOOT_DONE 0 0 = 0))

/-- PAGE_WIPE_DONE for a page that is being wiped: with a good read-back the page leaves the pages being wiped, and FW
makes the Warden ready to boot; with a bad one the page stays not READY, BOOT.WIPE_FAIL is set and SEC_WIPE_FAIL is
raised with the page. TEST_ACCESS of BLOCK_ID answers 0x5359_0401 in every life-cycle state. With LC.VALID in RAW,
TEST or DEVELOP the other instruments are selected; MBIST leaves the block's plain memories at free values, the
loopbacks change nothing but the selection. Nothing else changes. What MBIST leaves in a memory and what the loopbacks
do are the model's choice (log entry 16). Rests on: R70, R71, R455, R456. -/
def Obligations.WipesEndAndInstrumentsRun : Prop :=
  (∀ (page : Nat) (s : State),
      s.settled = true →
      s.dev.wiping.contains page = true →
      s.dev.wipeBad.contains page = false →
      exec (.pageWipeDone page true) s = .next (s.ends [] [] { s.dev with
        wiping := s.dev.wiping.filter (fun p => p != page),
        wrd := { s.dev.wrd with wiped := s.dev.wrd.wiped || page == 0x04 } })) ∧
  (∀ (page : Nat) (s : State),
      s.settled = true →
      s.dev.wiping.contains page = true →
      s.dev.wipeBad.contains page = false →
      exec (.pageWipeDone page false) s = .next (s.ends [s.event Ev.SEC_WIPE_FAIL page] [] ({ s.dev with
        wipeBad := insertAsc page s.dev.wipeBad }.wr SEC.BOOT_WIPE_FAIL 1))) ∧
  (∀ (x : Nat) (s : State),
      s.settled = true →
      x = 0 →
      exec (.testAccess x) s = .next (({ s with test := insertAsc x s.test }).ends [] [.rdata 0x53590401] s.dev)) ∧
  (∀ (x : Nat) (s : State),
      s.settled = true →
      x = 2 ∨ x = 3 →
      s.dev.rd SEC.LC_VALID = 1 →
      s.dev.rd SEC.LC_STATE ≤ 2 →
      exec (.testAccess x) s = .next (({ s with test := insertAsc x s.test }).ends [] [] s.dev)) ∧
  (∀ (x : Nat) (s : State),
      s.settled = true →
      x = 2 ∨ x = 3 →
      s.dev.rd SEC.LC_VALID = 1 →
      s.dev.rd SEC.LC_STATE = 4 →
      s.dev.rd SEC.LC_DEBUG_AUTH = 1 →
      exec (.testAccess x) s = .next (({ s with test := insertAsc x s.test }).ends [] [] s.dev)) ∧
  (∀ (x : Nat) (s : State),
      s.settled = true →
      x ≠ 0 →
      s.dev.rd SEC.LC_STATE = 3 ∨ s.dev.rd SEC.LC_STATE = 5 →
      exec (.testAccess x) s = .next (s.ends [] [] s.dev)) ∧
  (∀ (x : Nat) (s : State),
      s.settled = true →
      x = 1 →
      s.dev.rd SEC.LC_VALID = 1 →
      s.dev.rd SEC.LC_STATE ≤ 2 →
      Reaches (.testAccess x) s (fun t => t.test = insertAsc x s.test ∧ t.testUse = s.testUse + 1
        ∧ t.aon = s.aon ∧ t.hdr = s.hdr ∧ t.pending = s.pending ∧ t.dev = { s.dev with
        out := [], capRam := t.dev.capRam, lvl0 := t.dev.lvl0, lvl1 := t.dev.lvl1, fit := t.dev.fit,
        mbox := { s.dev.mbox with buf := t.dev.mbox.buf },
        step := { s.dev.step with bank0 := t.dev.step.bank0, bank1 := t.dev.step.bank1 },
        fc := { s.dev.fc with bank0 := t.dev.fc.bank0, bank1 := t.dev.fc.bank1 },
        therm := { s.dev.therm with cal := t.dev.therm.cal }, baro := { s.dev.baro with ram := t.dev.baro.ram },
        stw := { s.dev.stw with active := t.dev.stw.active, staging := t.dev.stw.staging } }))

/-- LOAD_PCC posts the staged seconds and the written count. AON_WRITE_DONE takes the oldest posted write of the page:
WAKE of MB_HS or MB_WS takes its value, a load of the counters sets operating seconds, power-cycle count and
OPSEC_HI.LOADED, and a posted write of a register that only the block sets changes nothing (the model's choice, log
entry 22). OPSEC_TICK adds one to the 40-bit operating seconds, which saturate, and marks the hour as they reach a
multiple of 3,600. LIFE_RECORD_HOURLY, with the hour marked, LC valid and not broken and no life record being written,
starts the write of a life record with the next LIFE_SEQ to the copy that does not hold the later record; nothing else
changes. Rests on: R98, R101, R413, R460, R461, R476. -/
def Obligations.AlwaysOnWritesAndOperatingTime : Prop :=
  (∀ (a : Acc) (v : BitVec 32) (s : State),
      s.settled = true →
      s.dev.ready 0x02 = true →
      a.sec = true →
      bitsAt v.toNat 31 1 = 1 →
      exec (.loadPcc a v) s = .next (({ s with
        aon := { s.aon with
          posted := s.aon.posted ++ [(0x02, AonWrite.load (s.dev.rd SEC.LOAD_OPS_LO_SECONDS + 2 ^ 32 * s.dev.rd
            SEC.LOAD_OPS_HI_SECONDS) (bitsAt v.toNat 0 24))] } }).ends [] [] s.dev)) ∧
  (∀ (page : Nat) (m : Nat) (v : Nat) (r : List (Nat × AonWrite)) (s : State),
      s.settled = true →
      s.aon.posted = (page, .wake m v) :: r →
      m = 2 ∨ m = 5 →
      exec (.aonWriteDone page) s = .next (({ s with
        aon := { s.aon with
          posted := r, wakeHS := if m = 2 then v == 1 else s.aon.wakeHS,
          wakeWS := if m = 5 then v == 1 else s.aon.wakeWS } }).ends [] [] s.dev)) ∧
  (∀ (page : Nat) (secs : Nat) (pcc : Nat) (r : List (Nat × AonWrite)) (s : State),
      s.settled = true →
      s.aon.posted = (page, .load secs pcc) :: r →
      exec (.aonWriteDone page) s = .next (({ s with
        aon := { s.aon with posted := r, secs := secs % 2 ^ 40, pcc := pcc % 2 ^ 24, loaded := true } }).ends [] []
        s.dev)) ∧
  (∀ (page : Nat) (r : List (Nat × AonWrite)) (s : State),
      s.settled = true →
      s.aon.posted = (page, .nothing) :: r →
      exec (.aonWriteDone page) s = .next (({ s with aon := { s.aon with posted := r } }).ends [] [] s.dev)) ∧
  (∀ (s : State),
      s.settled = true →
      exec .opsecTick s = .next (({ s with
        aon := { s.aon with
          secs := min (2 ^ 40 - 1) (s.aon.secs + 1), hour := s.aon.hour || (min (2 ^ 40 - 1) (s.aon.secs + 1) !=
            s.aon.secs && min (2 ^ 40 - 1) (s.aon.secs + 1) % 3600 == 0) } }).ends [] [] s.dev)) ∧
  (∀ (s : State),
      s.settled = true →
      s.aon.hour = true →
      s.dev.rd SEC.LC_VALID = 1 →
      s.dev.rd SEC.LC_BROKEN = 0 →
      s.dev.wrd.lifeRun = none →
      Reaches (.lifeRecordHourly) s (fun t => t.aon = { s.aon with hour := false } ∧ t.hdr = s.hdr
        ∧ t.pending = s.pending ∧ t.test = s.test ∧ t.testUse = s.testUse ∧ t.dev = { s.dev with
        out := t.dev.out, nv := t.dev.nv,
        wrd := { s.dev.wrd with lifeRun := some (.counters, (s.dev.rd SEC.LIFE_SEQ_SEQ + 1) % 2 ^ 32) } }
        ∧ (t.dev.nv.pres.toList ++ t.dev.nv.wait).any (fun r => decide (r.src = .life .counters) && r.write && r.idx
        == (if s.dev.wrd.lifeAt = 17472 then 17473 else 17472)) = true))

/-- LOCKALL with the key 0x0000_10CA from a secure access, once BOOT.PROFILE is set or from the Warden, sets every
LOCK bit of R470. No other register and no other state changes, except that measurement 5 is marked for recomputing
where a word it covers has changed. MEAS_RECOMPUTE takes the words as they stand. WARDEN_BOOT after the wipe on a
blank NV store finds no life record and no provisioned item, so the instance is RAW with LC.VALID; it sets
BOOT.PROFILE, loads the counters 0 and 1, raises ID_REQ and waits in step 6. ID_SECRET in step 6 with a usable secret
derives the identity key and ends the boot; SEC_KEY_FAIL in step 6 ends it without one. After a core reset WARDEN_BOOT
ends at once; before the wipe it does nothing. What the boot does where it cannot go on is the model's choice (log
entry 49): while the NV port takes no read (a request waits for acceptance, eight are in flight, or a Squall bars it)
ID_REQ rises and the boot waits in step 2, or in step 7 or 8 once there; a secret that comes in step 2 or 4 is kept
for step 6; step 8 waits for the wipe of the Barograph; the next WARDEN_BOOT goes on. The clauses that reach the end
of a boot are stated for an NV store with no valid record at 17,471. Rests on: R52, R53, R460, R461, R465, R466, R470,
R471, R473, R454, R455, R457, R458. -/
def Obligations.LockallAndWardenBoot : Prop :=
  (∀ (a : Acc) (v : BitVec 32) (s : State),
      s.settled = true →
      s.dev.ready 0x02 = true →
      a.sec = true →
      v = 0x000010CA#32 →
      s.dev.rd SEC.BOOT_PROFILE = 1 ∨ a.path = .warden →
      Reaches (.lockall a v) s (fun t => (lockFlds.all (fun f => (s.dev.fldInsts f).all (fun k => t.dev.rd f k.1 k.2
        == 1))) = true ∧ RegsAgree (lockFlds.flatMap (fun f => (s.dev.fldInsts f).map (fun k => f.key k.1 k.2)))
        s.dev.regs t.dev.regs ∧ t.aon = s.aon ∧ t.hdr = s.hdr ∧ t.pending = s.pending ∧ t.dev = { s.dev with
        out := [], regs := t.dev.regs, wrd := { s.dev.wrd with measBusy := t.dev.wrd.measBusy } }
        ∧ t.dev.wrd.measBusy = (s.dev.wrd.measBusy || t.dev.hardWords != s.dev.hardWords))) ∧
  (∀ (s : State),
      s.settled = true →
      s.dev.wrd.measBusy = true →
      exec .measRecompute s = .next (s.ends [] [] { s.dev with
        wrd := { s.dev.wrd with meas5 := s.dev.hardWords, measBusy := false } })) ∧
  (∀ (p : Bool) (s : State),
      s.settled = true →
      s.dev.wrd.wiped = true →
      s.dev.wrd.st = .boot →
      s.dev.wrd.waiting = none →
      s.dev.wrd.got = none →
      s.dev.wrd.restart = false →
      s.aon.loaded = false →
      s.dev.nvClosed = false →
      Reaches (.wardenBoot [] [] p) s (fun t => t.dev.wrd.waiting = some ⟨[], [], p⟩
        ∧ t.dev.wrd.late = 0 ∧ t.dev.wrd.idReq = true ∧ t.dev.wrd.prov = {} ∧ t.dev.rd SEC.BOOT_PROV = 0
        ∧ t.dev.rd FW.WRD_STAT_PATCH_OK = 0 ∧ t.dev.rd SEC.BOOT_STEP = 6 ∧ t.dev.rd SEC.LC_STATE = 0
        ∧ t.dev.rd SEC.LC_VALID = 1 ∧ t.dev.rd SEC.LC_BROKEN = 0 ∧ t.dev.rd SEC.BOOT_PROFILE = 1
        ∧ t.aon = { s.aon with secs := 0, pcc := 1, loaded := true })) ∧
  (∀ (nv : List (Nat × BitVec 8)) (bad : List Nat) (p : Bool) (s : State),
      s.settled = true →
      s.dev.wrd.wiped = true →
      s.dev.wrd.st = .boot →
      s.dev.wrd.waiting = none →
      s.dev.wrd.restart = true →
      s.dev.nvClosed = false →
      Reaches (.wardenBoot nv bad p) s (fun t => t.dev.wrd.st = .ready ∧ t.dev.wrd.restart = false
        ∧ t.dev.rd SEC.BOOT_DONE = 1 ∧ t.dev.rd SEC.BOOT_STEP = 9 ∧ t.aon = s.aon)) ∧
  (∀ (nv : List (Nat × BitVec 8)) (bad : List Nat) (p : Bool) (s : State),
      s.settled = true →
      s.dev.wrd.wiped = false ∨ s.dev.wrd.st ≠ .boot →
      exec (.wardenBoot nv bad p) s = .next (s.ends [] [] s.dev)) ∧
  (∀ (nv : List (Nat × BitVec 8)) (bad : List Nat) (p : Bool) (s : State),
      s.settled = true →
      s.dev.wrd.wiped = true →
      s.dev.wrd.st = .boot →
      s.dev.wrd.waiting = none →
      s.dev.wrd.restart = false →
      s.dev.nvClosed = true →
      exec (.wardenBoot nv bad p) s = .next (s.ends [] [] (({ s.dev with
        wrd := { s.dev.wrd with idReq := true, late := 2, waiting := some ⟨nv, bad, p⟩ } }.wr SEC.BOOT_STEP 1).wr
        SEC.BOOT_STEP 2))) ∧
  (∀ (nv : List (Nat × BitVec 8)) (bad : List Nat) (p : Bool) (x : BootIn) (s : State),
      s.settled = true →
      s.dev.wrd.wiped = true →
      s.dev.wrd.st = .boot →
      s.dev.wrd.waiting = some x →
      s.dev.wrd.late = 7 →
      s.dev.nvClosed = false →
      s.dev.stillWiped 0x1D = false →
      x.crit 17471 = none →
      Reaches (.wardenBoot nv bad p) s (fun t => t.dev.wrd.st = .ready ∧ t.dev.wrd.waiting = none
        ∧ t.dev.wrd.late = 0 ∧ t.dev.rd SEC.BOOT_DONE = 1 ∧ t.dev.rd SEC.BOOT_STEP = 9 ∧ t.aon = s.aon)) ∧
  (∀ (secret : BitVec 256) (x : BootIn) (s : State),
      s.settled = true →
      s.dev.wrd.waiting = some x →
      s.dev.wrd.idReq = true →
      s.dev.wrd.late = 2 ∨ s.dev.wrd.late = 4 →
      s.dev.wrd.got = none →
      exec (.idSecret secret) s = .next (s.ends [] [] { s.dev with
        wrd := { s.dev.wrd with idReq := false, got := some (some secret.toNat) } })) ∧
  (∀ (secret : BitVec 256) (x : BootIn) (s : State),
      s.settled = true →
      s.dev.wrd.waiting = some x →
      s.dev.wrd.idReq = true →
      s.dev.wrd.late = 0 →
      s.dev.nvClosed = true →
      Reaches (.idSecret secret) s (fun t => t.dev.wrd.idReq = false
        ∧ t.dev.wrd.st = s.dev.wrd.st ∧ t.dev.wrd.waiting = some x ∧ t.dev.wrd.late = 7)) ∧
  (∀ (secret : BitVec 256) (x : BootIn) (s : State),
      s.settled = true →
      s.dev.wrd.waiting = some x →
      s.dev.wrd.idReq = true →
      s.dev.wrd.late = 0 →
      s.dev.nvClosed = false →
      s.dev.stillWiped 0x1D = true →
      x.crit 17471 = none →
      Reaches (.idSecret secret) s (fun t => t.dev.wrd.idReq = false
        ∧ t.dev.wrd.st = s.dev.wrd.st ∧ t.dev.wrd.waiting = some x ∧ t.dev.wrd.late = 8
        ∧ t.dev.rd SEC.BOOT_STEP = 8)) ∧
  (∀ (secret : BitVec 256) (x : BootIn) (s : State),
      s.settled = true →
      s.dev.wrd.waiting = some x →
      s.dev.wrd.idReq = true →
      s.dev.wrd.late = 0 →
      s.dev.nvClosed = false →
      s.dev.stillWiped 0x1D = false →
      x.crit 17471 = none →
      secret.toNat ≠ 0 →
      secret.toNat ≠ 2 ^ 256 - 1 →
      Reaches (.idSecret secret) s (fun t => t.dev.wrd.key = some (identityKey secret.toNat (keyClass (s.dev.rd
        SEC.LC_STATE))) ∧ t.dev.wrd.idReq = false ∧ t.dev.wrd.st = .ready ∧ t.dev.wrd.waiting = none
        ∧ t.dev.rd SEC.BOOT_DONE = 1 ∧ t.dev.rd SEC.BOOT_STEP = 9)) ∧
  (∀ (x : BootIn) (s : State),
      s.settled = true →
      s.dev.wrd.waiting = some x →
      s.dev.wrd.idReq = true →
      s.dev.wrd.late = 0 →
      s.dev.wrd.got = none →
      s.dev.nvClosed = false →
      s.dev.stillWiped 0x1D = false →
      x.crit 17471 = none →
      Reaches (.secKeyFail) s (fun t => t.dev.wrd.key = s.dev.wrd.key ∧ t.dev.wrd.idReq = true
        ∧ t.dev.wrd.st = .ready ∧ t.dev.wrd.waiting = none ∧ t.dev.rd SEC.BOOT_DONE = 1
        ∧ t.dev.rd SEC.BOOT_STEP = 9))

/-- A write that sets MEM_WIN_BASE.VALID for the first time stores its fields and starts the zero-fill of the ledger
region: with nothing else at the MEM port, its first 32 writes go out. EVT_NEXT.POP from the consumer's path discards
the head event. A W1C write to PAGE_FAULT of a present page clears the bits it names: all of them from a secure
access, and those that are not FATAL from a privileged one. Rests on: R96, R110, R115, R386. -/
def Obligations.MemWindowAndEventRing : Prop :=
  (∀ (a : Acc) (v : BitVec 32) (s : State),
      s.settled = true →
      s.dev.ready 0x00 = true →
      a.privOk = true →
      s.dev.rd TOP.MEM_WIN_BASE_VALID = 0 →
      bitsAt v.toNat 31 1 = 1 →
      s.dev.led.filled = false →
      s.dev.memPort = {} →
      s.dev.led.fillAt = 0 →
      exec (.memWinBaseWrite a v) s = .next (s.ends [] ((upto 32).map (fun k => .memWrite (64 * k) 64 0)) {
        (s.dev.stores [TOP.MEM_WIN_BASE_VALID, TOP.MEM_WIN_BASE_BASE] 0 0 v) with
        led := { s.dev.led with init := true, filled := true, fillAt := 32 },
        memPort := { writes := (upto 32).map .fill, turn := 2 } })) ∧
  (∀ (a : Acc) (v : BitVec 32) (s : State),
      s.settled = true →
      s.dev.ready 0x00 = true →
      a.privOk = true →
      a.path = .regPort →
      s.dev.rd TOP.EVT_CFG_CONSUMER = 0 →
      bitsAt v.toNat 0 1 = 1 →
      exec (.evtNext a v) s = .next (({ s with hdr := { s.hdr with ring := s.hdr.ring.drop 1 } }).ends [] [] s.dev)) ∧
  (∀ (a : Acc) (v : BitVec 32) (s : State),
      s.settled = true →
      s.dev.ready 0x00 = true →
      a.path = .steward →
      a.privOk = true →
      s.dev.rd TOP.EVT_CFG_CONSUMER = 1 →
      bitsAt v.toNat 0 1 = 1 →
      exec (.evtNext a v) s = .next (({ s with hdr := { s.hdr with ring := s.hdr.ring.drop 1 } }).ends [] [] s.dev)) ∧
  (∀ (page : Nat) (a : Acc) (v : BitVec 32) (s : State),
      s.settled = true →
      page < 0x1F →
      s.dev.pagePresent page = true →
      a.sec = true →
      exec (.pageFaultClear page a v) s = .next (({ s with
        hdr := { s.hdr with
          fault := sparseSet 0 page (s.hdr.faultOf page - (s.hdr.faultOf page &&& v.toNat)) s.hdr.fault } }).ends []
        [] s.dev)) ∧
  (∀ (page : Nat) (a : Acc) (v : BitVec 32) (s : State),
      s.settled = true →
      page < 0x1F →
      page ≠ 0x02 →
      s.dev.pagePresent page = true →
      a.sec = false →
      a.priv = true →
      v.toNat &&& fatalMask page = 0 →
      exec (.pageFaultClear page a v) s = .next (({ s with
        hdr := { s.hdr with
          fault := sparseSet 0 page (s.hdr.faultOf page - (s.hdr.faultOf page &&& v.toNat)) s.hdr.fault } }).ends []
        [] s.dev))

/-- A write of any present register of a page that is READY, other than those of commandRegs (registers whose write is
a command, stated with their own rows), whose fields the access may write and whose values range, relation and lock do
not refuse: each RW field then reads the written bits that exist, each RO field what it read, every other register
field is unchanged, and one _CLAMP is raised for each clamp that starts; with refused fields those keep their value,
the others take theirs and one _BAD_VALUE is raised; without the guard nothing is stored, and a miss is counted if a
bit would change. PAGE_FAULT_EN stores; an absent page ignores writes. In particular REGISTER_WRITE of FCAST.CFG by a
privileged or secure access stores every field of the word whose value is allowed; an out-of-range FGAIN keeps its
value, the other fields take theirs and FCAST_BAD_VALUE is raised once. A write of BUDGET.FLOOR above HARD_GRANT keeps
the written value and raises BUDGET_CLAMP when the clamp starts to act. A write to a register of a page that is not
READY changes nothing and raises TOP_NOT_READY with the page. An access without the attribute changes no field that it
names: the guard miss is counted and recorded, and raised at most once per BUDGET tick. Rests on: R23, R93, R94, R95,
R98, R100, R104, R105, R108, R113, R471, R477. -/
def Obligations.RegisterWritesStoreClampAndRefuse : Prop :=
  (∀ (a : Acc) (adr : BitVec 15) (v : BitVec 32) (s : State),
      s.settled = true →
      adr.toNat = FCAST.CFG_FGAIN.adr 0 0 →
      s.dev.ready 0x15 = true →
      a.privOk = true →
      bitsAt v.toNat 16 8 ≤ 64 →
      bitsAt v.toNat 8 4 ≤ bitsAt v.toNat 12 4 →
      exec (.registerWrite a adr v) s = .next (s.ends [] [] (s.dev.stores [FCAST.CFG_CONF_MIN, FCAST.CFG_FGAIN,
        FCAST.CFG_K_HI, FCAST.CFG_K_LO, FCAST.CFG_SCORE_SLOT] 0 0 v))) ∧
  (∀ (a : Acc) (adr : BitVec 15) (v : BitVec 32) (s : State),
      s.settled = true →
      adr.toNat = FCAST.CFG_FGAIN.adr 0 0 →
      s.dev.ready 0x15 = true →
      a.privOk = true →
      64 < bitsAt v.toNat 16 8 →
      bitsAt v.toNat 8 4 ≤ bitsAt v.toNat 12 4 →
      exec (.registerWrite a adr v) s = .next (s.ends [s.event (Ev.badValue 0x15)] [] (s.dev.stores
        [FCAST.CFG_CONF_MIN, FCAST.CFG_K_HI, FCAST.CFG_K_LO, FCAST.CFG_SCORE_SLOT] 0 0 v))) ∧
  (∀ (a : Acc) (adr : BitVec 15) (v : BitVec 32) (s : State),
      s.settled = true →
      adr.toNat = BUDGET.FLOOR_FLOOR.adr 0 0 →
      s.dev.ready 0x1A = true →
      a.privOk = true →
      s.dev.rd BUDGET.FLOOR_FLOOR ≤ s.dev.rd BUDGET.HARD_GRANT_HARD_GRANT →
      s.dev.rd BUDGET.HARD_GRANT_HARD_GRANT < bitsAt v.toNat 0 16 →
      exec (.registerWrite a adr v) s = .next (s.ends [s.event (Ev.clamp 0x1A)] [] (s.dev.stores [BUDGET.FLOOR_FLOOR]
        0 0 v))) ∧
  (∀ (a : Acc) (adr : BitVec 15) (v : BitVec 32) (r : Reg) (j : Nat) (s : State),
      s.settled = true →
      s.dev.pagePresent (adr.toNat / 1024) = true →
      0x40 ≤ adr.toNat % 1024 * 4 →
      regAt (adr.toNat / 1024) (adr.toNat % 1024 * 4) = some (r, j) →
      s.dev.regPresent (pageBase (adr.toNat / 1024)) (pageInst (adr.toNat / 1024)) r.off j = true →
      s.dev.ready (adr.toNat / 1024) = false →
      exec (.registerWrite a adr v) s = .next (s.ends [s.event Ev.TOP_NOT_READY (adr.toNat / 1024)] [] s.dev)) ∧
  (∀ (a : Acc) (adr : BitVec 15) (v : BitVec 32) (s : State),
      s.settled = true →
      adr.toNat = FCAST.CFG_FGAIN.adr 0 0 →
      s.dev.ready 0x15 = true →
      a.privOk = false →
      bitsAt v.toNat 16 8 ≠ s.dev.rd FCAST.CFG_FGAIN →
      s.dev.missSent = false →
      exec (.registerWrite a adr v) s = .next (s.ends [s.event Ev.SEC_GUARD_MISS (missPath a.path)] [] { (((((s.dev.wr
        SEC.GUARD_MISS_COUNT (min (2 ^ 32 - 1) (s.dev.rd SEC.GUARD_MISS_COUNT + 1))).wr SEC.GUARD_LAST_PATH (missPath
        a.path)).wr SEC.GUARD_LAST_APERTURE 0).wr SEC.GUARD_LAST_MID a.mid.toNat).wr SEC.GUARD_LAST_ADDR adr.toNat)
        with missSent := true })) ∧
  (∀ (a : Acc) (adr : BitVec 15) (v : BitVec 32) (p : Nat) (r : Reg) (j : Nat) (s : State),
      s.settled = true →
      s.dev.reaches adr.toNat p r j = true →
      s.dev.ready p = true →
      commandReg (pageBase p) r.off = false →
      s.wordOk a r (pageInst p) j v.toNat = true →
      Reaches (.registerWrite a adr v) s (fun t => t = { s with
        hdr := t.hdr, dev := { s.dev with
          out := [], regs := t.dev.regs, wrd := { s.dev.wrd with measBusy := t.dev.wrd.measBusy } } }
        ∧ t.dev.wrd.measBusy = (s.dev.wrd.measBusy || t.dev.hardWords != s.dev.hardWords)
        ∧ RegsAgree ((r.flds.filter (fun (f : Fld) => f.acc == .rw)).map (fun (f : Fld) => f.key (pageInst p) j))
        s.dev.regs t.dev.regs ∧ t.hdr = s.hdr.enterAll (s.clampsBegun t.dev (pageBase p) (pageInst p) r.off)
        ∧ (∀ f ∈ r.flds, t.fieldVal f (pageInst p) j = if f.acc = .rw then f.of v.toNat &&& s.dev.liveMask f j else
        s.fieldVal f (pageInst p) j))) ∧
  (∀ (a : Acc) (adr : BitVec 15) (v : BitVec 32) (p : Nat) (r : Reg) (j : Nat) (s : State),
      s.settled = true →
      s.dev.reaches adr.toNat p r j = true →
      s.dev.ready p = true →
      commandReg (pageBase p) r.off = false →
      clampReg (pageBase p) r.off = false →
      p ≠ 0x18 →
      r.flds.all (fun (f : Fld) => f.acc == .ro || (f.acc == .rw && f.grd.okWrite j a)) = true →
      r.flds.any (fun (f : Fld) => f.acc == .rw && s.fldRefused a f (pageInst p) j v.toNat) = true →
      Reaches (.registerWrite a adr v) s (fun t => t = { s with
        hdr := t.hdr, dev := { s.dev with
          out := [], regs := t.dev.regs, wrd := { s.dev.wrd with measBusy := t.dev.wrd.measBusy } } }
        ∧ t.dev.wrd.measBusy = (s.dev.wrd.measBusy || t.dev.hardWords != s.dev.hardWords)
        ∧ RegsAgree ((r.flds.filter (fun (f : Fld) => f.acc == .rw)).map (fun (f : Fld) => f.key (pageInst p) j))
        s.dev.regs t.dev.regs ∧ t.hdr = s.hdr.enterAll [s.event (Ev.badValue (pageBase p)) (pageInst p) (pageInst p)]
        ∧ (∀ f ∈ r.flds, t.fieldVal f (pageInst p) j = if f.acc = .rw ∧ s.fldRefused a f (pageInst p) j v.toNat =
        false then f.of v.toNat &&& s.dev.liveMask f j else s.fieldVal f (pageInst p) j))) ∧
  (∀ (a : Acc) (adr : BitVec 15) (v : BitVec 32) (p : Nat) (r : Reg) (j : Nat) (s : State),
      s.settled = true →
      s.dev.reaches adr.toNat p r j = true →
      s.dev.ready p = true →
      commandReg (pageBase p) r.off = false →
      r.flds.all (fun (f : Fld) => f.acc == .ro || (f.acc == .rw && !f.grd.okWrite j a)) = true →
      s.dev.missSent = true →
      exec (.registerWrite a adr v) s = .next (s.ends [] [] (if r.flds.any (fun (f : Fld) => f.acc == .rw && f.of
        v.toNat &&& s.dev.liveMask f j != s.fieldVal f (pageInst p) j &&& s.dev.liveMask f j) then (((((s.dev.wr
        SEC.GUARD_MISS_COUNT (min (2 ^ 32 - 1) (s.dev.rd SEC.GUARD_MISS_COUNT + 1))).wr SEC.GUARD_LAST_PATH (missPath
        a.path)).wr SEC.GUARD_LAST_APERTURE 0).wr SEC.GUARD_LAST_MID a.mid.toNat).wr SEC.GUARD_LAST_ADDR (adr.toNat))
        else s.dev))) ∧
  (∀ (a : Acc) (adr : BitVec 15) (v : BitVec 32) (p : Nat) (s : State),
      s.settled = true →
      adr.toNat / 1024 = p →
      s.dev.pagePresent p = true →
      adr.toNat % 1024 * 4 = 0x14 →
      (headerGuard p).okWrite 0 a = true →
      exec (.registerWrite a adr v) s = .next ({ s with
        hdr := { s.hdr with en := sparseSet 0 p v.toNat s.hdr.en }, dev := { s.dev with out := [] } })) ∧
  (∀ (a : Acc) (adr : BitVec 15) (v : BitVec 32) (s : State),
      s.settled = true →
      s.dev.pagePresent (adr.toNat / 1024) = false →
      exec (.registerWrite a adr v) s = .next (s.ends [] [] s.dev))

/-- REGISTER_READ of any present register of a page that is READY, other than the 64-bit pairs, answers a word in
which each field that the access may read stands with the bits that exist, and every other field, and each WO field,
is zero; nothing changes. FCAST.CFG answers its fields in their places. A read of TICK.BEAT_LO answers the low half of
the beat index b and keeps the high half for the path; the next read of TICK.BEAT_HI by that path answers what it
kept. A read of a register of a page that is not READY answers 0 and raises TOP_NOT_READY. Nothing else changes. Rests
on: R93, R95, R98, R103, R104, R105, R107, R113, R119. -/
def Obligations.RegisterReadsAndSnapshots : Prop :=
  (∀ (a : Acc) (adr : BitVec 15) (s : State),
      s.settled = true →
      adr.toNat = FCAST.CFG_FGAIN.adr 0 0 →
      s.dev.ready 0x15 = true →
      a.privOk = true →
      exec (.registerRead a adr) s = .next (s.ends [] [.rdata (s.dev.rd FCAST.CFG_CONF_MIN % 2 ^ 8 * 2 ^ 24 +
        (s.dev.rd FCAST.CFG_FGAIN % 2 ^ 8 * 2 ^ 16 + (s.dev.rd FCAST.CFG_K_HI % 2 ^ 4 * 2 ^ 12 + (s.dev.rd
        FCAST.CFG_K_LO % 2 ^ 4 * 2 ^ 8 + s.dev.rd FCAST.CFG_SCORE_SLOT % 2 ^ 4 * 2 ^ 4))))] s.dev)) ∧
  (∀ (a : Acc) (adr : BitVec 15) (s : State),
      s.settled = true →
      adr.toNat = TICK.BEAT_LO_BEAT.adr 0 0 →
      s.dev.ready 0x01 = true →
      exec (.registerRead a adr) s = .next (s.ends [] [.rdata (s.dev.tick.b % 2 ^ 32)] (s.dev.snapPut (missPath
        a.path) adr.toNat (s.dev.tick.b / 2 ^ 32 % 2 ^ 32)))) ∧
  (∀ (a : Acc) (adr : BitVec 15) (s : State),
      s.settled = true →
      adr.toNat = TICK.BEAT_HI_BEAT.adr 0 0 →
      s.dev.ready 0x01 = true →
      exec (.registerRead a adr) s = .next (s.ends [] [.rdata (s.dev.snapOf (missPath a.path) (adr.toNat - 1))]
        s.dev)) ∧
  (∀ (a : Acc) (adr : BitVec 15) (r : Reg) (j : Nat) (s : State),
      s.settled = true →
      s.dev.pagePresent (adr.toNat / 1024) = true →
      0x40 ≤ adr.toNat % 1024 * 4 →
      regAt (adr.toNat / 1024) (adr.toNat % 1024 * 4) = some (r, j) →
      s.dev.regPresent (pageBase (adr.toNat / 1024)) (pageInst (adr.toNat / 1024)) r.off j = true →
      s.dev.ready (adr.toNat / 1024) = false →
      exec (.registerRead a adr) s = .next (s.ends [s.event Ev.TOP_NOT_READY (adr.toNat / 1024)] [.rdata 0] s.dev)) ∧
  (∀ (a : Acc) (adr : BitVec 15) (p : Nat) (r : Reg) (j : Nat) (s : State),
      s.settled = true →
      s.dev.reaches adr.toNat p r j = true →
      s.dev.ready p = true →
      loRegs.contains (pageBase p, r.off) = false →
      loRegs.contains (pageBase p, adr.toNat % 1024 * 4 - 4) = false →
      r.flds.any (fun (f : Fld) => f.grd.okRead j a) = true →
      Reaches (.registerRead a adr) s (fun t => t = s.ends [] [.rdata (s.readWord a r (pageInst p) j)] s.dev
        ∧ (∀ f ∈ r.flds, f.of (s.readWord a r (pageInst p) j) = if f.acc = .wo ∨ f.grd.okRead j a = false then 0 else
        s.fieldVal f (pageInst p) j &&& s.dev.liveMask f j))) ∧
  (∀ (a : Acc) (adr : BitVec 15) (p : Nat) (r : Reg) (j : Nat) (s : State),
      s.settled = true →
      s.dev.reaches adr.toNat p r j = true →
      s.dev.ready p = true →
      r.flds.all (fun (f : Fld) => !f.grd.okRead j a) = true →
      s.dev.missSent = true →
      exec (.registerRead a adr) s = .next (s.ends [] [.rdata 0] ((((((s.dev.wr SEC.GUARD_MISS_COUNT (min (2 ^ 32 - 1)
        (s.dev.rd SEC.GUARD_MISS_COUNT + 1))).wr SEC.GUARD_LAST_PATH (missPath a.path)).wr SEC.GUARD_LAST_APERTURE
        0).wr SEC.GUARD_LAST_MID a.mid.toNat).wr SEC.GUARD_LAST_ADDR (adr.toNat))))) ∧
  (∀ (a : Acc) (adr : BitVec 15) (s : State),
      s.settled = true →
      s.dev.pagePresent (adr.toNat / 1024) = false →
      exec (.registerRead a adr) s = .next (s.ends [] [.rdata 0] s.dev))

/-- TBL_WRITE to any window that takes it puts exactly the selected bytes into the memory of that window (a level
table keeps the bytes of absent domains) and changes no other window, active bank or register; the capture window
ignores writes; FIT without HOLD, the active level table and BARO outside the Warden's restore refuse with _BAD_VALUE;
TBL_READ of any window answers its eight bytes, least significant first. A window of a page that is not READY reads 0
and a write raises TOP_NOT_READY; reserved locations read 0 and ignore writes. In particular TBL_WRITE to the FCAST
window by a privileged or secure access puts the selected bytes into the inactive model bank and no other byte, leaves
the active bank, and marks the bank as written since a pending swap request. TBL_READ there answers the eight bytes,
least significant first, and changes nothing. A read without the attribute answers 0 and counts a guard miss. Rests
on: R44, R95, R105, R111, R112, R113, R223, R273, R299, R410, R443, R485. -/
def Obligations.TableWindowWritesAndReads : Prop :=
  (∀ (a : Acc) (adr : BitVec 17) (strb : BitVec 2) (v : BitVec 64) (s : State),
      s.settled = true →
      8 * adr.toNat < 0x40000 →
      s.dev.ready 0x15 = true →
      a.privOk = true →
      strb ≠ 0#2 →
      Reaches (.tblWrite a adr strb v) s (fun t => t.aon = s.aon ∧ t.hdr = s.hdr ∧ t.pending = s.pending
        ∧ t.dev = { s.dev with
        out := [], fc := { s.dev.fc with
          bank0 := t.dev.fc.bank0, bank1 := t.dev.fc.bank1, dirty := s.dev.fc.dirty || s.dev.fc.pend } }
        ∧ (if s.dev.fc.act = 0 then t.dev.fc.bank0 = s.dev.fc.bank0 else t.dev.fc.bank1 = s.dev.fc.bank1)
        ∧ (∀ o, t.dev.fc.idleBank.read o = if 8 * adr.toNat ≤ o ∧ o < 8 * adr.toNat + 8 ∧ strb.getLsbD ((o - 8 *
        adr.toNat) / 4) = true then BitVec.ofNat 8 (v.toNat / 256 ^ (o - 8 * adr.toNat)) else s.dev.fc.idleBank.read
        o))) ∧
  (∀ (a : Acc) (adr : BitVec 17) (s : State),
      s.settled = true →
      8 * adr.toNat < 0x40000 →
      s.dev.ready 0x15 = true →
      a.privOk = true →
      exec (.tblRead a adr) s = .next (s.ends [] [.rdata (s.dev.fc.idleBank.readLE (8 * adr.toNat) 8)] s.dev)) ∧
  (∀ (a : Acc) (adr : BitVec 17) (s : State),
      s.settled = true →
      8 * adr.toNat < 0x40000 →
      s.dev.ready 0x15 = true →
      a.privOk = false →
      s.dev.missSent = true →
      exec (.tblRead a adr) s = .next (s.ends [] [.rdata 0] (((((s.dev.wr SEC.GUARD_MISS_COUNT (min (2 ^ 32 - 1)
        (s.dev.rd SEC.GUARD_MISS_COUNT + 1))).wr SEC.GUARD_LAST_PATH (missPath a.path)).wr SEC.GUARD_LAST_APERTURE
        1).wr SEC.GUARD_LAST_MID a.mid.toNat).wr SEC.GUARD_LAST_ADDR adr.toNat))) ∧
  (∀ (a : Acc) (adr : BitVec 17) (strb : BitVec 2) (v : BitVec 64) (w : Win) (b : Nat) (s : State),
      s.settled = true →
      s.dev.winAt (8 * adr.toNat) = some (w, b) →
      s.dev.ready w.page = true →
      Dev.winWriteOk w a (8 * adr.toNat - b) = true →
      strb ≠ 0#2 →
      s.dev.winTakes a w (8 * adr.toNat - b) = true →
      Reaches (.tblWrite a adr strb v) s (fun t => t = { s with
        dev := { s.dev with
          out := [], fc := { (s.dev.fc.setIdle t.dev.fc.idleBank) with
            dirty := s.dev.fc.dirty || (w == .fcast && s.dev.fc.pend) },
          step := s.dev.step.setIdle t.dev.step.idleBank, fit := t.dev.fit, lvl0 := t.dev.lvl0, lvl1 := t.dev.lvl1,
          therm := { s.dev.therm with cal := t.dev.therm.cal }, mbox := { s.dev.mbox with buf := t.dev.mbox.buf },
          baro := { s.dev.baro with ram := t.dev.baro.ram } } } ∧ (∀ q ∈ [Win.fcast, .capture, .baro, .step, .fit,
        .level, .levelAct, .cal, .mbox], q ≠ w → (t.dev.winMem q).1 = (s.dev.winMem q).1)
        ∧ (∀ o, (t.dev.winMem w).1.read o = if ((s.dev.winMem w).2 + (8 * adr.toNat - b)) ≤ o
        ∧ o < ((s.dev.winMem w).2 + (8 * adr.toNat - b)) + 8 ∧ strb.getLsbD ((o - ((s.dev.winMem w).2 + (8 * adr.toNat
        - b))) / 4) = true ∧ (w = .level → s.dev.levelLive o = true) then BitVec.ofNat 8 (v.toNat / 256 ^ (o -
        ((s.dev.winMem w).2 + (8 * adr.toNat - b)))) else (s.dev.winMem w).1.read o))) ∧
  (∀ (a : Acc) (adr : BitVec 17) (strb : BitVec 2) (v : BitVec 64) (w : Win) (b : Nat) (s : State),
      s.settled = true →
      s.dev.winAt (8 * adr.toNat) = some (w, b) →
      s.dev.ready w.page = true →
      Dev.winWriteOk w a (8 * adr.toNat - b) = true →
      strb ≠ 0#2 →
      s.dev.winTakes a w (8 * adr.toNat - b) = false →
      w ≠ .mbox →
      exec (.tblWrite a adr strb v) s = .next (s.ends (if w = .capture then [] else [s.event (Ev.badValue w.page)]) []
        s.dev)) ∧
  (∀ (a : Acc) (adr : BitVec 17) (strb : BitVec 2) (v : BitVec 64) (w : Win) (b : Nat) (s : State),
      s.settled = true →
      s.dev.winAt (8 * adr.toNat) = some (w, b) →
      s.dev.ready w.page = false →
      exec (.tblWrite a adr strb v) s = .next (s.ends [s.event Ev.TOP_NOT_READY w.page] [] s.dev)) ∧
  (∀ (a : Acc) (adr : BitVec 17) (strb : BitVec 2) (v : BitVec 64) (w : Win) (b : Nat) (s : State),
      s.settled = true →
      s.dev.winAt (8 * adr.toNat) = some (w, b) →
      s.dev.ready w.page = true →
      Dev.winWriteOk w a (8 * adr.toNat - b) = false →
      strb ≠ 0#2 →
      s.dev.missSent = true →
      exec (.tblWrite a adr strb v) s = .next (s.ends [] [] ((((((s.dev.wr SEC.GUARD_MISS_COUNT (min (2 ^ 32 - 1)
        (s.dev.rd SEC.GUARD_MISS_COUNT + 1))).wr SEC.GUARD_LAST_PATH (missPath a.path)).wr SEC.GUARD_LAST_APERTURE
        1).wr SEC.GUARD_LAST_MID a.mid.toNat).wr SEC.GUARD_LAST_ADDR (adr.toNat))))) ∧
  (∀ (a : Acc) (adr : BitVec 17) (strb : BitVec 2) (v : BitVec 64) (s : State),
      s.settled = true →
      s.dev.winAt (8 * adr.toNat) = none →
      exec (.tblWrite a adr strb v) s = .next (s.ends [] [] s.dev)) ∧
  (∀ (a : Acc) (adr : BitVec 17) (w : Win) (b : Nat) (s : State),
      s.settled = true →
      s.dev.winAt (8 * adr.toNat) = some (w, b) →
      s.dev.ready w.page = true →
      s.dev.winReadOk a w (8 * adr.toNat - b) = true →
      exec (.tblRead a adr) s = .next (s.ends [] [.rdata ((s.dev.winMem w).1.readLE ((s.dev.winMem w).2 + (8 *
        adr.toNat - b)) 8)] s.dev)) ∧
  (∀ (a : Acc) (adr : BitVec 17) (w : Win) (b : Nat) (s : State),
      s.settled = true →
      s.dev.winAt (8 * adr.toNat) = some (w, b) →
      s.dev.ready w.page = true →
      s.dev.winReadOk a w (8 * adr.toNat - b) = false →
      s.dev.missSent = true →
      exec (.tblRead a adr) s = .next (s.ends [] [.rdata 0] ((((((s.dev.wr SEC.GUARD_MISS_COUNT (min (2 ^ 32 - 1)
        (s.dev.rd SEC.GUARD_MISS_COUNT + 1))).wr SEC.GUARD_LAST_PATH (missPath a.path)).wr SEC.GUARD_LAST_APERTURE
        1).wr SEC.GUARD_LAST_MID a.mid.toNat).wr SEC.GUARD_LAST_ADDR (adr.toNat))))) ∧
  (∀ (a : Acc) (adr : BitVec 17) (s : State),
      s.settled = true →
      s.dev.winAt (8 * adr.toNat) = none ∨ (s.dev.winAt (8 * adr.toNat)).any (fun (x : Win × Nat) => !s.dev.ready
        x.1.page) = true →
      exec (.tblRead a adr) s = .next (s.ends [] [.rdata 0] s.dev))

/-- BEAT moves b and the strobe count by one and REFCLK time by the length of the beat that ends, and starts a beat
with no RAIL tick yet. With GT_VALID low and no alignment the next beat is 100 REFCLK cycles; from the strobe at which
GT_VALID has been high for a whole beat the length is 99, 101 or 100 by the error e, and an error of 0 to 9 aligns b
to global time. The first strobe after reset starts beat 0. A strobe that starts a BUDGET tick lets the guard misses
and the mailbox overruns, which raise one event per BUDGET tick, be raised again. With no swap turn due, BEAT runs in
this order: the timers and task 0x07 of the beat that ends; the strobe, its latches and its grid; the tasks 0x01,
0x02, 0x03, 0x04, 0x05, 0x06; task 0x31 where it is owed; each held where it missed its window. What these tasks
compute is stated with their engines: limits, bubbles and commands (GovernorEscalatesAndRecovers, FourPhaseHandshake),
hints and steps (HintTokensAndPointerReset), Forecast (StepAndForecastBanks), Drizzle (DrizzleFlagsAndPreramp), the
ledger (LedgerAndMemoryPort), the recorder (RecorderCommitsFreezesAndSnapshots). Rests on: R73, R74, R76, R77, R78,
R80, R82, R83, R86. -/
def Obligations.BeatMovesTime : Prop :=
  (∀ (gt : BitVec 64) (valid : Bool) (corr : Nat) (uncorr : Option Nat) (s : State),
      s.settled = true →
      valid = false →
      s.dev.tick.started = true →
      s.dev.tick.gtValid = false →
      s.dev.tick.align = .free →
      Reaches (.beat gt valid corr uncorr) s (fun t => t.dev.tick.b = (s.dev.tick.b + 1) % 2 ^ 64
        ∧ t.dev.tick.mono = s.dev.tick.mono + 1 ∧ t.dev.tick.ref = s.dev.tick.ref + s.dev.tick.len
        ∧ t.dev.tick.len = 100 ∧ t.dev.tick.railIdx = 0 ∧ t.dev.tick.align = .free
        ∧ t.dev.tick.started = true ∧ t.pending = s.pending)) ∧
  (∀ (gt : BitVec 64) (valid : Bool) (corr : Nat) (uncorr : Option Nat) (s : State),
      s.settled = true →
      valid = true →
      s.dev.tick.started = true →
      s.dev.tick.gtWhole = true →
      s.dev.tick.align ≠ .aligned →
      gt.toNat % 1000 < 10 →
      Reaches (.beat gt valid corr uncorr) s (fun t => t.dev.tick.b = gt.toNat / 1000
        ∧ t.dev.tick.mono = s.dev.tick.mono + 1 ∧ t.dev.tick.len = 100
        ∧ t.dev.tick.align = .aligned ∧ t.dev.tick.railIdx = 0 ∧ t.dev.tick.gtValid = true)) ∧
  (∀ (gt : BitVec 64) (valid : Bool) (corr : Nat) (uncorr : Option Nat) (s : State),
      s.settled = true →
      valid = true →
      s.dev.tick.started = true →
      s.dev.tick.gtWhole = true →
      s.dev.tick.align ≠ .aligned →
      10 ≤ gt.toNat % 1000 →
      Reaches (.beat gt valid corr uncorr) s (fun t => t.dev.tick.b = (s.dev.tick.b + 1) % 2 ^ 64
        ∧ t.dev.tick.len = (if gt.toNat % 1000 < 500 then 99 else 101)
        ∧ t.dev.tick.align = .aligning ∧ t.dev.tick.mono = s.dev.tick.mono + 1)) ∧
  (∀ (gt : BitVec 64) (valid : Bool) (corr : Nat) (uncorr : Option Nat) (s : State),
      s.settled = true →
      s.dev.tick.started = false →
      valid = false →
      s.dev.tick.gtValid = false →
      s.dev.tick.align = .free →
      Reaches (.beat gt valid corr uncorr) s (fun t => t.dev.tick.b = s.dev.tick.b
        ∧ t.dev.tick.mono = s.dev.tick.mono ∧ t.dev.tick.started = true ∧ t.dev.tick.ref = s.dev.tick.ref)) ∧
  (∀ (gt : BitVec 64) (valid : Bool) (corr : Nat) (uncorr : Option Nat) (s : State),
      s.settled = true →
      valid = false →
      s.dev.tick.started = true →
      s.dev.tick.gtValid = false →
      s.dev.tick.align = .free →
      (s.dev.tick.b + 1) % 2 ^ 64 % 1000 = 0 →
      s.dev.tick.lastBud = none →
      Reaches (.beat gt valid corr uncorr) s (fun t => t.dev.tick.budDue = true
        ∧ t.dev.tick.timersDue = true ∧ t.dev.tick.lastBud = some (s.dev.tick.mono + 1)
        ∧ t.dev.missSent = false ∧ t.dev.mbox.ovSent = [])) ∧
  (∀ (gt : BitVec 64) (valid : Bool) (corr : Nat) (uncorr : Option Nat) (s : State),
      s.settled = true →
      (match s.dev.wrd.swap with | .held _ => false | .turned _ => false | _ => true) = true →
      exec (.beat gt valid corr uncorr) s = .next (s.act (fun (d : Dev) =>
        let a : Dev := ((((((d.beatEnds.edge).beatShift).beatTime).pfLatch).alignBeat gt.toNat valid).thermBeat).grid;
        let b : Dev := ((((((if a.tick.budDue then a.budStrobe else a).baroBeat
          d.tick.b).hbBeat).isoBeat).fcPromote).ppRequests).edge;
        let g : Dev := ((b.govPolicy).govProchot).govFitness;
        let l : Dev × Option Bool := if g.held 0x01 then (g, none) else ((g.govLimits.1).govEscalate g.govLimits.2,
          some (g.govLimits.2.all (fun r => r.below)));
        let t : Dev := (l.1.govFdown).govTarget l.2;
        let c : Dev := (upto t.nRails).foldl (fun (e : Dev) n => e.govRail n) t;
        let v : Dev := (if l.1.held 0x02 then l.1 else (((upto c.doms.length).foldl (fun (e : Dev) m => e.domainStep
          e.gov.target m) c).govNeeds).govCeiling).clockScan;
        let m : Dev := ((v.thrLatch b.gov.capSrc).askBeat).ledMeasure;
        let h : Dev := if a.tick.budDue then m.ledInterval else m;
        let p : Dev := ((((if (h.hintStamp).held 0x03 then (h.hintStamp).hintHeld else
          (h.hintStamp).hintRetire).ledBeat).stepBeat).fcBeat h.fcRaw a.tick.budDue corr uncorr);
        let z : Dev := (((if p.held 0x06 then p.dzHeld else p.dzBeat).edge).task31).updTick (fun k => { k with
          timersDue := true, timersBud := a.tick.budDue });
        (exEnterAll 8192 z).served 0x01 0x08)))

/-- RAIL_TICK counts the RAIL strobes of the beat up to four, and its fixed tasks that missed their window are held no
longer than this tick (log entry 10); it runs the scoreboard, then tasks 0x0A to 0x0E over the rails, a calibration,
the clock handshakes that new voltages allow, and the timers of a beat that waited for it. THERM_TICK, ISOBAR_SLOT and
BUDGET_TICK act on a tick that has started and leave none started; of the tasks of a THERM tick one that misses its
window holds its outputs (log entries 10, 34): with 0x11 held the temperatures, the zones and the cap, with 0x10 held
the codes and the states of the segments. BUDGET_TICK runs the BUDGET tick that has started, with the timers of its
beat. A slot in ISO_OFF sends nothing and gives up a SUM that is due (log entry 36); in switch reduction in ISO_RUN it
contributes C_local and the CEIL register shows it. What the tasks compute is stated with their engines: 0x0A in
RailLoopAndCoefficients, 0x0B in PhaseControlWrites, 0x0C in LeasesEndAndRequestsAge, 0x0D in VoltageSenseLoss, 0x10
and 0x11 in ThermalSensorsAndZones, 0x30 in GrantsAsksAndCardPower. Rests on: R73, R81, R82, R83, R86, R337. -/
def Obligations.TicksRunOnce : Prop :=
  (∀ (vs : List (List Nat)) (s : State),
      s.settled = true →
      Reaches (.railTick vs) s (fun t => t.dev.tick.railIdx = min 4 (s.dev.tick.railIdx + 1)
        ∧ t.dev.tick.b = s.dev.tick.b ∧ t.dev.tick.mono = s.dev.tick.mono
        ∧ t.dev.tick.ref = s.dev.tick.ref ∧ t.dev.tick.align = s.dev.tick.align
        ∧ t.dev.tick.missed = s.dev.tick.missed.filter (fun k => decide (k < 0x0A) || decide (0x0E < k))
        ∧ t.pending = s.pending)) ∧
  (∀ (ring : List (List (BitVec 24)) × List (Option (BitVec 14))) (cs : BitVec 14 × Bool) (s : State),
      s.settled = true →
      cs.2 = false →
      s.dev.tick.thermDue = 2 →
      s.dev.tick.missed.contains 0x11 = true →
      s.dev.tick.missed.contains 0x10 = true →
      exec (.thermTick ring cs) s = .next (s.ends [] [] { s.dev with
        therm := { s.dev.therm with
          ts := s.dev.therm.ts.zipIdx.map (fun (x : Sens × Nat) => { x.1 with
            conv := (ring.2.map (fun (r : Option (BitVec 14)) => r.map (fun (y : BitVec 14) => y.toNat))).getD x.2
              none }) }, tick := { s.dev.tick with
          thermDue := 0, missed := s.dev.tick.missed.filter (fun k => k != 0x10 && k != 0x11) } })) ∧
  (∀ (ring : List (List (BitVec 24)) × List (Option (BitVec 14))) (cs : BitVec 14 × Bool) (s : State),
      s.settled = true →
      cs.2 = false →
      s.dev.tick.thermDue = 2 →
      s.dev.tick.missed = [0x11] →
      Reaches (.thermTick ring cs) s (fun t => t.dev.tick.thermDue = 0 ∧ t.dev.tick.missed = []
        ∧ t.dev.gov = s.dev.gov ∧ t.dev.therm.zones = s.dev.therm.zones
        ∧ t.dev.therm.cap = s.dev.therm.cap ∧ t.dev.therm.xt = s.dev.therm.xt
        ∧ t.dev.therm.g = s.dev.therm.g ∧ t.dev.therm.cs = s.dev.therm.cs ∧ t.dev.therm.ts.map (fun (x : Sens) =>
        (x.valid, x.temp)) = s.dev.therm.ts.map (fun (x : Sens) => (x.valid, x.temp)))) ∧
  (∀ (ring : List (List (BitVec 24)) × List (Option (BitVec 14))) (cs : BitVec 14 × Bool) (s : State),
      s.settled = true →
      cs.2 = false →
      s.dev.tick.thermDue = 2 →
      s.dev.tick.missed = [0x10] →
      Reaches (.thermTick ring cs) s (fun t => t.dev.tick.thermDue = 0 ∧ t.dev.tick.missed = []
        ∧ t.dev.gov.thermCap = t.dev.therm.cap ∧ t.dev.therm.segs = s.dev.therm.segs
        ∧ t.dev.therm.ts.map (fun (x : Sens) => x.raw) = s.dev.therm.ts.map (fun (x : Sens) => x.raw))) ∧
  (∀ (ring : List (List (BitVec 24)) × List (Option (BitVec 14))) (cs : BitVec 14 × Bool) (s : State),
      s.settled = true →
      cs.2 = false →
      s.dev.tick.thermDue = 2 →
      s.dev.tick.missed = [] →
      Reaches (.thermTick ring cs) s (fun t => t.dev.tick.thermDue = 0
        ∧ t.dev.tick.b = s.dev.tick.b ∧ t.dev.gov.thermCap = t.dev.therm.cap
        ∧ t.dev.gov.zones = (List.range 32).map (fun z => if (t.dev.zone z).conf then some (t.dev.zone z).max_ else
        none))) ∧
  (∀ (s : State),
      s.settled = true →
      s.dev.tick.isoDue = true →
      s.dev.iso.st = .off →
      s.dev.iso.combPend = false →
      s.dev.iso.comb = false →
      exec .isobarSlot s = .next (s.ends [] [] { s.dev with
        iso := { s.dev.iso with sumDue := false },
        tick := { s.dev.tick with isoDue := false, missed := s.dev.tick.missed.filter (fun k => k != 0x20) } })) ∧
  (∀ (s : State),
      s.settled = true →
      s.dev.tick.isoDue = true →
      s.dev.tick.missed.contains 0x20 = false →
      s.dev.iso.st = .run →
      s.dev.iso.comb = false →
      s.dev.iso.combPend = false →
      s.dev.iso.sumDue = false →
      exec .isobarSlot s = .next (s.ends [] [.fabTx (isoMsg s.dev.iso.cfg 1 0 s.dev.tick.b (minPayload (putAt
        s.dev.iso.ceil 48 + putAt s.dev.iso.cfg.index 32 + s.dev.iso.cause) (bnat s.dev.isoRise) (bnat
        (!s.dev.iso.checkBad)) 0 1 s.dev.iso.cfg.index)) s.dev.iso.cfg.red true (s.dev.rd ISOBAR.FAB_CLASS_CLASS)] ({
        s.dev with
        tick := { s.dev.tick with isoDue := false, missed := s.dev.tick.missed.filter (fun k => k != 0x20) }, iso := {
          s.dev.iso with round := some ⟨s.dev.tick.b, s.dev.iso.ceil, s.dev.iso.last⟩, last := some s.dev.tick.b }
          }.wr ISOBAR.CEIL_SENT s.dev.iso.ceil))) ∧
  (∀ (load : Nat) (s : State),
      s.settled = true →
      s.dev.tick.budDue = true →
      Reaches (.budgetTick load) s (fun t => t.dev.tick.budDue = false
        ∧ t.dev.tick.b = s.dev.tick.b ∧ t.dev.tick.mono = s.dev.tick.mono
        ∧ t.dev.tick.missed = (if s.dev.tick.timersDue = true ∧ s.dev.tick.railIdx ≠ 0
        ∧ s.dev.tick.isoDue = false then s.dev.tick.missed.filter (fun k => k != 0x30 && k != 0x09) else
        s.dev.tick.missed.filter (fun k => k != 0x30))
        ∧ t.dev.tick.timersDue = (s.dev.tick.timersDue && (s.dev.tick.railIdx == 0 || s.dev.tick.isoDue))
        ∧ t.pending = s.pending)) ∧
  (∀ (load : Nat) (s : State),
      s.settled = true →
      s.dev.tick.budDue = true →
      exec (.budgetTick load) s = .next (s.act (fun (d : Dev) =>
        let a : Dev := ((d.updTick (fun k => { k with budDue := false, ageDue := k.ageDue + 1 })).grantCount).task30;
        ((((({ a with gov := { a.gov with pinAge := a.gov.pinAge.map (· + 1) } }).fwShed load).grantAnswer).baroBudget
          s.opTime).edgeTimers).served 0x30 0x30))) ∧
  (∀ (vs : List (List Nat)) (s : State),
      s.settled = true →
      exec (.railTick vs) s = .next (s.act (fun (d : Dev) =>
        let i : Nat := min 4 (d.tick.railIdx + 1);
        let a : Dev := { d with tick := { d.tick with railIdx := i, cyc := 300 * (i - 1) } };
        let b : Dev := (((if i = 1 then a else a.pfLatch).railLatch).creditStrobes).inject;
        let c : Dev := ((if b.held 0x0A then b else (upto b.nRails).foldl (fun (e : Dev) n => e.task0A n (e.samplesOf
          vs n)) b).tuneCapture).calTick;
        let f : Dev := if c.held 0x0B then c else (upto c.nRails).foldl (fun (e : Dev) n => e.task0B n) c;
        let g : Dev := if f.held 0x0C then f else f.task0C;
        let h : Dev := if g.held 0x0D then g else (upto g.nRails).foldl (fun (e : Dev) n => e.task0D n !(e.samplesOf
          vs n).isEmpty) g;
        let k : Dev := (if h.held 0x0E then h else ((upto h.nRails).foldl (fun (e : Dev) n => e.avsTimeout n)
          h).creditTimers).served 0x0A 0x0E;
        ((((upto k.nRails).foldl (fun (e : Dev) n => e.promote n) k).calGapEnd).calPulseEnd).clockScan.edgeTimers))) ∧
  (∀ (ring : List (List (BitVec 24)) × List (Option (BitVec 14))) (cs : BitVec 14 × Bool) (s : State),
      s.settled = true →
      cs.2 = false →
      s.dev.tick.thermDue = 2 →
      s.dev.tick.missed = [] →
      exec (.thermTick ring cs) s = .next (s.act (fun (d : Dev) =>
        let a : Dev := { d with
          therm := { d.therm with
            ts := d.therm.ts.zipIdx.map (fun (x : Sens × Nat) => { x.1 with
              conv := (ring.2.map (fun (r : Option (BitVec 14)) => r.map (fun (y : BitVec 14) => y.toNat))).getD x.2
                none }) }, tick := { d.tick with thermDue := 0 } };
        (a.ringPass ((upto 4).map (fun k => d.segWords k ((ring.1.map (fun (l : List (BitVec 24)) => l.map (fun (x :
          BitVec 24) => x.toNat))).getD k [])))).task11 cs.1.toNat)))

/-- TICK_FIXED_OVERRUN counts, records the task and raises TICK_FIXED_OVERRUN, and the task's coming run is held (log
entry 10). TICK_OVERRUN counts in the counter of its task and raises TICK_OVERRUN: an overrun of task 0x07 marks the
open records of the ledger from tag 16 up, those in the store or still being fetched included, unless the tag is
closing (log entry 39), one of 0x08 drops the beat's samples still to be taken, one of 0x31 holds the commit, one of
0x05 in its beat stops the evaluation (log entry 11); in switch reduction one of 0x21 changes nothing else.
GT_VALID_FALL enters FREE and counts. Rests on: R78, R83, R84, R332. -/
def Obligations.OverrunsCountAndHold : Prop :=
  (∀ (k : Nat) (s : State),
      s.settled = true →
      k ∈ fixedTasks →
      exec (.tickFixedOverrun k) s = .next (s.ends [s.event Ev.TICK_FIXED_OVERRUN k] [] { ((s.dev.wr
        TICK.FIXED_OVR_COUNT (min (2 ^ TICK.FIXED_OVR_COUNT.wid - 1) (s.dev.rd TICK.FIXED_OVR_COUNT + 1))).wr
        TICK.FIXED_OVR_LAST_TASK k) with tick := { s.dev.tick with missed := insertAsc k s.dev.tick.missed } })) ∧
  (∀ (k : Nat) (s : State),
      s.settled = true →
      k = 0x07 →
      exec (.tickOverrun k) s = .next (s.ends [s.event Ev.TICK_OVERRUN 0x07] [] { (s.dev.bump TICK.OVR_LEDGER_COUNT)
        with
        led := { s.dev.led with
          cutShort := true, lines := s.dev.led.lines.map (fun (x : Line) => if decide (16 ≤ x.tag) && (x.st == .open_
            || (x.fetch && !x.closing)) then { x with overrun := true, dirty := true } else x), away :=
            s.dev.led.away.map (fun (e : Nat × Bool) => (e.1, e.2 || !(s.dev.led.ends.any (fun x => x.tag == e.1) ||
            s.dev.led.lines.any (fun (x : Line) => x.tag == e.1 && x.closing)))) } })) ∧
  (∀ (k : Nat) (s : State),
      s.settled = true →
      k = 0x31 →
      exec (.tickOverrun k) s = .next (s.ends [s.event Ev.TICK_OVERRUN 0x31] [] { (s.dev.bump TICK.OVR_AGEING_COUNT)
        with baro := { s.dev.baro with held := true } })) ∧
  (∀ (k : Nat) (s : State),
      s.settled = true →
      k = 0x21 →
      s.dev.iso.comb = false →
      exec (.tickOverrun k) s = .next (s.ends [s.event Ev.TICK_OVERRUN 0x21] [] (s.dev.bump TICK.OVR_ISOBAR_COUNT))) ∧
  (∀ (k : Nat) (s : State),
      s.settled = true →
      k = 0x08 →
      Reaches (.tickOverrun k) s (fun t => t.dev.baro.todo = [] ∧ t.dev.rd TICK.OVR_BARO_COUNT = min (2 ^
        TICK.OVR_BARO_COUNT.wid - 1) (s.dev.rd TICK.OVR_BARO_COUNT + 1) ∧ t.dev.rd BARO.LOSTBEATS_COUNT = min (2 ^
        BARO.LOSTBEATS_COUNT.wid - 1) (s.dev.rd BARO.LOSTBEATS_COUNT + 1)
        ∧ t.hdr = s.hdr.enter (s.event Ev.TICK_OVERRUN 8) ∧ t.dev = { s.dev with
        out := [], regs := t.dev.regs, baro := { s.dev.baro with todo := [], wins := t.dev.baro.wins } }
        ∧ RegsAgree [TICK.OVR_BARO_COUNT.key 0 0, BARO.LOSTBEATS_COUNT.key 0 0] s.dev.regs t.dev.regs)) ∧
  (∀ (k : Nat) (s : State),
      s.settled = true →
      k = 0x05 →
      s.dev.fc.late = true →
      exec (.tickOverrun k) s = .next (s.ends [s.event Ev.TICK_OVERRUN 0x05] [] { (s.dev.bump TICK.OVR_FCAST_COUNT)
        with fc := { s.dev.fc with late := false, overran := true, nxt := none } })) ∧
  (∀ (s : State),
      s.settled = true →
      s.dev.iso.st = .off ∨ s.dev.iso.st = .wait ∨ s.dev.iso.st = .departed →
      exec .gtValidFall s = .next (s.ends [s.event Ev.TICK_GT_LOST] [] { (s.dev.bump TICK.GT_LOSSES_COUNT) with
        tick := { s.dev.tick with align := .free, gtValid := false, gtWhole := false, err := 0 } })) ∧
  (∀ (s : State),
      s.settled = true →
      s.dev.iso.st = .run →
      Reaches (.gtValidFall) s (fun t => t.dev.iso.st = .wait ∧ t.dev.iso.back = .run
        ∧ t.dev.iso.pend = [] ∧ t.dev.iso.round = none ∧ t.dev.tick = { s.dev.tick with
        align := .free, gtValid := false, gtWhole := false, err := 0 }
        ∧ t.hdr = s.hdr.enterAll [s.event Ev.TICK_GT_LOST, s.event Ev.ISOBAR_STATE IsoSt.wait.code]))

/-- FORWARD_SLOT of a slot that starts in the RAIL tick in progress, after every slot sent before on that link, sends
one frame, coded in fifty bits from the running disparity of the slot before, or the static level: an immediate
TURN_ON (OFF here) first; without one TRAIN while the link trains, the oldest waiting frame in CONFIG, the static
level on a link that is DOWN with EN = 0, and IDLE on an UP link of a phase that is OFF with no frame waiting. A slot
of another RAIL tick, or not after the last one sent, changes nothing. Nothing else changes. That an immediate TURN_ON
still owed goes before the static level at EN = 0 is log entry 94, and that a FAULTED phase whose link is DOWN with EN
= 1 trains is log entry 106. Rests on: R120, R123, R124, R129, R134. -/
def Obligations.ForwardSlotsSendTheDueFrame : Prop :=
  (∀ (p : Nat) (q : Nat) (s : State),
      s.settled = true →
      p < s.dev.phases.length →
      s.dev.slotOpen p q = true →
      (s.dev.phase p).imm = some 2 →
      exec (.forwardSlot p q) s = .next (s.ends [] [] (s.dev.updPhase p (fun x => (({ x with fwd := some q } :
        Phase).turnOn (50 * (q + 1) + 16) (s.dev.rd RAIL.PWM_TMAX (s.dev.phRail p)) false |> fun (x : Phase) => { x
        with imm := none, thrFor := none }).emit (some (frTurnOn 2 16)))))) ∧
  (∀ (p : Nat) (q : Nat) (s : State),
      s.settled = true →
      p < s.dev.phases.length →
      s.dev.slotOpen p q = true →
      (s.dev.phase p).imm = none →
      (s.dev.phase p).link = .train →
      exec (.forwardSlot p q) s = .next (s.ends [] [] (s.dev.updPhase p (fun x => (({ x with fwd := some q } :
        Phase).sentIn q).emit (some frTrain))))) ∧
  (∀ (p : Nat) (q : Nat) (f : Nat) (r : List Nat) (s : State),
      s.settled = true →
      p < s.dev.phases.length →
      s.dev.slotOpen p q = true →
      (s.dev.phase p).imm = none →
      (s.dev.phase p).link = .config →
      (s.dev.phase p).tx = f :: r →
      exec (.forwardSlot p q) s = .next (s.ends [] [] (s.dev.updPhase p (fun x => (({ x with fwd := some q, tx := r }
        : Phase).sentIn q).emit (some f))))) ∧
  (∀ (p : Nat) (q : Nat) (s : State),
      s.settled = true →
      p < s.dev.phases.length →
      s.dev.slotOpen p q = true →
      (s.dev.phase p).imm = none →
      (s.dev.phase p).link = .down →
      s.dev.phEn p = false →
      exec (.forwardSlot p q) s = .next (s.ends [] [] (s.dev.updPhase p (fun x => ({ x with fwd := some q } :
        Phase).emit none)))) ∧
  (∀ (p : Nat) (q : Nat) (s : State),
      s.settled = true →
      p < s.dev.phases.length →
      s.dev.slotOpen p q = true →
      (s.dev.phase p).imm = none →
      (s.dev.phase p).link = .up →
      (s.dev.phase p).st = .off →
      (s.dev.phase p).tx = [] →
      exec (.forwardSlot p q) s = .next (s.ends [] [] (s.dev.updPhase p (fun x => ({ x with fwd := some q } :
        Phase).emit (some frIdle))))) ∧
  (∀ (p : Nat) (q : Nat) (s : State),
      s.settled = true →
      s.dev.slotOpen p q = false →
      exec (.forwardSlot p q) s = .next (s.ends [] [] s.dev))

/-- RETURN_FRAME decodes the fifty received bits with the running disparity of the slot before, and keeps that after
it. With a valid ONT_LO frame on an UP link whose fault bit is clear takes its current sample into the sums of the
phase, keeps the low half of the on-time, and is recorded as valid. An invalid slot (comma, code table, disparity or
CRC wrong) counts RX_BAD and raises PHASE_RX_ERR once per BUDGET tick while fewer than four of the last eight were
invalid. In TRAIN the 64th consecutive valid TRAIN return enters step 2. LINK_STEP_TIMEOUT after the limit of the step
restarts a failed attempt, changes nothing before it, and after the third faults the phase with cause 0x1. The running
disparity at the start of a link is presumed (log entry 69). Rests on: R120, R122, R125, R129, R130, R144, R177. -/
def Obligations.ReturnSlotsAreTakenWhole : Prop :=
  (∀ (p : Nat) (m : Nat) (code : BitVec 50) (w : Nat) (rd : Bool) (s : State),
      s.settled = true →
      p < s.dev.phases.length →
      (s.dev.phase p).link = .up →
      decSlot (s.dev.phase p).rxRd code.toNat = (some w, rd) →
      bitsAt w 28 3 = 1 →
      bitsAt w 31 1 = 0 →
      exec (.returnFrame p m code) s = .next (s.ends [] [] (s.dev.updPhase p (fun x => { x.sample (signedOf 12 (bitsAt
        w 16 12)) with
        rxRd := rd, tempAge := x.tempAge.map (fun g => min 64 (g + 1)), hist := (true :: x.hist).take 8,
        lo := some (1, bitsAt w 8 8), ons := (x.reported m).ons })))) ∧
  (∀ (p : Nat) (m : Nat) (code : BitVec 50) (rd : Bool) (s : State),
      s.settled = true →
      p < s.dev.phases.length →
      (s.dev.phase p).link = .up →
      decSlot (s.dev.phase p).rxRd code.toNat = (none, rd) →
      (s.dev.phase p).rxErrSent = false →
      ((false :: (s.dev.phase p).hist).take 8).countP (fun v => !v) < 4 →
      exec (.returnFrame p m code) s = .next (s.ends [s.event Ev.PHASE_RX_ERR p (p / 40)] [] ((s.dev.updPhase p (fun x
        => { x with
        rxRd := rd, tempAge := x.tempAge.map (fun g => min 64 (g + 1)), hist := (false :: x.hist).take 8,
        rxErrSent := true })).bump PHASE.ERRCNT_RX_BAD (p / 40) (p % 40)))) ∧
  (∀ (p : Nat) (m : Nat) (code : BitVec 50) (w : Nat) (rd : Bool) (s : State),
      s.settled = true →
      p < s.dev.phases.length →
      (s.dev.phase p).link = .train →
      decSlot (s.dev.phase p).rxRd code.toNat = (some w, rd) →
      bitsAt w 28 3 = 7 →
      (s.dev.phase p).trainRun = 63 →
      exec (.returnFrame p m code) s = .next (s.ends [] [] (s.dev.updPhase p (fun x => { x with
        rxRd := rd, tempAge := x.tempAge.map (fun g => min 64 (g + 1)), link := .config, step := 2, slots := 0,
        sentAt := none, tx := [frRead 0], lo := none })))) ∧
  (∀ (p : Nat) (s : State),
      s.settled = true →
      p < s.dev.phases.length →
      (s.dev.phase p).limitPassed = false →
      exec (.linkStepTimeout p) s = .next (s.ends [] [] s.dev)) ∧
  (∀ (p : Nat) (s : State),
      s.settled = true →
      p < s.dev.phases.length →
      (s.dev.phase p).limitPassed = true →
      (s.dev.phase p).attempts < 2 →
      exec (.linkStepTimeout p) s = .next (s.ends [] [] (s.dev.updPhase p (fun x => { x with
        link := .train, step := 1, attempts := x.attempts + 1, trainRun := 0, slots := 0, sentAt := none, tx := [],
        lo := none })))) ∧
  (∀ (p : Nat) (s : State),
      s.settled = true →
      p < s.dev.phases.length →
      (s.dev.phase p).limitPassed = true →
      (s.dev.phase p).attempts = 2 →
      s.dev.tune.st = .idle →
      s.dev.cal.st = .idle →
      Reaches (.linkStepTimeout p) s (fun t => (t.dev.phase p).st = .faulted ∧ (t.dev.phase p).fcause = 1
        ∧ (t.dev.phase p).link = .down ∧ t.hdr = s.hdr.enter (s.event Ev.PHASE_LINK_FAIL p (p / 40))
        ∧ t.aon = s.aon ∧ t.dev = { s.dev with
        out := [], regs := t.dev.regs, phases := t.dev.phases, rails := t.dev.rails } ∧ (∀ o, o ≠ p → t.dev.phase o =
        s.dev.phase o)))

/-- PHASE_EN_WRITE with EN rising in OFF on a rail in direct control starts link bring-up from step 1; EN falling in
OFF takes the link DOWN and cancels a change of the active set that waits for the phase. PHASE_RETRAIN in OFF with EN
= 1 starts bring-up again. PHASE_CLEAR in FAULTED, while no phase of the rail switches, returns a phase with EN = 0 to
OFF with cause and trim cleared, and starts a bring-up where EN = 1. PHASE_FORCED adds a switching phase of the rail
to those to be removed. RAIL_CYCLE_START applies a due addition: the SHED phase enters the active set and ACTIVE.
Nothing else changes. The current distribution of a RAIL tick (task 0x0B), function by function: the peak threshold of
R135; avg, ok and I_sum of the samples; the trims of R136 and when they are frozen; add, shed and the shed count of
R137; the entry and exit of braking; the burst of R140, which does not restart the shed count (log entry 97); and
their order. Rests on: R129, R133, R143, R144, R179, R135, R136, R137, R138, R139, R140, R141. -/
def Obligations.PhaseControlWrites : Prop :=
  (∀ (p : Nat) (a : Acc) (v : BitVec 32) (s : State),
      s.settled = true →
      p < 80 →
      p < s.dev.phases.length →
      s.dev.ready (0x06 + p / 40) = true →
      a.privOk = true →
      (s.dev.phase p).st = .off →
      s.dev.phEn p = false →
      bitsAt v.toNat 0 3 = 1 →
      s.dev.avs (bitsAt v.toNat 16 3) = false →
      exec (.phaseEnWrite p a v) s = .next (s.ends [] [] ((s.dev.stores [PHASE.CTRL_RAIL, PHASE.CTRL_EN] (p / 40) (p %
        40) v).updPhase p (fun x => { x with
        link := .train, step := 1, attempts := 0, trainRun := 0, slots := 0, sentAt := none, tx := [], lo := none,
        hist := [], clearing := false })))) ∧
  (∀ (p : Nat) (a : Acc) (v : BitVec 32) (s : State),
      s.settled = true →
      p < 80 →
      p < s.dev.phases.length →
      s.dev.ready (0x06 + p / 40) = true →
      a.privOk = true →
      (s.dev.phase p).st = .off →
      s.dev.phEn p = true →
      bitsAt v.toNat 0 3 = 0 →
      bitsAt v.toNat 16 3 = s.dev.phRail p →
      exec (.phaseEnWrite p a v) s = .next (s.ends [] [] (((s.dev.stores [PHASE.CTRL_RAIL, PHASE.CTRL_EN] (p / 40) (p
        % 40) v).updPhase p (fun x => { x with link := .down, step := 0, tx := [], clearing := false })).updSw
        (s.dev.phRail p) (fun x => { x with chg := x.chg.filter (fun (c : SetChg) => c.ph != p || c.fault) })))) ∧
  (∀ (p : Nat) (a : Acc) (v : BitVec 32) (s : State),
      s.settled = true →
      p < 80 →
      p < s.dev.phases.length →
      s.dev.ready (0x06 + p / 40) = true →
      a.privOk = true →
      (s.dev.phase p).st = .off →
      s.dev.phEn p = true →
      bitsAt v.toNat 0 3 = 5 →
      bitsAt v.toNat 16 3 = s.dev.phRail p →
      s.dev.avs (s.dev.phRail p) = false →
      exec (.phaseRetrain p a v) s = .next (s.ends [] [] ((s.dev.stores [PHASE.CTRL_RAIL, PHASE.CTRL_EN] (p / 40) (p %
        40) v).updPhase p (fun x => { x with
        link := .train, step := 1, attempts := 0, trainRun := 0, slots := 0, sentAt := none, tx := [], lo := none,
        hist := [], clearing := false })))) ∧
  (∀ (p : Nat) (a : Acc) (v : BitVec 32) (s : State),
      s.settled = true →
      p < 80 →
      p < s.dev.phases.length →
      s.dev.ready (0x06 + p / 40) = true →
      a.privOk = true →
      (s.dev.phase p).st = .faulted →
      s.dev.railSwitching (s.dev.phRail p) = false →
      s.dev.phEn p = false →
      bitsAt v.toNat 0 3 = 2 →
      bitsAt v.toNat 16 3 = s.dev.phRail p →
      exec (.phaseClear p a v) s = .next (s.ends [] [] ((s.dev.stores [PHASE.CTRL_RAIL, PHASE.CTRL_EN] (p / 40) (p %
        40) v).updPhase p (fun x => { x with st := .off, link := .down, trim := 0, fcause := 0 })))) ∧
  (∀ (p : Nat) (a : Acc) (v : BitVec 32) (s : State),
      s.settled = true →
      p < 80 →
      p < s.dev.phases.length →
      s.dev.ready (0x06 + p / 40) = true →
      a.privOk = true →
      (s.dev.phase p).st = .faulted →
      s.dev.railSwitching (s.dev.phRail p) = false →
      s.dev.phEn p = true →
      bitsAt v.toNat 0 3 = 3 →
      bitsAt v.toNat 16 3 = s.dev.phRail p →
      s.dev.avs (s.dev.phRail p) = false →
      exec (.phaseClear p a v) s = .next (s.ends [] [] ((s.dev.stores [PHASE.CTRL_RAIL, PHASE.CTRL_EN] (p / 40) (p %
        40) v).updPhase p (fun x => { x with
        link := .train, step := 1, attempts := 0, trainRun := 0, slots := 0, sentAt := none, tx := [], lo := none,
        hist := [], clearing := true })))) ∧
  (∀ (n : Nat) (a : Acc) (v : BitVec 32) (s : State),
      s.settled = true →
      n < 8 →
      n < s.dev.rails.length →
      s.dev.ready (0x08 + n) = true →
      a.privOk = true →
      bitsAt v.toNat 31 1 = 1 →
      bitsAt v.toNat 0 7 < s.dev.phases.length →
      s.dev.phRail (bitsAt v.toNat 0 7) = n →
      (s.dev.phase (bitsAt v.toNat 0 7)).st.switching = true →
      exec (.phaseForced n a v) s = .next (s.ends [] [] (s.dev.updFlt n (fun x => { x with
        finj := insertAsc (bitsAt v.toNat 0 7) x.finj })))) ∧
  (∀ (n : Nat) (c : Nat) (p : Nat) (b : Nat) (f : Bool) (s : State),
      s.settled = true →
      n < s.dev.rails.length →
      ((c : Int) - ((3 * n : Nat) : Int)) % ((max (s.dev.rd RAIL.PWM_PERIOD n) 1 : Nat) : Int) = 0 →
      (s.dev.rail n).sw.chg = [⟨p, true, b, f⟩] →
      (s.dev.rail n).sw.braking = false ∨ f = true →
      b ≤ c →
      (s.dev.phase p).st = .shed →
      exec (.railCycleStart n c) s = .next (s.ends [] [] ((s.dev.updPhase p (fun x => { x.enter.toActive with
        offRank := none })).updSw n (fun q => { q with
        grid := insertAsc p q.grid, chg := [],
        nChanged := q.nChanged || (insertAsc p q.grid).length != q.grid.length })))) ∧
  (∀ (d : Dev) (p : Nat) (k : Nat),
      let b : Int := (2 * (((d.rail (d.phRail p)).loop.icmdLat : Int) * 4 * (1024 + (d.phase p).trim)) + 1024 * k) /
        (2 * (1024 * k))
      let c : Int := ((2 * (d.rdPh PHASE.CFG_SLOPE p * (d.phase p).ontUse) + 400) / 800 : Nat)
      0 < k →
      (d.ipkOf p k : Int) = min ((d.rdPh PHASE.CFG_IPK_MAX p : Nat) : Int) (max 0 (b + c))) ∧
  (∀ (d : Dev) (n : Nat) (p : Nat) (set : List Nat),
      p < d.phases.length →
      d.phRail p = n →
      d.activeSet n = set →
      set.contains p = true →
      4 ≤ (d.phase p).accCnt →
      ((d.takeSamples n).phase p).ok = true ∧ ((d.takeSamples n).phase p).avg = (2 * (d.phase p).accSum + (d.phase
        p).accCnt) / (2 * (d.phase p).accCnt) ∧ ((d.takeSamples n).phase p).accCnt = 0
        ∧ ((d.takeSamples n).phase p).accSum = 0) ∧
  (∀ (d : Dev) (n : Nat) (p : Nat),
      p < d.phases.length →
      d.phRail p = n →
      (d.activeSet n).contains p = false ∨ (d.phase p).accCnt < 4 →
      ((d.takeSamples n).phase p).ok = false ∧ ((d.takeSamples n).phase p).avg = (d.phase p).avg
        ∧ ((d.takeSamples n).phase p).accCnt = 0) ∧
  (∀ (d : Dev) (n : Nat),
      n < d.rails.length →
      ((d.takeSamples n).rail n).loop.isum = sumI ((d.activeSet n).map (fun q => ((d.takeSamples n).phase q).avg))) ∧
  (∀ (d : Dev) (n : Nat) (p : Nat),
      let set : List Nat := (d.activeSet n).filter (fun q => (d.phase q).ok)
      let m : Int := (2 * sumI (set.map (fun q => (d.phase q).avg)) + set.length) / (2 * set.length)
      let step : Nat → Int := fun q => (d.phase q).trim - rshift (Int.tdiv (((d.phase q).avg - m) * 1024) m) (d.rd
        RAIL.BAL_SHIFT n)
      n < d.rails.length →
      (d.rail n).sw.grid.Nodup →
      d.anyPh n .softstart = false →
      d.anyPh n .brake = false →
      1 < (d.rail n).sw.sinceBurst →
      (d.rail n).sw.nPause = false →
      (d.rail n).loop.opened = false →
      d.on RAIL.BAL_EN n = true →
      2 ≤ set.length →
      32 ≤ m →
      p ∈ set →
      ((d.trims n).phase p).trim = clampI (step p - Int.tdiv (sumI (set.map step)) set.length) (-128) 128
        ∧ (d.trims n).rails = d.rails) ∧
  (∀ (d : Dev) (n : Nat),
      d.anyPh n .softstart = true ∨ d.anyPh n .brake = true ∨ (d.rail n).sw.sinceBurst ≤ 1
        ∨ (d.rail n).sw.nPause = true ∨ (d.rail n).loop.opened = true ∨ d.on RAIL.BAL_EN n = false →
      d.trims n = d) ∧
  (∀ (d : Dev) (n : Nat),
      let sw : RailSw := (d.rail n).sw
      let want : Nat := ceilDiv (d.rail n).loop.isum.toNat (d.rd RAIL.ADDSHED_ADD_I n)
      let least : Nat := sw.gridEnd.length
      let free : List Nat := (d.phasesOf n).filter (fun p => (d.phase p).st == .shed && !(sw.chg.any (fun c => c.ph ==
        p)))
      let total : Nat := ((d.phasesOf n).filter (fun p => (d.phase p).st == .active || (d.phase p).st ==
        .shed)).length
      n < d.rails.length →
      d.anyPh n .softstart = false →
      d.anyPh n .brake = false →
      (d.rail n).loop.opened = false →
      (d.rail n).cmd.st ≠ .starting →
      (d.rail n).flt.vsLost = false →
      least < want →
      ((d.addShed n).rail n).sw.chg = sw.chg ++ (free.take (min total want - least)).map (fun p => ⟨p, true,
        d.boundary n, false⟩) ∧ ((d.addShed n).rail n).sw.shedCnt = 0) ∧
  (∀ (d : Dev) (n : Nat) (p : Nat),
      let sw : RailSw := (d.rail n).sw
      let want : Nat := ceilDiv (d.rail n).loop.isum.toNat (d.rd RAIL.ADDSHED_ADD_I n)
      let least : Nat := sw.gridEnd.length
      n < d.rails.length →
      d.anyPh n .softstart = false →
      d.anyPh n .brake = false →
      (d.rail n).loop.opened = false →
      (d.rail n).cmd.st ≠ .starting →
      (d.rail n).flt.vsLost = false →
      want ≤ least →
      d.rd RAIL.PHCOUNT_MIN_ACTIVE n < least →
      (d.rail n).loop.isum < ((d.rd RAIL.ADDSHED_SHED_I n * (least - 1) : Nat) : Int) →
      d.rd RAIL.PHCOUNT_SHED_HOLD n ≤ sw.shedCnt + 1 →
      ((d.phasesOf n).filter (fun p => (d.phase p).st == .active && !(sw.chg.any (fun c => c.ph == p)))).getLast? =
        some p →
      ((d.addShed n).rail n).sw.chg = sw.chg ++ [⟨p, false, d.boundary n, false⟩]
        ∧ ((d.addShed n).rail n).sw.shedCnt = 0 ∧ (d.addShed n).phases = d.phases) ∧
  (∀ (d : Dev) (n : Nat),
      let sw : RailSw := (d.rail n).sw
      let want : Nat := ceilDiv (d.rail n).loop.isum.toNat (d.rd RAIL.ADDSHED_ADD_I n)
      let least : Nat := sw.gridEnd.length
      n < d.rails.length →
      d.anyPh n .softstart = false →
      d.anyPh n .brake = false →
      (d.rail n).loop.opened = false →
      (d.rail n).cmd.st ≠ .starting →
      (d.rail n).flt.vsLost = false →
      want ≤ least →
      d.rd RAIL.PHCOUNT_MIN_ACTIVE n < least →
      (d.rail n).loop.isum < ((d.rd RAIL.ADDSHED_SHED_I n * (least - 1) : Nat) : Int) →
      sw.shedCnt + 1 < d.rd RAIL.PHCOUNT_SHED_HOLD n →
      d.addShed n = d.updSw n (fun q => { q with shedCnt := q.shedCnt + 1 })) ∧
  (∀ (d : Dev) (n : Nat),
      d.anyPh n .softstart = true ∨ d.anyPh n .brake = true ∨ (d.rail n).loop.opened = true
        ∨ (d.rail n).cmd.st = .starting ∨ (d.rail n).flt.vsLost = true →
      d.addShed n = d) ∧
  (∀ (d : Dev) (n : Nat) (p : Nat),
      n < d.rails.length →
      p < d.phases.length →
      d.phRail p = n →
      (d.phase p).st = .active →
      d.avs n = false →
      (d.rail n).loop.opened = false →
      (d.rail n).cmd.st = .settled ∨ (d.rail n).cmd.st = .slewing ∨ (d.rail n).cmd.st = .waitFreq →
      (d.rail n).flt.vsLost = false →
      d.on RAIL.BRAKE_BRAKE_EN n = true →
      (d.rail n).sw.braking = false →
      4 ≤ (d.rail n).sw.sinceBrake →
      (d.rail n).loop.r + 16 * ((d.rd RAIL.BRAKE_BRAKE_VH n : Nat) : Int) < (d.rail n).loop.vLast →
      ((d.brakeEntry n).phase p).st = .brake ∧ ((d.brakeEntry n).phase p).imm = some 2
        ∧ ((d.brakeEntry n).rail n).sw.braking = true ∧ ((d.brakeEntry n).rail n).sw.brakeT = 0) ∧
  (∀ (d : Dev) (n : Nat),
      d.on RAIL.BRAKE_BRAKE_EN n = false ∨ (d.rail n).sw.sinceBrake < 4 ∨ (d.rail n).loop.vLast ≤ (d.rail n).loop.r +
        16 * ((d.rd RAIL.BRAKE_BRAKE_VH n : Nat) : Int) ∨ d.avs n = true ∨ (d.rail n).loop.opened = true
        ∨ (d.rail n).cmd.st = .retention ∨ (d.rail n).cmd.st = .starting ∨ (d.rail n).cmd.st = .stopped →
      d.brakeEntry n = d) ∧
  (∀ (d : Dev) (n : Nat) (p : Nat),
      n < d.rails.length →
      p < d.phases.length →
      d.phRail p = n →
      (d.phase p).st = .brake →
      (d.rail n).sw.braking = true →
      (d.rail n).loop.vLast ≤ (d.rail n).loop.r + 16 * ((d.rd RAIL.BRAKE_BRAKE_VL n : Nat) : Int)
        ∨ (d.rail n).loop.isum ≤ 4 * (((d.rail n).loop.icmd + d.rd RAIL.IBAND_IBAND n : Nat) : Int)
        ∨ 7 ≤ (d.rail n).sw.brakeT →
      ((d.brakeExit n).phase p).st = .active ∧ ((d.brakeExit n).rail n).sw.braking = false
        ∧ ((d.brakeExit n).rail n).sw.sinceBrake = 0) ∧
  (∀ (d : Dev) (n : Nat),
      (d.rail n).sw.braking = true →
      (d.rail n).loop.r + 16 * ((d.rd RAIL.BRAKE_BRAKE_VL n : Nat) : Int) < (d.rail n).loop.vLast →
      4 * (((d.rail n).loop.icmd + d.rd RAIL.IBAND_IBAND n : Nat) : Int) < (d.rail n).loop.isum →
      (d.rail n).sw.brakeT < 7 →
      d.brakeExit n = d.updSw n (fun q => { q with brakeT := q.brakeT + 1 })) ∧
  (∀ (d : Dev) (n : Nat) (p : Nat),
      n < d.rails.length →
      p < d.phases.length →
      d.phRail p = n →
      (d.phase p).st = .active →
      d.avs n = false →
      (d.rail n).loop.opened = false →
      (d.rail n).cmd.st = .settled ∨ (d.rail n).cmd.st = .slewing ∨ (d.rail n).cmd.st = .waitFreq →
      (d.rail n).flt.vsLost = false →
      d.on RAIL.BRAKE_BURST_EN n = true →
      4 ≤ (d.rail n).sw.sinceBurst →
      (d.rail n).loop.vLast < (d.rail n).loop.r - 16 * ((d.rd RAIL.BRAKE_BURST_V n : Nat) : Int) →
      ((d.burst n).phase p).imm = (if (d.phase p).ons.any (fun e => e.2 && decide (e.1 ≤ 16 * d.tick.strobe) && decide
        (16 * d.tick.strobe < e.1 + d.rd RAIL.PWM_TMAX n)) then (d.phase p).imm else some 3)
        ∧ ((d.burst n).rail n).sw.sinceBurst = 0 ∧ ((d.burst n).rail n).sw.shedCnt = (d.rail n).sw.shedCnt
        ∧ ((d.phasesOf n).filter (fun q => (d.phase q).st == .shed)).all (fun q => ((d.burst n).rail n).sw.chg.any
        (fun c => c.ph == q)) = true) ∧
  (∀ (d : Dev) (n : Nat),
      d.on RAIL.BRAKE_BURST_EN n = false ∨ (d.rail n).sw.sinceBurst < 4 ∨ (d.rail n).loop.r - 16 * ((d.rd
        RAIL.BRAKE_BURST_V n : Nat) : Int) ≤ (d.rail n).loop.vLast ∨ d.avs n = true ∨ (d.rail n).loop.opened = true
        ∨ (d.rail n).cmd.st = .retention ∨ (d.rail n).cmd.st = .starting ∨ (d.rail n).cmd.st = .stopped →
      d.burst n = d) ∧
  (∀ (d : Dev) (n : Nat),
      d.task0B n = ((((((((d.updSw n (fun q => { q with
        nPause := q.nChanged, nChanged := false, sinceBrake := min 4 (q.sinceBrake + 1),
        sinceBurst := min 4 (q.sinceBurst + 1) })).takeSamples n).doRemovals n).brakeExit n).brakeEntry n).burst
        n).addShed n).trims n))

/-- RUN acts at the write (log entry 24); the compensator zeroed at a start and the pre-position at a stop are log
entry 23, a VS_LOST cleared without RESUMED entry 99, and the phases that count toward a start entry 76. RAIL_RUN with
the loop closed, its sense placed, VSTART within VLIM, no Squall latch and the profile applied takes the rail to
STARTING: soft start begins from the lower of the measured voltage and the target, the compensator, VS_LOST and
H_start are cleared, and in direct control every phase with EN = 1, link UP and OFF enters SOFTSTART, is told
discontinuous operation, and joins the active set at the next boundary; with fewer such phases than MIN_ACTIVE, or
fewer healthy ones than MIN_PHASES, RUN reads 0 again and PHASE_START_FAIL is raised, with H0 and FLOG.REMOVED anew. A
refused RUN stays 0 with RAIL_BAD_VALUE. RAIL_STOP takes the rail to STOPPED: I_cmd and the pre-position are 0, its
switching phases are OFF and get an immediate TURN_ON OFF, the active set empties, and its pending command ends
REFUSED with RAIL_CMD_REFUSED; with no held command, TUNE run, calibration, lease and waiting request on the rail,
nothing else changes. With leases and waiting requests, none of the rail is left. Rests on: R142, R155, R157, R181,
R187, R255. -/
def Obligations.RailStartAndStop : Prop :=
  (∀ (n : Nat) (a : Acc) (v : BitVec 32) (s : State),
      s.settled = true →
      n < 8 →
      n < s.dev.rails.length →
      s.dev.ready (0x08 + n) = true →
      a.privOk = true →
      bitsAt v.toNat 0 1 = 1 →
      bitsAt v.toNat 2 1 = 1 →
      s.dev.rd RAIL.CTRL_RUN n = 0 →
      bitsAt v.toNat 4 1 = s.dev.rd RAIL.CTRL_SRC n →
      bitsAt v.toNat 1 1 = s.dev.rd RAIL.CTRL_MODE n →
      s.dev.avs n = true →
      s.dev.runRefused n s.aon.squall.active (s.dev.on SEC.BOOT_PROFILE) = false →
      exec (.railRun n a v) s = .next (s.ends [] [] { ((((((s.dev.stores [RAIL.CTRL_SRC, RAIL.CTRL_MODE,
        RAIL.CTRL_RUN] n 0 v).updCmd n (fun c => { c with
        st := .starting, soft := 5 * min (s.dev.rail n).loop.v (16 * ((s.dev.rd RAIL.VSTART_TARGET n : Nat) : Int)),
        pp := 0, held := none })).updLoop n (fun l => { l with
        e1 := 0, e2 := 0, w1 := 0, w2 := 0, acc := 0, u := 0, y := 0, satHi := false, satLo := false, satRun := 0,
        openReq := false, closeReq := l.opened })).updFlt n (fun f => { f with
        vsMiss := 0, vsLost := false, hStart := none })).updAvs n (fun a => { a with
        voltWr := none, timer := none })).wr RAIL.FLOG_REMOVED 0 n) with
        gov := { s.dev.gov with lastT := putPad none (some (s.dev.rd RAIL.VSTART_TARGET n)) n s.dev.gov.lastT } })) ∧
  (∀ (n : Nat) (a : Acc) (v : BitVec 32) (s : State),
      s.settled = true →
      n < 8 →
      n < s.dev.rails.length →
      s.dev.ready (0x08 + n) = true →
      a.privOk = true →
      bitsAt v.toNat 0 1 = 1 →
      bitsAt v.toNat 2 1 = 1 →
      s.dev.rd RAIL.CTRL_RUN n = 0 →
      bitsAt v.toNat 4 1 = s.dev.rd RAIL.CTRL_SRC n →
      bitsAt v.toNat 1 1 = s.dev.rd RAIL.CTRL_MODE n →
      s.dev.avs n = false →
      s.dev.runRefused n s.aon.squall.active (s.dev.on SEC.BOOT_PROFILE) = false →
      s.dev.rd RAIL.PHCOUNT_MIN_ACTIVE n ≤ (s.dev.readyPhases n).length →
      s.dev.minPhases n ≤ s.dev.healthy n →
      exec (.railRun n a v) s = .next (s.ends [] [] ((s.dev.readyPhases n).foldl (fun (d : Dev) p => (d.updPhase p
        (fun x => { x with st := .softstart, tx := x.tx ++ [frWrite 4 1] })).schedule n p true) { ((((((s.dev.stores
        [RAIL.CTRL_SRC, RAIL.CTRL_MODE, RAIL.CTRL_RUN] n 0 v).updCmd n (fun c => { c with
        st := .starting, soft := 5 * min (s.dev.rail n).loop.v (16 * ((s.dev.rd RAIL.VSTART_TARGET n : Nat) : Int)),
        pp := 0, held := none })).updLoop n (fun l => { l with
        e1 := 0, e2 := 0, w1 := 0, w2 := 0, acc := 0, u := 0, y := 0, satHi := false, satLo := false, satRun := 0,
        openReq := false, closeReq := l.opened })).updFlt n (fun f => { f with
        vsMiss := 0, vsLost := false, hStart := none })).updAvs n (fun a => { a with
        voltWr := none, timer := none })).wr RAIL.FLOG_REMOVED 0 n) with
        gov := { s.dev.gov with lastT := putPad none (some (s.dev.rd RAIL.VSTART_TARGET n)) n s.dev.gov.lastT } }))) ∧
  (∀ (n : Nat) (a : Acc) (v : BitVec 32) (s : State),
      s.settled = true →
      n < 8 →
      n < s.dev.rails.length →
      s.dev.ready (0x08 + n) = true →
      a.privOk = true →
      bitsAt v.toNat 0 1 = 1 →
      bitsAt v.toNat 2 1 = 1 →
      s.dev.rd RAIL.CTRL_RUN n = 0 →
      bitsAt v.toNat 4 1 = s.dev.rd RAIL.CTRL_SRC n →
      bitsAt v.toNat 1 1 = s.dev.rd RAIL.CTRL_MODE n →
      s.dev.avs n = false →
      s.dev.runRefused n s.aon.squall.active (s.dev.on SEC.BOOT_PROFILE) = false →
      (s.dev.readyPhases n).length < s.dev.rd RAIL.PHCOUNT_MIN_ACTIVE n ∨ s.dev.healthy n < s.dev.minPhases n →
      exec (.railRun n a v) s = .next (s.ends [s.event Ev.PHASE_START_FAIL n] [] (((((s.dev.stores [RAIL.CTRL_SRC,
        RAIL.CTRL_MODE, RAIL.CTRL_RUN] n 0 v).wr RAIL.FLOG_REMOVED 0 n).updFlt n (fun f => { f with
        hStart := none })).wr RAIL.CTRL_RUN 0 n).updLoop n (fun l => { l with
        openReq := false, closeReq := l.opened })))) ∧
  (∀ (n : Nat) (a : Acc) (v : BitVec 32) (s : State),
      s.settled = true →
      n < 8 →
      n < s.dev.rails.length →
      s.dev.ready (0x08 + n) = true →
      a.privOk = true →
      bitsAt v.toNat 0 1 = 1 →
      bitsAt v.toNat 2 1 = 1 →
      s.dev.rd RAIL.CTRL_RUN n = 0 →
      bitsAt v.toNat 4 1 = s.dev.rd RAIL.CTRL_SRC n →
      bitsAt v.toNat 1 1 = s.dev.rd RAIL.CTRL_MODE n →
      s.dev.runRefused n s.aon.squall.active (s.dev.on SEC.BOOT_PROFILE) = true →
      exec (.railRun n a v) s = .next (s.ends [s.event (Ev.badValue 0x08) n n] [] ((s.dev.stores [RAIL.CTRL_SRC,
        RAIL.CTRL_MODE, RAIL.CTRL_RUN] n 0 v).wr RAIL.CTRL_RUN 0 n |>.updLoop n (fun l => { l with
        openReq := false, closeReq := l.opened })))) ∧
  (∀ (n : Nat) (a : Acc) (v : BitVec 32) (s : State),
      s.settled = true →
      n < 8 →
      n < s.dev.rails.length →
      s.dev.ready (0x08 + n) = true →
      a.privOk = true →
      bitsAt v.toNat 0 1 = 0 →
      s.dev.on RAIL.CTRL_RUN n = true →
      bitsAt v.toNat 2 1 = 1 →
      bitsAt v.toNat 4 1 = s.dev.rd RAIL.CTRL_SRC n →
      bitsAt v.toNat 1 1 = s.dev.rd RAIL.CTRL_MODE n →
      (s.dev.rail n).cmd.pend = none →
      (s.dev.rail n).cmd.held = none →
      s.dev.tune.running = false ∨ s.dev.tune.rail ≠ n →
      s.dev.cal.running = false ∨ s.dev.cal.rail ≠ n →
      s.dev.credit.leases.filter (fun (l : Lease) => l.rail == some n) = [] →
      s.dev.credit.queue.filter (fun (r : CReq) => r.rail == n) = [] →
      exec (.railStop n a v) s = .next (s.ends [] [] { ((s.dev.stores [RAIL.CTRL_SRC, RAIL.CTRL_MODE, RAIL.CTRL_RUN] n
        0 v).updRail n (fun r => { r with
        cmd := { r.cmd with st := .stopped, pp := 0 },
        loop := { r.loop with icmd := 0, openReq := false, closeReq := r.loop.opened }, sw := { r.sw with
          grid := [], chg := [], braking := false, brakeT := 0, shedCnt := 0,
          nChanged := r.sw.nChanged || !r.sw.grid.isEmpty } })) with
        phases := s.dev.phases.zipIdx.map (fun (x : Phase × Nat) => if s.dev.phRail x.2 = n
          ∧ x.1.st.switching = true then { x.1 with
          st := .off, imm := some 2, thrFor := none, offRank := none, ons := [] } else x.1) })) ∧
  (∀ (n : Nat) (a : Acc) (v : BitVec 32) (c : RCmd) (s : State),
      s.settled = true →
      n < 8 →
      n < s.dev.rails.length →
      s.dev.ready (0x08 + n) = true →
      a.privOk = true →
      bitsAt v.toNat 0 1 = 0 →
      s.dev.on RAIL.CTRL_RUN n = true →
      bitsAt v.toNat 2 1 = 1 →
      bitsAt v.toNat 4 1 = s.dev.rd RAIL.CTRL_SRC n →
      bitsAt v.toNat 1 1 = s.dev.rd RAIL.CTRL_MODE n →
      (s.dev.rail n).cmd.pend = some c →
      (s.dev.rail n).cmd.held = none →
      s.dev.tune.running = false ∨ s.dev.tune.rail ≠ n →
      s.dev.cal.running = false ∨ s.dev.cal.rail ≠ n →
      s.dev.credit.leases.filter (fun (l : Lease) => l.rail == some n) = [] →
      s.dev.credit.queue.filter (fun (r : CReq) => r.rail == n) = [] →
      exec (.railStop n a v) s = .next (s.ends [s.event Ev.RAIL_CMD_REFUSED n n] [] { ((s.dev.stores [RAIL.CTRL_SRC,
        RAIL.CTRL_MODE, RAIL.CTRL_RUN] n 0 v).updRail n (fun r => { r with
        cmd := { r.cmd with
          st := .stopped, pp := 0, pend := none, lastId := c.id, lastStatus := 3, doneT := none, fdown := none },
        loop := { r.loop with icmd := 0, openReq := false, closeReq := r.loop.opened }, sw := { r.sw with
          grid := [], chg := [], braking := false, brakeT := 0, shedCnt := 0,
          nChanged := r.sw.nChanged || !r.sw.grid.isEmpty } })) with
        phases := s.dev.phases.zipIdx.map (fun (x : Phase × Nat) => if s.dev.phRail x.2 = n
          ∧ x.1.st.switching = true then { x.1 with
          st := .off, imm := some 2, thrFor := none, offRank := none, ons := [] } else x.1) })) ∧
  (∀ (n : Nat) (a : Acc) (v : BitVec 32) (s : State),
      s.settled = true →
      n < 8 →
      n < s.dev.rails.length →
      s.dev.ready (0x08 + n) = true →
      a.privOk = true →
      bitsAt v.toNat 0 1 = 0 →
      s.dev.on RAIL.CTRL_RUN n = true →
      bitsAt v.toNat 2 1 = 1 →
      bitsAt v.toNat 4 1 = s.dev.rd RAIL.CTRL_SRC n →
      bitsAt v.toNat 1 1 = s.dev.rd RAIL.CTRL_MODE n →
      Reaches (.railStop n a v) s (fun t => (t.dev.rail n).cmd.st = .stopped ∧ (t.dev.rail n).cmd.pend = none
        ∧ (t.dev.rail n).cmd.held = none ∧ (t.dev.rail n).loop.icmd = 0 ∧ t.dev.rd RAIL.CTRL_RUN n = 0
        ∧ (t.dev.credit.leases.all (fun (l : Lease) => l.rail != some n)) = true
        ∧ (t.dev.credit.queue.all (fun (r : CReq) => r.rail != n)) = true))

/-- LOOP_OPEN on a running rail in direct control out of STARTING asks for the open of the next RAIL tick; LOOP_CLOSE
on an open loop asks for the close. RAIL_OPEN_TIMEOUT asks for the close itself, counts and raises RAIL_OPEN_TIMEOUT
(by its row, before the tick: log entry 62). The latest of several LOOP writes prevails, and a refused command takes
an ID (log entry 24). A COEF_EDIT write to an open loop goes into the edit bank, to a closed one it is ignored,
counted and raised. RAIL_SRC_WRITE to 0 takes the governor's latest command as a new one, to 1 keeps the rail as it
is. RAIL_CMD with SRC = 1 issues its target and slew; with SRC = 0 or a slew outside 1 to 200 the whole write is
refused. Nothing else changes. Task 0x0A, function by function: the measured voltage; a step of the ramp; the applied
pre-position; the reference; soft start; the compensator; the bumpless tick, after which I_cmd is that of HOLD; HOLD;
the end of R151; and a tick of a rail that runs in direct control. Rests on: R155, R159, R160, R162, R148, R149, R150,
R151, R158, R161, R163. -/
def Obligations.RailLoopAndCoefficients : Prop :=
  (∀ (n : Nat) (a : Acc) (v : BitVec 32) (s : State),
      s.settled = true →
      n < 8 →
      n < s.dev.rails.length →
      s.dev.ready (0x08 + n) = true →
      a.privOk = true →
      bitsAt v.toNat 2 1 = 0 →
      s.dev.openRefused n = false →
      (s.dev.rail n).loop.opened = false →
      bitsAt v.toNat 4 1 = s.dev.rd RAIL.CTRL_SRC n →
      bitsAt v.toNat 1 1 = s.dev.rd RAIL.CTRL_MODE n →
      bitsAt v.toNat 0 1 = s.dev.rd RAIL.CTRL_RUN n →
      exec (.loopOpen n a v) s = .next (s.ends [] [] ((s.dev.stores [RAIL.CTRL_SRC, RAIL.CTRL_MODE, RAIL.CTRL_RUN] n 0
        v).updLoop n (fun l => { l with openReq := true, closeReq := false })))) ∧
  (∀ (n : Nat) (a : Acc) (v : BitVec 32) (s : State),
      s.settled = true →
      n < 8 →
      n < s.dev.rails.length →
      s.dev.ready (0x08 + n) = true →
      a.privOk = true →
      bitsAt v.toNat 2 1 = 1 →
      (s.dev.rail n).loop.opened = true →
      bitsAt v.toNat 4 1 = s.dev.rd RAIL.CTRL_SRC n →
      bitsAt v.toNat 1 1 = s.dev.rd RAIL.CTRL_MODE n →
      bitsAt v.toNat 0 1 = s.dev.rd RAIL.CTRL_RUN n →
      exec (.loopClose n a v) s = .next (s.ends [] [] ((s.dev.stores [RAIL.CTRL_SRC, RAIL.CTRL_MODE, RAIL.CTRL_RUN] n
        0 v).updLoop n (fun l => { l with openReq := false, closeReq := true })))) ∧
  (∀ (n : Nat) (s : State),
      s.settled = true →
      n < s.dev.rails.length →
      (s.dev.rail n).loop.openDue = true →
      (s.dev.rail n).loop.opened = true →
      (s.dev.rail n).loop.closeReq = false →
      exec (.railOpenTimeout n) s = .next (s.ends [s.event Ev.RAIL_OPEN_TIMEOUT n n] [] ((s.dev.updLoop n (fun l => {
        l with closeReq := true, openDue := false })).bump RAIL.COUNTS_TIMEOUTS n))) ∧
  (∀ (n : Nat) (s : State),
      s.settled = true →
      n < s.dev.rails.length →
      (s.dev.rail n).loop.openDue = true →
      (s.dev.rail n).loop.opened = true →
      (s.dev.rail n).loop.closeReq = true →
      exec (.railOpenTimeout n) s = .next (s.ends [] [] (s.dev.updLoop n (fun l => { l with openDue := false })))) ∧
  (∀ (n : Nat) (k : Nat) (a : Acc) (v : BitVec 32) (s : State),
      s.settled = true →
      n < 8 →
      n < s.dev.rails.length →
      s.dev.ready (0x08 + n) = true →
      a.privOk = true →
      k < 6 →
      (s.dev.rail n).loop.opened = true →
      exec (.coefEditWrite n k a v) s = .next (s.ends [] [] (s.dev.updLoop n (fun l => { (l.setEdit (modAt l.edit k
        (fun _ => v.toNat))) with dirty := true })))) ∧
  (∀ (n : Nat) (k : Nat) (a : Acc) (v : BitVec 32) (s : State),
      s.settled = true →
      n < 8 →
      n < s.dev.rails.length →
      s.dev.ready (0x08 + n) = true →
      a.privOk = true →
      k < 8 →
      (s.dev.rail n).loop.opened = false →
      exec (.coefEditWrite n k a v) s = .next (s.ends [s.event Ev.RAIL_COEF_IGNORED n n] [] (s.dev.bump
        RAIL.COUNTS_IGNORED n))) ∧
  (∀ (n : Nat) (a : Acc) (v : BitVec 32) (s : State),
      s.settled = true →
      n < 8 →
      n < s.dev.rails.length →
      s.dev.ready (0x08 + n) = true →
      a.privOk = true →
      bitsAt v.toNat 4 1 = 0 →
      s.dev.on RAIL.CTRL_SRC n = true →
      bitsAt v.toNat 2 1 = 1 →
      (s.dev.rail n).loop.opened = false →
      bitsAt v.toNat 1 1 = s.dev.rd RAIL.CTRL_MODE n →
      bitsAt v.toNat 0 1 = s.dev.rd RAIL.CTRL_RUN n →
      exec (.railSrcWrite n a v) s = .next (s.ends [] [] (((s.dev.stores [RAIL.CTRL_SRC, RAIL.CTRL_MODE,
        RAIL.CTRL_RUN] n 0 v).updCmd n (fun c => { c with arr := c.arr ++ c.govLast.toList })).updLoop n (fun l => { l
        with openReq := false, closeReq := false })))) ∧
  (∀ (n : Nat) (a : Acc) (v : BitVec 32) (s : State),
      s.settled = true →
      n < 8 →
      n < s.dev.rails.length →
      s.dev.ready (0x08 + n) = true →
      a.privOk = true →
      bitsAt v.toNat 4 1 = 1 →
      s.dev.on RAIL.CTRL_SRC n = false →
      bitsAt v.toNat 2 1 = 1 →
      (s.dev.rail n).loop.opened = false →
      bitsAt v.toNat 1 1 = s.dev.rd RAIL.CTRL_MODE n →
      bitsAt v.toNat 0 1 = s.dev.rd RAIL.CTRL_RUN n →
      exec (.railSrcWrite n a v) s = .next (s.ends [] [] ((s.dev.stores [RAIL.CTRL_SRC, RAIL.CTRL_MODE, RAIL.CTRL_RUN]
        n 0 v).updLoop n (fun l => { l with openReq := false, closeReq := false })))) ∧
  (∀ (n : Nat) (a : Acc) (v : BitVec 32) (s : State),
      s.settled = true →
      n < 8 →
      n < s.dev.rails.length →
      s.dev.ready (0x08 + n) = true →
      a.privOk = true →
      s.dev.on RAIL.CTRL_SRC n = true →
      1 ≤ bitsAt v.toNat 24 8 →
      bitsAt v.toNat 24 8 ≤ 200 →
      exec (.railCmd n a v) s = .next (s.ends [] [] ((s.dev.stores [RAIL.CMD_SLEW, RAIL.CMD_TARGET] n 0 v).updCmd n
        (fun c => { c with arr := c.arr ++ [(bitsAt v.toNat 0 16, bitsAt v.toNat 24 8)] })))) ∧
  (∀ (n : Nat) (a : Acc) (v : BitVec 32) (s : State),
      s.settled = true →
      n < 8 →
      n < s.dev.rails.length →
      s.dev.ready (0x08 + n) = true →
      a.privOk = true →
      s.dev.on RAIL.CTRL_SRC n = false ∨ bitsAt v.toNat 24 8 = 0 ∨ 200 < bitsAt v.toNat 24 8 →
      exec (.railCmd n a v) s = .next (s.ends [s.event (Ev.badValue 0x08) n n] [] s.dev)) ∧
  (∀ (d : Dev) (n : Nat) (xs : List Int),
      xs ≠ [] →
      n < d.rails.length →
      ((d.measure n xs).rail n).loop.v = (2 * sumI xs + xs.length) / (2 * xs.length) ∧ d.measure n [] = d) ∧
  (∀ (d : Dev) (n : Nat) (raw : Nat),
      d.vsConvert n raw = ((raw : Int) * ((d.rd RAIL.VSCAL_GAIN_GAIN n : Nat) : Int) + 2 ^ 15) / 2 ^ 16 + signedOf 16
        (d.rd RAIL.VSCAL_OFF_OFFSET n)) ∧
  (∀ (ramp : Int) (teff : Int) (slew : Nat) (gust : Bool),
      rampStep ramp teff slew gust = (if ramp < teff then min teff (ramp + 4 * (slew : Int)) else if gust then ramp
        else max teff (ramp - 4 * (slew : Int)))) ∧
  (∀ (d : Dev) (n : Nat) (ramp : Int),
      let c : RailCmd := (d.rail n).cmd
      let off : Bool := (d.rail n).loop.opened || c.st == .starting || d.avs n || c.st == .retention || d.sqActive
      let req : Int := if off then 0 else min (16 * ((min c.ppReq 160 : Nat) : Int)) (max 0 (16 * ((d.vmax n : Nat) :
        Int) - ramp))
      let slew : Nat := if c.st == .retention || d.sqActive then d.rd RAIL.SQUALL_SLEW n else c.slew
      d.ppStep n ramp = max 0 (if c.pp < req then min req (c.pp + 4 * (slew : Int)) else if req < c.pp then (if
        d.railGust n then c.pp else max req (c.pp - 4 * (slew : Int))) else c.pp)) ∧
  (∀ (d : Dev) (n : Nat) (base : Int),
      let pp : Int := d.ppStep n base
      n < d.rails.length →
      d.avs n = false →
      ((d.setRef n base).rail n).loop.r = base + min pp (max 0 (16 * ((d.vmax n : Nat) : Int) - base)) - (((d.rd
        RAIL.LL_LL n : Nat) : Int) * max 0 (d.rail n).loop.isum + 32) / 64 + (if (d.rail n).cmd.st = .starting then 0
        else d.dRef n) ∧ ((d.setRef n base).rail n).cmd.pp = pp) ∧
  (∀ (d : Dev) (n : Nat),
      n < d.rails.length →
      d.avs n = false →
      d.softStep n = d.updCmd n (fun c => { c with
        soft := if 80 * ((d.rd RAIL.VSTART_TARGET n : Nat) : Int) ≤ c.soft then c.soft else min (80 * ((d.rd
          RAIL.VSTART_TARGET n : Nat) : Int)) (c.soft + 8 * ((d.rd RAIL.SOFTSTART_RATE n : Nat) : Int)) })) ∧
  (∀ (l : RailLoop) (dOut : Int) (imax : Nat),
      let q : RailLoop := l.compensate dOut imax
      let e : Int := l.r - l.v
      let lim : Int := ((bitsAt (l.bank.getD 7 0) 0 31 : Nat) : Int)
      let w : Int := sat32 (sat32 (sat32 (sat32 (mulCoef e (coef l.bank 0) (shiftOf l.bank 0) + mulCoef l.e1 (coef
        l.bank 1) (shiftOf l.bank 1)) + mulCoef l.e2 (coef l.bank 2) (shiftOf l.bank 2)) - mulCoef l.w1 (coef l.bank
        3) (shiftOf l.bank 3)) - mulCoef l.w2 (coef l.bank 4) (shiftOf l.bank 4))
      q.w1 = w ∧ q.w2 = l.w1 ∧ q.e1 = e ∧ q.e2 = l.e1 ∧ q.acc = (if (l.satHi && decide (0 < e)) || (l.satLo && decide
        (e < 0)) then l.acc else clampI (sat32 (l.acc + mulCoef e (coef l.bank 5) (shiftOf l.bank 5))) (-lim) lim)
        ∧ q.u = sat32 (q.acc + w) ∧ q.y = sat32 (q.u + dOut) ∧ (q.icmd : Int) = max 0 (min (imax : Int) ((q.y + 2048)
        / 4096)) ∧ q.satHi = decide (q.icmd = imax) ∧ q.satLo = decide (q.icmd = 0) ∧ q.v = l.v ∧ q.r = l.r) ∧
  (∀ (l : RailLoop) (imax : Nat),
      l.icmd ≤ imax →
      imax ≤ 65535 →
      (l.bumpless 0 imax).icmd = l.icmd ∧ (l.bumpless 0 imax).u = 4096 * (l.icmd : Int)
        ∧ (l.bumpless 0 imax).e1 = l.r - l.v) ∧
  (∀ (l : RailLoop) (band : Nat) (step : Nat) (imax : Nat),
      let q : RailLoop := l.hold band step imax
      let side : Bool := if l.v < l.r - 16 * (band : Int) then true else if l.r + 16 * (band : Int) < l.v then false
        else l.side
      let adj : Nat := max 1 (step / 8)
      let c : Nat := if side && decide (l.v < l.r - 16 * (band : Int)) then min imax (l.holdC + adj) else if !side &&
        decide (l.r + 16 * (band : Int) < l.v) then l.holdC - adj else l.holdC
      q.side = side ∧ q.holdC = c ∧ (q.icmd : Int) = (if side then min (imax : Int) ((c : Int) + step) else max 0 ((c
        : Int) - step)) ∧ q.v = l.v ∧ q.r = l.r) ∧
  (∀ (d : Dev) (n : Nat) (teff : Int),
      n < d.rails.length →
      (d.rail n).cmd.pend = none →
      d.cmdSettle n teff = d.updCmd n (fun c => { c with st := if c.ramp = teff then .settled else .slewing })) ∧
  (∀ (d : Dev) (n : Nat) (teff : Int) (p : RCmd),
      n < d.rails.length →
      (d.rail n).cmd.pend = some p →
      (d.rail n).cmd.t < 16 * ((d.rail n).cmd.vreq : Int) →
      p.posted = false →
      ((d.cmdSettle n teff).rail n).cmd.st = .waitFreq ∧ ((d.cmdSettle n teff).rail n).cmd.fdown = some (p.t /
        16).toNat ∧ (d.cmdSettle n teff).evq = d.evq ++ [⟨8 + n, Ev.RAIL_WAIT_FREQ.loc, Ev.RAIL_WAIT_FREQ.sev, n %
        256, d.tick.b % 2 ^ 32⟩] ∧ (d.cmdSettle n teff).rd RAIL.WAITFREQ_COUNT n = min (2 ^ RAIL.WAITFREQ_COUNT.wid -
        1) (d.rd RAIL.WAITFREQ_COUNT n + 1)) ∧
  (∀ (d : Dev) (n : Nat) (teff : Int) (p : RCmd),
      n < d.rails.length →
      (d.rail n).cmd.pend = some p →
      d.avs n = false →
      16 * ((d.rail n).cmd.vreq : Int) ≤ (d.rail n).cmd.t →
      (d.rail n).cmd.ramp = teff →
      p.rising = false ∨ (d.rail n).loop.r - 16 * ((d.rd RAIL.CMD_CFG_SETTLE_BAND n : Nat) : Int) ≤ (d.rail n).loop.v
        →
      d.cmdSettle n teff = d.updCmd n (fun c => { c with
        st := .settled, pend := none, lastId := p.id, lastStatus := 1, doneT := some (p.t / 16).toNat,
        fdown := none })) ∧
  (∀ (d : Dev) (n : Nat) (teff : Int) (p : RCmd),
      n < d.rails.length →
      (d.rail n).cmd.pend = some p →
      16 * ((d.rail n).cmd.vreq : Int) ≤ (d.rail n).cmd.t →
      (d.rail n).cmd.ramp ≠ teff →
      d.cmdSettle n teff = d.updCmd n (fun c => { c with st := .slewing })) ∧
  (∀ (d : Dev) (n : Nat) (sampled : Bool),
      n < d.rails.length →
      d.avs n = false →
      (d.rail n).flt.vsLost = false →
      (d.rail n).loop.opened = false →
      d.regulate n sampled = (d.updLoop n (fun l => l.compensate (d.dOut n) (d.rd RAIL.ICMD_MAX_ICMD_MAX n))).satCheck
        n) ∧
  (∀ (d : Dev) (n : Nat) (sampled : Bool),
      n < d.rails.length →
      d.avs n = false →
      (d.rail n).flt.vsLost = false →
      (d.rail n).loop.opened = true →
      (d.rail n).loop.closeReq = false →
      (d.rail n).loop.openReq = false →
      d.regulate n sampled = (d.updLoop n (fun l => l.hold (d.rd RAIL.HOLD_BAND n) (d.rd RAIL.HOLD_STEP n) (d.rd
        RAIL.ICMD_MAX_ICMD_MAX n))).satCheck n) ∧
  (∀ (d : Dev) (n : Nat) (sampled : Bool),
      let teff : Int := min (16 * ((d.vmax n : Nat) : Int)) (max (d.rail n).cmd.t (16 * ((d.rail n).cmd.vreq : Int)))
      let ramp : Int := rampStep (d.rail n).cmd.ramp teff (d.rail n).cmd.slew (d.railGust n)
      n < d.rails.length →
      d.avs n = false →
      (d.rail n).cmd.held = none →
      (d.rail n).cmd.arr = [] →
      d.runRamp n sampled = ((((d.updCmd n (fun c => { c with ramp := ramp })).setRef n ramp).regulate n
        sampled).cmdSettle n teff)) ∧
  (∀ (d : Dev) (n : Nat) (raw : List Nat),
      let xs : List Int := raw.map (d.vsConvert n)
      n < d.rails.length →
      d.avs n = false →
      d.sqGated = false →
      (d.rail n).loop.openReq = false →
      (d.rail n).loop.openDue = false →
      (d.rail n).cmd.st = .settled ∨ (d.rail n).cmd.st = .slewing ∨ (d.rail n).cmd.st = .waitFreq →
      d.task0A n raw = (((d.measure n xs).runRamp n !xs.isEmpty).waveSamples n xs).waveDone)

/-- Where the status read and the read-back stand, and the clear that reads again, are the model's choice (log entry
61), the frame and the unit of Current are the family's (log entries 78, 100). AVS_RESPONSE ends or repeats the
transaction at the head of the queue, and the next head goes out as its frame. With no Gust on the rail, a good CRC
and status 0, a Voltage write is followed by its read-back and another write by nothing; a read gives its data:
Voltage as the bus gives it, Current in 0.25 A, Temperature as the bus gives it, version. A status read takes the
status bits from the data and is followed by the write that clears them, and a clear whose response has status bits by
another status read. A transaction that is not one of these two is tried again, up to twice, when its CRC is bad or
its response has status bits, with a status read behind it in the second case; the third failure drops it, completes
the pending command AVS_ERROR, counts and raises RAIL_AVS_ERR. While the rail is in Gust a queued or failed Voltage
write below the last one made is taken out, to be written after the Gust (R207). RAIL_AVS_TIMEOUT, once the AVS timer
has run AVS.TIMEOUT us with the command pending, completes it AVS_TIMEOUT. Nothing else changes. Rests on: R63, R152,
R163, R164, R165, R207. -/
def Obligations.AvsTransactionsEnd : Prop :=
  (∀ (n : Nat) (ok : Bool) (st : BitVec 5) (w : BitVec 16) (x : AvsTx) (r : List AvsTx) (s : State),
      s.settled = true →
      n < s.dev.rails.length →
      ok = true →
      st = 0#5 →
      (s.dev.rail n).avs.q = x :: r →
      s.dev.railGust n = false →
      x.wr = true →
      x.code = 0 →
      exec (.avsResponse n ok st w) s = .next (s.ends [] ((⟨0, 0, false⟩ :: r : List AvsTx).head?.toList.map (fun (y :
        AvsTx) => Out.avs n (y.frame (s.dev.rd RAIL.AVS_RAILSEL n)))) (((s.dev.wr RAIL.AVS_STAT_STATUS st.toNat
        n).updAvs n (fun a => { a with q := ⟨0, 0, false⟩ :: r, tries := 0, voltAck := some x.data }))))) ∧
  (∀ (n : Nat) (ok : Bool) (st : BitVec 5) (w : BitVec 16) (x : AvsTx) (r : List AvsTx) (s : State),
      s.settled = true →
      n < s.dev.rails.length →
      ok = true →
      st = 0#5 →
      (s.dev.rail n).avs.q = x :: r →
      s.dev.railGust n = false →
      x.wr = true →
      x.code ≠ 0 →
      exec (.avsResponse n ok st w) s = .next (s.ends [] ((r : List AvsTx).head?.toList.map (fun (y : AvsTx) =>
        Out.avs n (y.frame (s.dev.rd RAIL.AVS_RAILSEL n)))) (((s.dev.wr RAIL.AVS_STAT_STATUS st.toNat n).updAvs n (fun
        a => { a with q := r, tries := 0 }))))) ∧
  (∀ (n : Nat) (ok : Bool) (st : BitVec 5) (w : BitVec 16) (x : AvsTx) (r : List AvsTx) (s : State),
      s.settled = true →
      n < s.dev.rails.length →
      ok = true →
      st = 0#5 →
      (s.dev.rail n).avs.q = x :: r →
      s.dev.railGust n = false →
      x.wr = false →
      x.code = 0 →
      exec (.avsResponse n ok st w) s = .next (s.ends [] ((r : List AvsTx).head?.toList.map (fun (y : AvsTx) =>
        Out.avs n (y.frame (s.dev.rd RAIL.AVS_RAILSEL n)))) (((s.dev.wr RAIL.AVS_STAT_STATUS st.toNat n).updAvs n (fun
        a => { a with q := r, tries := 0, volt := w.toNat }))))) ∧
  (∀ (n : Nat) (ok : Bool) (st : BitVec 5) (w : BitVec 16) (x : AvsTx) (r : List AvsTx) (s : State),
      s.settled = true →
      n < s.dev.rails.length →
      ok = true →
      st = 0#5 →
      (s.dev.rail n).avs.q = x :: r →
      s.dev.railGust n = false →
      x.wr = false →
      x.code = 2 →
      exec (.avsResponse n ok st w) s = .next (s.ends [] ((r : List AvsTx).head?.toList.map (fun (y : AvsTx) =>
        Out.avs n (y.frame (s.dev.rd RAIL.AVS_RAILSEL n)))) (((s.dev.wr RAIL.AVS_STAT_STATUS st.toNat n).updAvs n (fun
        a => { a with q := r, tries := 0, cur := roundDivN w.toNat 25 }))))) ∧
  (∀ (n : Nat) (ok : Bool) (st : BitVec 5) (w : BitVec 16) (x : AvsTx) (r : List AvsTx) (s : State),
      s.settled = true →
      n < s.dev.rails.length →
      ok = true →
      st = 0#5 →
      (s.dev.rail n).avs.q = x :: r →
      s.dev.railGust n = false →
      x.wr = false →
      x.code = 3 →
      exec (.avsResponse n ok st w) s = .next (s.ends [] ((r : List AvsTx).head?.toList.map (fun (y : AvsTx) =>
        Out.avs n (y.frame (s.dev.rd RAIL.AVS_RAILSEL n)))) (((s.dev.wr RAIL.AVS_STAT_STATUS st.toNat n).updAvs n (fun
        a => { a with q := r, tries := 0, temp := w.toNat }))))) ∧
  (∀ (n : Nat) (ok : Bool) (st : BitVec 5) (w : BitVec 16) (x : AvsTx) (r : List AvsTx) (s : State),
      s.settled = true →
      n < s.dev.rails.length →
      ok = true →
      st = 0#5 →
      (s.dev.rail n).avs.q = x :: r →
      s.dev.railGust n = false →
      x.wr = false →
      x.code = 0xF →
      exec (.avsResponse n ok st w) s = .next (s.ends [] ((r : List AvsTx).head?.toList.map (fun (y : AvsTx) =>
        Out.avs n (y.frame (s.dev.rd RAIL.AVS_RAILSEL n)))) (((s.dev.wr RAIL.AVS_STAT_STATUS st.toNat n).updAvs n (fun
        a => { a with q := r, tries := 0 })).wr RAIL.AVS_STAT_VERSION w.toNat n))) ∧
  (∀ (n : Nat) (ok : Bool) (st : BitVec 5) (w : BitVec 16) (x : AvsTx) (r : List AvsTx) (s : State),
      s.settled = true →
      n < s.dev.rails.length →
      ok = true →
      (s.dev.rail n).avs.q = x :: r →
      s.dev.railGust n = false →
      x.wr = false →
      x.code = 0xE →
      exec (.avsResponse n ok st w) s = .next (s.ends [] ((⟨0xE, w.toNat, true⟩ :: r : List AvsTx).head?.toList.map
        (fun (y : AvsTx) => Out.avs n (y.frame (s.dev.rd RAIL.AVS_RAILSEL n)))) (((s.dev.wr RAIL.AVS_STAT_STATUS
        st.toNat n).updAvs n (fun a => { a with q := ⟨0xE, w.toNat, true⟩ :: r, tries := 0 })).wr RAIL.AVS_STAT_STATUS
        w.toNat n))) ∧
  (∀ (n : Nat) (ok : Bool) (st : BitVec 5) (w : BitVec 16) (x : AvsTx) (r : List AvsTx) (s : State),
      s.settled = true →
      n < s.dev.rails.length →
      ok = true →
      st ≠ 0#5 →
      (s.dev.rail n).avs.q = x :: r →
      s.dev.railGust n = false →
      x.wr = true →
      x.code = 0xE →
      exec (.avsResponse n ok st w) s = .next (s.ends [] ((⟨0xE, 0, false⟩ :: r : List AvsTx).head?.toList.map (fun (y
        : AvsTx) => Out.avs n (y.frame (s.dev.rd RAIL.AVS_RAILSEL n)))) (((s.dev.wr RAIL.AVS_STAT_STATUS st.toNat
        n).updAvs n (fun a => { a with q := ⟨0xE, 0, false⟩ :: r, tries := 0 }))))) ∧
  (∀ (n : Nat) (ok : Bool) (st : BitVec 5) (w : BitVec 16) (x : AvsTx) (r : List AvsTx) (s : State),
      s.settled = true →
      n < s.dev.rails.length →
      ok = false →
      st = 0#5 →
      (s.dev.rail n).avs.q = x :: r →
      s.dev.railGust n = false →
      (s.dev.rail n).avs.tries < 2 →
      exec (.avsResponse n ok st w) s = .next (s.ends [] ((x :: r : List AvsTx).head?.toList.map (fun (y : AvsTx) =>
        Out.avs n (y.frame (s.dev.rd RAIL.AVS_RAILSEL n)))) (((s.dev.wr RAIL.AVS_STAT_STATUS st.toNat n).updAvs n (fun
        a => { a with q := x :: r, tries := a.tries + 1 }))))) ∧
  (∀ (n : Nat) (ok : Bool) (st : BitVec 5) (w : BitVec 16) (x : AvsTx) (r : List AvsTx) (s : State),
      s.settled = true →
      n < s.dev.rails.length →
      ok = true →
      st ≠ 0#5 →
      (s.dev.rail n).avs.q = x :: r →
      s.dev.railGust n = false →
      x.code ≠ 0xE →
      (s.dev.rail n).avs.tries < 2 →
      exec (.avsResponse n ok st w) s = .next (s.ends [] ((x :: ⟨0xE, 0, false⟩ :: r : List AvsTx).head?.toList.map
        (fun (y : AvsTx) => Out.avs n (y.frame (s.dev.rd RAIL.AVS_RAILSEL n)))) (((s.dev.wr RAIL.AVS_STAT_STATUS
        st.toNat n).updAvs n (fun a => { a with q := x :: ⟨0xE, 0, false⟩ :: r, tries := a.tries + 1 }))))) ∧
  (∀ (n : Nat) (ok : Bool) (st : BitVec 5) (w : BitVec 16) (x : AvsTx) (r : List AvsTx) (s : State),
      s.settled = true →
      n < s.dev.rails.length →
      ok = false →
      st = 0#5 →
      (s.dev.rail n).avs.q = x :: r →
      s.dev.railGust n = false →
      (s.dev.rail n).cmd.pend = none →
      2 ≤ (s.dev.rail n).avs.tries →
      exec (.avsResponse n ok st w) s = .next (s.ends [s.event Ev.RAIL_AVS_ERR n n] ((r : List AvsTx).head?.toList.map
        (fun (y : AvsTx) => Out.avs n (y.frame (s.dev.rd RAIL.AVS_RAILSEL n)))) (((s.dev.wr RAIL.AVS_STAT_STATUS
        st.toNat n).updAvs n (fun a => { a with q := r, tries := 0, timer := none })).bump RAIL.AVS_STAT_ERRORS n))) ∧
  (∀ (n : Nat) (ok : Bool) (st : BitVec 5) (w : BitVec 16) (x : AvsTx) (r : List AvsTx) (s : State),
      s.settled = true →
      n < s.dev.rails.length →
      ok = true →
      st ≠ 0#5 →
      (s.dev.rail n).avs.q = x :: r →
      s.dev.railGust n = false →
      (s.dev.rail n).cmd.pend = none →
      x.code ≠ 0xE →
      2 ≤ (s.dev.rail n).avs.tries →
      exec (.avsResponse n ok st w) s = .next (s.ends [s.event Ev.RAIL_AVS_ERR n n] ((⟨0xE, 0, false⟩ :: r : List
        AvsTx).head?.toList.map (fun (y : AvsTx) => Out.avs n (y.frame (s.dev.rd RAIL.AVS_RAILSEL n)))) (((s.dev.wr
        RAIL.AVS_STAT_STATUS st.toNat n).updAvs n (fun a => { a with
        q := ⟨0xE, 0, false⟩ :: r, tries := 0, timer := none })).bump RAIL.AVS_STAT_ERRORS n))) ∧
  (∀ (n : Nat) (ok : Bool) (st : BitVec 5) (w : BitVec 16) (x : AvsTx) (r : List AvsTx) (c : RCmd) (s : State),
      s.settled = true →
      n < s.dev.rails.length →
      ok = false →
      st = 0#5 →
      (s.dev.rail n).avs.q = x :: r →
      s.dev.railGust n = false →
      2 ≤ (s.dev.rail n).avs.tries →
      (s.dev.rail n).cmd.pend = some c →
      exec (.avsResponse n ok st w) s = .next (s.ends [s.event Ev.RAIL_AVS_ERR n n] ((r : List AvsTx).head?.toList.map
        (fun (y : AvsTx) => Out.avs n (y.frame (s.dev.rd RAIL.AVS_RAILSEL n)))) ((((s.dev.wr RAIL.AVS_STAT_STATUS 0
        n).updAvs n (fun a => { a with q := r, tries := 0, timer := none })).updCmd n (fun q => { q with
        pend := none, lastId := c.id, lastStatus := 5, doneT := none, fdown := none })).bump RAIL.AVS_STAT_ERRORS n))) ∧
  (∀ (n : Nat) (ok : Bool) (st : BitVec 5) (w : BitVec 16) (low : Nat) (k : Nat) (s : State),
      s.settled = true →
      n < s.dev.rails.length →
      ok = true →
      st = 0#5 →
      (s.dev.rail n).avs.q = [⟨2, 0, false⟩, ⟨0, low, true⟩] →
      s.dev.railGust n = true →
      (s.dev.rail n).cmd.st = .settled ∨ (s.dev.rail n).cmd.st = .slewing ∨ (s.dev.rail n).cmd.st = .waitFreq →
      (s.dev.rail n).avs.voltAck = some k →
      low < k →
      exec (.avsResponse n ok st w) s = .next (s.ends [] [] ((s.dev.wr RAIL.AVS_STAT_STATUS 0 n).updAvs n (fun a => {
        a with q := [], tries := 0, cur := roundDivN w.toNat 25, voltWr := some k })))) ∧
  (∀ (n : Nat) (ok : Bool) (st : BitVec 5) (w : BitVec 16) (low : Nat) (k : Nat) (s : State),
      s.settled = true →
      n < s.dev.rails.length →
      ok = false →
      st = 0#5 →
      (s.dev.rail n).avs.q = [⟨0, low, true⟩] →
      (s.dev.rail n).avs.tries < 2 →
      s.dev.railGust n = true →
      (s.dev.rail n).cmd.st = .settled ∨ (s.dev.rail n).cmd.st = .slewing ∨ (s.dev.rail n).cmd.st = .waitFreq →
      (s.dev.rail n).avs.voltAck = some k →
      low < k →
      exec (.avsResponse n ok st w) s = .next (s.ends [] [] ((s.dev.wr RAIL.AVS_STAT_STATUS 0 n).updAvs n (fun a => {
        a with q := [], tries := 0, voltWr := some k })))) ∧
  (∀ (n : Nat) (k : Nat) (c : RCmd) (s : State),
      s.settled = true →
      n < s.dev.rails.length →
      (s.dev.rail n).avs.timer = some k →
      4 * s.dev.rd RAIL.AVS_TIMEOUT n ≤ k →
      (s.dev.rail n).cmd.pend = some c →
      exec (.railAvsTimeout n) s = .next (s.ends [s.event Ev.RAIL_AVS_TIMEOUT n n] [] ((s.dev.updAvs n (fun a => { a
        with timer := none })).updCmd n (fun q => { q with
        pend := none, lastId := c.id, lastStatus := 4, doneT := none, fdown := none }))))

/-- RAIL_VS_LOST after four counted ticks without a sample of a rail that is not STOPPED sets VS_LOST, counts and
raises RAIL_VS_LOST; a TUNE run on the rail aborts with reason 3, and a calibration of the rail aborts, gives back its
claim and counts (that sense loss is a fault which ends them is log entry 75, DEDUCED). RAIL_VS_SQUALL after 64 raises
RAIL_SQUALL_REQ once and asks for a Squall of cause 3 with the rail as parameter: with the latch clear the latch is
set and the critical record waits; with the latch set only TRIGMASK takes the cause. The fault monitor (task 0x0D),
function by function: the count of R176 and of R177 with the ripple test; the healthy count H and the derated limit of
R182; what a fall of H does (R184, R186); the check of R189; and that a phase is checked only in ACTIVE with no
removal decided. Rests on: R187, R188, R322, R168, R209, R176, R177, R181, R182, R184, R186, R189. -/
def Obligations.VoltageSenseLoss : Prop :=
  (∀ (n : Nat) (s : State),
      let lost : Bool := s.dev.tune.running && s.dev.tune.rail == n
      s.settled = true →
      n < s.dev.rails.length →
      4 ≤ (s.dev.rail n).flt.vsMiss →
      (s.dev.rail n).flt.vsLost = false →
      (s.dev.rail n).cmd.st ≠ .stopped →
      s.dev.cal.running = false ∨ s.dev.cal.rail ≠ n →
      exec (.railVsLost n) s = .next (s.ends ([s.event Ev.RAIL_VS_LOST n n] ++ (if lost = true then [s.event
        Ev.TUNE_ABORT n] else [])) [] { ((s.dev.updFlt n (fun f => { f with vsLost := true })).bump
        RAIL.FCOUNTS_VS_LOSSES n) with
        tune := (if lost = true then { s.dev.tune with st := .aborted, reason := 3, d := 0 } else s.dev.tune) })) ∧
  (∀ (n : Nat) (k : Nat) (s : State),
      s.settled = true →
      n < s.dev.rails.length →
      4 ≤ (s.dev.rail n).flt.vsMiss →
      (s.dev.rail n).flt.vsLost = false →
      (s.dev.rail n).cmd.st ≠ .stopped →
      s.dev.tune.running = false ∨ s.dev.tune.rail ≠ n →
      s.dev.cal.running = true →
      s.dev.cal.rail = n →
      s.dev.owner (1 + n) = ⟨k, 0, 0, 4⟩ →
      exec (.railVsLost n) s = .next (s.ends [s.event Ev.RAIL_VS_LOST n n, s.event Ev.DROOP_CAL_ABORT n] [] {
        (((s.dev.updFlt n (fun f => { f with vsLost := true })).bump RAIL.FCOUNTS_VS_LOSSES n).bump
        DROOP.CAL_COUNT_ABORTS) with
        cal := { s.dev.cal with st := s.dev.cal.rest, delta := 0 },
        claims := { s.dev.claims with res := modAt s.dev.claims.res (1 + n) (fun _ => {}) } })) ∧
  (∀ (n : Nat) (s : State),
      s.settled = true →
      n < s.dev.rails.length →
      64 ≤ (s.dev.rail n).flt.vsMiss →
      (s.dev.rail n).flt.sqReq = false →
      (s.dev.rail n).cmd.st ≠ .stopped →
      (s.dev.rail n).cmd.st ≠ .retention →
      s.aon.squall.active = true →
      exec (.railVsSquall n) s = .next ({ s.ends [s.event Ev.RAIL_SQUALL_REQ n n] [] (s.dev.updFlt n (fun f => { f
        with sqReq := true })) with
        aon := { s.aon with squall := { s.aon.squall with trigs := s.aon.squall.trigs ||| 4 } } })) ∧
  (∀ (n : Nat) (s : State),
      s.settled = true →
      n < s.dev.rails.length →
      64 ≤ (s.dev.rail n).flt.vsMiss →
      (s.dev.rail n).flt.sqReq = false →
      (s.dev.rail n).cmd.st ≠ .stopped →
      (s.dev.rail n).cmd.st ≠ .retention →
      s.aon.squall.active = false →
      Reaches (.railVsSquall n) s (fun t => t.aon = { s.aon with
        squall := { s.aon.squall with
          active := true, cause := 3, trigs := 4, bytes := t.aon.squall.bytes, idx := t.aon.squall.idx,
          st := .waiting, fails := 0 } } ∧ (t.dev.rail n).flt.sqReq = true
        ∧ t.dev.sqActive = true ∧ t.dev.credit.leases = [] ∧ t.dev.credit.queue = []
        ∧ t.dev.nv.block = true ∧ t.pending = s.pending ∧ t.dev.tick = s.dev.tick)) ∧
  (∀ (d : Dev) (n : Nat) (p : Nat),
      let others : List Nat := (d.phasesOf n).filter (fun q => q != p && (d.phase q).ok)
      let oi : Nat := d.rd RAIL.OPENDET_OPEN_I n
      let ref : Int := if others.isEmpty then ((4 * (d.rail n).loop.icmd / max 1 (d.rail n).sw.grid.length : Nat) :
        Int) else (2 * sumI (others.map (fun q => (d.phase q).avg)) + others.length) / (2 * others.length)
      let cnt : Nat := if (d.phase p).ok = false ∨ ref < 4 * (oi : Int) then (d.phase p).openCnt else if oi ≤ (d.phase
        p).avg.natAbs then 0 else (d.phase p).openCnt + ((d.phase p).reps.filter (fun o => decide (d.rd
        RAIL.OPENDET_OPEN_ONT n ≤ o))).length
      p < d.phases.length →
      (d.phase p).removal = none →
      ((d.openCheck n p).phase p).openCnt = cnt ∧ ((d.openCheck n p).phase p).removal = (if 4 ≤ cnt then some 4 else
        none)) ∧
  (∀ (d : Dev) (n : Nat) (p : Nat),
      let others : List Nat := (d.phasesOf n).filter (fun q => q != p && (d.phase q).ok)
      let mean : Int := (2 * sumI (others.map (fun q => (d.phase q).avg)) + others.length) / (2 * others.length)
      let lim : Int := ((min (d.rd RAIL.SENSEDET_ABS n) (d.rd RAIL.HARD_FDET_HARD_SABS n) : Nat) : Int) + (mean *
        ((min (d.rd RAIL.SENSEDET_REL n) (d.rd RAIL.HARD_FDET_HARD_SREL n) : Nat) : Int) + 128) / 256
      let cnt : Nat := if lim < (((d.phase p).avg - mean).natAbs : Int) ∧ (d.phase p).ripBad = true then (d.phase
        p).senseCnt + 1 else 0
      p < d.phases.length →
      (d.phase p).ok = true →
      2 ≤ others.length →
      d.rd RAIL.OPENDET_OPEN_I n ≤ (d.phase p).avg.natAbs →
      (d.phase p).removal = none →
      ((d.senseCheck n p).phase p).senseCnt = cnt ∧ ((d.senseCheck n p).phase p).removal = (if 8 ≤ cnt then some 5
        else none)) ∧
  (∀ (d : Dev) (n : Nat) (p : Nat),
      (d.phase p).ok = false ∨ ((d.phasesOf n).filter (fun q => q != p && (d.phase q).ok)).length < 2
        ∨ (d.phase p).avg.natAbs < d.rd RAIL.OPENDET_OPEN_I n →
      d.senseCheck n p = d) ∧
  (∀ (d : Dev) (n : Nat) (ont : Nat) (ph : Phase),
      let want : Nat := (ont * d.rd RAIL.MODEL_RAMP_K n + 2 ^ 11) / 2 ^ 12
      d.rippleTest n ont ph = decide (min (d.rd RAIL.SENSEDET_RIP_ABS n) (d.rd RAIL.HARD_FDET_HARD_SABS n) + (want *
        min (d.rd RAIL.SENSEDET_REL n) (d.rd RAIL.HARD_FDET_HARD_SREL n) + 128) / 256 < ((ph.ripMax.getD 0) -
        (ph.ripMin.getD 0) - (want : Int)).natAbs)) ∧
  (∀ (d : Dev) (n : Nat) (l : Nat),
      d.healthy n = (if d.avs n then 0 else ((upto d.phases.length).filter (fun p => d.phRail p == n && d.phEn p &&
        (d.phase p).st != .faulted && (d.phase p).removal.isNone)).length) ∧ d.derate n l = (if d.avs n = false
        ∧ (d.rail n).flt.h < d.h0 n then l * (d.rail n).flt.h / d.h0 n else l) ∧ d.h0 n = (match (d.rail n).flt.hStart
        with | none => d.rd RAIL.DERATE_NOMINAL n | some h => max (d.rd RAIL.DERATE_NOMINAL n) h)) ∧
  (∀ (d : Dev) (n : Nat),
      n < d.rails.length →
      d.avs n = false →
      d.healthy n < (d.rail n).flt.h →
      d.healthy n < d.h0 n →
      d.minPhases n ≤ d.healthy n →
      d.cal.st = .idle ∨ d.cal.rail ≠ n →
      ((d.derateStep n).rail n).flt.h = d.healthy n ∧ ((d.derateStep n).rail n).sw.shedCnt = 0
        ∧ ((d.phasesOf n).filter (fun q => (d.phase q).st == .shed)).all (fun q => ((d.derateStep n).rail
        n).sw.chg.any (fun c => c.ph == q)) = true ∧ (d.derateStep n).evq.contains ⟨8 + n, Ev.RAIL_DERATED.loc,
        Ev.RAIL_DERATED.sev, n % 256, d.tick.b % 2 ^ 32⟩ = true ∧ (d.derateStep n).sqReq = d.sqReq) ∧
  (∀ (d : Dev) (n : Nat),
      n < d.rails.length →
      d.avs n = false →
      d.healthy n < (d.rail n).flt.h →
      d.healthy n < d.minPhases n →
      (d.rail n).cmd.st ≠ .stopped →
      (d.rail n).cmd.st ≠ .retention →
      (d.rail n).flt.sqReq = false →
      (d.derateStep n).sqReq = d.sqReq ++ [(3, n)] ∧ ((d.derateStep n).rail n).flt.sqReq = true
        ∧ (d.derateStep n).evq.contains ⟨8 + n, Ev.RAIL_SQUALL_REQ.loc, Ev.RAIL_SQUALL_REQ.sev, n % 256, d.tick.b % 2
        ^ 32⟩ = true) ∧
  (∀ (d : Dev) (n : Nat),
      n < d.rails.length →
      (d.rail n).flt.h ≤ d.healthy n →
      (d.rail n).flt.startTick = false →
      d.derateStep n = d.updFlt n (fun q => { q with h := d.healthy n, startTick := false })) ∧
  (∀ (d : Dev) (n : Nat) (e : Nat),
      let a : BeatAcc := (d.rail n).flt.accB2
      let volt : Nat := (2 * a.sv + a.n) / (2 * a.n)
      let est : Nat := (2 * (1000 * e) + volt) / (2 * volt)
      let meas : Nat := (max 0 ((2 * a.si + 4 * a.n) / (2 * (4 * a.n)))).toNat
      let bad : Prop := d.rd RAIL.PLAUS_ABS_ABS n + (est * d.rd RAIL.PLAUS_CFG_REL n + 128) / 256 < ((meas : Int) -
        (est : Int)).natAbs
      n < d.rails.length →
      d.on RAIL.PLAUS_CFG_EN n = true →
      (d.rail n).flt.pest = some e →
      (d.rail n).flt.pestLate = false →
      a.n ≠ 0 →
      a.lost = false →
      a.ran = true →
      volt ≠ 0 →
      (d.plausCheck n).rd RAIL.PLAUS_STAT_IEST n = min 65535 est ∧ (d.plausCheck n).rd RAIL.PLAUS_STAT_IMEAS n = min
        65535 meas ∧ ((d.plausCheck n).rail n).flt.badRun = (if bad then (d.rail n).flt.badRun + 1 else 0)
        ∧ ((d.plausCheck n).rail n).flt.goodRun = (if bad then 0 else (d.rail n).flt.goodRun + 1)
        ∧ ((d.plausCheck n).rail n).flt.implaus = (if bad ∧ d.rd RAIL.PLAUS_CFG_BEATS n ≤ (d.rail n).flt.badRun + 1
        then true else if ¬ bad ∧ d.rd RAIL.PLAUS_CFG_BEATS n ≤ (d.rail n).flt.goodRun + 1 then false else (d.rail
        n).flt.implaus)) ∧
  (∀ (d : Dev) (n : Nat),
      (d.rail n).flt.pest = none ∨ d.on RAIL.PLAUS_CFG_EN n = false ∨ (d.rail n).flt.accB2.n = 0
        ∨ (d.rail n).flt.accB2.lost = true ∨ (d.rail n).flt.pestLate = true ∨ (d.rail n).flt.accB2.ran = false →
      d.plausCheck n = d) ∧
  (∀ (d : Dev) (n : Nat) (f : Dev → Nat → Dev),
      ((d.phasesOf n).filter (fun p => (d.phase p).st == .active && (d.phase p).removal.isNone)) = [] →
      d.forActive n f = d)

/-- TUNE_ARM with no run in progress, on a rail in closed direct control with the capture and the rail claimed by the
path, starts the run in SETTLING from the FTW word with the PRBS register seeded; without a claim TUNE_NO_CLAIM is
raised and nothing starts; with a run in progress TUNE_REFUSED. TUNE_STOP aborts a run with reason 6. TUNE_DONE after
the last sample enters DONE and raises TUNE_DONE. Nothing else changes. Rests on: R166, R167, R168. -/
def Obligations.TuneRuns : Prop :=
  (∀ (a : Acc) (v : BitVec 32) (s : State),
      s.settled = true →
      s.dev.ready 0x1E = true →
      a.privOk = true →
      bitsAt v.toNat 31 1 = 1 →
      bitsAt v.toNat 30 1 = 0 →
      s.dev.tune.running = false →
      bitsAt v.toNat 0 3 < s.dev.rails.length →
      bitsAt v.toNat 10 2 = 0 ∨ s.dev.closedDirect (bitsAt v.toNat 0 3) = true →
      s.dev.owns a 0 = true →
      (s.dev.owner 0).feat = 1 →
      bitsAt v.toNat 10 2 = 0 ∨ s.dev.owns a (1 + bitsAt v.toNat 0 3) = true →
      exec (.tuneArm a v) s = .next (s.ends [] [] { (s.dev.stores [TUNE.CTRL_WAVE, TUNE.CTRL_POINT, TUNE.CTRL_RAIL] 0
        0 v) with
        tune := { s.dev.tune with
          st := .settling, rail := bitsAt v.toNat 0 3, reason := 0, count := 0, ticks := 0, phi := 0,
          ftwk := s.dev.rd TUNE.FTW_FTW, lfsr := 0x7FFF, d := 0, out1 := false } })) ∧
  (∀ (a : Acc) (v : BitVec 32) (s : State),
      s.settled = true →
      s.dev.ready 0x1E = true →
      a.privOk = true →
      bitsAt v.toNat 31 1 = 1 →
      bitsAt v.toNat 30 1 = 0 →
      s.dev.tune.running = false →
      bitsAt v.toNat 0 3 < s.dev.rails.length →
      bitsAt v.toNat 10 2 = 0 ∨ s.dev.closedDirect (bitsAt v.toNat 0 3) = true →
      s.dev.owns a 0 = false →
      exec (.tuneArm a v) s = .next (s.ends [s.event Ev.TUNE_NO_CLAIM (bitsAt v.toNat 0 3)] [] (s.dev.stores
        [TUNE.CTRL_WAVE, TUNE.CTRL_POINT, TUNE.CTRL_RAIL] 0 0 v))) ∧
  (∀ (a : Acc) (v : BitVec 32) (s : State),
      s.settled = true →
      s.dev.ready 0x1E = true →
      a.privOk = true →
      bitsAt v.toNat 31 1 = 1 →
      bitsAt v.toNat 30 1 = 0 →
      s.dev.tune.running = true →
      bitsAt v.toNat 10 2 = s.dev.rd TUNE.CTRL_WAVE →
      bitsAt v.toNat 8 1 = s.dev.rd TUNE.CTRL_POINT →
      bitsAt v.toNat 0 3 = s.dev.rd TUNE.CTRL_RAIL →
      exec (.tuneArm a v) s = .next (s.ends [s.event Ev.TUNE_REFUSED (bitsAt v.toNat 0 3)] [] (s.dev.stores
        [TUNE.CTRL_WAVE, TUNE.CTRL_POINT, TUNE.CTRL_RAIL] 0 0 v))) ∧
  (∀ (a : Acc) (v : BitVec 32) (s : State),
      s.settled = true →
      s.dev.ready 0x1E = true →
      a.privOk = true →
      bitsAt v.toNat 30 1 = 1 →
      bitsAt v.toNat 31 1 = 0 →
      s.dev.tune.running = true →
      bitsAt v.toNat 10 2 = s.dev.rd TUNE.CTRL_WAVE →
      bitsAt v.toNat 8 1 = s.dev.rd TUNE.CTRL_POINT →
      bitsAt v.toNat 0 3 = s.dev.rd TUNE.CTRL_RAIL →
      exec (.tuneStop a v) s = .next (s.ends [s.event Ev.TUNE_ABORT s.dev.tune.rail] [] { (s.dev.stores
        [TUNE.CTRL_WAVE, TUNE.CTRL_POINT, TUNE.CTRL_RAIL] 0 0 v) with
        tune := { s.dev.tune with st := .aborted, reason := 6, d := 0 } })) ∧
  (∀ (s : State),
      s.settled = true →
      s.dev.tune.st = .capturing →
      s.dev.rd TUNE.CAP_CFG_LEN + 1 ≤ s.dev.tune.count →
      exec .tuneDone s = .next (s.ends [s.event Ev.TUNE_DONE s.dev.tune.rail] [] { s.dev with
        tune := { s.dev.tune with st := .done } }))

/-- DS_CLK_EDGE shows on DS_n_EVT the largest of the crossing levels of the last 16 codes, the new one among them,
drives that stretch request, counts the cycle and the CODE, and compensates the stretch of the cycle before.
SERVO_STEP with a servo action due moves the coarse setting down by one when the mean of the last 256 codes is below
38 and up when it is above 42, and reports SERVO_LIMIT at the ends. DS_EVT_ACCEPT of a value with level 0 on a
satellite out of Gust is taken as it is; with a level, on a satellite in use, its Gust and that of its domain start,
and in Gust it deepens the deepest level. The cycle of the value is kept as the latest instant of the beat. Nothing
else changes. Rests on: R195, R196, R197, R198, R200. -/
def Obligations.SatelliteSensesAndStretches : Prop :=
  (∀ (k : Nat) (c : BitVec 6) (s : State),
      s.settled = true →
      k < s.dev.sats.length →
      (s.dev.sat k).servoDue = false →
      exec (.dsClkEdge k c) s = .next (s.ends [] [] (s.dev.updSat k (fun x => { x with
        cyc := x.cyc + 1, sum := if (x.cyc + 1) % 256 = 0 then 0 else x.sum + c.toNat,
        last256 := if (x.cyc + 1) % 256 = 0 then x.sum + c.toNat else x.last256,
        lvs := (crossing c.toNat :: x.lvs).take 16, stretch := maxN x.lvs,
        run := if maxN x.lvs = 0 then 0 else min 64 (x.run + 1),
        comp := stretchEighths x.stretch * (2 * x.coarse + 40), sinceRel := if x.stretch ≠ 0 ∧ maxN x.lvs = 0 then 0
          else min 4096 (x.sinceRel + 1), servoDue := servoAt (x.cyc + 1),
        evt := evtWord (maxN x.lvs) (decide (64 ≤ (if maxN x.lvs = 0 then 0 else min 64 (x.run + 1)))) x.slim })))) ∧
  (∀ (k : Nat) (s : State),
      s.settled = true →
      k < s.dev.sats.length →
      (s.dev.sat k).servoDue = true →
      (s.dev.sat k).stretch = 0 →
      4096 ≤ (s.dev.sat k).sinceRel →
      (s.dev.sat k).last256 < 38 * 256 →
      0 < (s.dev.sat k).coarse →
      exec (.servoStep k) s = .next (s.ends [] [] (s.dev.updSat k (fun x => { x with
        servoDue := false, coarse := x.coarse - 1, slim := false })))) ∧
  (∀ (k : Nat) (s : State),
      s.settled = true →
      k < s.dev.sats.length →
      (s.dev.sat k).servoDue = true →
      (s.dev.sat k).stretch = 0 →
      4096 ≤ (s.dev.sat k).sinceRel →
      42 * 256 < (s.dev.sat k).last256 →
      (s.dev.sat k).coarse = 255 →
      exec (.servoStep k) s = .next (s.ends [] [] (s.dev.updSat k (fun x => { x with
        servoDue := false, slim := true })))) ∧
  (∀ (k : Nat) (e : BitVec 4) (cyc : Nat) (s : State),
      s.settled = true →
      k < s.dev.sats.length →
      bitsAt e.toNat 2 2 = 0 →
      bitsAt e.toNat 0 1 = 0 →
      (s.dev.sat k).gust = false →
      s.dev.cal.st ≠ .pulse →
      (s.dev.dom (s.dev.satDom k)).gust = false →
      (∀ o ∈ List.range s.dev.sats.length, o ≠ k → s.dev.satGust o = false) →
      exec (.dsEvtAccept k e cyc) s = .next (s.ends [] [] ((s.dev.atCyc cyc).updSat k (fun x => { x with
        acc := e.toNat })))) ∧
  (∀ (k : Nat) (e : BitVec 4) (cyc : Nat) (s : State),
      s.settled = true →
      k < s.dev.sats.length →
      1 ≤ bitsAt e.toNat 2 2 →
      bitsAt e.toNat 0 1 = 0 →
      bitsAt e.toNat 1 1 = 0 →
      (s.dev.sat k).gust = true →
      (s.dev.sat k).persisted = false →
      s.dev.satInUse k = true →
      s.dev.cal.st ≠ .pulse →
      (s.dev.dom (s.dev.satDom k)).gust = true →
      exec (.dsEvtAccept k e cyc) s = .next (s.ends [] [] ((s.dev.atCyc cyc).updSat k (fun x => { x with
        acc := e.toNat, deep := max x.deep (bitsAt e.toNat 2 2) })))) ∧
  (∀ (k : Nat) (e : BitVec 4) (cyc : Nat) (s : State),
      s.settled = true →
      k < s.dev.sats.length →
      1 ≤ bitsAt e.toNat 2 2 →
      bitsAt e.toNat 0 1 = 0 →
      bitsAt e.toNat 1 1 = 0 →
      (s.dev.sat k).gust = false →
      s.dev.satInUse k = true →
      s.dev.cal.st ≠ .pulse →
      s.dev.wave.st ≠ .armed →
      s.dev.satDom k < s.dev.doms.length →
      (s.dev.dom (s.dev.satDom k)).gust = false →
      exec (.dsEvtAccept k e cyc) s = .next (s.ends [] [] (((((s.dev.atCyc cyc).updSat k (fun x => { x with
        acc := e.toNat, gust := true, gustBeats := 0, deep := bitsAt e.toNat 2 2, persisted := false })).bump
        DROOP.COUNT_GUSTS 0 k).updDom (s.dev.satDom k) (fun x => { x with
        gust := true, gustAt := s.dev.gclk cyc, wait := false })).bump DROOP.DSTAT_GUSTS 0 (s.dev.satDom k))))

/-- GUST_RELEASE_WAIT_END ends the wait of a domain out of Gust, and SWITCH rises where a prepared change was withheld
and its voltage suffices. SATELLITE_IN_USE of a gated domain changes nothing; of an ungated one it puts every
satellite of the domain in use, and where none of them has an accepted level and no Gust is on, nothing else changes.
DROOP_STUCK sets STUCK of a satellite whose Gust has lasted STUCK.LIMIT beats, ends its Gust with a depth sample,
raises DROOP_STUCK and makes a forced calibration of its rail due; when it was the last of its domain, the Gust of the
domain ends too, with a duration sample and the release wait. MAP_USE_WRITE of 1 on a satellite without an accepted
level clears STUCK. GUST_LONG marks a Gust of 24,000 GCLK cycles, abandons a prepared increase with DROOP_CANCEL_UP,
and lets a prepared decrease switch, counted and raised as DROOP_FORCED_DOWN. Nothing else changes. That the length of
a Gust runs to the latest instant a command named, and not to GT, is the model's choice (log entry 82), as is that
GUST_LONG stands for the 24,000th cycle (log entry 4). Rests on: R200, R202, R204, R205, R208, R431. -/
def Obligations.GustsEndAndSatellitesLeaveUse : Prop :=
  (∀ (m : Nat) (s : State),
      s.settled = true →
      m < s.dev.doms.length →
      (s.dev.dom m).wait = true →
      (s.dev.dom m).prep = false →
      exec (.gustReleaseWaitEnd m) s = .next (s.ends [] [] (s.dev.updDom m (fun x => { x with wait := false })))) ∧
  (∀ (m : Nat) (s : State),
      s.settled = true →
      m < s.dev.doms.length →
      (s.dev.dom m).wait = true →
      (s.dev.dom m).gust = false →
      (s.dev.dom m).prep = true →
      (s.dev.dom m).prepAck = true →
      (s.dev.dom m).sw = false →
      (s.dev.dom m).swAck = false →
      s.dev.sqActive = false →
      (s.dev.dom m).freq ≤ (s.dev.dom m).conf ∨ s.dev.voltOk m = true →
      exec (.gustReleaseWaitEnd m) s = .next (s.ends [] [] (s.dev.updDom m (fun x => { x with
        wait := false, sw := true, defer_ := false })))) ∧
  (∀ (m : Nat) (c : Nat) (s : State),
      s.settled = true →
      m < s.dev.doms.length →
      (s.dev.dom m).gate = true →
      exec (.satelliteInUse m c) s = .next (s.ends [] [] s.dev)) ∧
  (∀ (m : Nat) (c : Nat) (s : State),
      s.settled = true →
      m < s.dev.doms.length →
      (s.dev.dom m).gate = false →
      Reaches (.satelliteInUse m c) s (fun t => ∀ k ∈ List.range s.dev.sats.length, s.dev.satDom k = m → (t.dev.sat
        k).open100 = true)) ∧
  (∀ (m : Nat) (c : Nat) (s : State),
      s.settled = true →
      m < s.dev.doms.length →
      (s.dev.dom m).gate = false →
      (s.dev.dom m).gust = false →
      (∀ k ∈ List.range s.dev.sats.length, s.dev.satDom k = m → (s.dev.sat k).level = 0
        ∧ (s.dev.sat k).gust = false) →
      exec (.satelliteInUse m c) s = .next (s.ends [] [] { s.dev with
        tick := { s.dev.tick with cyc := c }, sats := s.dev.sats.zipIdx.map (fun (y : Sat × Nat) => if s.dev.satDom
          y.2 = m then { y.1 with open100 := true } else y.1) })) ∧
  (∀ (k : Nat) (o : Nat) (s : State),
      s.settled = true →
      k < s.dev.sats.length →
      (s.dev.sat k).gust = true →
      s.dev.rd DROOP.STUCK_LIMIT ≤ (s.dev.sat k).gustBeats →
      s.dev.satDom k < s.dev.doms.length →
      (s.dev.dom (s.dev.satDom k)).gust = true →
      o < s.dev.sats.length →
      o ≠ k →
      s.dev.satDom o = s.dev.satDom k →
      s.dev.satGust o = true →
      exec (.droopStuck k) s = .next (s.ends [s.event Ev.DROOP_STUCK k] [] ({ s.dev with
        cal := { s.dev.cal with
          dueF := insertAsc (s.dev.satRail k) s.dev.cal.dueF,
          st := if s.dev.cal.st = CalSt.idle then CalSt.wait else s.dev.cal.st },
        smp := [(0x06, s.dev.satRail k, s.dev.gustDepth k (s.dev.sat k).deep)] }.updSat k (fun x => { x with
        stuck := true, gust := false, gustBeats := 0 })))) ∧
  (∀ (k : Nat) (s : State),
      s.settled = true →
      k < s.dev.sats.length →
      (s.dev.sat k).gust = true →
      s.dev.rd DROOP.STUCK_LIMIT ≤ (s.dev.sat k).gustBeats →
      s.dev.satDom k < s.dev.doms.length →
      (s.dev.dom (s.dev.satDom k)).gust = true →
      (∀ o ∈ List.range s.dev.sats.length, o ≠ k → s.dev.satDom o = s.dev.satDom k → s.dev.satGust o = false) →
      exec (.droopStuck k) s = .next (s.ends [s.event Ev.DROOP_STUCK k] [] (({ s.dev with
        cal := { s.dev.cal with
          dueF := insertAsc (s.dev.satRail k) s.dev.cal.dueF,
          st := if s.dev.cal.st = CalSt.idle then CalSt.wait else s.dev.cal.st }, smp := [(0x06, s.dev.satRail k,
          s.dev.gustDepth k (s.dev.sat k).deep), (0x07, s.dev.satDom k, ((s.dev.gnow - (s.dev.dom (s.dev.satDom
          k)).gustAt : Nat) : Int))] }.updSat k (fun x => { x with
        stuck := true, gust := false, gustBeats := 0 })).updDom (s.dev.satDom k) (fun x => { x with
        gust := false, long := false, wait := true })))) ∧
  (∀ (k : Nat) (a : Acc) (v : BitVec 32) (s : State),
      s.settled = true →
      k < 64 →
      k < s.dev.sats.length →
      a.privOk = true →
      s.dev.ready 0x10 = true →
      bitsAt v.toNat 31 1 = 1 →
      (s.dev.sat k).gust = false →
      (s.dev.sat k).level = 0 →
      (s.dev.dom (s.dev.satDom k)).gust = false →
      (∀ o ∈ List.range s.dev.sats.length, o ≠ k → s.dev.satDom o = s.dev.satDom k → s.dev.satGust o = false) →
      exec (.mapUseWrite k a v) s = .next (s.ends [] [] ((s.dev.stores [DROOP.MAP_USE] 0 k v).updSat k (fun x => { x
        with stuck := false })))) ∧
  (∀ (m : Nat) (s : State),
      s.settled = true →
      m < s.dev.doms.length →
      (s.dev.dom m).gust = true →
      (s.dev.dom m).long = false →
      (s.dev.dom m).prep = false ∨ (s.dev.dom m).sw = true →
      exec (.gustLong m) s = .next (s.ends [] [] (s.dev.updDom m (fun x => { x with long := true })))) ∧
  (∀ (m : Nat) (s : State),
      s.settled = true →
      m < s.dev.doms.length →
      (s.dev.dom m).gust = true →
      (s.dev.dom m).long = false →
      (s.dev.dom m).prep = true →
      (s.dev.dom m).sw = false →
      (s.dev.dom m).conf < (s.dev.dom m).freq →
      (s.dev.dom m).cancelSent = false →
      exec (.gustLong m) s = .next (s.ends [s.event Ev.DROOP_CANCEL_UP m] [] ((s.dev.updDom m (fun x => { x with
        long := true, prep := false, defer_ := false, counted := false, cancelSent := true })).bump DROOP.DCNT_CANCELS
        0 m))) ∧
  (∀ (m : Nat) (s : State),
      s.settled = true →
      m < s.dev.doms.length →
      (s.dev.dom m).gust = true →
      (s.dev.dom m).long = false →
      (s.dev.dom m).wait = false →
      (s.dev.dom m).prep = true →
      (s.dev.dom m).prepAck = true →
      (s.dev.dom m).sw = false →
      (s.dev.dom m).swAck = false →
      s.dev.sqActive = false →
      (s.dev.dom m).freq ≤ (s.dev.dom m).conf →
      (s.dev.dom m).forcedSent = false →
      exec (.gustLong m) s = .next (s.ends [s.event Ev.DROOP_FORCED_DOWN m] [] ((s.dev.updDom m (fun x => { x with
        long := true, sw := true, defer_ := false, forcedSent := true })).bump DROOP.DCNT_FORCED 0 m)))

/-- CAL_GO makes a calibration of its rail due, and CAL_PERIOD_DUE one of every rail once the period has passed.
CAL_START at a beat at which the conditions of a due rail hold takes the free claim of the rail and enters the gap of
the first pulse; a forced one takes the claim as a safety owner, and a path that held it then sees RESULT = PREEMPTED,
with PREEMPTS counted, CLAIM_PREEMPTED raised and a TUNE run that injected there aborted with reason 5; with the claim
of the only due rail held by another, it counts a skip, raises CLAIM_BUSY and drops the request; where no due rail
meets its conditions nothing changes. CAL_GAP_END takes the voltage before the pulse and starts it. CAL_PULSE_END
records the drop of each satellite in use for the levels it crossed first, and steps deeper; once every such satellite
has its third level, or the next step would pass the limit, it ends the run instead: X1, X2 and X3 take the recorded
drops or 0xFF, VALID is set, the claim is given back, the run is counted, and, where no satellite is suspect,
DROOP_CAL_DONE alone is raised. Nothing else changes. The rounding of the drop, its cap at 254 and the drop 0 of a
pulse in which the voltage rose are the model's choice (log entry 30). Rests on: R208, R209, R210, R211, R482. -/
def Obligations.LiveCalibration : Prop :=
  (∀ (a : Acc) (v : BitVec 32) (s : State),
      s.settled = true →
      s.dev.ready 0x10 = true →
      a.privOk = true →
      bitsAt v.toNat 31 1 = 1 →
      bitsAt v.toNat 0 3 < s.dev.rails.length →
      exec (.calGo a v) s = .next (s.ends [] [] { s.dev with
        cal := { s.dev.cal with
          due := insertAsc (bitsAt v.toNat 0 3) s.dev.cal.due,
          st := if s.dev.cal.st = .idle then .wait else s.dev.cal.st } })) ∧
  (∀ (s : State),
      s.settled = true →
      0 < s.dev.rails.length →
      s.dev.on DROOP.CAL_CFG_EN = true →
      1000 * s.dev.rd DROOP.CAL_CFG_PERIOD ≤ s.dev.cal.ms →
      Reaches (.calPeriodDue) s (fun t => (∀ o, o ∈ t.dev.cal.due ↔ o ∈ s.dev.cal.due
        ∨ o < s.dev.rails.length) ∧ t.dev.cal = { s.dev.cal with
        ms := 0, st := if s.dev.cal.st = .idle then .wait else s.dev.cal.st, due := t.dev.cal.due } ∧ t = { s with
        dev := { s.dev with out := [], cal := t.dev.cal } })) ∧
  (∀ (n : Nat) (s : State),
      s.settled = true →
      s.dev.cal.running = false →
      s.dev.sqActive = false →
      s.dev.calNext = some (n, false) →
      (s.dev.owner (1 + n)).kind = 0 →
      s.dev.rd DROOP.CAL_STEP_START ≤ s.dev.calMax →
      exec .calStart s = .next (s.ends [] [] { s.dev with
        cal := { s.dev.cal with
          st := .gap, rail := n, forced := false, delta := s.dev.rd DROOP.CAL_STEP_START, first := true, ticks := 0,
          vh := [], i0 := sumI ((s.dev.calWindow n).getD [0]), i0n := ((s.dev.calWindow n).getD [0]).length,
          vcal := toMv4 (s.dev.rail n).loop.r, due := s.dev.cal.due.filter (fun x => x != n) },
        claims := { s.dev.claims with res := modAt s.dev.claims.res (1 + n) (fun _ => ⟨2, 0, 0, 4⟩) }, sats :=
          s.dev.sats.map (fun (x : Sat) => { x with
          x1 := none, x2 := none, x3 := none, x1first := false, pulseMax := 0 }) })) ∧
  (∀ (n : Nat) (s : State),
      s.settled = true →
      s.dev.cal.running = false →
      s.dev.sqActive = false →
      s.dev.calNext = some (n, true) →
      (s.dev.owner (1 + n)).kind ≠ 1 →
      s.dev.tuneUses (1 + n) = false →
      s.dev.rd DROOP.CAL_STEP_START ≤ s.dev.calMax →
      exec .calStart s = .next (s.ends [] [] { s.dev with
        cal := { s.dev.cal with
          st := .gap, rail := n, forced := true, delta := s.dev.rd DROOP.CAL_STEP_START, first := true, ticks := 0,
          vh := [], i0 := sumI ((s.dev.calWindow n).getD [0]), i0n := ((s.dev.calWindow n).getD [0]).length,
          vcal := toMv4 (s.dev.rail n).loop.r, dueF := s.dev.cal.dueF.filter (fun x => x != n) },
        claims := { s.dev.claims with res := modAt s.dev.claims.res (1 + n) (fun _ => ⟨3, 0, 0, 4⟩) }, sats :=
          s.dev.sats.map (fun (x : Sat) => { x with
          x1 := none, x2 := none, x3 := none, x1first := false, pulseMax := 0 }) })) ∧
  (∀ (n : Nat) (p : Nat) (s : State),
      let lost : Bool := s.dev.tuneUses (1 + n)
      s.settled = true →
      s.dev.cal.running = false →
      s.dev.sqActive = false →
      s.dev.calNext = some (n, true) →
      (s.dev.owner (1 + n)).kind = 1 →
      1 ≤ p →
      p ≤ 3 →
      (s.dev.owner (1 + n)).path = p →
      s.dev.rd DROOP.CAL_STEP_START ≤ s.dev.calMax →
      exec .calStart s = .next (s.ends ([s.event Ev.CLAIM_PREEMPTED (1 + n)] ++ (if lost = true then [s.event
        Ev.TUNE_ABORT s.dev.tune.rail] else [])) [] { (((s.dev.wr CLAIM.RESULT_CODE 6 0 (p - 1)).wr CLAIM.RESULT_RES
        (1 + n) 0 (p - 1)).bump CLAIM.PREEMPTS_COUNT) with
        cal := { s.dev.cal with
          st := .gap, rail := n, forced := true, delta := s.dev.rd DROOP.CAL_STEP_START, first := true, ticks := 0,
          vh := [], i0 := sumI ((s.dev.calWindow n).getD [0]), i0n := ((s.dev.calWindow n).getD [0]).length,
          vcal := toMv4 (s.dev.rail n).loop.r, dueF := s.dev.cal.dueF.filter (fun x => x != n) },
        tune := (if lost = true then { s.dev.tune with st := .aborted, reason := 5, d := 0 } else s.dev.tune),
        claims := { s.dev.claims with res := modAt s.dev.claims.res (1 + n) (fun _ => ⟨3, 0, 0, 4⟩) }, sats :=
          s.dev.sats.map (fun (x : Sat) => { x with
          x1 := none, x2 := none, x3 := none, x1first := false, pulseMax := 0 }) })) ∧
  (∀ (n : Nat) (s : State),
      s.settled = true →
      s.dev.cal.running = false →
      s.dev.sqActive = false →
      s.dev.cal.due = [n] →
      s.dev.cal.dueF = [] →
      s.dev.calReady n = true →
      (s.dev.owner (1 + n)).kind ≠ 0 →
      s.dev.claims.busySent.contains (1 + n) = false →
      exec .calStart s = .next (s.ends [s.event Ev.CLAIM_BUSY (1 + n)] [] { ((s.dev.bump
        DROOP.CAL_COUNT_BUSY_SKIPS).bump CLAIM.BUSY_CNT_COUNT) with
        claims := { s.dev.claims with busySent := insertAsc (1 + n) s.dev.claims.busySent },
        cal := { s.dev.cal with due := [], st := .idle } })) ∧
  (∀ (s : State),
      s.settled = true →
      s.dev.cal.running = false →
      s.dev.sqActive = false →
      s.dev.calNext = none →
      exec .calStart s = .next (s.ends [] [] s.dev)) ∧
  (∀ (s : State),
      s.settled = true →
      s.dev.cal.st = .gap →
      4 * s.dev.rd DROOP.CAL_CFG_GAP ≤ s.dev.cal.ticks →
      exec .calGapEnd s = .next (s.ends [] [] { s.dev with
        cal := { s.dev.cal with st := .pulse, v0 := s.dev.cal.vmean, ticks := 0, vh := [] },
        sats := s.dev.sats.map (fun (x : Sat) => { x with pulseMax := 0 }) })) ∧
  (∀ (s : State),
      s.settled = true →
      s.dev.cal.st = .pulse →
      4 * s.dev.rd DROOP.CAL_CFG_PULSE ≤ s.dev.cal.ticks →
      s.dev.cal.delta + s.dev.rd DROOP.CAL_STEP_STEP ≤ s.dev.calMax →
      (∃ k ∈ s.dev.calSats s.dev.cal.rail, ((s.dev.sat k).takeDrop (min 254 (s.dev.cal.v0 - s.dev.cal.vmean))
        s.dev.cal.first).x3 = none) →
      exec .calPulseEnd s = .next (s.ends [] [] { s.dev with
        cal := { s.dev.cal with
          st := .gap, delta := s.dev.cal.delta + s.dev.rd DROOP.CAL_STEP_STEP, first := false, ticks := 0, vh := [] },
        sats := s.dev.sats.zipIdx.map (fun (y : Sat × Nat) => if y.2 ∈ s.dev.calSats s.dev.cal.rail then y.1.takeDrop
          (min 254 (s.dev.cal.v0 - s.dev.cal.vmean)) s.dev.cal.first else y.1) })) ∧
  (∀ (s : State),
      s.settled = true →
      s.dev.cal.st = .pulse →
      4 * s.dev.rd DROOP.CAL_CFG_PULSE ≤ s.dev.cal.ticks →
      s.dev.calMax < s.dev.cal.delta + s.dev.rd DROOP.CAL_STEP_STEP ∨ (∀ k ∈ s.dev.calSats s.dev.cal.rail, ((s.dev.sat
        k).takeDrop (min 254 (s.dev.cal.v0 - s.dev.cal.vmean)) s.dev.cal.first).x3 ≠ none) →
      (∀ k ∈ s.dev.calSats s.dev.cal.rail, ((s.dev.sat k).takeDrop (min 254 (s.dev.cal.v0 - s.dev.cal.vmean))
        s.dev.cal.first).x1 ≠ none ∧ ((s.dev.sat k).takeDrop (min 254 (s.dev.cal.v0 - s.dev.cal.vmean))
        s.dev.cal.first).x1first = false) →
      s.dev.on LEVEL.AGE_CFG_EN = false →
      s.dev.owner (1 + s.dev.cal.rail) = ⟨2, 0, 0, 4⟩ →
      s.dev.cal.rail < 8 →
      s.dev.claims.res.length = 26 →
      Reaches (.calPulseEnd) s (fun t => (∀ k ∈ s.dev.calSats s.dev.cal.rail, t.dev.rd DROOP.CAL_X1 0 k = ((s.dev.sat
        k).takeDrop (min 254 (s.dev.cal.v0 - s.dev.cal.vmean)) s.dev.cal.first).x1.getD 0xFF % 256
        ∧ t.dev.rd DROOP.CAL_X2 0 k = ((s.dev.sat k).takeDrop (min 254 (s.dev.cal.v0 - s.dev.cal.vmean))
        s.dev.cal.first).x2.getD 0xFF % 256 ∧ t.dev.rd DROOP.CAL_X3 0 k = ((s.dev.sat k).takeDrop (min 254
        (s.dev.cal.v0 - s.dev.cal.vmean)) s.dev.cal.first).x3.getD 0xFF % 256 ∧ t.dev.rd DROOP.CAL_VALID 0 k = 1)
        ∧ t.dev.cal = { s.dev.cal with st := s.dev.cal.rest, delta := 0 } ∧ t.dev.owner (1 + s.dev.cal.rail) = {}
        ∧ t.dev.rd DROOP.CAL_COUNT_DONE = min (2 ^ DROOP.CAL_COUNT_DONE.wid - 1) (s.dev.rd DROOP.CAL_COUNT_DONE + 1)
        ∧ t = { s with
        hdr := s.hdr.enterAll [s.event Ev.DROOP_CAL_DONE s.dev.cal.rail], dev := { s.dev with
          out := [], cal := t.dev.cal, sats := t.dev.sats, regs := t.dev.regs, claims := t.dev.claims } }))

/-- WAVE_ARM by the path that holds the claim on the capture RAM for this feature arms the capture with an empty ring
and no trigger; from another path it raises DROOP_BAD_VALUE and arms nothing. WAVE_STOP aborts an armed capture.
DROOP_WAVE_DONE enters DONE once the samples after the trigger are complete, with the ring's start. Nothing else
changes. Rests on: R212, R485. -/
def Obligations.WaveformCapture : Prop :=
  (∀ (a : Acc) (v : BitVec 32) (s : State),
      s.settled = true →
      s.dev.ready 0x10 = true →
      a.privOk = true →
      bitsAt v.toNat 31 1 = 1 →
      bitsAt v.toNat 30 1 = 0 →
      s.dev.owns a 0 = true →
      (s.dev.owner 0).feat = 2 →
      exec (.waveArm a v) s = .next (s.ends [] [] { (s.dev.stores [DROOP.WAVE_CFG_RAIL, DROOP.WAVE_CFG_PRE] 0 0 v)
        with wave := { st := .armed, pos := 0, left := none, trig := 0, start := 0 } })) ∧
  (∀ (a : Acc) (v : BitVec 32) (s : State),
      s.settled = true →
      s.dev.ready 0x10 = true →
      a.privOk = true →
      bitsAt v.toNat 31 1 = 1 →
      bitsAt v.toNat 30 1 = 0 →
      s.dev.owns a 0 = false ∨ (s.dev.owner 0).feat ≠ 2 →
      exec (.waveArm a v) s = .next (s.ends [s.event (Ev.badValue 0x10)] [] (s.dev.stores [DROOP.WAVE_CFG_RAIL,
        DROOP.WAVE_CFG_PRE] 0 0 v))) ∧
  (∀ (a : Acc) (v : BitVec 32) (s : State),
      s.settled = true →
      s.dev.ready 0x10 = true →
      a.privOk = true →
      bitsAt v.toNat 31 1 = 0 →
      bitsAt v.toNat 30 1 = 1 →
      s.dev.wave.st = .armed →
      exec (.waveStop a v) s = .next (s.ends [] [] { (s.dev.stores [DROOP.WAVE_CFG_RAIL, DROOP.WAVE_CFG_PRE] 0 0 v)
        with wave := { s.dev.wave with st := .aborted } })) ∧
  (∀ (s : State),
      s.settled = true →
      s.dev.wave.st = .armed →
      s.dev.wave.left = some 0 →
      exec .droopWaveDone s = .next (s.ends [s.event Ev.DROOP_WAVE_DONE (s.dev.rd DROOP.WAVE_CFG_RAIL)] [] { s.dev
        with
        wave := { s.dev.wave with st := .done, start := if s.dev.wave.wrapped then s.dev.wave.pos / 2 else 0 } }))

/-- GOV_ESC_LEVEL with the count of the scope at LEVEL_BEATS and L_gov above L0 lowers L_gov by one, clears the count,
counts and raises GOV_ESC_LEVEL with the lowest stuck limit. GOV_ESC_POOL with the count at POOL_BEATS at L0 clears
the count and raises GOV_ESC_POOL: a rail scope lowers that rail's pool factor by POOL_STEP down to POOL_MIN at the
least. GOV_STEP_UP with the count at STEP_UP_HOLD raises every pool factor below 256 by POOL_STEP, or with none below
raises L_gov below the cap by one and counts. GOV_SAFE_POLICY after 100 ms of POLICY_STALE applies SAFE.MODE and
SAFE.LEVEL_MAX once. Nothing else changes. Tasks 0x01 and 0x02, function by function: the step of a window of R216 and
the windows of a beat; the position of a linear limit and of a zone limit, and the ratio of R218; the limit bubble of
a core, the largest ratio of the limits that cover it, 0 for an inactive one; the caps and the target level; V_req, N
and the command of a rail (R225); and the local ceiling of R232. Rests on: R219, R220, R222, R215, R216, R217, R218,
R221, R225, R232. -/
def Obligations.GovernorEscalatesAndRecovers : Prop :=
  (∀ (sc : Nat) (s : State),
      s.settled = true →
      sc ≤ s.dev.rails.length →
      s.dev.rd GOV.ESC_LEVEL_BEATS ≤ s.dev.gov.esc.getD sc 0 →
      0 < s.dev.gov.lgov →
      exec (.govEscLevel sc) s = .next (s.ends [s.event Ev.GOV_ESC_LEVEL (s.dev.scopeId sc)] [] { (s.dev.bump
        GOV.STEPS_DOWN) with
        gov := { s.dev.gov with esc := putPad 0 0 sc s.dev.gov.esc, lgov := s.dev.gov.lgov - 1 } })) ∧
  (∀ (sc : Nat) (s : State),
      s.settled = true →
      sc < s.dev.rails.length →
      s.dev.rd GOV.ESC_POOL_BEATS ≤ s.dev.gov.esc.getD sc 0 →
      s.dev.gov.lgov = 0 →
      exec (.govEscPool sc) s = .next (s.ends [s.event Ev.GOV_ESC_POOL (s.dev.scopeId sc)] [] { s.dev with
        gov := { s.dev.gov with
          esc := putPad 0 0 sc s.dev.gov.esc, pf := putPad 256 (min (s.dev.gov.pf.getD sc 256) (max (s.dev.rd
            GOV.ESC_POOL_MIN) (s.dev.gov.pf.getD sc 256 - s.dev.rd GOV.ESC_POOL_STEP))) sc s.dev.gov.pf } })) ∧
  (∀ (sc : Nat) (s : State),
      s.settled = true →
      sc = s.dev.rails.length →
      s.dev.rd GOV.ESC_POOL_BEATS ≤ s.dev.gov.esc.getD sc 0 →
      s.dev.gov.lgov = 0 →
      Reaches (.govEscPool sc) s (fun t => (∀ n < s.dev.rails.length, t.dev.gov.pf.getD n 256 = min (s.dev.gov.pf.getD
        n 256) (max (s.dev.rd GOV.ESC_POOL_MIN) (s.dev.gov.pf.getD n 256 - s.dev.rd GOV.ESC_POOL_STEP)))
        ∧ t.dev.gov = { s.dev.gov with esc := putPad 0 0 sc s.dev.gov.esc, pf := t.dev.gov.pf } ∧ t = { s with
        hdr := s.hdr.enterAll [s.event Ev.GOV_ESC_POOL (s.dev.scopeId sc)],
        dev := { s.dev with out := [], gov := t.dev.gov } })) ∧
  (∀ (s : State),
      s.settled = true →
      s.dev.gov.set.hold ≤ s.dev.gov.stepUp →
      (∀ n < s.dev.rails.length, 256 ≤ s.dev.gov.pf.getD n 256) →
      s.dev.gov.lgov < s.dev.gov.cap →
      exec .govStepUp s = .next (s.ends [] [] { (s.dev.bump GOV.STEPS_UP) with
        gov := { s.dev.gov with stepUp := 0, lgov := s.dev.gov.lgov + 1 } })) ∧
  (∀ (s : State),
      s.settled = true →
      s.dev.gov.set.hold ≤ s.dev.gov.stepUp →
      (∃ n < s.dev.rails.length, s.dev.gov.pf.getD n 256 < 256) →
      Reaches (.govStepUp) s (fun t => (∀ n < s.dev.rails.length, t.dev.gov.pf.getD n 256 = if s.dev.gov.pf.getD n 256
        < 256 then min 256 (s.dev.gov.pf.getD n 256 + s.dev.rd GOV.ESC_POOL_STEP) else s.dev.gov.pf.getD n 256)
        ∧ t.dev.gov = { s.dev.gov with stepUp := 0, pf := t.dev.gov.pf } ∧ t = { s with
        dev := { s.dev with out := [], gov := t.dev.gov } })) ∧
  (∀ (s : State),
      s.settled = true →
      s.dev.gov.stale = true →
      s.dev.gov.safe = false →
      100000 ≤ s.dev.gov.staleBeats →
      exec .govSafePolicy s = .next (s.ends [s.event Ev.GOV_SAFE_POLICY] [] { s.dev with
        gov := { s.dev.gov with safe := true, mode := s.dev.rd GOV.SAFE_MODE, lvMax := s.dev.rd GOV.SAFE_LEVEL_MAX }
          })) ∧
  (∀ (y : Int) (x : Nat) (w : Nat),
      winStep y x w = y + (((x : Int) * 2 ^ 24 - y) * ((roundDivN (2 ^ 24) w : Nat) : Int) + 2 ^ 23) / 2 ^ 24) ∧
  (∀ (d : Dev),
      d.govWindows.gov.lim.pBeat = d.beatP ∧ d.govWindows.gov.lim.last10 = (d.beatP :: d.gov.lim.last10).take 10
        ∧ d.govWindows.gov.lim.ySus = winStep d.gov.lim.ySus d.beatP 10000
        ∧ d.govWindows.gov.lim.yTh = winStep d.gov.lim.yTh d.beatP 1000000 ∧ (upto d.rails.length).all (fun n =>
        d.govWindows.gov.lim.yTdc.getD n 0 == winStep (d.gov.lim.yTdc.getD n 0) (d.beatI n) (1000 * d.rd
        GOV.WIN_TDC_MS)) = true) ∧
  (∀ (d : Dev),
      d.beatP = roundDivN (sumN ((upto d.rails.length).map (fun n => if (d.rail n).cmd.st = .stopped then 0 else
        d.beatV n * d.beatI n))) 1000) ∧
  (∀ (d : Dev) (c : Nat),
      d.bubble c = (if d.sqActive || (d.dom (d.chDom (c / 16))).gate then 256 else max (d.gov.limB.getD c 0) (max
        (d.gustBubbles (d.chDom (c / 16))) (d.gov.ceilB.getD (d.chDom (c / 16)) 0)))) ∧
  (∀ (d : Dev) (id : Nat) (l : Nat) (m : Nat) (r : Nat),
      let up : Int := ((l - (l * d.rd GOV.BAND_HI + 128) / 256 : Nat) : Int)
      let down : Nat := l - (l * d.rd GOV.BAND_LO + 128) / 256
      let eps : Int := (2 * (1024 * ((m : Int) - up)) + l) / (2 * l)
      0 < l →
      d.limLinear id l m r = ⟨id, if 0 < eps then max r (min 255 ((d.gov.set.bgain * eps + 32) / 64)).toNat else if m
        < down then r - d.rd GOV.BUB_DECAY else r, decide (0 < eps) && decide ((if 0 < eps then max r (min 255
        ((d.gov.set.bgain * eps + 32) / 64)).toNat else if m < down then r - d.rd GOV.BUB_DECAY else r) ≤ r), decide
        (0 < eps), decide (m < down)⟩) ∧
  (∀ (d : Dev) (id : Nat) (m : Nat) (r : Nat),
      (d.limLinear id 0 m r).r = (if 0 < m then max r 255 else r) ∧ (d.limLinear id 0 m r).above = decide (0 < m)) ∧
  (∀ (d : Dev) (z : Nat) (m : Int) (r : Nat),
      let eps : Int := (m - (d.tCtrl z - ((d.rd GOV.BAND_T_HI : Nat) : Int)) + 2) / 4
      (d.limZone z m r).r = (if 0 < eps then max r (min 255 ((d.gov.set.bgain * eps + 32) / 64)).toNat else if m <
        d.tCtrl z - ((d.rd GOV.BAND_T_LO : Nat) : Int) then r - d.rd GOV.BUB_DECAY else r) ∧ (d.limZone z m r).id =
        0x20 + z) ∧
  (∀ (d : Dev) (c : Nat),
      c < d.bld.cores →
      c / 16 < d.bld.creditCh →
      d.gov.lim.pkg.length ≤ 4 →
      d.gov.lim.edc.length ≤ d.rails.length →
      d.gov.lim.tdc.length ≤ d.rails.length →
      d.gov.lim.didt.length ≤ d.rails.length →
      d.limitBubbles.getD c 0 = (if d.coreActive c then maxN ((d.coverLims (c / 16)).map (·.2)) else 0)) ∧
  (∀ (d : Dev) (below : Option Bool),
      let cap : Nat := capMin d.caps
      let d1 : Dev := { d with
        gov := { d.gov with cap := cap, stepUp := match below with
                              | some true => d.gov.stepUp + 1 | some false => 0 | none => d.gov.stepUp } }
      (d.govTarget below).gov.target = min (d1.stepUp).gov.lgov cap
        ∧ (d.govTarget below).gov.lgov = min (d1.stepUp).gov.lgov cap
        ∧ (d.govTarget below).gov.lloc = min (d1.stepUp).gov.lgov (capMin (d.caps.take 3 ++ d.caps.drop 4))
        ∧ (d.govTarget below).gov.capSrc = (if cap ≤ (d1.stepUp).gov.lgov then d.caps.findIdx (· == cap) else 0xF)) ∧
  (∀ (d : Dev) (n : Nat),
      let want : Nat := d.railNeed n (fun m => d.freqAt d.gov.target m)
      let hys : Nat := d.rd GOV.CMD_HYS
      let last : Nat := (d.gov.lastT.getD n none).getD 0
      let issue : Prop := (d.rail n).cmd.st ≠ .stopped ∧ (d.rail n).cmd.st ≠ .retention ∧ d.sqActive = false
        ∧ want < unreach ∧ (last < want ∨ want + 2 * hys < last)
      n < d.rails.length →
      (d.railDoms n).isEmpty = false →
      (d.govRail n).gov.need.getD n 0 = want ∧ ((d.govRail n).rail n).cmd.vreqNew = min 65535 (d.railNeed n (fun m =>
        if (d.dom m).late then max (d.dom m).conf (d.dom m).freq else (d.dom m).conf))
        ∧ ((d.govRail n).rail n).cmd.govNew = (if issue then some (want + hys, d.rd GOV.CMD_SLEW) else (d.rail
        n).cmd.govNew)) ∧
  (∀ (d : Dev) (n : Nat) (q : Nat → Nat),
      d.railNeed n q = maxN ((d.railDoms n).map (fun m => d.needD m (q m))) + max d.gov.set.guard (d.rd
        GOV.HARD_PL1_HARD_GUARD) + (if d.avs n then 0 else ceilDiv ((d.rd RAIL.LL_LL n * 4 * d.tdcw n + 32) / 64) 16)) ∧
  (∀ (d : Dev),
      d.govCeiling.gov.cLocal = (minN (d.syncDoms.map (fun m => d.freqAt d.gov.lloc m * (256 - maxN ((d.activeCores
        m).map (fun c => d.gov.limB.getD c 0))) / 256))).getD 0xFFFF ∧ (upto d.doms.length).all (fun m =>
        d.govCeiling.gov.ceilB.getD m 0 == (if d.on LEVEL.DOM_SYNC 0 m = true ∧ d.gov.agreed < (d.dom m).conf then
        ceilDiv (256 * ((d.dom m).conf - d.gov.agreed)) (d.dom m).conf else 0)) = true)

/-- PROCHOT and PROCHOT_RELEASE set and clear INPUTS.PROCHOT. LEVEL_BANK_SWAP with SWAP = 1 requests a swap;
LEVEL_TABLE_CHECK with a request swaps to an inactive bank whose columns all pass and raises LEVEL_SWAP_DONE, or
raises LEVEL_TABLE_BAD with the first failing domain and keeps the bank, and clears the request; without a request it
changes nothing. FITCTL_WRITE of 1 sets HOLD; a return to 0 marks the curves to be read again. Nothing else changes.
An ageing step of R226 raises the offset of each domain toward its target by at most STEP, and raises LEVEL_AGE_STEP
where it rises. Rests on: R221, R223, R224, R226. -/
def Obligations.PinsLevelTablesAndFitness : Prop :=
  (∀ (s : State),
      s.settled = true →
      exec .prochot s = .next ({ s.ends [] [] { s.dev with gov := { s.dev.gov with prochotIn := true } } with
        aon := { s.aon with prochot := true } })) ∧
  (∀ (s : State),
      s.settled = true →
      exec .prochotRelease s = .next ({ s.ends [] [] { s.dev with gov := { s.dev.gov with prochotIn := false } } with
        aon := { s.aon with prochot := false } })) ∧
  (∀ (a : Acc) (v : BitVec 32) (s : State),
      s.settled = true →
      s.dev.ready 0x12 = true →
      a.privOk = true →
      bitsAt v.toNat 31 1 = 1 →
      exec (.levelBankSwap a v) s = .next (s.ends [] [] (s.dev.wr LEVEL.BANK_PEND 1))) ∧
  (∀ (s : State),
      s.settled = true →
      s.dev.on LEVEL.BANK_PEND = true →
      (∀ m < s.dev.doms.length, levelColumnOk s.dev.levelIdle (s.dev.rd LEVEL.HARD_F_HARD_FMAX) m = true) →
      exec .levelTableCheck s = .next (s.ends [s.event Ev.LEVEL_SWAP_DONE] [] (((s.dev.wr LEVEL.BANK_PEND 0).wr
        LEVEL.BANK_ACT (1 - s.dev.rd LEVEL.BANK_ACT)).wr LEVEL.BANK_VALID 1))) ∧
  (∀ (m : Nat) (s : State),
      s.settled = true →
      s.dev.on LEVEL.BANK_PEND = true →
      m < s.dev.doms.length →
      levelColumnOk s.dev.levelIdle (s.dev.rd LEVEL.HARD_F_HARD_FMAX) m = false →
      (∀ o < m, levelColumnOk s.dev.levelIdle (s.dev.rd LEVEL.HARD_F_HARD_FMAX) o = true) →
      exec .levelTableCheck s = .next (s.ends [s.event Ev.LEVEL_TABLE_BAD m] [] (s.dev.wr LEVEL.BANK_PEND 0))) ∧
  (∀ (s : State),
      s.settled = true →
      s.dev.on LEVEL.BANK_PEND = false →
      exec .levelTableCheck s = .next (s.ends [] [] s.dev)) ∧
  (∀ (a : Acc) (v : BitVec 32) (s : State),
      s.settled = true →
      s.dev.ready 0x12 = true →
      a.privOk = true →
      s.dev.rd LEVEL.FITCTL_HOLD = 1 →
      bitsAt v.toNat 0 1 = 0 →
      exec (.fitctlWrite a v) s = .next (s.ends [] [] { (s.dev.wr LEVEL.FITCTL_HOLD 0) with
        gov := { s.dev.gov with readFit := true } })) ∧
  (∀ (a : Acc) (v : BitVec 32) (s : State),
      s.settled = true →
      s.dev.ready 0x12 = true →
      a.privOk = true →
      bitsAt v.toNat 0 1 = 1 →
      exec (.fitctlWrite a v) s = .next (s.ends [] [] (s.dev.wr LEVEL.FITCTL_HOLD 1))) ∧
  (∀ (d : Dev) (m : Nat),
      m < d.doms.length →
      m < 16 →
      d.rd LEVEL.AGE_OFFSET 0 m < 2 ^ LEVEL.AGE_OFFSET.wid →
      d.ageStep.rd LEVEL.AGE_OFFSET 0 m = (d.rd LEVEL.AGE_OFFSET 0 m + min (d.rd LEVEL.AGE_CFG_STEP) ((d.dom m).ageT -
        d.rd LEVEL.AGE_OFFSET 0 m)) % 2 ^ LEVEL.AGE_OFFSET.wid
        ∧ d.ageStep.evq.contains ⟨Ev.LEVEL_AGE_STEP.page, Ev.LEVEL_AGE_STEP.loc, Ev.LEVEL_AGE_STEP.sev, m % 256,
        d.tick.b % 2 ^ 32⟩ = (d.evq.contains ⟨Ev.LEVEL_AGE_STEP.page, Ev.LEVEL_AGE_STEP.loc, Ev.LEVEL_AGE_STEP.sev, m
        % 256, d.tick.b % 2 ^ 32⟩ || decide (0 < min (d.rd LEVEL.AGE_CFG_STEP) ((d.dom m).ageT - d.rd LEVEL.AGE_OFFSET
        0 m))))

/-- CD_PREP_ACK on a prepared domain marks the acknowledge, and SWITCH rises with it where neither the voltage (for an
increase) nor a Gust or its wait withholds it; a Gust or its wait defers the change, counted once. CD_SWITCH_RAISE
does the same for an acknowledged change, and a decrease in a Gust of 20 us switches, counted, with DROOP_FORCED_DOWN.
CD_SWITCH_ACK confirms the frequency and lowers PREP and SWITCH; the domain is ungated with it where CD_UNGATE would.
CD_ACK_FALL clears the acknowledge after PREP is lowered. CD_UNGATE ungates a gated domain with a confirmed frequency,
valid tables, its voltage and no Squall, and else changes nothing. LEVEL_PREP_TIMEOUT abandons the change and marks it
to be tried again, LEVEL_SWITCH_TIMEOUT marks it late; each raises its event. Nothing else changes. In task 0x02 a
domain with no change in hand takes the frequency of its target level and raises PREP, an increase not during a Gust
or its wait; a prepared change to another frequency is lowered; with no valid bank, or under a Squall, nothing is
prepared. Rests on: R58, R204, R205, R227, R228. -/
def Obligations.FourPhaseHandshake : Prop :=
  (∀ (m : Nat) (s : State),
      s.settled = true →
      m < s.dev.doms.length →
      (s.dev.dom m).prep = true →
      (s.dev.dom m).prepAck = false →
      (s.dev.dom m).sw = false →
      (s.dev.dom m).swAck = false →
      s.dev.sqActive = false →
      (s.dev.dom m).conf < (s.dev.dom m).freq →
      s.dev.voltOk m = false →
      exec (.cdPrepAck m) s = .next (s.ends [] [] (s.dev.updDom m (fun x => { x with prepAck := true })))) ∧
  (∀ (m : Nat) (s : State),
      s.settled = true →
      m < s.dev.doms.length →
      (s.dev.dom m).prep = true →
      (s.dev.dom m).prepAck = false →
      (s.dev.dom m).sw = false →
      (s.dev.dom m).swAck = false →
      s.dev.sqActive = false →
      (s.dev.dom m).freq ≤ (s.dev.dom m).conf ∨ s.dev.voltOk m = true →
      (s.dev.dom m).gust = false →
      (s.dev.dom m).wait = false →
      exec (.cdPrepAck m) s = .next (s.ends [] [] (s.dev.updDom m (fun x => { x with
        prepAck := true, sw := true, defer_ := false })))) ∧
  (∀ (m : Nat) (s : State),
      s.settled = true →
      m < s.dev.doms.length →
      (s.dev.dom m).prep = true →
      (s.dev.dom m).prepAck = false →
      (s.dev.dom m).sw = false →
      (s.dev.dom m).swAck = false →
      s.dev.sqActive = false →
      (s.dev.dom m).freq ≤ (s.dev.dom m).conf ∨ s.dev.voltOk m = true →
      (s.dev.dom m).wait = true ∨ ((s.dev.dom m).gust = true ∧ ((s.dev.dom m).long = false
        ∨ (s.dev.dom m).conf < (s.dev.dom m).freq)) →
      (s.dev.dom m).counted = false →
      exec (.cdPrepAck m) s = .next (s.ends [] [] ((s.dev.updDom m (fun x => { x with
        prepAck := true, defer_ := true, counted := true })).bump DROOP.DCNT_DEFERS 0 m))) ∧
  (∀ (m : Nat) (s : State),
      s.settled = true →
      m < s.dev.doms.length →
      (s.dev.dom m).prep = true →
      (s.dev.dom m).prepAck = true →
      (s.dev.dom m).sw = false →
      (s.dev.dom m).swAck = false →
      s.dev.sqActive = false →
      (s.dev.dom m).conf < (s.dev.dom m).freq →
      s.dev.voltOk m = false →
      exec (.cdSwitchRaise m) s = .next (s.ends [] [] s.dev)) ∧
  (∀ (m : Nat) (s : State),
      s.settled = true →
      m < s.dev.doms.length →
      (s.dev.dom m).prep = true →
      (s.dev.dom m).prepAck = true →
      (s.dev.dom m).sw = false →
      (s.dev.dom m).swAck = false →
      s.dev.sqActive = false →
      (s.dev.dom m).freq ≤ (s.dev.dom m).conf ∨ s.dev.voltOk m = true →
      (s.dev.dom m).gust = false →
      (s.dev.dom m).wait = false →
      exec (.cdSwitchRaise m) s = .next (s.ends [] [] (s.dev.updDom m (fun x => { x with
        sw := true, defer_ := false })))) ∧
  (∀ (m : Nat) (s : State),
      s.settled = true →
      m < s.dev.doms.length →
      (s.dev.dom m).prep = true →
      (s.dev.dom m).prepAck = true →
      (s.dev.dom m).sw = false →
      (s.dev.dom m).swAck = false →
      s.dev.sqActive = false →
      (s.dev.dom m).freq ≤ (s.dev.dom m).conf ∨ s.dev.voltOk m = true →
      (s.dev.dom m).wait = true ∨ ((s.dev.dom m).gust = true ∧ ((s.dev.dom m).long = false
        ∨ (s.dev.dom m).conf < (s.dev.dom m).freq)) →
      (s.dev.dom m).counted = false →
      exec (.cdSwitchRaise m) s = .next (s.ends [] [] ((s.dev.updDom m (fun x => { x with
        defer_ := true, counted := true })).bump DROOP.DCNT_DEFERS 0 m))) ∧
  (∀ (m : Nat) (s : State),
      s.settled = true →
      m < s.dev.doms.length →
      (s.dev.dom m).prep = true →
      (s.dev.dom m).prepAck = true →
      (s.dev.dom m).sw = false →
      (s.dev.dom m).swAck = false →
      s.dev.sqActive = false →
      (s.dev.dom m).freq ≤ (s.dev.dom m).conf →
      (s.dev.dom m).wait = false →
      (s.dev.dom m).gust = true →
      (s.dev.dom m).long = true →
      (s.dev.dom m).forcedSent = false →
      exec (.cdSwitchRaise m) s = .next (s.ends [s.event Ev.DROOP_FORCED_DOWN m] [] ((s.dev.updDom m (fun x => { x
        with sw := true, defer_ := false, forcedSent := true })).bump DROOP.DCNT_FORCED 0 m))) ∧
  (∀ (m : Nat) (s : State),
      s.settled = true →
      m < s.dev.doms.length →
      (s.dev.dom m).sw = true →
      (s.dev.dom m).swAck = false →
      (s.dev.dom m).gate = false →
      exec (.cdSwitchAck m) s = .next (s.ends [] [] (s.dev.updDom m (fun x => { x with
        conf := x.freq, sw := false, prep := false, swAck := true, late := false, counted := false })))) ∧
  (∀ (m : Nat) (s : State),
      s.settled = true →
      m < s.dev.doms.length →
      (s.dev.dom m).sw = true →
      (s.dev.dom m).swAck = false →
      (s.dev.dom m).freq ≠ 0 →
      s.dev.on LEVEL.BANK_VALID = true →
      s.dev.sqActive = false →
      s.dev.voltOk m = true →
      exec (.cdSwitchAck m) s = .next (s.ends [] [] (s.dev.updDom m (fun x => { x with
        conf := x.freq, sw := false, prep := false, swAck := true, late := false, counted := false,
        gate := false })))) ∧
  (∀ (m : Nat) (w : Bool) (s : State),
      s.settled = true →
      m < s.dev.doms.length →
      (s.dev.dom m).prep = false →
      w = true →
      exec (.cdAckFall m w) s = .next (s.ends [] [] (s.dev.updDom m (fun x => { x with swAck := false })))) ∧
  (∀ (m : Nat) (w : Bool) (s : State),
      s.settled = true →
      m < s.dev.doms.length →
      (s.dev.dom m).prep = false →
      w = false →
      exec (.cdAckFall m w) s = .next (s.ends [] [] (s.dev.updDom m (fun x => { x with prepAck := false })))) ∧
  (∀ (m : Nat) (s : State),
      s.settled = true →
      m < s.dev.doms.length →
      (s.dev.dom m).gate = true →
      (s.dev.dom m).conf ≠ 0 →
      s.dev.on LEVEL.BANK_VALID = true →
      s.dev.sqActive = false →
      s.dev.voltOk m = true →
      exec (.cdUngate m) s = .next (s.ends [] [] (s.dev.updDom m (fun x => { x with gate := false })))) ∧
  (∀ (m : Nat) (s : State),
      s.settled = true →
      (s.dev.dom m).gate = false ∨ (s.dev.dom m).conf = 0 ∨ s.dev.on LEVEL.BANK_VALID = false
        ∨ s.dev.sqActive = true ∨ s.dev.voltOk m = false →
      exec (.cdUngate m) s = .next (s.ends [] [] s.dev)) ∧
  (∀ (m : Nat) (s : State),
      s.settled = true →
      m < s.dev.doms.length →
      (s.dev.dom m).prep = true →
      (s.dev.dom m).prepAck = false →
      (s.dev.dom m).sw = false →
      exec (.levelPrepTimeout m) s = .next (s.ends [s.event Ev.LEVEL_PREP_TIMEOUT m] [] (s.dev.updDom m (fun x => { x
        with prep := false, defer_ := false, counted := false, retry := true })))) ∧
  (∀ (m : Nat) (s : State),
      s.settled = true →
      m < s.dev.doms.length →
      (s.dev.dom m).sw = true →
      (s.dev.dom m).late = false →
      exec (.levelSwitchTimeout m) s = .next (s.ends [s.event Ev.LEVEL_SWITCH_TIMEOUT m] [] (s.dev.updDom m (fun x =>
        { x with late := true })))) ∧
  (∀ (d : Dev) (level : Nat) (m : Nat),
      let freq : Nat := d.freqAt level m
      d.on LEVEL.BANK_VALID = true →
      d.sqActive = false →
      m < d.doms.length →
      (d.dom m).prep = false →
      (d.dom m).sw = false →
      (d.dom m).prepAck = false →
      (d.dom m).swAck = false →
      freq ≠ (d.dom m).conf →
      freq ≤ (d.dom m).conf ∨ ((d.dom m).gust = false ∧ (d.dom m).wait = false) →
      (d.domainStep level m).dom m = { d.dom m with target := freq, retry := false, freq := freq, prep := true }) ∧
  (∀ (d : Dev) (level : Nat) (m : Nat),
      d.on LEVEL.BANK_VALID = true →
      d.sqActive = false →
      m < d.doms.length →
      (d.dom m).prep = true →
      (d.dom m).sw = false →
      (d.dom m).freq ≠ d.freqAt level m →
      ((d.domainStep level m).dom m).prep = false ∧ ((d.domainStep level m).dom m).target = d.freqAt level m) ∧
  (∀ (d : Dev) (level : Nat) (m : Nat),
      d.on LEVEL.BANK_VALID = true →
      d.sqActive = false →
      m < d.doms.length →
      (d.dom m).sw = true ∨ ((d.dom m).prep = false ∧ d.freqAt level m = (d.dom m).conf) ∨ ((d.dom m).prep = true
        ∧ (d.dom m).freq = d.freqAt level m) →
      (d.domainStep level m).dom m = { d.dom m with target := d.freqAt level m, retry := false }) ∧
  (∀ (d : Dev) (level : Nat) (m : Nat),
      d.on LEVEL.BANK_VALID = false ∨ d.sqActive = true →
      d.domainStep level m = d) ∧
  (∀ (d : Dev) (level : Nat) (m : Nat),
      let freq : Nat := d.freqAt level m
      m < d.doms.length →
      (d.dom m).prep = false →
      (d.dom m).sw = false →
      (d.dom m).conf < freq →
      (d.dom m).gust = true ∨ (d.dom m).wait = true →
      ((d.domainStep level m).dom m).prep = false)

/-- CREDIT_REQUEST at a RAIL strobe only keeps the requests that it presents, of present cores whose lane presents
none yet, by ascending lane. In another cycle, with one lane presenting and none waiting to be taken: a request with a
reason of R242 against it gets DENY with that reason and its units, counted for its rail, with CREDIT_BAD_REQ for a
malformed one; with no pool over its channel and nothing against it the lease is granted at once in the lowest free
slot with the next tag of its core (these two where no waiting request fits, and every one has been told). With an
empty queue, pool and bucket that allow it, it is granted: G takes the units and the bucket loses them; a RESERVED one
that the reserve allows takes of the reserve alone. With an empty queue and a pool or bucket that does not allow it,
it waits and is told WAIT. Nothing else changes. That a request at a RAIL strobe is kept for RAIL_TICK, and the order
in which requests are taken are the model's choice (log entry 31). Rests on: R55, R239, R242, R245, R246, R248, R249.
-/
def Obligations.CreditRequestsAnswered : Prop :=
  (∀ (reqs : List (Nat × BitVec 32)) (strobe : Bool) (s : State),
      s.settled = true →
      strobe = true →
      exec (.creditRequest reqs strobe) s = .next (s.ends [] [] { s.dev with
        credit := { s.dev.credit with
          port := s.dev.credit.port ++ byKey ((reqs.map (fun (r : Nat × BitVec 32) => (r.1, r.2.toNat))).filter (fun
            (r : Nat × Nat) => decide (r.1 < s.dev.bld.cores) && s.dev.credit.port.all (fun (p : Nat × Nat) => p.1 !=
            r.1))) } })) ∧
  (∀ (reqs : List (Nat × BitVec 32)) (strobe : Bool) (c : Nat) (w : BitVec 32) (y : Nat) (n : Nat) (s : State),
      s.settled = true →
      reqs = [(c, w)] →
      strobe = false →
      s.dev.credit.port = [] →
      c < s.dev.bld.cores →
      (∀ n ∈ List.range s.dev.rails.length, s.dev.nextGrant n = none) →
      s.dev.credit.queue.all (fun (q : CReq) => q.told) = true →
      s.dev.denyReason s.dev.rsvs c w.toNat (s.dev.coreRail c) = y →
      y ≠ 0 →
      y ≠ 4 →
      s.dev.coreRail c = some n →
      exec (.creditRequest reqs strobe) s = .next (s.ends [] [.ccRsp c (rspWord 3 y 0 0 (bitsAt w.toNat 0 12))]
        (s.dev.bump CREDIT.DENIES_COUNT 0 n))) ∧
  (∀ (reqs : List (Nat × BitVec 32)) (strobe : Bool) (c : Nat) (w : BitVec 32) (y : Nat) (s : State),
      s.settled = true →
      reqs = [(c, w)] →
      strobe = false →
      s.dev.credit.port = [] →
      c < s.dev.bld.cores →
      (∀ n ∈ List.range s.dev.rails.length, s.dev.nextGrant n = none) →
      s.dev.credit.queue.all (fun (q : CReq) => q.told) = true →
      s.dev.denyReason s.dev.rsvs c w.toNat (s.dev.coreRail c) = y →
      y ≠ 0 →
      y ≠ 4 →
      s.dev.coreRail c = none →
      exec (.creditRequest reqs strobe) s = .next (s.ends [] [.ccRsp c (rspWord 3 y 0 0 (bitsAt w.toNat 0 12))]
        s.dev)) ∧
  (∀ (reqs : List (Nat × BitVec 32)) (strobe : Bool) (c : Nat) (w : BitVec 32) (n : Nat) (s : State),
      s.settled = true →
      reqs = [(c, w)] →
      strobe = false →
      s.dev.credit.port = [] →
      c < s.dev.bld.cores →
      (∀ n ∈ List.range s.dev.rails.length, s.dev.nextGrant n = none) →
      s.dev.credit.queue.all (fun (q : CReq) => q.told) = true →
      s.dev.denyReason s.dev.rsvs c w.toNat (s.dev.coreRail c) = 4 →
      s.dev.coreRail c = some n →
      exec (.creditRequest reqs strobe) s = .next (s.ends [s.event Ev.CREDIT_BAD_REQ (c / 16)] [.ccRsp c (rspWord 3 4
        0 0 (bitsAt w.toNat 0 12))] (s.dev.bump CREDIT.DENIES_COUNT 0 n))) ∧
  (∀ (reqs : List (Nat × BitVec 32)) (strobe : Bool) (c : Nat) (w : BitVec 32) (s : State),
      s.settled = true →
      reqs = [(c, w)] →
      strobe = false →
      s.dev.credit.port = [] →
      c < s.dev.bld.cores →
      (∀ n ∈ List.range s.dev.rails.length, s.dev.nextGrant n = none) →
      s.dev.credit.queue.all (fun (q : CReq) => q.told) = true →
      s.dev.denyReason s.dev.rsvs c w.toNat (s.dev.coreRail c) = 4 →
      s.dev.coreRail c = none →
      exec (.creditRequest reqs strobe) s = .next (s.ends [s.event Ev.CREDIT_BAD_REQ (c / 16)] [.ccRsp c (rspWord 3 4
        0 0 (bitsAt w.toNat 0 12))] s.dev)) ∧
  (∀ (reqs : List (Nat × BitVec 32)) (strobe : Bool) (c : Nat) (w : BitVec 32) (s : State),
      s.settled = true →
      reqs = [(c, w)] →
      strobe = false →
      s.dev.credit.port = [] →
      c < s.dev.bld.cores →
      (∀ n ∈ List.range s.dev.rails.length, s.dev.nextGrant n = none) →
      s.dev.credit.queue.all (fun (q : CReq) => q.told) = true →
      s.dev.denyReason s.dev.rsvs c w.toNat (s.dev.coreRail c) = 0 →
      s.dev.coreRail c = none →
      exec (.creditRequest reqs strobe) s = .next (s.ends [] [.ccRsp c (rspWord 1 0 (sparseGet 0 c s.dev.credit.tags)
        (if (s.dev.leaseAt c 0).isNone then 0 else 1) (bitsAt w.toNat 0 12))] { s.dev with
        credit := { s.dev.credit with
          seq := s.dev.credit.seq + 1, queue := s.dev.credit.queue.filter (fun q => q.core != c),
          tags := sparseSet 0 c ((sparseGet 0 c s.dev.credit.tags + 1) % 16) s.dev.credit.tags, leases :=
            s.dev.credit.leases ++ [⟨c, (if (s.dev.leaseAt c 0).isNone then 0 else 1), sparseGet 0 c
            s.dev.credit.tags, bitsAt w.toNat 0 12, none, bitsAt w.toNat 30 2 == 3, bitsAt w.toNat 30 2 == 2,
            s.dev.leaseLen (bitsAt w.toNat 20 8)⟩] } })) ∧
  (∀ (reqs : List (Nat × BitVec 32)) (strobe : Bool) (c : Nat) (w : BitVec 32) (n : Nat) (s : State),
      s.settled = true →
      reqs = [(c, w)] →
      strobe = false →
      s.dev.credit.port = [] →
      c < s.dev.bld.cores →
      s.dev.denyReason s.dev.rsvs c w.toNat (s.dev.coreRail c) = 0 →
      s.dev.coreRail c = some n →
      s.dev.credit.queue = [] →
      bitsAt w.toNat 30 2 ≠ 3 →
      (s.dev.pool n).g + bitsAt w.toNat 0 12 ≤ (s.dev.pool n).avail →
      bitsAt w.toNat 0 12 ≤ (s.dev.pool n).b →
      n < s.dev.rails.length →
      exec (.creditRequest reqs strobe) s = .next (s.ends [] [.ccRsp c (rspWord 1 0 (sparseGet 0 c s.dev.credit.tags)
        (if (s.dev.leaseAt c 0).isNone then 0 else 1) (bitsAt w.toNat 0 12))] { (s.dev.bump CREDIT.GRANTS_COUNT 0 n)
        with
        credit := { s.dev.credit with
          seq := s.dev.credit.seq + 1, pools := modAt s.dev.credit.pools n (fun p => { p with
            g := p.g + bitsAt w.toNat 0 12, b := p.b - bitsAt w.toNat 0 12 }),
          tags := sparseSet 0 c ((sparseGet 0 c s.dev.credit.tags + 1) % 16) s.dev.credit.tags, leases :=
            s.dev.credit.leases ++ [⟨c, (if (s.dev.leaseAt c 0).isNone then 0 else 1), sparseGet 0 c
            s.dev.credit.tags, bitsAt w.toNat 0 12, some n, false, bitsAt w.toNat 30 2 == 2, s.dev.leaseLen (bitsAt
            w.toNat 20 8)⟩] } })) ∧
  (∀ (reqs : List (Nat × BitVec 32)) (strobe : Bool) (c : Nat) (w : BitVec 32) (n : Nat) (s : State),
      s.settled = true →
      reqs = [(c, w)] →
      strobe = false →
      s.dev.credit.port = [] →
      c < s.dev.bld.cores →
      s.dev.denyReason s.dev.rsvs c w.toNat (s.dev.coreRail c) = 0 →
      s.dev.coreRail c = some n →
      s.dev.credit.queue = [] →
      bitsAt w.toNat 30 2 = 3 →
      (s.dev.pool n).grsv + bitsAt w.toNat 0 12 ≤ (s.dev.pool n).rsv →
      n < s.dev.rails.length →
      exec (.creditRequest reqs strobe) s = .next (s.ends [] [.ccRsp c (rspWord 1 0 (sparseGet 0 c s.dev.credit.tags)
        (if (s.dev.leaseAt c 0).isNone then 0 else 1) (bitsAt w.toNat 0 12))] { (s.dev.bump CREDIT.GRANTS_COUNT 0 n)
        with
        credit := { s.dev.credit with
          seq := s.dev.credit.seq + 1,
          pools := modAt s.dev.credit.pools n (fun p => { p with grsv := p.grsv + bitsAt w.toNat 0 12 }),
          tags := sparseSet 0 c ((sparseGet 0 c s.dev.credit.tags + 1) % 16) s.dev.credit.tags, leases :=
            s.dev.credit.leases ++ [⟨c, (if (s.dev.leaseAt c 0).isNone then 0 else 1), sparseGet 0 c
            s.dev.credit.tags, bitsAt w.toNat 0 12, some n, true, bitsAt w.toNat 30 2 == 2, s.dev.leaseLen (bitsAt
            w.toNat 20 8)⟩] } })) ∧
  (∀ (reqs : List (Nat × BitVec 32)) (strobe : Bool) (c : Nat) (w : BitVec 32) (n : Nat) (s : State),
      s.settled = true →
      reqs = [(c, w)] →
      strobe = false →
      s.dev.credit.port = [] →
      c < s.dev.bld.cores →
      s.dev.denyReason s.dev.rsvs c w.toNat (s.dev.coreRail c) = 0 →
      s.dev.coreRail c = some n →
      s.dev.credit.queue = [] →
      bitsAt w.toNat 30 2 ≠ 3 →
      (s.dev.pool n).avail < (s.dev.pool n).g + bitsAt w.toNat 0 12 ∨ (s.dev.pool n).b < bitsAt w.toNat 0 12 →
      exec (.creditRequest reqs strobe) s = .next (s.ends [] [.ccRsp c (rspWord 2 0 0 0 (bitsAt w.toNat 0 12))] {
        (s.dev.bump CREDIT.WAITS_COUNT 0 n) with
        credit := { s.dev.credit with
          seq := s.dev.credit.seq + 1, queue := [⟨c, n, bitsAt w.toNat 30 2, bitsAt w.toNat 20 8, bitsAt w.toNat 0 12,
            s.dev.credit.seq, 0, false, false, true⟩] } }))

/-- CREDIT_GRANT grants a waiting request that is alone in the queue and fits, counts it, takes its wait as a sample
where it had been told WAIT, and keeps the longest wait of its rail; where no front request fits it changes nothing.
CREDIT_RETURN of a lease with its tag ends it: its units leave G and feed the bucket, or leave G_rsv for a RESERVED
one; with nothing to return it is ignored and counted, and CREDIT_LATE_RET is raised once per BUDGET tick and channel.
CREDIT_RECLAIM ends the lease in the slot, answers RECLAIM EXPIRED with its tag, slot and units, and counts. No grant
follows a return or reclaim in the same command. Nothing else changes. FILL_TIMEOUT denies a FILLER request that has
waited FILL_WAIT ticks with reason TIMEOUT, counts it among the denials and the FILLER denials, and takes its wait as
a sample. MEDIUM_PROMOTE puts a MEDIUM request that has waited PROMOTE ticks in its new place of the queue and counts.
CREDIT_STARVE reports the front request of a rail once. ACTIVITY_COUNTS on time store the 16 counts of the channel for
the beat; late ones change nothing. Nothing else changes. The pool of a rail at a RAIL strobe: what R247 latches, the
derated pool times the pool factor; the refill of R249, where B rises by the allowance up to the larger of A and the
first waiting request; and the allowance of R250 with its boost. That no grant follows a return or reclaim in the same
command and that MAXWAIT is taken at the grant are the model's choice (log entry 31). Rests on: R242, R243, R244,
R248, R249, R251, R253, R375, R247, R250. -/
def Obligations.LeasesEndAndRequestsAge : Prop :=
  (∀ (r : CReq) (s : State),
      s.settled = true →
      s.dev.credit.queue = [r] →
      r.rail < s.dev.rails.length →
      (s.dev.pool r.rail).fits r = true →
      r.cls ≠ 3 →
      r.wait ≤ (s.dev.rd CREDIT.MAXWAIT_TICKS 0 r.rail) →
      exec .creditGrant s = .next (s.ends [] [.ccRsp r.core (rspWord 1 0 (sparseGet 0 r.core s.dev.credit.tags) (if
        (s.dev.leaseAt r.core 0).isNone then 0 else 1) r.units)] { ((s.dev.bump CREDIT.GRANTS_COUNT 0 r.rail)) with
        smp := if r.told then [(0x0A, r.rail, (r.wait : Int))] else [], credit := { s.dev.credit with
          queue := [], tags := sparseSet 0 r.core ((sparseGet 0 r.core s.dev.credit.tags + 1) % 16) s.dev.credit.tags,
          leases := s.dev.credit.leases ++ [⟨r.core, if (s.dev.leaseAt r.core 0).isNone then 0 else 1, sparseGet 0
            r.core s.dev.credit.tags, r.units, some r.rail, false, r.cls == 2, s.dev.leaseLen r.dur⟩],
          pools := modAt s.dev.credit.pools r.rail (fun p => { p with g := p.g + r.units, b := p.b - r.units }) } })) ∧
  (∀ (r : CReq) (s : State),
      s.settled = true →
      s.dev.credit.queue = [r] →
      r.rail < s.dev.rails.length →
      (s.dev.pool r.rail).fits r = true →
      r.cls ≠ 3 →
      (s.dev.rd CREDIT.MAXWAIT_TICKS 0 r.rail) < r.wait →
      exec .creditGrant s = .next (s.ends [] [.ccRsp r.core (rspWord 1 0 (sparseGet 0 r.core s.dev.credit.tags) (if
        (s.dev.leaseAt r.core 0).isNone then 0 else 1) r.units)] { ((s.dev.bump CREDIT.GRANTS_COUNT 0 r.rail).wr
        CREDIT.MAXWAIT_TICKS r.wait 0 r.rail) with
        smp := if r.told then [(0x0A, r.rail, (r.wait : Int))] else [], credit := { s.dev.credit with
          queue := [], tags := sparseSet 0 r.core ((sparseGet 0 r.core s.dev.credit.tags + 1) % 16) s.dev.credit.tags,
          leases := s.dev.credit.leases ++ [⟨r.core, if (s.dev.leaseAt r.core 0).isNone then 0 else 1, sparseGet 0
            r.core s.dev.credit.tags, r.units, some r.rail, false, r.cls == 2, s.dev.leaseLen r.dur⟩],
          pools := modAt s.dev.credit.pools r.rail (fun p => { p with g := p.g + r.units, b := p.b - r.units }) } })) ∧
  (∀ (r : CReq) (s : State),
      s.settled = true →
      s.dev.credit.queue = [r] →
      r.rail < s.dev.rails.length →
      (s.dev.pool r.rail).fits r = true →
      r.cls = 3 →
      r.wait ≤ (s.dev.rd CREDIT.MAXWAIT_TICKS 0 r.rail) →
      exec .creditGrant s = .next (s.ends [] [.ccRsp r.core (rspWord 1 0 (sparseGet 0 r.core s.dev.credit.tags) (if
        (s.dev.leaseAt r.core 0).isNone then 0 else 1) r.units)] { ((s.dev.bump CREDIT.GRANTS_COUNT 0 r.rail)) with
        smp := if r.told then [(0x0A, r.rail, (r.wait : Int))] else [], credit := { s.dev.credit with
          queue := [], tags := sparseSet 0 r.core ((sparseGet 0 r.core s.dev.credit.tags + 1) % 16) s.dev.credit.tags,
          leases := s.dev.credit.leases ++ [⟨r.core, if (s.dev.leaseAt r.core 0).isNone then 0 else 1, sparseGet 0
            r.core s.dev.credit.tags, r.units, some r.rail, true, false, s.dev.leaseLen r.dur⟩],
          pools := modAt s.dev.credit.pools r.rail (fun p => { p with grsv := p.grsv + r.units }) } })) ∧
  (∀ (s : State),
      s.settled = true →
      (∀ n ∈ List.range s.dev.rails.length, s.dev.nextGrant n = none) →
      exec .creditGrant s = .next (s.ends [] [] s.dev)) ∧
  (∀ (c : Nat) (w : BitVec 16) (l : Lease) (n : Nat) (s : State),
      s.settled = true →
      c < s.dev.bld.cores →
      s.dev.leaseAt c (bitsAt w.toNat 0 1) = some l →
      l.tag = bitsAt w.toNat 1 4 →
      l.rail = some n →
      l.rsv = false →
      exec (.creditReturn c w) s = .next (s.ends [] [] { s.dev with
        credit := { s.dev.credit with
          leases := s.dev.credit.leases.filter (fun x => !(x.core == l.core && x.slot == l.slot)), pools := modAt
            s.dev.credit.pools n (fun p => { p with g := p.g - l.units, b := min 65535 (p.b + l.units) }) } })) ∧
  (∀ (c : Nat) (w : BitVec 16) (l : Lease) (n : Nat) (s : State),
      s.settled = true →
      c < s.dev.bld.cores →
      s.dev.leaseAt c (bitsAt w.toNat 0 1) = some l →
      l.tag = bitsAt w.toNat 1 4 →
      l.rail = some n →
      l.rsv = true →
      exec (.creditReturn c w) s = .next (s.ends [] [] { s.dev with
        credit := { s.dev.credit with
          leases := s.dev.credit.leases.filter (fun x => !(x.core == l.core && x.slot == l.slot)),
          pools := modAt s.dev.credit.pools n (fun p => { p with grsv := p.grsv - l.units }) } })) ∧
  (∀ (c : Nat) (w : BitVec 16) (n : Nat) (s : State),
      s.settled = true →
      c < s.dev.bld.cores →
      s.dev.leaseAt c (bitsAt w.toNat 0 1) = none →
      s.dev.coreRail c = some n →
      s.dev.credit.lateSent.contains (c / 16) = true →
      exec (.creditReturn c w) s = .next (s.ends [] [] (s.dev.bump CREDIT.LATE_RET_COUNT 0 n))) ∧
  (∀ (c : Nat) (w : BitVec 16) (s : State),
      s.settled = true →
      c < s.dev.bld.cores →
      s.dev.leaseAt c (bitsAt w.toNat 0 1) = none →
      s.dev.coreRail c = none →
      s.dev.credit.lateSent.contains (c / 16) = false →
      exec (.creditReturn c w) s = .next (s.ends [s.event Ev.CREDIT_LATE_RET (c / 16)] [] { s.dev with
        credit := { s.dev.credit with lateSent := insertAsc (c / 16) s.dev.credit.lateSent } })) ∧
  (∀ (c : Nat) (y : Nat) (l : Lease) (n : Nat) (s : State),
      s.settled = true →
      c < s.dev.bld.cores →
      s.dev.leaseAt c y = some l →
      l.rail = some n →
      l.rsv = false →
      (s.dev.pool n).recSent = false →
      exec (.creditReclaim c y) s = .next (s.ends [s.event Ev.CREDIT_RECLAIM n] [.ccRsp c (rspWord 4 0x10 l.tag l.slot
        l.units)] { (s.dev.bump CREDIT.RECLAIMS_COUNT 0 n) with
        credit := { s.dev.credit with
          leases := s.dev.credit.leases.filter (fun x => !(x.core == l.core && x.slot == l.slot)), pools := modAt
            s.dev.credit.pools n (fun p => { p with
            g := p.g - l.units, b := min 65535 (p.b + l.units), recSent := true }) } })) ∧
  (∀ (c : Nat) (r : CReq) (s : State),
      s.settled = true →
      s.dev.waiting c = some r →
      r.cls = 2 →
      s.dev.rd CREDIT.AGE_FILL_WAIT ≤ r.wait →
      exec (.fillTimeout c) s = .next (s.ends [] [.ccRsp c (rspWord 3 8 0 0 r.units)] { ((s.dev.bump
        CREDIT.DENIES_COUNT 0 r.rail).bump CREDIT.FILL_DENY_COUNT 0 r.rail) with
        credit := { s.dev.credit with queue := s.dev.credit.queue.filter (fun q => q.core != c) },
        smp := [(0x0A, r.rail, (r.wait : Int))] })) ∧
  (∀ (c : Nat) (r : CReq) (s : State),
      s.settled = true →
      s.dev.waiting c = some r →
      r.cls = 1 →
      r.promoted = false →
      s.dev.rd CREDIT.AGE_PROMOTE ≤ r.wait →
      exec (.mediumPromote c) s = .next (s.ends [] [] { (s.dev.bump CREDIT.PROMOTED_COUNT 0 r.rail) with
        credit := { s.dev.credit with
          queue := requeue (s.dev.credit.queue.map (fun q => if q.core = c then { q with promoted := true } else q)) }
          })) ∧
  (∀ (n : Nat) (r : CReq) (s : State),
      s.settled = true →
      n < s.dev.rails.length →
      s.dev.credit.queue.find? (fun q => q.rail == n) = some r →
      r.starved = false →
      s.dev.rd CREDIT.STARVE_LIMIT ≤ r.wait →
      exec (.creditStarve n) s = .next (s.ends [s.event Ev.CREDIT_STARVE n] [] { s.dev with
        credit := { s.dev.credit with
          queue := s.dev.credit.queue.map (fun q => if q.core = r.core then { q with starved := true } else q) } })) ∧
  (∀ (ch : Nat) (late : Bool) (cs : List (BitVec 16)) (s : State),
      s.settled = true →
      ch < s.dev.bld.creditCh →
      late = true →
      exec (.activityCounts ch late cs) s = .next (s.ends [] [] s.dev)) ∧
  (∀ (ch : Nat) (late : Bool) (cs : List (BitVec 16)) (s : State),
      s.settled = true →
      ch < s.dev.bld.creditCh →
      late = false →
      Reaches (.activityCounts ch late cs) s (fun t => (∀ k ∈ List.range 16, t.dev.act.cnt.getD (16 * ch + k) 0 =
        (cs.getD k 0#16).toNat) ∧ (∀ o, o < 16 * ch ∨ 16 * ch + 16 ≤ o → t.dev.act.cnt.getD o 0 = s.dev.act.cnt.getD o
        0) ∧ t.dev.act = { s.dev.act with cnt := t.dev.act.cnt, got := insertAsc ch s.dev.act.got } ∧ t = { s with
        dev := { s.dev with out := [], act := t.dev.act } })) ∧
  (∀ (d : Dev) (n : Nat),
      let whole : Nat := d.derate n (min (d.rd CREDIT.POOL_POOL 0 n) (d.rd CREDIT.HARD_HARD_POOL 0 n)) *
        (d.credit.pfUse.getD n 256) / 256
      n < d.credit.pools.length →
      ((d.creditLatch n).pool n) = { d.pool n with
        p := whole, rsv := d.rd CREDIT.POOL_RESERVE 0 n, avail := whole - d.rd CREDIT.POOL_RESERVE 0 n,
        a := (d.pool n).aNext }) ∧
  (∀ (d : Dev) (n : Nat),
      let u : Nat := ((d.credit.queue.find? (fun q => q.rail == n && q.cls != 3)).map (fun q => q.units)).getD 0
      n < d.credit.pools.length →
      ((d.creditRefill n).pool n) = { d.pool n with
        b := min 65535 (min (max (d.pool n).a u) ((d.pool n).b + (d.pool n).a)) }) ∧
  (∀ (d : Dev) (n : Nat),
      let pp : Nat := min (((d.rail n).cmd.ppLat + 8) / 16).toNat (d.rd CREDIT.BOOST_PP_FULL)
      d.allowance n = min (d.gov.set.ramp + d.gov.set.ramp * (d.rd CREDIT.BOOST_BOOST - 16) * pp / (16 * d.rd
        CREDIT.BOOST_PP_FULL)) (d.rd CREDIT.HARD_RAMP_HARD_AMAX))

/-- HINT_TOKEN takes the tokens of one HCLK cycle at a GCLK cycle of the beat, which is kept as the latest instant. On
an enabled port a good token with room enters the FIFO unstamped, is counted and moves the high-water mark; a bad one
is counted and raises HINT_BAD once per BUDGET tick and port; one without room, or during a pointer reset, is dropped,
counted and raises HINT_DROP once per BUDGET tick and port. A disabled port takes nothing. Two good tokens with room
enter in ascending port order, however they are listed. HINT_PTR_FAULT discards every entry, counts them and the
reset, raises HINT_PTR_FAULT, and starts a pointer reset whose length is a free value of at most 112 GCLK cycles.
Nothing else changes. Retirement (R267): the entries that fall due leave the FIFO in order, at most 32 in a beat, and
those overdue are counted. The step engine of tasks 0x03 and 0x04, function by function: the beat that enters its bin,
the learning formula of R275, what the end of a bin learns and compares (R275, R280) and when it does not, the look-
ahead and pp_step of R278, and the request of R279. The length of a pointer reset and that tokens are dropped
meanwhile (log entry 32), and its end by the latest instant, are the model's choice (log entry 82). Rests on: R54,
R262, R264, R265, R266, R267, R275, R278, R279, R280. -/
def Obligations.HintTokensAndPointerReset : Prop :=
  (∀ (toks : List (Nat × BitVec 64)) (k : Nat) (y : Nat) (p : Nat) (w : BitVec 64) (s : State),
      s.settled = true →
      toks = [(p, w)] →
      p < s.dev.bld.hintPorts →
      bitAt (s.dev.rd HINT.PORT_EN_EN) p = true →
      s.dev.tokBad w.toNat = false →
      (s.dev.atCyc y).hintBusy = false →
      s.dev.hint.count + min k s.dev.hint.retired.length < 4096 →
      s.dev.hint.count < s.dev.rd HINT.FIFO_HWM →
      exec (.hintToken toks k y) s = .next (s.ends [] [] { ((s.dev.atCyc y).bump HINT.ACCEPTED_COUNT) with
        hint := { s.dev.hint with fresh := s.dev.hint.fresh ++ [(p, w.toNat)] } })) ∧
  (∀ (toks : List (Nat × BitVec 64)) (k : Nat) (y : Nat) (p : Nat) (w : BitVec 64) (s : State),
      s.settled = true →
      toks = [(p, w)] →
      p < s.dev.bld.hintPorts →
      bitAt (s.dev.rd HINT.PORT_EN_EN) p = true →
      s.dev.tokBad w.toNat = false →
      (s.dev.atCyc y).hintBusy = false →
      s.dev.hint.count + min k s.dev.hint.retired.length < 4096 →
      s.dev.rd HINT.FIFO_HWM ≤ s.dev.hint.count →
      exec (.hintToken toks k y) s = .next (s.ends [] [] { (((s.dev.atCyc y).bump HINT.ACCEPTED_COUNT).wr
        HINT.FIFO_HWM (s.dev.hint.count + 1)) with
        hint := { s.dev.hint with fresh := s.dev.hint.fresh ++ [(p, w.toNat)] } })) ∧
  (∀ (toks : List (Nat × BitVec 64)) (k : Nat) (y : Nat) (p : Nat) (w : BitVec 64) (s : State),
      s.settled = true →
      toks = [(p, w)] →
      p < s.dev.bld.hintPorts →
      bitAt (s.dev.rd HINT.PORT_EN_EN) p = true →
      s.dev.tokBad w.toNat = true →
      s.dev.hint.badSent.contains p = false →
      exec (.hintToken toks k y) s = .next (s.ends [s.event Ev.HINT_BAD p] [] { (((s.dev.atCyc y).bump
        HINT.PORT_DROP_BAD 0 p).bump HINT.DROP_BAD_COUNT) with
        hint := { s.dev.hint with badSent := insertAsc p s.dev.hint.badSent } })) ∧
  (∀ (toks : List (Nat × BitVec 64)) (k : Nat) (y : Nat) (p : Nat) (w : BitVec 64) (s : State),
      s.settled = true →
      toks = [(p, w)] →
      p < s.dev.bld.hintPorts →
      bitAt (s.dev.rd HINT.PORT_EN_EN) p = true →
      s.dev.tokBad w.toNat = true →
      s.dev.hint.badSent.contains p = true →
      exec (.hintToken toks k y) s = .next (s.ends [] [] (((s.dev.atCyc y).bump HINT.PORT_DROP_BAD 0 p).bump
        HINT.DROP_BAD_COUNT))) ∧
  (∀ (toks : List (Nat × BitVec 64)) (k : Nat) (y : Nat) (p : Nat) (w : BitVec 64) (s : State),
      s.settled = true →
      toks = [(p, w)] →
      p < s.dev.bld.hintPorts →
      bitAt (s.dev.rd HINT.PORT_EN_EN) p = true →
      s.dev.tokBad w.toNat = false →
      (s.dev.atCyc y).hintBusy = true ∨ 4096 ≤ s.dev.hint.count + min k s.dev.hint.retired.length →
      s.dev.hint.dropSent.contains p = false →
      exec (.hintToken toks k y) s = .next (s.ends [s.event Ev.HINT_DROP p] [] { (((s.dev.atCyc y).bump
        HINT.PORT_DROP_FULL 0 p).bump HINT.DROP_FULL_COUNT) with
        hint := { s.dev.hint with dropSent := insertAsc p s.dev.hint.dropSent } })) ∧
  (∀ (toks : List (Nat × BitVec 64)) (k : Nat) (y : Nat) (p : Nat) (w : BitVec 64) (s : State),
      s.settled = true →
      toks = [(p, w)] →
      p < s.dev.bld.hintPorts →
      bitAt (s.dev.rd HINT.PORT_EN_EN) p = true →
      s.dev.tokBad w.toNat = false →
      (s.dev.atCyc y).hintBusy = true ∨ 4096 ≤ s.dev.hint.count + min k s.dev.hint.retired.length →
      s.dev.hint.dropSent.contains p = true →
      exec (.hintToken toks k y) s = .next (s.ends [] [] (((s.dev.atCyc y).bump HINT.PORT_DROP_FULL 0 p).bump
        HINT.DROP_FULL_COUNT))) ∧
  (∀ (toks : List (Nat × BitVec 64)) (k : Nat) (y : Nat) (p : Nat) (w : BitVec 64) (s : State),
      s.settled = true →
      toks = [(p, w)] →
      bitAt (s.dev.rd HINT.PORT_EN_EN) p = false →
      exec (.hintToken toks k y) s = .next (s.ends [] [] (s.dev.atCyc y))) ∧
  (∀ (toks : List (Nat × BitVec 64)) (k : Nat) (y : Nat) (p : Nat) (w : BitVec 64) (q : Nat) (x : BitVec 64) (s :
    State),
      s.settled = true →
      toks = [(q, x), (p, w)] →
      p < q →
      q < s.dev.bld.hintPorts →
      bitAt (s.dev.rd HINT.PORT_EN_EN) p = true →
      bitAt (s.dev.rd HINT.PORT_EN_EN) q = true →
      s.dev.tokBad w.toNat = false →
      s.dev.tokBad x.toNat = false →
      (s.dev.atCyc y).hintBusy = false →
      s.dev.hint.count + 1 + min k s.dev.hint.retired.length < 4096 →
      s.dev.hint.count + 2 ≤ s.dev.rd HINT.FIFO_HWM →
      exec (.hintToken toks k y) s = .next (s.ends [] [] { (((s.dev.atCyc y).bump HINT.ACCEPTED_COUNT).bump
        HINT.ACCEPTED_COUNT) with
        hint := { s.dev.hint with fresh := s.dev.hint.fresh ++ [(p, w.toNat), (q, x.toNat)] } })) ∧
  (∀ (s : State),
      s.settled = true →
      exec .hintPtrFault s = .next (s.ends [s.event Ev.HINT_PTR_FAULT] [] { ((s.dev.bump HINT.PTR_LOST 0 0
        s.dev.hint.count).bump HINT.PTR_RESETS) with
        hint := { s.dev.hint with
          fifo := [], fresh := [], busyTo := s.dev.gnow + min 112 (Config.ptrResetLen s.dev.gnow) } })) ∧
  (∀ (b : Nat) (l : List HTok),
      let out : List HTok := (retireDue b 32 l).1
      let rest : List HTok := (retireDue b 32 l).2
      out ++ rest = l ∧ out.length ≤ 32 ∧ out.all (fun t => decide (t.due ≤ b)) = true
        ∧ (out.length = 32 ∨ ((rest.head?.map (fun t => decide (b < t.due))).getD true) = true)) ∧
  (∀ (d : Dev),
      d.hintRetire.hint.retired = (retireDue d.tick.b 32 d.hint.fifo).1
        ∧ d.hintRetire.hint.fifo = (retireDue d.tick.b 32 d.hint.fifo).2
        ∧ d.hintRetire.rd HINT.RETIRE_LATE_COUNT = min (2 ^ HINT.RETIRE_LATE_COUNT.wid - 1) (d.rd
        HINT.RETIRE_LATE_COUNT + ((retireDue d.tick.b 32 d.hint.fifo).1.filter (fun t => decide (t.due <
        d.tick.b))).length)) ∧
  (∀ (d : Dev),
      d.step.st = .run →
      d.stepTake.step = { d.step with
        beats := d.step.beats + 1, sums := (upto d.rails.length).map (fun n => d.step.sums.getD n 0 + d.beatI n), susp
          := (upto d.rails.length).filter (fun n => d.step.susp.contains n || (d.rail n).flt.accB1.susp || d.sqActive)
          }) ∧
  (∀ (acc : Nat) (x : Nat) (k : Nat),
      0 < k →
      256 ≤ acc →
      (learnAcc acc x k : Int) = max 256 (acc + (((x : Int) * 256 - acc) + 2 ^ (k - 1)) / 2 ^ k) ∧ learnAcc 0 x k =
        256 * max 1 x ∧ learnAcc acc x 0 = 256 * max 1 x) ∧
  (∀ (d : Dev) (n : Nat) (i : Nat) (x : Nat),
      let acc : Nat := learnAcc (256 * d.step.entry n i + sparseGet 0 (4096 * n + i) d.step.frac) x (d.rd
        STEP.CTRL_LEARN_K)
      bitAt (d.rd STEP.CTRL_FREEZE) n = false →
      i < 4096 →
      d.step.bank0.wf = true →
      d.step.bank1.wf = true →
      ((d.stepLearnRail n i x).step.entry n i) = acc / 256 % 65536 ∧ sparseGet 0 (4096 * n + i) (d.stepLearnRail n i
        x).step.frac = acc % 256) ∧
  (∀ (d : Dev) (n : Nat) (i : Nat) (x : Nat),
      let lim : Nat := d.rd STEP.TRUST_ABS + (d.step.entry n i * d.rd STEP.TRUST_REL + 128) / 256
      d.step.entry n i ≠ 0 →
      n < 8 →
      lim < ((x : Int) - (d.step.entry n i : Int)).natAbs →
      (d.stepLearnRail n i x).rd STEP.MISS_RUN 0 n = min 255 (d.rd STEP.MISS_RUN 0 n + 1)
        ∧ (d.stepLearnRail n i x).rd STEP.MISS_MISSES 0 n = min (2 ^ STEP.MISS_MISSES.wid - 1) (d.rd STEP.MISS_MISSES
        0 n + 1) ∧ (d.stepLearnRail n i x).step.ffSusp = (if d.rd STEP.MISS_RUN 0 n + 1 = d.rd STEP.TRUST_MISS then
        insertAsc n d.step.ffSusp else d.step.ffSusp)) ∧
  (∀ (d : Dev) (n : Nat) (i : Nat) (x : Nat),
      let lim : Nat := d.rd STEP.TRUST_ABS + (d.step.entry n i * d.rd STEP.TRUST_REL + 128) / 256
      d.step.entry n i ≠ 0 →
      n < 8 →
      ((x : Int) - (d.step.entry n i : Int)).natAbs ≤ lim →
      (d.stepLearnRail n i x).rd STEP.MISS_RUN 0 n = 0 ∧ (d.stepLearnRail n i x).evq = d.evq) ∧
  (∀ (d : Dev) (old : StepTab),
      d.step.st ≠ .run ∨ old.st ≠ .run ∨ old.beats = 0 ∨ (d.step.beats ≠ 0 ∧ d.step.bin = old.bin) →
      d.stepLearn old = d) ∧
  (∀ (d : Dev) (old : StepTab),
      d.step.st = .run →
      old.st = .run →
      old.beats ≠ 0 →
      d.step.beats = 0 ∨ d.step.bin ≠ old.bin →
      old.beats ≠ 2 ^ old.w ∨ d.step.act ≠ old.act ∨ d.held 0x04 = true →
      d.stepLearn old = { d with step := { d.step with beats := 0, sums := [], susp := [] } }) ∧
  (∀ (d : Dev) (old : StepTab),
      d.step.st = .run →
      old.st = .run →
      d.step.beats = 0 ∨ d.step.bin ≠ old.bin →
      old.beats = 2 ^ old.w →
      d.step.act = old.act →
      d.held 0x04 = false →
      d.stepLearn old = ((upto d.rails.length).filter (fun n => !old.susp.contains n)).foldl (fun (e : Dev) n =>
        e.stepLearnRail n old.bin (roundDivN (old.sums.getD n 0) (2 ^ old.w))) { d with
        step := { d.step with beats := 0, sums := [], susp := [] } }) ∧
  (∀ (d : Dev) (n : Nat),
      let look : Nat → Nat := fun j => (d.step.pos + j * (d.rd STEP.FF_CFG_LOOK / 4)) / 2 ^ d.step.w
      let ahd : Nat := maxN ([1, 2, 3, 4].map (fun j => if look j < 4096 then d.step.entry n (look j) else 0))
      n < d.rails.length →
      n < 8 →
      d.stepFF.rd STEP.FF_IAHD 0 n = ahd % 2 ^ STEP.FF_IAHD.wid ∧ d.stepFF.rd STEP.FF_PPSTEP 0 n = (if d.step.st =
        .run ∧ d.rd STEP.FF_CFG_WARM ≤ d.step.warm ∧ d.step.ffSusp.contains n = false ∧ d.beatI n < ahd then min 65535
        ((d.rd RAIL.LL_LL n * (ahd - d.beatI n) * d.rd STEP.FF_CFG_SGAIN + 2 ^ 11) / 2 ^ 12) else 0) % 2 ^
        STEP.FF_PPSTEP.wid) ∧
  (∀ (d : Dev) (n : Nat),
      n < d.rails.length →
      (d.ppRequests.rail n).cmd.ppReq = min d.gov.set.ppcap (max (d.fc.out.ppfc.getD n 0) (d.rd STEP.FF_PPSTEP 0 n)))

/-- STEP_SWAP marks a swap for the next position reset; STEP_SWAP_NOW outside STEP_RUN marks one for the next beat, in
STEP_RUN it is refused. FCAST_SWAP with none pending starts the check of the inactive bank, with one pending it is
refused. FCAST_LOAD_CHECK counts the corrected errors, and passes the bank or ends the request with the failure code,
an uncorrectable error counted too; without a check in progress it changes nothing. FCAST_SWAP_DONE after a passed
check swaps a bank whose window was not written, shows its model ID and digest, counts and raises FCAST_SWAP_DONE, and
an enabled engine in DEGRADED or FAULT goes to RUN; a bank that was written fails with code 6. FCAST_REARM marks a
degraded engine for the next strobe, and FCAST_EN_WRITE stores EN. FCAST_STALE from the fifth beat without an
evaluation makes every request 0 and raises FCAST_STALE once per BUDGET tick. Nothing else changes. The evaluation of
Forecast, function by function: a layer of R290, the predictions and the confidence from the last hidden layer, lut
and the softmax of R291 (its weights sum to 32,768, a masked position has none, and all masked give NULLROW), and the
requests of R292. Rests on: R274, R293, R296, R300, R301, R302, R290, R291, R292. -/
def Obligations.StepAndForecastBanks : Prop :=
  (∀ (a : Acc) (v : BitVec 32) (s : State),
      s.settled = true →
      s.dev.ready 0x16 = true →
      a.privOk = true →
      bitsAt v.toNat 31 1 = 1 →
      bitsAt v.toNat 30 1 = 0 →
      bitsAt v.toNat 4 4 ≤ 8 →
      bitsAt v.toNat 0 4 ≤ 10 →
      exec (.stepSwap a v) s = .next (s.ends [] [] { (s.dev.stores [STEP.CTRL_FREEZE, STEP.CTRL_SRC_PORT,
        STEP.CTRL_LEARN_K, STEP.CTRL_WIDTH_NEXT] 0 0 v) with step := { s.dev.step with pend := true } })) ∧
  (∀ (a : Acc) (v : BitVec 32) (s : State),
      s.settled = true →
      s.dev.ready 0x16 = true →
      a.privOk = true →
      bitsAt v.toNat 31 1 = 0 →
      bitsAt v.toNat 30 1 = 1 →
      s.dev.step.st ≠ .run →
      bitsAt v.toNat 4 4 ≤ 8 →
      bitsAt v.toNat 0 4 ≤ 10 →
      exec (.stepSwapNow a v) s = .next (s.ends [] [] { (s.dev.stores [STEP.CTRL_FREEZE, STEP.CTRL_SRC_PORT,
        STEP.CTRL_LEARN_K, STEP.CTRL_WIDTH_NEXT] 0 0 v) with step := { s.dev.step with now := true } })) ∧
  (∀ (a : Acc) (v : BitVec 32) (s : State),
      s.settled = true →
      s.dev.ready 0x16 = true →
      a.privOk = true →
      bitsAt v.toNat 31 1 = 0 →
      bitsAt v.toNat 30 1 = 1 →
      s.dev.step.st = .run →
      bitsAt v.toNat 4 4 ≤ 8 →
      bitsAt v.toNat 0 4 ≤ 10 →
      exec (.stepSwapNow a v) s = .next (s.ends [s.event (Ev.badValue 0x16)] [] (s.dev.stores [STEP.CTRL_FREEZE,
        STEP.CTRL_SRC_PORT, STEP.CTRL_LEARN_K, STEP.CTRL_WIDTH_NEXT] 0 0 v))) ∧
  (∀ (a : Acc) (v : BitVec 32) (s : State),
      s.settled = true →
      s.dev.ready 0x15 = true →
      a.privOk = true →
      bitsAt v.toNat 31 1 = 1 →
      bitsAt v.toNat 30 1 = 0 →
      s.dev.fc.pend = false →
      exec (.fcastSwap a v) s = .next (s.ends [] [] { (s.dev.stores [FCAST.CTRL_EN] 0 0 v) with
        fc := { s.dev.fc with pend := true, passed := false, dirty := false } })) ∧
  (∀ (a : Acc) (v : BitVec 32) (s : State),
      s.settled = true →
      s.dev.ready 0x15 = true →
      a.privOk = true →
      bitsAt v.toNat 31 1 = 1 →
      bitsAt v.toNat 30 1 = 0 →
      s.dev.fc.pend = true →
      exec (.fcastSwap a v) s = .next (s.ends [s.event (Ev.badValue 0x15)] [] (s.dev.stores [FCAST.CTRL_EN] 0 0 v))) ∧
  (∀ (e : Bool × Nat) (s : State),
      let r := modelCheck s.dev.fc.idleBank s.dev.fc.dirty false
      s.settled = true →
      s.dev.fc.pend = true →
      s.dev.fc.passed = false →
      e.1 = false →
      exec (.fcastLoadCheck e) s = .next (s.ends (if r = 1 then [] else [s.event Ev.FCAST_LOAD_BAD r]) [] (if r = 1
        then { (s.dev.bump FCAST.ECC_CORR 0 0 e.2) with fc := { s.dev.fc with passed := true } } else { (((s.dev.bump
        FCAST.ECC_CORR 0 0 e.2).wr FCAST.STATUS_LOAD_RESULT r).bump FCAST.LOADS_FAILED) with
        fc := { s.dev.fc with pend := false, passed := false } }))) ∧
  (∀ (e : Bool × Nat) (s : State),
      s.settled = true →
      s.dev.fc.pend = true →
      s.dev.fc.passed = false →
      e.1 = true →
      exec (.fcastLoadCheck e) s = .next (s.ends [s.event Ev.FCAST_LOAD_BAD 7] [] { ((((s.dev.bump FCAST.ECC_CORR 0 0
        e.2).bump FCAST.ECC_UNCORR).wr FCAST.STATUS_LOAD_RESULT 7).bump FCAST.LOADS_FAILED) with
        fc := { s.dev.fc with pend := false, passed := false } })) ∧
  (∀ (e : Bool × Nat) (s : State),
      s.settled = true →
      s.dev.fc.pend = false ∨ s.dev.fc.passed = true →
      exec (.fcastLoadCheck e) s = .next (s.ends [] [] s.dev)) ∧
  (∀ (s : State),
      s.settled = true →
      s.dev.fc.passed = true →
      s.dev.fc.dirty = false →
      s.dev.on FCAST.CTRL_EN = false ∨ s.dev.fc.st = .run ∨ s.dev.fc.st = .off →
      exec .fcastSwapDone s = .next (s.ends [s.event Ev.FCAST_SWAP_DONE] [] { ((((s.dev.wr FCAST.MODEL_ID_ID
        (s.dev.fc.idleBank.readLE 12 4)).wr FCAST.DIGEST_DIGEST (s.dev.fc.idleBank.readLE 16 4)).wr
        FCAST.STATUS_LOAD_RESULT 1).bump FCAST.LOADS_PASSED) with
        fc := { s.dev.fc with act := 1 - s.dev.fc.act, valid := true, pend := false, passed := false } })) ∧
  (∀ (s : State),
      s.settled = true →
      s.dev.fc.passed = true →
      s.dev.fc.dirty = false →
      s.dev.on FCAST.CTRL_EN = true →
      s.dev.fc.st = .degraded ∨ s.dev.fc.st = .fault →
      exec .fcastSwapDone s = .next (s.ends [s.event Ev.FCAST_SWAP_DONE] [] { ((((s.dev.wr FCAST.MODEL_ID_ID
        (s.dev.fc.idleBank.readLE 12 4)).wr FCAST.DIGEST_DIGEST (s.dev.fc.idleBank.readLE 16 4)).wr
        FCAST.STATUS_LOAD_RESULT 1).bump FCAST.LOADS_PASSED) with
        fc := (({ s.dev.fc with act := 1 - s.dev.fc.act, valid := true, pend := false, passed := false } : Fcast).go
          .run) })) ∧
  (∀ (s : State),
      s.settled = true →
      s.dev.fc.passed = true →
      s.dev.fc.dirty = true →
      exec .fcastSwapDone s = .next (s.ends [s.event Ev.FCAST_LOAD_BAD 6] [] { ((s.dev.wr FCAST.STATUS_LOAD_RESULT
        6).bump FCAST.LOADS_FAILED) with fc := { s.dev.fc with pend := false, passed := false } })) ∧
  (∀ (a : Acc) (v : BitVec 32) (s : State),
      s.settled = true →
      s.dev.ready 0x15 = true →
      a.privOk = true →
      bitsAt v.toNat 31 1 = 0 →
      bitsAt v.toNat 30 1 = 1 →
      s.dev.fc.st = .degraded →
      exec (.fcastRearm a v) s = .next (s.ends [] [] { (s.dev.stores [FCAST.CTRL_EN] 0 0 v) with
        fc := { s.dev.fc with rearm := true } })) ∧
  (∀ (a : Acc) (v : BitVec 32) (s : State),
      s.settled = true →
      s.dev.ready 0x15 = true →
      a.privOk = true →
      bitsAt v.toNat 31 1 = 0 →
      bitsAt v.toNat 30 1 = 1 →
      s.dev.fc.st ≠ .degraded →
      exec (.fcastRearm a v) s = .next (s.ends [] [] (s.dev.stores [FCAST.CTRL_EN] 0 0 v))) ∧
  (∀ (a : Acc) (v : BitVec 32) (s : State),
      s.settled = true →
      s.dev.ready 0x15 = true →
      a.privOk = true →
      bitsAt v.toNat 31 1 = 0 →
      bitsAt v.toNat 30 1 = 0 →
      exec (.fcastEnWrite a v) s = .next (s.ends [] [] (s.dev.stores [FCAST.CTRL_EN] 0 0 v))) ∧
  (∀ (s : State),
      s.settled = true →
      5 ≤ s.dev.fc.reuse →
      s.dev.fc.staleSent = true →
      exec .fcastStale s = .next (s.ends [] [] { s.dev with
        fc := { s.dev.fc with out := { s.dev.fc.out with ppfc := [] } } })) ∧
  (∀ (s : State),
      s.settled = true →
      5 ≤ s.dev.fc.reuse →
      s.dev.fc.staleSent = false →
      exec .fcastStale s = .next (s.ends [s.event Ev.FCAST_STALE] [] { s.dev with
        fc := { s.dev.fc with staleSent := true, out := { s.dev.fc.out with ppfc := [] } } })) ∧
  (∀ (m : Mem) (wb : Nat) (bb : Nat) (pb : Nat) (n : Nat) (o : Nat) (xs : List Int),
      o < n →
      (layer m wb bb pb n xs).getD o 0 = clampI (mulCoef (sat32 (i32 m (bb + 4 * o) + sumI (List.zipWith (· * ·)
        (rowAt m wb xs.length o) xs))) (signedOf 32 (m.readLE (pb + 8 * o) 4)) (bitsAt (m.readLE (pb + 8 * o + 4) 1) 0
        5)) (-128) 127) ∧
  (∀ (f : Nat),
      f < 256 →
      (2 * lut f - 1) ^ 256 ≤ 2 ^ (4352 - f) ∧ 2 ^ (4352 - f) < (2 * lut f + 1) ^ 256) ∧
  (∀ (l : List (Option Int)),
      l.any (fun x => x.isSome) = true →
      sumN (softmax l).1 = 32768 ∧ (softmax l).2 = false ∧ (softmax l).1.length = l.length
        ∧ (l.zip (softmax l).1).all (fun x => x.1.isSome || x.2 == 0) = true) ∧
  (∀ (l : List (Option Int)),
      l.all (fun x => x.isNone) = true →
      softmax l = (l.map (fun _ => 0), true)) ∧
  (∀ (d : Dev) (n : Nat) (preds : List Nat) (conf : Nat) (nul : Bool),
      let o : FcOut := d.fcFinish preds conf nul
      n < d.rails.length →
      o.preds = preds →
      o.ifc.getD n 0 = maxN ((preds.drop (16 * n + d.rd FCAST.CFG_K_LO)).take (d.rd FCAST.CFG_K_HI + 1 - d.rd
        FCAST.CFG_K_LO)) ∧ o.use.getD n false = (decide (d.rd FCAST.CFG_CONF_MIN ≤ conf) && !nul && d.fcOk n)
        ∧ o.ppfc.getD n 0 = (if o.use.getD n false = true ∧ d.fcNow n < o.ifc.getD n 0 then min (d.rd
        FCAST.HARD_FC_HARD_PPMAX) ((d.rd RAIL.LL_LL n * (o.ifc.getD n 0 - d.fcNow n) * d.rd FCAST.CFG_FGAIN + 2 ^ 11)
        / 2 ^ 12) else 0)) ∧
  (∀ (m : Mem) (toks : List (Option (Nat × Nat))) (raw : List Int),
      let u : List Int := raw.zipIdx.map (fun (x : Int × Nat) => rq8 x.1 (pairAt m (0x100 + 8 * x.2)))
      let xs : List (Option (List Int)) := toks.map (fun t => t.map (fun x => embed m x.1 x.2))
      let q : List Int := layer m 0x6000 0xB000 0xC000 32 u
      let w : List Nat × Bool := softmax (xs.map (fun x => x.map (fun v => rq16 (dot 0 q v) (pairAt m 0x28))))
      let a : List Int := (upto 32).map (fun i => rq8 (sat32 (sumI (List.zipWith (fun (k : Nat) (x : Option (List
        Int)) => (k : Int) * ((x.map (fun v => v.getD i 0)).getD 0)) w.1 xs))) (pairAt m 0x30))
      let c : List Int := layer m 0x6400 0xB080 0xC100 32 a
      let h1 : List Int := (layer m 0x6800 0xB100 0xC200 64 (c ++ u)).map (fun x => max 0 x)
      let h2 : List Int := (layer m 0x7800 0xB200 0xC400 64 h1).map (fun x => max 0 x)
      let out : Nat → Int := fun i => dot (i32 m (0xB300 + 4 * i)) (rowAt m 0x8800 64 i) h2
      evalModel m toks raw = ((upto 128).map (fun i => rqu16 (out i) (pairAt m (0xC600 + 8 * i))), rqu8 (out 128)
        (pairAt m 0xCA00), w.2)) ∧
  (∀ (d : Dev) (raw : List Int),
      let r : List Nat × Nat × Bool := evalModel d.fc.bank d.fcWindow raw
      (d.fcComplete raw).fc.nxt = some (d.fcFinish r.1 r.2.1 r.2.2) ∧ (d.fcComplete raw).rd FCAST.EVALS_COUNT = min (2
        ^ FCAST.EVALS_COUNT.wid - 1) (d.rd FCAST.EVALS_COUNT + 1))

/-- THERM_RING_FAIL of a segment with eight consecutive failed passes, THERM_EXCLUDED and THERM_READMIT of a sensor
whose count has reached its limit, and THERM_ZONE_LOST of a configured zone that is not idle and has had no valid
member for eight passes each set their state once and raise their event. THERM_FAST_RELEASE ends fast sampling after
FAST.HOLD quiet results. THERM_RELEASE returns a lowered cap to 63 after RELEASE.MS quiet BUDGET strobes and raises
THERM_RELEASE. Nothing else changes; and where its condition does not hold, each of the six changes nothing. The
limits are those of the latest THERM strobe. The THERM tick, function by function: a pass of a segment (R307), the
conversion of R309 with its polynomial and gain, the cross-check of R313 and R314, the maximum of a zone (R315), the
history and rate of rise (R317), fast sampling (R316), the cap at an alarm (R319), the bandwidth cap (R320), the trip
of a zone (R321), and the order of task 0x11. A held 0x11 converts nothing (R83, R309). Rests on: R307, R314, R315,
R316, R319, R309, R313, R317, R320, R321. -/
def Obligations.ThermalSensorsAndZones : Prop :=
  (∀ (k : Nat) (s : State),
      s.settled = true →
      k < 4 →
      8 ≤ (s.dev.seg k).bad →
      (s.dev.seg k).fail = false →
      exec (.thermRingFail k) s = .next (s.ends [s.event Ev.THERM_RING_FAIL k] [] { s.dev with
        therm := { s.dev.therm with segs := modAt s.dev.therm.segs k (fun q => { q with fail := true }) } })) ∧
  (∀ (k : Nat) (s : State),
      s.settled = true →
      4 ≤ k ∨ (s.dev.seg k).bad < 8 ∨ (s.dev.seg k).fail = true →
      exec (.thermRingFail k) s = .next (s.ends [] [] s.dev)) ∧
  (∀ (n : Nat) (s : State),
      s.settled = true →
      n < s.dev.therm.ts.length →
      (s.dev.therm.sens n).excl = false →
      s.dev.tRd THERM.XCHK_COUNT ≤ (s.dev.therm.sens n).xcount →
      exec (.thermExcluded n) s = .next (s.ends [s.event Ev.THERM_EXCLUDED n] [] { s.dev with
        therm := { s.dev.therm with ts := modAt s.dev.therm.ts n (fun q => { q with excl := true, xcount := 0 }) } })) ∧
  (∀ (n : Nat) (s : State),
      s.settled = true →
      s.dev.therm.ts.length ≤ n ∨ (s.dev.therm.sens n).excl = true
        ∨ (s.dev.therm.sens n).xcount < s.dev.tRd THERM.XCHK_COUNT →
      exec (.thermExcluded n) s = .next (s.ends [] [] s.dev)) ∧
  (∀ (n : Nat) (s : State),
      s.settled = true →
      n < s.dev.therm.ts.length →
      (s.dev.therm.sens n).excl = true →
      s.dev.tRd THERM.XCHK_READMIT ≤ (s.dev.therm.sens n).xcount →
      exec (.thermReadmit n) s = .next (s.ends [s.event Ev.THERM_READMIT n] [] { s.dev with
        therm := { s.dev.therm with ts := modAt s.dev.therm.ts n (fun q => { q with excl := false, xcount := 0 }) }
          })) ∧
  (∀ (n : Nat) (s : State),
      s.settled = true →
      s.dev.therm.ts.length ≤ n ∨ (s.dev.therm.sens n).excl = false
        ∨ (s.dev.therm.sens n).xcount < s.dev.tRd THERM.XCHK_READMIT →
      exec (.thermReadmit n) s = .next (s.ends [] [] s.dev)) ∧
  (∀ (z : Nat) (s : State),
      s.settled = true →
      z < 32 →
      (s.dev.zone z).conf = true →
      (s.dev.zone z).idle = false →
      (s.dev.zone z).lost = false →
      8 ≤ (s.dev.zone z).miss →
      exec (.thermZoneLost z) s = .next (s.ends [s.event Ev.THERM_ZONE_LOST z] [] { s.dev with
        therm := { s.dev.therm with zones := modAt s.dev.therm.zones z (fun q => { q with lost := true }) } })) ∧
  (∀ (z : Nat) (s : State),
      s.settled = true →
      32 ≤ z ∨ (s.dev.zone z).conf = false ∨ (s.dev.zone z).idle = true ∨ (s.dev.zone z).lost = true
        ∨ (s.dev.zone z).miss < 8 →
      exec (.thermZoneLost z) s = .next (s.ends [] [] s.dev)) ∧
  (∀ (s : State),
      s.settled = true →
      s.dev.tick.thermFast = true →
      s.dev.tRd THERM.FAST_HOLD ≤ s.dev.therm.quiet →
      exec .thermFastRelease s = .next (s.ends [] [] { s.dev with tick := { s.dev.tick with thermFast := false } })) ∧
  (∀ (s : State),
      s.settled = true →
      s.dev.tick.thermFast = false ∨ s.dev.therm.quiet < s.dev.tRd THERM.FAST_HOLD →
      exec .thermFastRelease s = .next (s.ends [] [] s.dev)) ∧
  (∀ (k : Nat) (s : State),
      s.settled = true →
      s.dev.therm.relMs = some k →
      s.dev.tRd THERM.RELEASE_MS ≤ k →
      s.dev.therm.cap < 63 →
      exec .thermRelease s = .next (s.ends [s.event Ev.THERM_RELEASE] [] { s.dev with
        therm := { s.dev.therm with cap := 63 }, gov := { s.dev.gov with thermCap := 63 } })) ∧
  (∀ (s : State),
      s.settled = true →
      s.dev.therm.relMs = none ∨ s.dev.therm.relMs.getD 0 < s.dev.tRd THERM.RELEASE_MS ∨ 63 ≤ s.dev.therm.cap →
      exec .thermRelease s = .next (s.ends [] [] s.dev)) ∧
  (∀ (m : Mem) (a : Nat) (g : Int) (raw : Nat) (c0 : Int) (c1 : Int) (c2 : Int) (c3 : Int) (s1 : Nat) (s2 : Nat) (s3 :
    Nat) (x : Int),
      convert m a g raw = sat16 (calPoly m a (min 16383 (max 0 (((raw : Int) * g + 2 ^ 15) / 2 ^ 16))))
        ∧ horner c0 c1 c2 c3 s1 s2 s3 x = sat32 (mulCoef (sat32 (mulCoef (sat32 (mulCoef c3 x s3 + c2)) x s2 + c1)) x
        s1 + c0)) ∧
  (∀ (d : Dev) (n : Nat) (cs : Nat) (s0 : Sens),
      n < d.therm.ts.length →
      d.therm.sens n = s0 →
      ((d.convertPass cs).therm.sens n).valid = s0.raw.isSome ∧ ((d.convertPass cs).therm.sens n).temp = (match s0.raw
        with | some r => convert d.therm.cal (32 * n) d.therm.gain r | none => s0.temp)
        ∧ (d.convertPass cs).therm.g = d.therm.gain ∧ (d.convertPass cs).therm.cs.temp = convert d.therm.cal 0x3000
        d.therm.gain cs) ∧
  (∀ (q : Seg),
      (q.pass true).bad = 0 ∧ (q.pass true).good = min 8 (q.good + 1) ∧ (q.pass true).fail = (q.fail && decide (min 8
        (q.good + 1) < 8)) ∧ (q.pass false).bad = min 8 (q.bad + 1) ∧ (q.pass false).good = 0
        ∧ (q.pass false).fail = q.fail) ∧
  (∀ (d : Dev) (k : Nat) (base : Nat) (p : Nat) (ws : List Nat),
      p < d.bld.segs.getD k 0 →
      k < 4 →
      base + p < d.therm.ts.length →
      ((d.segPass k base ws).therm.sens (base + p)).raw = (if segPassOk (d.bld.segs.getD k 0) ws = true
        ∧ ringWordOk (ws.getD (d.bld.segs.getD k 0 - 1 - p) 0) = true then some (bitsAt (ws.getD (d.bld.segs.getD k 0
        - 1 - p) 0) 0 14) else none)) ∧
  (∀ (d : Dev) (dev : Nat) (n : Nat),
      let nb : List Nat := (d.therm.neighbours n).filter (fun k => (d.therm.sens k).valid && !(d.therm.sens k).excl)
      d.therm.xcheck dev n = (if (d.therm.sens n).valid = false ∨ nb.length < 2 then (d.therm.sens n).xcount else if
        decide (dev < ((d.therm.sens n).temp - (sortInt (nb.map (fun k => (d.therm.sens k).temp))).getD (nb.length /
        2) 0).natAbs) != (d.therm.sens n).excl then (d.therm.sens n).xcount + 1 else 0)) ∧
  (∀ (d : Dev) (src : List (Nat × Nat × Option Int)) (z : Nat) (best : Option (Nat × Int)),
      z < d.therm.zones.length →
      best = hottest ((src.filter (fun x => x.1 == z)).map (·.2)) →
      ((d.zonePass src z).zone z).conf = src.any (fun x => x.1 == z) ∧ ((d.zonePass src z).zone z).max_ = (match best
        with | some x => x.2 | none => (d.zone z).max_) ∧ ((d.zonePass src z).zone z).src = (match best with | some x
                                                                                                               => x.1
                                                                                                               | none
                                                                                                               =>
                                                                                                               (d.zone
                                                                                                               z).src)) ∧
  (∀ (q : Zone),
      q.push.ring = (q.max_ :: q.ring).take 16 ∧ q.push.ror = (if 16 ≤ q.ring.length then q.max_ - q.ring.getD 15 0
        else 0)) ∧
  (∀ (d : Dev),
      d.tOn THERM.CTRL_FAST_FORCE = true ∨ (upto 32).any (fun z => decide (((d.tRd THERM.ROR_ROR_WARN : Nat) : Int) ≤
        (d.zone z).ror)) = true ∨ d.confZones.any (fun z => decide (d.thermSeen.tCtrl z - ((d.tRd THERM.FAST_BAND :
        Nat) : Int) ≤ (d.zone z).max_)) = true →
      d.fastRate.tick.thermFast = true ∧ d.fastRate.therm.quiet = 0) ∧
  (∀ (d : Dev),
      (upto 32).any (fun z => (d.zone z).lost || ((d.zone z).conf && decide (d.thermSeen.tAlarm z ≤ (d.zone z).max_)))
        = true →
      d.therm.zones.length = 32 →
      d.capPass.therm.cap ≤ min (d.tRd THERM.ALARM_ALARM_LEVEL) (d.tRd GOV.HARD_PL1_HARD_LEVEL)
        ∧ d.capPass.therm.cap ≤ d.therm.cap) ∧
  (∀ (d : Dev) (x : Nat),
      let floor : Nat := d.tRd THERM.XTCFG_FLOOR 0 x
      let t0 : Int := signedOf 16 (d.tRd THERM.XTMEM_T0 0 x)
      let t1 : Int := signedOf 16 (d.tRd THERM.XTMEM_T1 0 x)
      d.memCapOf x = (match d.therm.latch.xt.getD x none with | none => floor | some t => if t ≤ t0 then 255 else if
                                                                t1 ≤ t then floor else max floor (255 - ceilDiv ((255
                                                                - floor) * (t - t0).toNat) (t1 - t0).toNat))) ∧
  (∀ (d : Dev) (z : Nat),
      let r : Nat := if (d.zone z).conf = true ∧ d.thermSeen.tTrip z ≤ (d.zone z).max_ then min 3 ((d.zone z).run + 1)
        else 0
      z < d.therm.zones.length →
      ((d.zoneTrip z).zone z).run = r ∧ (d.zoneTrip z).sqReq = (if r = 2 then d.sqReq ++ [(1, z)] else d.sqReq)
        ∧ (d.zoneTrip z).evq = (if r = 2 then d.evq ++ [⟨Ev.THERM_TRIP.page, Ev.THERM_TRIP.loc, Ev.THERM_TRIP.sev, z %
        256, d.tick.b % 2 ^ 32⟩] else d.evq)) ∧
  (∀ (d : Dev) (cs : Nat),
      let a : Dev := ((upto d.therm.xt.length).foldl (fun (e : Dev) x => e.xtStale x) (d.convertPass
        cs)).xtPass.crossCheck
      let src : List (Nat × Nat × Option Int) := a.thermSources
      let b : Dev := (upto 32).foldl (fun (e : Dev) z => e.zonePass src z) a
      let c : Dev := (upto 32).foldl (fun (e : Dev) z => e.rorWarn z) (if b.therm.latch.push then b.updTherm (fun t =>
        { t with zones := t.zones.map (fun (x : Zone) => x.push) }) else b)
      let f : Dev := ((upto 32).foldl (fun (e : Dev) z => e.zoneTrip z) (c.capPass.fastRate.memPass)).sensTrip
      let g : Dev := f.confZones.foldl (fun (e : Dev) z => e.sample 0x05 z (e.zone z).max_) f
      d.task11 cs = { g with
        gov := { g.gov with
          zones := (upto 32).map (fun z => if (g.zone z).conf then some (g.zone z).max_ else none),
          thermCap := g.therm.cap } })

/-- XT_SAMPLE with a toggle stores the value and VALID of an external input with the beat of its toggle; without one
it stores VALID alone; the input is then valid exactly when VALID is high and a toggle lies at most XT_STALE.MS ms
back. THERM_XT_STALE of an input whose latest toggle lies further back makes it invalid, and raises THERM_XT_STALE if
it was valid, its VALID is high, and the event was not raised in this BUDGET tick; an input with a toggle within that
time stays as its VALID says. SITE_POWER_UP puts a droop satellite at coarse setting 128 with no stretch, zero event
word and its servo history cleared, and powers a thermal satellite, which reports PWR = 0 in its next frame. Nothing
else changes; a number beyond those placed changes nothing. Rests on: R66, R199, R308, R312. -/
def Obligations.ExternalTemperaturesAndPowerUp : Prop :=
  (∀ (x : Nat) (p : Bool) (o : Option (BitVec 16)) (v : BitVec 16) (s : State),
      s.settled = true →
      o = some v →
      x < s.dev.therm.xt.length →
      exec (.xtSample x p o) s = .next (s.ends [] [] { s.dev with
        therm := { s.dev.therm with
          xt := modAt s.dev.therm.xt x (fun u => { u with
            pin := p, temp := signedOf 16 v.toNat, at_ := some s.dev.tick.mono, live := p }) } })) ∧
  (∀ (x : Nat) (p : Bool) (o : Option (BitVec 16)) (k : Nat) (s : State),
      s.settled = true →
      o = none →
      x < s.dev.therm.xt.length →
      (s.dev.therm.xt.getD x {}).at_ = some k →
      exec (.xtSample x p o) s = .next (s.ends [] [] { s.dev with
        therm := { s.dev.therm with
          xt := modAt s.dev.therm.xt x (fun u => { u with
            pin := p, live := p && decide (s.dev.tick.mono - k ≤ 1000 * s.dev.rd THERM.XT_STALE_MS) }) } })) ∧
  (∀ (x : Nat) (p : Bool) (o : Option (BitVec 16)) (s : State),
      s.settled = true →
      o = none →
      x < s.dev.therm.xt.length →
      (s.dev.therm.xt.getD x {}).at_ = none →
      exec (.xtSample x p o) s = .next (s.ends [] [] { s.dev with
        therm := { s.dev.therm with xt := modAt s.dev.therm.xt x (fun u => { u with pin := p, live := false }) } })) ∧
  (∀ (x : Nat) (p : Bool) (o : Option (BitVec 16)) (s : State),
      s.settled = true →
      s.dev.therm.xt.length ≤ x →
      exec (.xtSample x p o) s = .next (s.ends [] [] s.dev)) ∧
  (∀ (x : Nat) (k : Nat) (s : State),
      s.settled = true →
      x < s.dev.therm.xt.length →
      (s.dev.therm.xt.getD x {}).live = true →
      (s.dev.therm.xt.getD x {}).pin = true →
      (s.dev.therm.xt.getD x {}).sent = false →
      (s.dev.therm.xt.getD x {}).at_ = some k →
      1000 * s.dev.rd THERM.XT_STALE_MS < s.dev.tick.mono - k →
      exec (.thermXtStale x) s = .next (s.ends [s.event Ev.THERM_XT_STALE x] [] { s.dev with
        therm := { s.dev.therm with xt := modAt s.dev.therm.xt x (fun u => { u with live := false, sent := true }) }
          })) ∧
  (∀ (x : Nat) (k : Nat) (s : State),
      s.settled = true →
      x < s.dev.therm.xt.length →
      (s.dev.therm.xt.getD x {}).live = false ∨ (s.dev.therm.xt.getD x {}).pin = false
        ∨ (s.dev.therm.xt.getD x {}).sent = true →
      (s.dev.therm.xt.getD x {}).at_ = some k →
      1000 * s.dev.rd THERM.XT_STALE_MS < s.dev.tick.mono - k →
      exec (.thermXtStale x) s = .next (s.ends [] [] { s.dev with
        therm := { s.dev.therm with xt := modAt s.dev.therm.xt x (fun u => { u with live := false }) } })) ∧
  (∀ (x : Nat) (k : Nat) (s : State),
      s.settled = true →
      x < s.dev.therm.xt.length →
      (s.dev.therm.xt.getD x {}).at_ = some k →
      s.dev.tick.mono - k ≤ 1000 * s.dev.rd THERM.XT_STALE_MS →
      (s.dev.therm.xt.getD x {}).live = (s.dev.therm.xt.getD x {}).pin →
      exec (.thermXtStale x) s = .next (s.ends [] [] s.dev)) ∧
  (∀ (x : Nat) (s : State),
      s.settled = true →
      s.dev.therm.xt.length ≤ x →
      exec (.thermXtStale x) s = .next (s.ends [] [] s.dev)) ∧
  (∀ (d : Bool) (k : Nat) (s : State),
      s.settled = true →
      d = true →
      exec (.sitePowerUp d k) s = .next (s.ends [] [] (s.dev.updSat k (fun x => { x with
        coarse := 128, cyc := 0, sum := 0, last256 := 0, lvs := [], stretch := 0, run := 0, comp := 0,
        sinceRel := 4096, slim := false, evt := 0, servoDue := false })))) ∧
  (∀ (d : Bool) (k : Nat) (s : State),
      s.settled = true →
      d = false →
      exec (.sitePowerUp d k) s = .next (s.ends [] [] { s.dev with
        therm := { s.dev.therm with
          ts := modAt s.dev.therm.ts k (fun q => { q with powered := true, powerUp := true }) } })) ∧
  (∀ (d : Bool) (k : Nat) (s : State),
      s.settled = true →
      (d = true ∧ s.dev.sats.length ≤ k) ∨ (d = false ∧ s.dev.therm.ts.length ≤ k) →
      exec (.sitePowerUp d k) s = .next (s.ends [] [] s.dev))

/-- THERM_COOLANT once sets INPUTS.COOLANT and raises THERM_COOLANT. With the latch clear it sets the latch with cause
2 and TRIGMASK bit 1, composes the critical record, which waits for the NV port and keeps other requests off it,
revokes every lease and waiting request, ends any TUNE run, calibration or armed capture, departs Isobar, and sets
FILL, E and any preramp of Drizzle to zero; domains, rails, phases, governor, thermal monitor and ticks stay as they
are. With the latch set it adds its TRIGMASK bit alone. A THERM_TICK whose pass shares its S0 with the coolant filter
sets INPUTS.COOLANT and the latch too, with TRIGMASK bit 1 and the cause of a trip in that pass, else cause 2. A write
of 0x0000_5C01 to SQ_FORCE from a secure access does the same with cause 4 and bit 3; another value is refused. Where
no lease, request or run exists and Isobar has departed, the whole next state is given; a path that owned resource 9
then sees RESULT = PREEMPTED, with PREEMPTS counted and CLAIM_PREEMPTED raised. SQUALL_GATE in a Squall gates every
clock domain, once, and takes the satellites out of use; with no Gust on, nothing else changes. That the coolant
filter stays acting, that it shares the S0 of a pass, and that SQUALL_GATE stands for every domain are the model's
choice (log entry 35). Rests on: R322, R323, R482. -/
def Obligations.SquallTriggersAndGating : Prop :=
  (∀ (s : State),
      s.settled = true →
      s.aon.coolant = false →
      s.aon.squall.active = false →
      s.dev.credit.leases = [] →
      s.dev.credit.queue = [] →
      s.dev.tune.running = false →
      s.dev.cal.running = false →
      s.dev.wave.st ≠ .armed →
      s.dev.iso.st = .departed →
      (s.dev.owner 9).kind ≠ 1 →
      exec .thermCoolant s = .next ({ s.ends [s.event Ev.THERM_COOLANT, s.event Ev.CREDIT_REVOKED, s.event
        Ev.THERM_SQUALL 2] [] { s.dev with
        sqActive := true, nv := { s.dev.nv with block := true }, baro := { s.dev.baro with
          wins := s.dev.squallWins }, credit := { s.dev.credit with
          leases := [], queue := [],
          pools := s.dev.credit.pools.map (fun (p : CPool) => { p with g := 0, grsv := 0, b := 0 }) }, dz := {
          s.dev.dz with
          pre := none, cl := s.dev.dz.cl.map (fun (x : DzCl) => { x with st := .run, e := 0, fill := 0 }) },
        claims := { s.dev.claims with res := modAt s.dev.claims.res 9 (fun _ => { kind := 3, feat := 7 }) } } with
        aon := { s.aon with
          coolant := true, squall := { s.aon.squall with
            active := true, cause := 2, trigs := 2,
            idx := (if s.dev.on THERM.CRIT_HEAD_VALID then 17408 + s.dev.rd THERM.CRIT_HEAD_SLOT else 17471),
            st := .waiting, fails := 0, bytes := s.critBytes 2 0 2 (if s.dev.on THERM.CRIT_HEAD_VALID then s.dev.rd
              THERM.CRIT_SEQ_SEQ else 0) } } })) ∧
  (∀ (s : State),
      s.settled = true →
      s.aon.coolant = false →
      s.aon.squall.active = false →
      Reaches (.thermCoolant) s (fun t => t.aon = { s.aon with
        coolant := true, squall := { s.aon.squall with
          active := true, cause := 2, trigs := 2,
          idx := (if s.dev.on THERM.CRIT_HEAD_VALID then 17408 + s.dev.rd THERM.CRIT_HEAD_SLOT else 17471),
          st := .waiting, fails := 0,
          bytes := s.critBytes 2 0 2 (if s.dev.on THERM.CRIT_HEAD_VALID then s.dev.rd THERM.CRIT_SEQ_SEQ else 0) } }
        ∧ t.dev.sqActive = true ∧ t.dev.nv = { s.dev.nv with block := true } ∧ t.dev.credit = { s.dev.credit with
        leases := [], queue := [],
        pools := s.dev.credit.pools.map (fun (p : CPool) => { p with g := 0, grsv := 0, b := 0 }) }
        ∧ t.dev.tune.running = false ∧ t.dev.cal.running = false ∧ t.dev.wave.st ≠ .armed
        ∧ t.dev.iso.st = .departed ∧ t.dev.dz.pre = none ∧ (∀ x ∈ t.dev.dz.cl, x.st = .run ∧ x.e = 0
        ∧ x.fill = 0) ∧ t.dev.doms = s.dev.doms ∧ t.dev.rails = s.dev.rails ∧ t.dev.phases = s.dev.phases
        ∧ t.dev.gov = s.dev.gov ∧ t.dev.therm = s.dev.therm ∧ t.dev.tick = s.dev.tick ∧ t.pending = s.pending)) ∧
  (∀ (p : Nat) (s : State),
      s.settled = true →
      s.aon.coolant = false →
      s.aon.squall.active = false →
      s.dev.credit.leases = [] →
      s.dev.credit.queue = [] →
      s.dev.tune.running = false →
      s.dev.cal.running = false →
      s.dev.wave.st ≠ .armed →
      s.dev.iso.st = .departed →
      (s.dev.owner 9).kind = 1 →
      1 ≤ p →
      p ≤ 3 →
      (s.dev.owner 9).path = p →
      exec .thermCoolant s = .next ({ s.ends [s.event Ev.THERM_COOLANT, s.event Ev.CLAIM_PREEMPTED 9, s.event
        Ev.CREDIT_REVOKED, s.event Ev.THERM_SQUALL 2] [] { (((s.dev.wr CLAIM.RESULT_CODE 6 0 (p - 1)).wr
        CLAIM.RESULT_RES 9 0 (p - 1)).bump CLAIM.PREEMPTS_COUNT) with
        sqActive := true, nv := { s.dev.nv with block := true }, baro := { s.dev.baro with
          wins := s.dev.squallWins }, credit := { s.dev.credit with
          leases := [], queue := [],
          pools := s.dev.credit.pools.map (fun (p : CPool) => { p with g := 0, grsv := 0, b := 0 }) }, dz := {
          s.dev.dz with
          pre := none, cl := s.dev.dz.cl.map (fun (x : DzCl) => { x with st := .run, e := 0, fill := 0 }) },
        claims := { s.dev.claims with res := modAt s.dev.claims.res 9 (fun _ => { kind := 3, feat := 7 }) } } with
        aon := { s.aon with
          coolant := true, squall := { s.aon.squall with
            active := true, cause := 2, trigs := 2,
            idx := (if s.dev.on THERM.CRIT_HEAD_VALID then 17408 + s.dev.rd THERM.CRIT_HEAD_SLOT else 17471),
            st := .waiting, fails := 0, bytes := s.critBytes 2 0 2 (if s.dev.on THERM.CRIT_HEAD_VALID then s.dev.rd
              THERM.CRIT_SEQ_SEQ else 0) } } })) ∧
  (∀ (s : State),
      s.settled = true →
      s.aon.coolant = false →
      s.aon.squall.active = true →
      exec .thermCoolant s = .next ({ s.ends [s.event Ev.THERM_COOLANT] [] s.dev with
        aon := { s.aon with coolant := true, squall := { s.aon.squall with trigs := s.aon.squall.trigs ||| 2 } } })) ∧
  (∀ (ring : List (List (BitVec 24)) × List (Option (BitVec 14))) (cs : BitVec 14 × Bool) (s : State),
      s.settled = true →
      cs.2 = true →
      s.aon.coolant = false →
      s.aon.squall.active = false →
      s.dev.tick.thermDue = 2 →
      Reaches (.thermTick ring cs) s (fun t => t.aon.coolant = true ∧ t.aon.squall.active = true
        ∧ bitAt t.aon.squall.trigs 1 = true ∧ t.aon.squall.cause = (if bitAt t.aon.squall.trigs 0 = true then 1 else
        2) ∧ t.dev.sqActive = true ∧ t.dev.tick.thermDue = 0)) ∧
  (∀ (ring : List (List (BitVec 24)) × List (Option (BitVec 14))) (cs : BitVec 14 × Bool) (s : State),
      s.settled = true →
      cs.2 = true →
      s.aon.coolant = false →
      s.aon.squall.active = true →
      s.dev.tick.thermDue ≠ 2 →
      exec (.thermTick ring cs) s = .next ({ s.ends [s.event Ev.THERM_COOLANT] [] s.dev with
        aon := { s.aon with coolant := true, squall := { s.aon.squall with trigs := s.aon.squall.trigs ||| 2 } } })) ∧
  (∀ (s : State),
      s.settled = true →
      s.aon.coolant = true →
      exec .thermCoolant s = .next (s.ends [] [] s.dev)) ∧
  (∀ (a : Acc) (v : BitVec 32) (s : State),
      s.settled = true →
      s.dev.ready 0x17 = true →
      a.sec = true →
      v = 0x5C01#32 →
      s.aon.squall.active = false →
      s.dev.credit.leases = [] →
      s.dev.credit.queue = [] →
      s.dev.tune.running = false →
      s.dev.cal.running = false →
      s.dev.wave.st ≠ .armed →
      s.dev.iso.st = .departed →
      (s.dev.owner 9).kind ≠ 1 →
      exec (.sqForce a v) s = .next ({ s.ends [s.event Ev.CREDIT_REVOKED, s.event Ev.THERM_SQUALL 4] [] { s.dev with
        sqActive := true, nv := { s.dev.nv with block := true }, baro := { s.dev.baro with
          wins := s.dev.squallWins }, credit := { s.dev.credit with
          leases := [], queue := [],
          pools := s.dev.credit.pools.map (fun (p : CPool) => { p with g := 0, grsv := 0, b := 0 }) }, dz := {
          s.dev.dz with
          pre := none, cl := s.dev.dz.cl.map (fun (x : DzCl) => { x with st := .run, e := 0, fill := 0 }) },
        claims := { s.dev.claims with res := modAt s.dev.claims.res 9 (fun _ => { kind := 3, feat := 7 }) } } with
        aon := { s.aon with
          squall := { s.aon.squall with
            active := true, cause := 4, trigs := 8,
            idx := (if s.dev.on THERM.CRIT_HEAD_VALID then 17408 + s.dev.rd THERM.CRIT_HEAD_SLOT else 17471),
            st := .waiting, fails := 0, bytes := s.critBytes 4 0 8 (if s.dev.on THERM.CRIT_HEAD_VALID then s.dev.rd
              THERM.CRIT_SEQ_SEQ else 0) } } })) ∧
  (∀ (a : Acc) (v : BitVec 32) (s : State),
      s.settled = true →
      s.dev.ready 0x17 = true →
      a.sec = true →
      v = 0x5C01#32 →
      s.aon.squall.active = false →
      Reaches (.sqForce a v) s (fun t => t.aon = { s.aon with
        squall := { s.aon.squall with
          active := true, cause := 4, trigs := 8,
          idx := (if s.dev.on THERM.CRIT_HEAD_VALID then 17408 + s.dev.rd THERM.CRIT_HEAD_SLOT else 17471),
          st := .waiting, fails := 0,
          bytes := s.critBytes 4 0 8 (if s.dev.on THERM.CRIT_HEAD_VALID then s.dev.rd THERM.CRIT_SEQ_SEQ else 0) } }
        ∧ t.dev.sqActive = true ∧ t.dev.nv = { s.dev.nv with block := true } ∧ t.dev.credit = { s.dev.credit with
        leases := [], queue := [],
        pools := s.dev.credit.pools.map (fun (p : CPool) => { p with g := 0, grsv := 0, b := 0 }) }
        ∧ t.dev.tune.running = false ∧ t.dev.cal.running = false ∧ t.dev.wave.st ≠ .armed
        ∧ t.dev.iso.st = .departed ∧ t.dev.dz.pre = none ∧ (∀ x ∈ t.dev.dz.cl, x.st = .run ∧ x.e = 0
        ∧ x.fill = 0) ∧ t.dev.doms = s.dev.doms ∧ t.dev.rails = s.dev.rails ∧ t.dev.phases = s.dev.phases
        ∧ t.dev.gov = s.dev.gov ∧ t.dev.therm = s.dev.therm ∧ t.dev.tick = s.dev.tick ∧ t.pending = s.pending)) ∧
  (∀ (a : Acc) (v : BitVec 32) (s : State),
      s.settled = true →
      s.dev.ready 0x17 = true →
      a.sec = true →
      v = 0x5C01#32 →
      s.aon.squall.active = true →
      exec (.sqForce a v) s = .next ({ s.ends [] [] s.dev with
        aon := { s.aon with squall := { s.aon.squall with trigs := s.aon.squall.trigs ||| 8 } } })) ∧
  (∀ (a : Acc) (v : BitVec 32) (s : State),
      s.settled = true →
      s.dev.ready 0x17 = true →
      a.sec = true →
      v ≠ 0x5C01#32 →
      exec (.sqForce a v) s = .next (s.ends [s.event (Ev.badValue 0x17)] [] s.dev)) ∧
  (∀ (s : State),
      s.settled = true →
      s.dev.sqActive = true →
      s.dev.sqGated = false →
      Reaches (.squallGate) s (fun t => t.dev.sqGated = true ∧ t.dev.doms.length = s.dev.doms.length
        ∧ (∀ m < s.dev.doms.length, (t.dev.dom m).gate = true ∧ (t.dev.dom m).conf = (s.dev.dom m).conf)
        ∧ (∀ k ∈ List.range s.dev.sats.length, s.dev.satDom k < s.dev.doms.length → (t.dev.sat k).open100 = false)
        ∧ t = { s with
        dev := { s.dev with
          out := [], sqGated := t.dev.sqGated, doms := t.dev.doms, sats := t.dev.sats, regs := t.dev.regs,
          wave := t.dev.wave, baro := t.dev.baro } })) ∧
  (∀ (s : State),
      s.settled = true →
      s.dev.sqActive = true →
      s.dev.sqGated = false →
      (∀ m < s.dev.doms.length, (s.dev.dom m).gust = false) →
      (∀ k ∈ List.range s.dev.sats.length, (s.dev.sat k).gust = false) →
      exec .squallGate s = .next (s.ends [] [] { s.dev with
        sqGated := true, doms := s.dev.doms.map (fun (m : Dom) => { m with gate := true }), sats :=
          s.dev.sats.zipIdx.map (fun (y : Sat × Nat) => if s.dev.satDom y.2 < s.dev.doms.length then { y.1 with
          open100 := false } else y.1) })) ∧
  (∀ (s : State),
      s.settled = true →
      s.dev.sqActive = false ∨ s.dev.sqGated = true →
      exec .squallGate s = .next (s.ends [] [] s.dev))

/-- CRIT_RECORD_PRESENT presents the record that waits, once no other request waits for acceptance and fewer than 8
are outstanding (log entry 104); otherwise it changes nothing. CRIT_RECORD_RESPONSE OK sets REC_DONE and, where
CRIT_HEAD.VALID is 1, moves the ring's head and sequence number; another response makes it wait again, and the third
sets NVFAIL and raises THERM_NV_FAIL; after the last response the request that waits first is presented, with the port
free, unblocked and fewer than 8 requests outstanding. With no record accepted the model stops by name (R6).
CRIT_WDATA_WRITE stores the word at IDX and moves IDX; CRIT_IDX_DONE stores IDX, and with DONE = 1 sets CRITSTAT.VALID
and raises THERM_CRIT_REPORT. Nothing else changes. Rests on: R6, R52, R325, R326. -/
def Obligations.CriticalRecordTransfer : Prop :=
  (∀ (s : State),
      s.settled = true →
      s.aon.squall.st = .waiting →
      s.dev.nv.pres = none →
      s.dev.nv.out.length < 8 →
      exec .critRecordPresent s = .next ({ s.ends [] [.nvReq true true s.aon.squall.idx s.aon.squall.bytes] s.dev with
        aon := { s.aon with squall := { s.aon.squall with st := .presented } } })) ∧
  (∀ (s : State),
      s.settled = true →
      s.aon.squall.st ≠ .waiting ∨ s.dev.nv.pres ≠ none ∨ 8 ≤ s.dev.nv.out.length →
      exec .critRecordPresent s = .next (s.ends [] [] s.dev)) ∧
  (∀ (st : BitVec 2) (s : State),
      s.settled = true →
      s.aon.squall.st = .accepted →
      st = 0#2 →
      s.dev.on THERM.CRIT_HEAD_VALID = false →
      s.dev.nv.pres = none →
      s.dev.nv.wait = [] →
      exec (.critRecordResponse st) s = .next ({ s.ends [] [] { s.dev with nv := { s.dev.nv with critOut := false } }
        with aon := { s.aon with squall := { s.aon.squall with st := .none, recDone := true } } })) ∧
  (∀ (st : BitVec 2) (s : State),
      s.settled = true →
      s.aon.squall.st = .accepted →
      st = 0#2 →
      s.dev.on THERM.CRIT_HEAD_VALID = true →
      s.dev.nv.pres = none →
      s.dev.nv.wait = [] →
      exec (.critRecordResponse st) s = .next ({ s.ends [] [] { ((s.dev.wr THERM.CRIT_HEAD_SLOT ((s.dev.rd
        THERM.CRIT_HEAD_SLOT + 1) % 63)).wr THERM.CRIT_SEQ_SEQ (s.dev.rd THERM.CRIT_SEQ_SEQ + 1)) with
        nv := { s.dev.nv with critOut := false } } with
        aon := { s.aon with squall := { s.aon.squall with st := .none, recDone := true } } })) ∧
  (∀ (st : BitVec 2) (r : NvReq) (l : List NvReq) (s : State),
      s.settled = true →
      s.aon.squall.st = .accepted →
      st = 0#2 →
      s.dev.on THERM.CRIT_HEAD_VALID = true →
      s.dev.nv.pres = none →
      s.dev.nv.wait = r :: l →
      s.dev.nv.block = false →
      s.dev.nv.out.length < 8 →
      exec (.critRecordResponse st) s = .next ({ s.ends [] [.nvReq r.write false r.idx r.data] { ((s.dev.wr
        THERM.CRIT_HEAD_SLOT ((s.dev.rd THERM.CRIT_HEAD_SLOT + 1) % 63)).wr THERM.CRIT_SEQ_SEQ (s.dev.rd
        THERM.CRIT_SEQ_SEQ + 1)) with nv := { s.dev.nv with critOut := false, pres := some r, wait := l } } with
        aon := { s.aon with squall := { s.aon.squall with st := .none, recDone := true } } })) ∧
  (∀ (st : BitVec 2) (s : State),
      s.settled = true →
      s.aon.squall.st = .accepted →
      st ≠ 0#2 →
      s.aon.squall.fails < 2 →
      exec (.critRecordResponse st) s = .next ({ s.ends [] [] { s.dev with
        nv := { s.dev.nv with critOut := false, block := true } } with
        aon := { s.aon with squall := { s.aon.squall with st := .waiting, fails := s.aon.squall.fails + 1 } } })) ∧
  (∀ (st : BitVec 2) (s : State),
      s.settled = true →
      s.aon.squall.st = .accepted →
      st ≠ 0#2 →
      2 ≤ s.aon.squall.fails →
      s.dev.nv.pres = none →
      s.dev.nv.wait = [] →
      exec (.critRecordResponse st) s = .next ({ s.ends [s.event Ev.THERM_NV_FAIL] [] { s.dev with
        nv := { s.dev.nv with critOut := false } } with
        aon := { s.aon with squall := { s.aon.squall with st := .none, nvFail := true, fails := 3 } } })) ∧
  (∀ (st : BitVec 2) (r : NvReq) (l : List NvReq) (s : State),
      s.settled = true →
      s.aon.squall.st = .accepted →
      st ≠ 0#2 →
      2 ≤ s.aon.squall.fails →
      s.dev.nv.pres = none →
      s.dev.nv.wait = r :: l →
      s.dev.nv.block = false →
      s.dev.nv.out.length < 8 →
      exec (.critRecordResponse st) s = .next ({ s.ends [s.event Ev.THERM_NV_FAIL] [.nvReq r.write false r.idx r.data]
        { s.dev with nv := { s.dev.nv with critOut := false, pres := some r, wait := l } } with
        aon := { s.aon with squall := { s.aon.squall with st := .none, nvFail := true, fails := 3 } } })) ∧
  (∀ (st : BitVec 2) (s : State),
      s.aon.squall.st ≠ .accepted →
      exec (.critRecordResponse st) s = .fault (.unsolicited "critical record")) ∧
  (∀ (a : Acc) (v : BitVec 32) (s : State),
      s.settled = true →
      s.dev.ready 0x17 = true →
      a.sec = true →
      s.dev.rd THERM.CRIT_IDX_IDX < 16 →
      exec (.critWdataWrite a v) s = .next (s.ends [] [] ((s.dev.wr THERM.CRITREC_WORD v.toNat 0 (s.dev.rd
        THERM.CRIT_IDX_IDX)).wr THERM.CRIT_IDX_IDX ((s.dev.rd THERM.CRIT_IDX_IDX + 1) % 16)))) ∧
  (∀ (a : Acc) (v : BitVec 32) (s : State),
      s.settled = true →
      s.dev.ready 0x17 = true →
      a.sec = true →
      bitsAt v.toNat 31 1 = 0 →
      exec (.critIdxDone a v) s = .next (s.ends [] [] (s.dev.wr THERM.CRIT_IDX_IDX (bitsAt v.toNat 0 4)))) ∧
  (∀ (a : Acc) (v : BitVec 32) (s : State),
      s.settled = true →
      s.dev.ready 0x17 = true →
      a.sec = true →
      bitsAt v.toNat 31 1 = 1 →
      exec (.critIdxDone a v) s = .next (s.ends [s.event Ev.THERM_CRIT_REPORT] [] ((s.dev.wr THERM.CRIT_IDX_IDX
        (bitsAt v.toNat 0 4)).wr THERM.CRITSTAT_VALID 1)))

/-- ISOBAR_APPLY_GO of a legal staged set for a legal beat schedules it; another is refused, with BAD_VALUE once per
BUDGET tick. ISOBAR_APPLY at the apply beat takes the staged set, abandons what was in flight, sets EXPECT to COUNT
and AGREED to its top where JOIN changed, and chooses the state, a change of which raises ISOBAR_STATE and wakes the
Steward; at another beat it changes nothing. ISOBAR_TIMEOUT ends each of the MIN round, the SUM round and the probe in
flight whose deadline has passed: a MIN or SUM round is counted and ISOBAR_TIMEOUT raised once per BUDGET tick, a
probe sets PROBE.RUN to 0. ISOBAR_RESULT_APPLY takes a due pending result away; in ISO_RUN it counts the round, lowers
AGREED to its ceiling with the drop registers set, or raises it when every member allows it and no drop came since; in
member combining 64 probes in the result switch back. In any other state it only goes. ISOBAR_FB_SEND sends a due
aggregate, flagged PARTIAL when a child is missing: to the parent, or for member 0 in an active state as the result to
every child and to itself. Nothing else changes. That an apply reads the staged registers at its beat, how a probe
ends and how results pend are the model's choice (log entry 36). Rests on: R330, R331, R338, R339, R343, R349, R350.
-/
def Obligations.IsobarAppliesAndAgrees : Prop :=
  (∀ (a : Acc) (v : BitVec 32) (s : State),
      s.settled = true →
      s.dev.ready 0x18 = true →
      a.privOk = true →
      bitsAt v.toNat 31 1 = 1 →
      s.dev.applyRefused = false →
      exec (.isobarApplyGo a v) s = .next (s.ends [] [] { s.dev with
        iso := { s.dev.iso with apply := some (s.dev.rd ISOBAR.APPLY_BEAT) } })) ∧
  (∀ (a : Acc) (v : BitVec 32) (s : State),
      s.settled = true →
      s.dev.ready 0x18 = true →
      a.privOk = true →
      bitsAt v.toNat 31 1 = 1 →
      s.dev.applyRefused = true →
      exec (.isobarApplyGo a v) s = .next (s.ends (if s.dev.iso.sent.contains (Ev.badValue 0x18).loc then [] else
        [s.event (Ev.badValue 0x18)]) [] { s.dev with
        iso := { s.dev.iso with
          sent := (if s.dev.iso.sent.contains (Ev.badValue 0x18).loc then s.dev.iso.sent else insertAsc (Ev.badValue
            0x18).loc s.dev.iso.sent) } })) ∧
  (∀ (s : State),
      s.settled = true →
      s.dev.iso.apply = some (s.dev.tick.b % 2 ^ 32) →
      (if s.dev.iso.st = .departed then IsoSt.departed else if s.dev.isoStaged.join = false then .off else if
        s.dev.tick.align = .aligned then .run else .wait) = s.dev.iso.st →
      exec .isobarApply s = .next (s.ends [] [] { ((((if s.dev.iso.probe.isSome then s.dev.wr ISOBAR.PROBE_RUN 0 else
        s.dev).wr ISOBAR.EXPECT_EXPECT s.dev.isoStaged.count).wr ISOBAR.EXPECT_ABSENT_N 0).wr ISOBAR.ABSENT_LAST
        0xFFFF) with
        iso := { s.dev.iso with
          cfg := s.dev.isoStaged, apply := none, round := none, sum := none, probe := none, aggMin := none,
          aggSum := none, pend := [], clean := 0, misrun := 0, partRun := (0, 0, 0), idxExp := s.dev.isoStaged.idxAll,
          comb := false, combPend := false, checkBad := false, back := .run, st := (if s.dev.iso.st = .departed then
            IsoSt.departed else if s.dev.isoStaged.join = false then .off else if s.dev.tick.align = .aligned then
            .run else .wait) }, gov := (if s.dev.isoStaged.join = s.dev.iso.cfg.join then s.dev.gov else { s.dev.gov
          with agreed := 0xFFFF }) })) ∧
  (∀ (s : State),
      s.settled = true →
      s.dev.iso.apply = some (s.dev.tick.b % 2 ^ 32) →
      (if s.dev.iso.st = .departed then IsoSt.departed else if s.dev.isoStaged.join = false then .off else if
        s.dev.tick.align = .aligned then .run else .wait) ≠ s.dev.iso.st →
      exec .isobarApply s = .next (s.ends [s.event Ev.ISOBAR_STATE (if s.dev.iso.st = .departed then IsoSt.departed
        else if s.dev.isoStaged.join = false then .off else if s.dev.tick.align = .aligned then .run else .wait).code]
        [] { ((((if s.dev.iso.probe.isSome then s.dev.wr ISOBAR.PROBE_RUN 0 else s.dev).wr ISOBAR.EXPECT_EXPECT
        s.dev.isoStaged.count).wr ISOBAR.EXPECT_ABSENT_N 0).wr ISOBAR.ABSENT_LAST 0xFFFF) with
        iso := { s.dev.iso with
          cfg := s.dev.isoStaged, apply := none, round := none, sum := none, probe := none, aggMin := none,
          aggSum := none, pend := [], clean := 0, misrun := 0, partRun := (0, 0, 0), idxExp := s.dev.isoStaged.idxAll,
          comb := false, combPend := false, checkBad := false, back := .run, st := (if s.dev.iso.st = .departed then
            IsoSt.departed else if s.dev.isoStaged.join = false then .off else if s.dev.tick.align = .aligned then
            .run else .wait) }, gov := (if s.dev.isoStaged.join = s.dev.iso.cfg.join then s.dev.gov else { s.dev.gov
          with agreed := 0xFFFF }),
        stw := (if s.dev.stw.st = .sleep then { s.dev.stw with wake := true } else s.dev.stw) })) ∧
  (∀ (s : State),
      s.settled = true →
      s.dev.iso.apply ≠ some (s.dev.tick.b % 2 ^ 32) →
      exec .isobarApply s = .next (s.ends [] [] s.dev)) ∧
  (∀ (s : State),
      s.settled = true →
      s.dev.iso.st ≠ .off →
      s.dev.iso.st ≠ .departed →
      (∃ r ∈ s.dev.iso.round.toList, r.s + s.dev.isoDeadline ≤ s.dev.tick.b) →
      (∀ r ∈ s.dev.iso.sum.toList, s.dev.tick.b < r.s + s.dev.isoDeadline) →
      (∀ r ∈ s.dev.iso.probe.toList, s.dev.tick.b < r.s + s.dev.iso.cfg.deadline) →
      exec .isobarTimeout s = .next (s.ends (if s.dev.iso.sent.contains Ev.ISOBAR_TIMEOUT.loc then [] else [s.event
        Ev.ISOBAR_TIMEOUT]) [] { (s.dev.bump ISOBAR.ERR0_TIMEOUTS) with
        smp := [(0x0B, 0, (s.dev.isoDeadline : Int) + 1)], iso := { s.dev.iso with
          round := none, aggMin := none, checkBad := false, clean := 0, sent := (if s.dev.iso.sent.contains
            Ev.ISOBAR_TIMEOUT.loc then s.dev.iso.sent else insertAsc Ev.ISOBAR_TIMEOUT.loc s.dev.iso.sent) } })) ∧
  (∀ (s : State),
      s.settled = true →
      s.dev.iso.st ≠ .off →
      s.dev.iso.st ≠ .departed →
      (∀ r ∈ s.dev.iso.round.toList, s.dev.tick.b < r.s + s.dev.isoDeadline) →
      (∃ r ∈ s.dev.iso.sum.toList, r.s + s.dev.isoDeadline ≤ s.dev.tick.b) →
      (∀ r ∈ s.dev.iso.probe.toList, s.dev.tick.b < r.s + s.dev.iso.cfg.deadline) →
      exec .isobarTimeout s = .next (s.ends (if s.dev.iso.sent.contains Ev.ISOBAR_TIMEOUT.loc then [] else [s.event
        Ev.ISOBAR_TIMEOUT]) [] { (s.dev.bump ISOBAR.ERR0_TIMEOUTS) with
        iso := { s.dev.iso with
          sum := none, aggSum := none, clean := 0, sent := (if s.dev.iso.sent.contains Ev.ISOBAR_TIMEOUT.loc then
            s.dev.iso.sent else insertAsc Ev.ISOBAR_TIMEOUT.loc s.dev.iso.sent) } })) ∧
  (∀ (s : State),
      s.settled = true →
      s.dev.iso.st ≠ .off →
      s.dev.iso.st ≠ .departed →
      (∃ r ∈ s.dev.iso.round.toList, r.s + s.dev.isoDeadline ≤ s.dev.tick.b) →
      (∃ r ∈ s.dev.iso.sum.toList, r.s + s.dev.isoDeadline ≤ s.dev.tick.b) →
      (∀ r ∈ s.dev.iso.probe.toList, s.dev.tick.b < r.s + s.dev.iso.cfg.deadline) →
      exec .isobarTimeout s = .next (s.ends (if s.dev.iso.sent.contains Ev.ISOBAR_TIMEOUT.loc then [] else [s.event
        Ev.ISOBAR_TIMEOUT]) [] { ((s.dev.bump ISOBAR.ERR0_TIMEOUTS).bump ISOBAR.ERR0_TIMEOUTS) with
        smp := [(0x0B, 0, (s.dev.isoDeadline : Int) + 1)], iso := { s.dev.iso with
          round := none, aggMin := none, sum := none, aggSum := none, checkBad := false, clean := 0, sent := (if
            s.dev.iso.sent.contains Ev.ISOBAR_TIMEOUT.loc then s.dev.iso.sent else insertAsc Ev.ISOBAR_TIMEOUT.loc
            s.dev.iso.sent) } })) ∧
  (∀ (s : State),
      s.settled = true →
      s.dev.iso.st ≠ .off →
      s.dev.iso.st ≠ .departed →
      (∀ r ∈ s.dev.iso.round.toList, s.dev.tick.b < r.s + s.dev.isoDeadline) →
      (∀ r ∈ s.dev.iso.sum.toList, s.dev.tick.b < r.s + s.dev.isoDeadline) →
      (∃ r ∈ s.dev.iso.probe.toList, r.s + s.dev.iso.cfg.deadline ≤ s.dev.tick.b) →
      exec .isobarTimeout s = .next (s.ends [] [] { (s.dev.wr ISOBAR.PROBE_RUN 0) with
        iso := { s.dev.iso with probe := none } })) ∧
  (∀ (s : State),
      s.settled = true →
      ((∀ r ∈ s.dev.iso.round.toList, s.dev.tick.b < r.s + s.dev.isoDeadline)
        ∧ (∀ r ∈ s.dev.iso.sum.toList, s.dev.tick.b < r.s + s.dev.isoDeadline)
        ∧ (∀ r ∈ s.dev.iso.probe.toList, s.dev.tick.b < r.s + s.dev.iso.cfg.deadline))
        ∨ s.dev.iso.st = .off ∨ s.dev.iso.st = .departed →
      exec .isobarTimeout s = .next (s.ends [] [] s.dev)) ∧
  (∀ (p : IsoPend) (s : State),
      s.settled = true →
      s.dev.iso.pend.filter (fun q => decide (q.at_ ≤ s.dev.tick.b)) = [p] →
      s.dev.iso.st = .run →
      s.dev.iso.comb = false ∨ p.probes < 64 →
      keyCeil p.key < s.dev.gov.agreed →
      exec .isobarResultApply s = .next (s.ends [] [] { (((((((s.dev.bump ISOBAR.ROUNDS_COUNT).bump
        ISOBAR.THROTTLE_COUNT).wr ISOBAR.LAST_DROP_CEIL (keyCeil p.key)).wr ISOBAR.LAST_DROP_ORIGIN (keyIdx p.key)).wr
        ISOBAR.DROP_INFO_CAUSE (keyCause p.key)).wr ISOBAR.DROP_INFO_ROUND 1).wr ISOBAR.DROP_INFO_LATE 0) with
        iso := { s.dev.iso with pend := s.dev.iso.pend.filter (fun q => decide (s.dev.tick.b < q.at_)) },
        gov := { s.dev.gov with agreed := keyCeil p.key } })) ∧
  (∀ (p : IsoPend) (s : State),
      s.settled = true →
      s.dev.iso.pend.filter (fun q => decide (q.at_ ≤ s.dev.tick.b)) = [p] →
      s.dev.iso.st = .run →
      s.dev.iso.comb = false ∨ p.probes < 64 →
      s.dev.gov.agreed < keyCeil p.key →
      p.rise = true →
      (s.dev.iso.dropAt.all (fun x => decide (x ≤ p.s))) = true →
      exec .isobarResultApply s = .next (s.ends [] [] { (s.dev.bump ISOBAR.ROUNDS_COUNT) with
        iso := { s.dev.iso with pend := s.dev.iso.pend.filter (fun q => decide (s.dev.tick.b < q.at_)) },
        gov := { s.dev.gov with agreed := keyCeil p.key } })) ∧
  (∀ (p : IsoPend) (s : State),
      s.settled = true →
      s.dev.iso.pend.filter (fun q => decide (q.at_ ≤ s.dev.tick.b)) = [p] →
      s.dev.iso.st = .run →
      s.dev.iso.comb = false ∨ p.probes < 64 →
      s.dev.gov.agreed ≤ keyCeil p.key →
      s.dev.gov.agreed = keyCeil p.key ∨ p.rise = false ∨ ¬((s.dev.iso.dropAt.all (fun x => decide (x ≤ p.s))) = true)
        →
      exec .isobarResultApply s = .next (s.ends [] [] { (s.dev.bump ISOBAR.ROUNDS_COUNT) with
        iso := { s.dev.iso with pend := s.dev.iso.pend.filter (fun q => decide (s.dev.tick.b < q.at_)) } })) ∧
  (∀ (p : IsoPend) (s : State),
      s.settled = true →
      s.dev.iso.pend.filter (fun q => decide (q.at_ ≤ s.dev.tick.b)) = [p] →
      s.dev.iso.st = .run →
      s.dev.iso.comb = true →
      64 ≤ p.probes →
      keyCeil p.key < s.dev.gov.agreed →
      exec .isobarResultApply s = .next (s.ends [s.event Ev.ISOBAR_SWITCH_BACK] [] { (if s.dev.iso.probe.isSome then
        (((((((s.dev.bump ISOBAR.ROUNDS_COUNT).bump ISOBAR.THROTTLE_COUNT).wr ISOBAR.LAST_DROP_CEIL (keyCeil
        p.key)).wr ISOBAR.LAST_DROP_ORIGIN (keyIdx p.key)).wr ISOBAR.DROP_INFO_CAUSE (keyCause p.key)).wr
        ISOBAR.DROP_INFO_ROUND 1).wr ISOBAR.DROP_INFO_LATE 0).wr ISOBAR.PROBE_RUN 0 else ((((((s.dev.bump
        ISOBAR.ROUNDS_COUNT).bump ISOBAR.THROTTLE_COUNT).wr ISOBAR.LAST_DROP_CEIL (keyCeil p.key)).wr
        ISOBAR.LAST_DROP_ORIGIN (keyIdx p.key)).wr ISOBAR.DROP_INFO_CAUSE (keyCause p.key)).wr ISOBAR.DROP_INFO_ROUND
        1).wr ISOBAR.DROP_INFO_LATE 0) with
        iso := { s.dev.iso with
          pend := s.dev.iso.pend.filter (fun q => decide (s.dev.tick.b < q.at_)), comb := false, combPend := false,
          round := none, sum := none, probe := none, aggMin := none, aggSum := none },
        gov := { s.dev.gov with agreed := keyCeil p.key } })) ∧
  (∀ (p : IsoPend) (s : State),
      s.settled = true →
      s.dev.iso.pend.filter (fun q => decide (q.at_ ≤ s.dev.tick.b)) = [p] →
      s.dev.iso.st = .run →
      s.dev.iso.comb = true →
      64 ≤ p.probes →
      s.dev.gov.agreed ≤ keyCeil p.key →
      exec .isobarResultApply s = .next (s.ends [s.event Ev.ISOBAR_SWITCH_BACK] [] { (if s.dev.iso.probe.isSome then
        (s.dev.bump ISOBAR.ROUNDS_COUNT).wr ISOBAR.PROBE_RUN 0 else (s.dev.bump ISOBAR.ROUNDS_COUNT)) with
        iso := { s.dev.iso with
          pend := s.dev.iso.pend.filter (fun q => decide (s.dev.tick.b < q.at_)), comb := false, combPend := false,
          round := none, sum := none, probe := none, aggMin := none, aggSum := none }, gov := (if s.dev.gov.agreed <
          keyCeil p.key ∧ p.rise = true ∧ (s.dev.iso.dropAt.all (fun x => decide (x ≤ p.s))) = true then { s.dev.gov
          with agreed := keyCeil p.key } else s.dev.gov) })) ∧
  (∀ (s : State),
      s.settled = true →
      s.dev.iso.st ≠ .run ∨ s.dev.iso.pend.filter (fun q => decide (q.at_ ≤ s.dev.tick.b)) = [] →
      exec .isobarResultApply s = .next (s.ends [] [] { s.dev with
        iso := { s.dev.iso with pend := s.dev.iso.pend.filter (fun q => decide (s.dev.tick.b < q.at_)) } })) ∧
  (∀ (g : IsoAgg) (s : State),
      s.settled = true →
      s.dev.iso.aggMin = some g →
      g.sent = false →
      g.s + s.dev.iso.cfg.step * (s.dev.iso.cfg.h - s.dev.iso.cfg.depth) ≤ s.dev.tick.b →
      (∀ o ∈ s.dev.iso.aggSum.toList, o.sent = true ∨ s.dev.tick.b < o.s + s.dev.iso.cfg.step * (s.dev.iso.cfg.h -
        s.dev.iso.cfg.depth)) →
      s.dev.iso.cfg.index ≠ 0 →
      exec .isobarFbSend s = .next (s.ends [] [.fabTx (if g.got.length < s.dev.iso.cfg.children then withFlag g.msg 1
        else g.msg) s.dev.iso.cfg.parent false (s.dev.rd ISOBAR.FAB_CLASS_CLASS)] { s.dev with
        iso := { s.dev.iso with aggMin := some { g with sent := true } } })) ∧
  (∀ (g : IsoAgg) (s : State),
      s.settled = true →
      s.dev.iso.aggSum = some g →
      g.sent = false →
      g.s + s.dev.iso.cfg.step * (s.dev.iso.cfg.h - s.dev.iso.cfg.depth) ≤ s.dev.tick.b →
      (∀ o ∈ s.dev.iso.aggMin.toList, o.sent = true ∨ s.dev.tick.b < o.s + s.dev.iso.cfg.step * (s.dev.iso.cfg.h -
        s.dev.iso.cfg.depth)) →
      s.dev.iso.cfg.index ≠ 0 →
      exec .isobarFbSend s = .next (s.ends [] [.fabTx (if g.got.length < s.dev.iso.cfg.children then withFlag g.msg 1
        else g.msg) s.dev.iso.cfg.parent false (s.dev.rd ISOBAR.FAB_CLASS_CLASS)] { s.dev with
        iso := { s.dev.iso with aggSum := some { g with sent := true } } })) ∧
  (∀ (g : IsoAgg) (h : IsoAgg) (s : State),
      s.settled = true →
      s.dev.iso.aggMin = some g →
      s.dev.iso.aggSum = some h →
      g.sent = false →
      h.sent = false →
      g.s + s.dev.iso.cfg.step * (s.dev.iso.cfg.h - s.dev.iso.cfg.depth) ≤ s.dev.tick.b →
      h.s + s.dev.iso.cfg.step * (s.dev.iso.cfg.h - s.dev.iso.cfg.depth) ≤ s.dev.tick.b →
      s.dev.iso.cfg.index ≠ 0 →
      exec .isobarFbSend s = .next (s.ends [] [.fabTx (if g.got.length < s.dev.iso.cfg.children then withFlag g.msg 1
        else g.msg) s.dev.iso.cfg.parent false (s.dev.rd ISOBAR.FAB_CLASS_CLASS), .fabTx (if h.got.length <
        s.dev.iso.cfg.children then withFlag h.msg 1 else h.msg) s.dev.iso.cfg.parent false (s.dev.rd
        ISOBAR.FAB_CLASS_CLASS)] { s.dev with
        iso := { s.dev.iso with aggMin := some { g with sent := true }, aggSum := some { h with sent := true } } })) ∧
  (∀ (g : IsoAgg) (s : State),
      s.settled = true →
      s.dev.iso.aggMin = some g →
      g.sent = false →
      g.s + s.dev.iso.cfg.step * (s.dev.iso.cfg.h - s.dev.iso.cfg.depth) ≤ s.dev.tick.b →
      (∀ o ∈ s.dev.iso.aggSum.toList, o.sent = true ∨ s.dev.tick.b < o.s + s.dev.iso.cfg.step * (s.dev.iso.cfg.h -
        s.dev.iso.cfg.depth)) →
      s.dev.iso.cfg.index = 0 →
      s.dev.iso.st.active = true →
      exec .isobarFbSend s = .next (s.ends [] ((List.range s.dev.iso.cfg.children).map (fun k => Out.fabTx (withFlag
        (if g.got.length < s.dev.iso.cfg.children then withFlag g.msg 1 else g.msg) 0) (s.dev.iso.cfg.child.getD k 0)
        false (s.dev.rd ISOBAR.FAB_CLASS_CLASS))) { s.dev with
        iso := { s.dev.iso with
          aggMin := some { g with sent := true }, rx := s.dev.iso.rx ++ [withFlag (if g.got.length <
            s.dev.iso.cfg.children then withFlag g.msg 1 else g.msg) 0] } })) ∧
  (∀ (s : State),
      s.settled = true →
      (∀ o ∈ s.dev.iso.aggMin.toList, o.sent = true ∨ s.dev.tick.b < o.s + s.dev.iso.cfg.step * (s.dev.iso.cfg.h -
        s.dev.iso.cfg.depth)) →
      (∀ o ∈ s.dev.iso.aggSum.toList, o.sent = true ∨ s.dev.tick.b < o.s + s.dev.iso.cfg.step * (s.dev.iso.cfg.h -
        s.dev.iso.cfg.depth)) →
      exec .isobarFbSend s = .next (s.ends [] [] s.dev))

/-- ISOBAR_MESSAGE in ISO_OFF and ISO_DEPARTED drops the message, and counts one that is neither valid nor a result.
In every other state: in switch reduction, a result, and a valid SQUALL or DEPART, is kept for the next strobe; a
valid message from the parent or a child selects member combining, with ISOBAR_FALLBACK once per BUDGET tick, and a
contribution from there is not otherwise used; a contribution from elsewhere is counted in RX_BAD. In member
combining, a MIN or SUM result from the parent goes on to every child and is kept, one from elsewhere is counted, as a
mismatch where it carries MISMATCH or is not valid and else in LATE_RX; a MIN or SUM contribution of a child that fits
the open aggregate is combined into it, the last one sends the aggregate to the parent, and one that does not fit is
counted in LATE_RX; a PROBE and a contribution from elsewhere are counted in RX_BAD. An invalid message that is no
result is counted in RX_BAD. Nothing else changes. What the two idle states drop or count, and which count takes a
result from elsewhere, are the model's choice (log entries 36 and 105). Rests on: R332, R336, R344, R348, R349. -/
def Obligations.IsobarReceivesMessages : Prop :=
  (∀ (x : BitVec 32) (w : BitVec 512) (s : State),
      s.settled = true →
      s.dev.iso.st = .off ∨ s.dev.iso.st = .departed →
      msgValid s.dev.iso.cfg w.toNat = true ∨ msgFlag w.toNat 0 = true →
      exec (.isobarMessage x w) s = .next (s.ends [] [] s.dev)) ∧
  (∀ (x : BitVec 32) (w : BitVec 512) (s : State),
      s.settled = true →
      s.dev.iso.st = .off ∨ s.dev.iso.st = .departed →
      msgValid s.dev.iso.cfg w.toNat = false →
      msgFlag w.toNat 0 = false →
      exec (.isobarMessage x w) s = .next (s.ends [] [] (s.dev.bump ISOBAR.ERR2_RX_BAD))) ∧
  (∀ (x : BitVec 32) (w : BitVec 512) (s : State),
      s.settled = true →
      s.dev.iso.st ≠ .off →
      s.dev.iso.st ≠ .departed →
      msgFlag w.toNat 0 = false →
      msgValid s.dev.iso.cfg w.toNat = false →
      exec (.isobarMessage x w) s = .next (s.ends [] [] (s.dev.bump ISOBAR.ERR2_RX_BAD))) ∧
  (∀ (x : BitVec 32) (w : BitVec 512) (s : State),
      s.settled = true →
      s.dev.iso.st ≠ .off →
      s.dev.iso.st ≠ .departed →
      msgFlag w.toNat 0 = false →
      msgValid s.dev.iso.cfg w.toNat = true →
      msgOp w.toNat = 3 ∨ msgOp w.toNat = 5 →
      s.dev.iso.comb = true ∨ s.dev.iso.combPend = true ∨ ¬((s.dev.iso.cfg.index ≠ 0
        ∧ x.toNat = s.dev.iso.cfg.parent) ∨ (s.dev.iso.cfg.childOf x.toNat).isSome = true)
        ∨ msgValid s.dev.iso.cfg w.toNat = false →
      exec (.isobarMessage x w) s = .next (s.ends [] [] { s.dev with
        iso := { s.dev.iso with rx := s.dev.iso.rx ++ [w.toNat] } })) ∧
  (∀ (x : BitVec 32) (w : BitVec 512) (s : State),
      s.settled = true →
      s.dev.iso.st ≠ .off →
      s.dev.iso.st ≠ .departed →
      msgFlag w.toNat 0 = false →
      msgOp w.toNat = 3 ∨ msgOp w.toNat = 5 →
      msgValid s.dev.iso.cfg w.toNat = true →
      s.dev.iso.comb = false →
      s.dev.iso.combPend = false →
      ((s.dev.iso.cfg.index ≠ 0 ∧ x.toNat = s.dev.iso.cfg.parent) ∨ (s.dev.iso.cfg.childOf x.toNat).isSome = true) →
      exec (.isobarMessage x w) s = .next (s.ends (if s.dev.iso.sent.contains Ev.ISOBAR_FALLBACK.loc then [] else
        [s.event Ev.ISOBAR_FALLBACK]) [] { s.dev with
        iso := { s.dev.iso with
          rx := s.dev.iso.rx ++ [w.toNat], combPend := true, sent := (if s.dev.iso.sent.contains
            Ev.ISOBAR_FALLBACK.loc then s.dev.iso.sent else insertAsc Ev.ISOBAR_FALLBACK.loc s.dev.iso.sent) } })) ∧
  (∀ (x : BitVec 32) (w : BitVec 512) (s : State),
      s.settled = true →
      s.dev.iso.st ≠ .off →
      s.dev.iso.st ≠ .departed →
      msgFlag w.toNat 0 = true →
      s.dev.iso.comb = false ∨ (msgOp w.toNat ≠ 1 ∧ msgOp w.toNat ≠ 2) →
      s.dev.iso.comb = true ∨ s.dev.iso.combPend = true ∨ ¬((s.dev.iso.cfg.index ≠ 0
        ∧ x.toNat = s.dev.iso.cfg.parent) ∨ (s.dev.iso.cfg.childOf x.toNat).isSome = true)
        ∨ msgValid s.dev.iso.cfg w.toNat = false →
      exec (.isobarMessage x w) s = .next (s.ends [] [] { s.dev with
        iso := { s.dev.iso with rx := s.dev.iso.rx ++ [w.toNat] } })) ∧
  (∀ (x : BitVec 32) (w : BitVec 512) (s : State),
      s.settled = true →
      s.dev.iso.st ≠ .off →
      s.dev.iso.st ≠ .departed →
      msgFlag w.toNat 0 = true →
      msgValid s.dev.iso.cfg w.toNat = true →
      s.dev.iso.comb = false →
      s.dev.iso.combPend = false →
      ((s.dev.iso.cfg.index ≠ 0 ∧ x.toNat = s.dev.iso.cfg.parent) ∨ (s.dev.iso.cfg.childOf x.toNat).isSome = true) →
      exec (.isobarMessage x w) s = .next (s.ends (if s.dev.iso.sent.contains Ev.ISOBAR_FALLBACK.loc then [] else
        [s.event Ev.ISOBAR_FALLBACK]) [] { s.dev with
        iso := { s.dev.iso with
          rx := s.dev.iso.rx ++ [w.toNat], combPend := true, sent := (if s.dev.iso.sent.contains
            Ev.ISOBAR_FALLBACK.loc then s.dev.iso.sent else insertAsc Ev.ISOBAR_FALLBACK.loc s.dev.iso.sent) } })) ∧
  (∀ (x : BitVec 32) (w : BitVec 512) (s : State),
      s.settled = true →
      s.dev.iso.st.active = true →
      msgFlag w.toNat 0 = true →
      s.dev.iso.comb = true →
      msgOp w.toNat = 1 ∨ msgOp w.toNat = 2 →
      x.toNat = s.dev.iso.cfg.parent →
      s.dev.iso.cfg.index ≠ 0 →
      exec (.isobarMessage x w) s = .next (s.ends [] ((List.range s.dev.iso.cfg.children).map (fun k => Out.fabTx
        w.toNat (s.dev.iso.cfg.child.getD k 0) false (s.dev.rd ISOBAR.FAB_CLASS_CLASS))) { s.dev with
        iso := { s.dev.iso with rx := s.dev.iso.rx ++ [w.toNat] } })) ∧
  (∀ (x : BitVec 32) (w : BitVec 512) (s : State),
      s.settled = true →
      s.dev.iso.st = .wait →
      msgFlag w.toNat 0 = true →
      s.dev.iso.comb = true →
      msgOp w.toNat = 1 ∨ msgOp w.toNat = 2 →
      x.toNat = s.dev.iso.cfg.parent →
      s.dev.iso.cfg.index ≠ 0 →
      exec (.isobarMessage x w) s = .next (s.ends [] [] { s.dev with
        iso := { s.dev.iso with rx := s.dev.iso.rx ++ [w.toNat] } })) ∧
  (∀ (x : BitVec 32) (w : BitVec 512) (s : State),
      s.settled = true →
      s.dev.iso.st ≠ .off →
      s.dev.iso.st ≠ .departed →
      msgFlag w.toNat 0 = true →
      s.dev.iso.comb = true →
      msgOp w.toNat = 1 ∨ msgOp w.toNat = 2 →
      x.toNat ≠ s.dev.iso.cfg.parent ∨ s.dev.iso.cfg.index = 0 →
      msgValid s.dev.iso.cfg w.toNat = true →
      msgFlag w.toNat 2 = false →
      exec (.isobarMessage x w) s = .next (s.ends [] [] (s.dev.bump ISOBAR.ERR2_LATE_RX))) ∧
  (∀ (x : BitVec 32) (w : BitVec 512) (s : State),
      s.settled = true →
      s.dev.iso.st ≠ .off →
      s.dev.iso.st ≠ .departed →
      msgFlag w.toNat 0 = true →
      s.dev.iso.comb = true →
      msgOp w.toNat = 1 ∨ msgOp w.toNat = 2 →
      x.toNat ≠ s.dev.iso.cfg.parent ∨ s.dev.iso.cfg.index = 0 →
      msgFlag w.toNat 2 = true ∨ msgValid s.dev.iso.cfg w.toNat = false →
      exec (.isobarMessage x w) s = .next (s.ends (if s.dev.iso.sent.contains Ev.ISOBAR_MISMATCH.loc then [] else
        [s.event Ev.ISOBAR_MISMATCH (msgOp w.toNat)]) [] { (s.dev.bump ISOBAR.ERR0_MISMATCHES) with
        iso := { s.dev.iso with
          sent := (if s.dev.iso.sent.contains Ev.ISOBAR_MISMATCH.loc then s.dev.iso.sent else insertAsc
            Ev.ISOBAR_MISMATCH.loc s.dev.iso.sent) } })) ∧
  (∀ (x : BitVec 32) (w : BitVec 512) (s : State),
      s.settled = true →
      s.dev.iso.st ≠ .off →
      s.dev.iso.st ≠ .departed →
      msgFlag w.toNat 0 = false →
      msgOp w.toNat ≠ 3 →
      msgOp w.toNat ≠ 5 →
      msgValid s.dev.iso.cfg w.toNat = true →
      s.dev.iso.comb = false →
      s.dev.iso.combPend = false →
      ((s.dev.iso.cfg.index ≠ 0 ∧ x.toNat = s.dev.iso.cfg.parent) ∨ (s.dev.iso.cfg.childOf x.toNat).isSome = true) →
      exec (.isobarMessage x w) s = .next (s.ends (if s.dev.iso.sent.contains Ev.ISOBAR_FALLBACK.loc then [] else
        [s.event Ev.ISOBAR_FALLBACK]) [] { s.dev with
        iso := { s.dev.iso with
          combPend := true, sent := (if s.dev.iso.sent.contains Ev.ISOBAR_FALLBACK.loc then s.dev.iso.sent else
            insertAsc Ev.ISOBAR_FALLBACK.loc s.dev.iso.sent) } })) ∧
  (∀ (x : BitVec 32) (w : BitVec 512) (s : State),
      s.settled = true →
      s.dev.iso.st ≠ .off →
      s.dev.iso.st ≠ .departed →
      msgFlag w.toNat 0 = false →
      msgValid s.dev.iso.cfg w.toNat = true →
      msgOp w.toNat ≠ 3 →
      msgOp w.toNat ≠ 5 →
      s.dev.iso.comb = false →
      s.dev.iso.combPend = true →
      ((s.dev.iso.cfg.index ≠ 0 ∧ x.toNat = s.dev.iso.cfg.parent) ∨ (s.dev.iso.cfg.childOf x.toNat).isSome = true) →
      exec (.isobarMessage x w) s = .next (s.ends [] [] s.dev)) ∧
  (∀ (x : BitVec 32) (w : BitVec 512) (s : State),
      s.settled = true →
      s.dev.iso.st ≠ .off →
      s.dev.iso.st ≠ .departed →
      msgFlag w.toNat 0 = false →
      msgValid s.dev.iso.cfg w.toNat = true →
      msgOp w.toNat ≠ 3 →
      msgOp w.toNat ≠ 5 →
      (s.dev.iso.comb = false ∧ ¬((s.dev.iso.cfg.index ≠ 0 ∧ x.toNat = s.dev.iso.cfg.parent)
        ∨ (s.dev.iso.cfg.childOf x.toNat).isSome = true)) ∨ (s.dev.iso.comb = true
        ∧ ((s.dev.iso.cfg.childOf x.toNat).isSome = false ∨ msgOp w.toNat = 4)) →
      exec (.isobarMessage x w) s = .next (s.ends [] [] (s.dev.bump ISOBAR.ERR2_RX_BAD))) ∧
  (∀ (x : BitVec 32) (w : BitVec 512) (k : Nat) (s : State),
      s.settled = true →
      s.dev.iso.st ≠ .off →
      s.dev.iso.st ≠ .departed →
      s.dev.iso.cfg.childOf x.toNat = some k →
      s.dev.iso.comb = true →
      msgFlag w.toNat 0 = false →
      msgValid s.dev.iso.cfg w.toNat = true →
      msgOp w.toNat = 1 ∨ msgOp w.toNat = 2 →
      (if msgOp w.toNat = 2 then s.dev.iso.aggSum else s.dev.iso.aggMin) = none →
      exec (.isobarMessage x w) s = .next (s.ends [] [] (s.dev.bump ISOBAR.ERR2_LATE_RX))) ∧
  (∀ (x : BitVec 32) (w : BitVec 512) (k : Nat) (g : IsoAgg) (s : State),
      s.settled = true →
      s.dev.iso.st ≠ .off →
      s.dev.iso.st ≠ .departed →
      s.dev.iso.cfg.childOf x.toNat = some k →
      s.dev.iso.comb = true →
      msgFlag w.toNat 0 = false →
      msgValid s.dev.iso.cfg w.toNat = true →
      msgOp w.toNat = 1 ∨ msgOp w.toNat = 2 →
      (if msgOp w.toNat = 2 then s.dev.iso.aggSum else s.dev.iso.aggMin) = some g →
      g.sent = true ∨ g.got.contains k = true ∨ msgRound w.toNat ≠ g.s % 2 ^ 32 →
      exec (.isobarMessage x w) s = .next (s.ends [] [] (s.dev.bump ISOBAR.ERR2_LATE_RX))) ∧
  (∀ (x : BitVec 32) (w : BitVec 512) (k : Nat) (g : IsoAgg) (s : State),
      s.settled = true →
      s.dev.iso.st ≠ .off →
      s.dev.iso.st ≠ .departed →
      s.dev.iso.cfg.childOf x.toNat = some k →
      s.dev.iso.comb = true →
      msgFlag w.toNat 0 = false →
      msgValid s.dev.iso.cfg w.toNat = true →
      msgOp w.toNat = 1 ∨ msgOp w.toNat = 2 →
      (if msgOp w.toNat = 2 then s.dev.iso.aggSum else s.dev.iso.aggMin) = some g →
      g.sent = false →
      g.got.contains k = false →
      msgRound w.toNat = g.s % 2 ^ 32 →
      ({ g with msg := combine g.msg w.toNat, got := insertAsc k g.got } : IsoAgg).got.length < s.dev.iso.cfg.children
        →
      exec (.isobarMessage x w) s = .next (s.ends [] [] { s.dev with
        iso := { s.dev.iso with
          aggSum := (if msgOp w.toNat = 2 then some ({ g with
            msg := combine g.msg w.toNat, got := insertAsc k g.got } : IsoAgg) else s.dev.iso.aggSum), aggMin := (if
            msgOp w.toNat = 2 then s.dev.iso.aggMin else some ({ g with
            msg := combine g.msg w.toNat, got := insertAsc k g.got } : IsoAgg)) } })) ∧
  (∀ (x : BitVec 32) (w : BitVec 512) (k : Nat) (g : IsoAgg) (s : State),
      s.settled = true →
      s.dev.iso.st ≠ .off →
      s.dev.iso.st ≠ .departed →
      s.dev.iso.cfg.childOf x.toNat = some k →
      s.dev.iso.comb = true →
      msgFlag w.toNat 0 = false →
      msgValid s.dev.iso.cfg w.toNat = true →
      msgOp w.toNat = 1 ∨ msgOp w.toNat = 2 →
      (if msgOp w.toNat = 2 then s.dev.iso.aggSum else s.dev.iso.aggMin) = some g →
      g.sent = false →
      g.got.contains k = false →
      msgRound w.toNat = g.s % 2 ^ 32 →
      s.dev.iso.cfg.children ≤ ({ g with msg := combine g.msg w.toNat, got := insertAsc k g.got } : IsoAgg).got.length
        →
      s.dev.iso.cfg.index ≠ 0 →
      exec (.isobarMessage x w) s = .next (s.ends [] [.fabTx ({ g with
        msg := combine g.msg w.toNat, got := insertAsc k g.got } : IsoAgg).msg s.dev.iso.cfg.parent false (s.dev.rd
        ISOBAR.FAB_CLASS_CLASS)] { s.dev with
        iso := { s.dev.iso with
          aggSum := (if msgOp w.toNat = 2 then some { ({ g with
            msg := combine g.msg w.toNat, got := insertAsc k g.got } : IsoAgg) with sent := true } else
            s.dev.iso.aggSum), aggMin := (if msgOp w.toNat = 2 then s.dev.iso.aggMin else some { ({ g with
            msg := combine g.msg w.toNat, got := insertAsc k g.got } : IsoAgg) with sent := true }) } }))

/-- DRIZZLE_IDLE_SET sets the flag of a core that has been idle IDLE.BEATS beats, where idle detection is on and the
flag is clear. DRIZZLE_WAIT_EXPIRED clears a flag set for WAIT_MAX ms, starts the idle count of its core anew, so that
the flag stays clear for the beat, and raises its event once per BUDGET tick. PRERAMP_GO with a LEVEL above 0, none
scheduled and BEAT at least k + 2 and at most 2^30 beats ahead stores LEVEL and HOLD_MS and schedules the preramp with
its start k beats before BEAT; any other is refused and stores nothing. PRERAMP_START at the start beat puts the
masked clusters into DZ_PRE, DRIZZLE_PRERAMP_DONE marks beat BEAT, and DRIZZLE_PRERAMP_LAPSED, HOLD_MS ms after it,
takes every cluster still in DZ_PRE to DZ_FILL with the flags of its active cores set, counts the entry and raises its
event. Nothing else changes; where its condition does not hold, each of them changes nothing. The idle count after a
clear is the model's choice (log entry 85), as is that HOLD_MS, LEVEL and the mask are latched at GO (log entry 37).
Task 0x06 of a cluster: the share of R356, measured again only when E no longer falls from an earlier wait (R366); the
step and the envelope of R357 and R358; the rate of R358 under R359; and what the beat leaves. Rests on: R354, R355,
R361, R362, R356, R357, R358, R359, R366. -/
def Obligations.DrizzleFlagsAndPreramp : Prop :=
  (∀ (c : Nat) (s : State),
      s.settled = true →
      s.dev.on DRIZZLE.CTRL_IDLE_EN = true →
      c < s.dev.bld.cores →
      s.dev.rd DRIZZLE.IDLE_BEATS ≤ s.dev.dz.quiet.getD c 0 →
      s.dev.waitingFlag c = false →
      exec (.drizzleIdleSet c) s = .next (s.ends [] [] { s.dev with
        dz := { s.dev.dz with flags := flagPut ⟨c, true, s.dev.tick.mono⟩ s.dev.dz.flags } })) ∧
  (∀ (c : Nat) (s : State),
      s.settled = true →
      s.dev.on DRIZZLE.CTRL_IDLE_EN = false ∨ s.dev.bld.cores ≤ c ∨ s.dev.dz.quiet.getD c 0 < s.dev.rd
        DRIZZLE.IDLE_BEATS ∨ s.dev.waitingFlag c = true →
      exec (.drizzleIdleSet c) s = .next (s.ends [] [] s.dev)) ∧
  (∀ (c : Nat) (x : DzFlag) (s : State),
      s.settled = true →
      s.dev.dz.flags.find? (fun f => f.core == c) = some x →
      1000 * s.dev.rd DRIZZLE.DZ_WAIT_MAX ≤ s.dev.tick.mono - x.at_ →
      s.dev.dz.sent = false →
      exec (.drizzleWaitExpired c) s = .next (s.ends [s.event Ev.DRIZZLE_WAIT_EXPIRED c] [] { s.dev with
        dz := { s.dev.dz with
          sent := true, flags := s.dev.dz.flags.filter (fun f => f.core != c),
          quiet := modAt s.dev.dz.quiet c (fun _ => 0), cleared := insertAsc c s.dev.dz.cleared } })) ∧
  (∀ (c : Nat) (x : DzFlag) (s : State),
      s.settled = true →
      s.dev.dz.flags.find? (fun f => f.core == c) = some x →
      1000 * s.dev.rd DRIZZLE.DZ_WAIT_MAX ≤ s.dev.tick.mono - x.at_ →
      s.dev.dz.sent = true →
      exec (.drizzleWaitExpired c) s = .next (s.ends [] [] { s.dev with
        dz := { s.dev.dz with
          flags := s.dev.dz.flags.filter (fun f => f.core != c), quiet := modAt s.dev.dz.quiet c (fun _ => 0),
          cleared := insertAsc c s.dev.dz.cleared } })) ∧
  (∀ (c : Nat) (s : State),
      s.settled = true →
      (∀ x ∈ s.dev.dz.flags, x.core = c → s.dev.tick.mono - x.at_ < 1000 * s.dev.rd DRIZZLE.DZ_WAIT_MAX) →
      exec (.drizzleWaitExpired c) s = .next (s.ends [] [] s.dev)) ∧
  (∀ (a : Acc) (v : BitVec 32) (s : State),
      let d := s.dev.stores [DRIZZLE.PRERAMP_CTRL_HOLD_MS, DRIZZLE.PRERAMP_CTRL_LEVEL] 0 0 v
      s.settled = true →
      s.dev.ready 0x19 = true →
      a.privOk = true →
      bitsAt v.toNat 31 1 = 1 →
      s.dev.preRefused (bitsAt v.toNat 0 8) = false →
      1 ≤ bitsAt v.toNat 16 8 →
      exec (.prerampGo a v) s = .next (s.ends [] [] { d with
        dz := { s.dev.dz with
          pre := some ⟨(s.dev.rd DRIZZLE.PRERAMP_BEAT + 2 ^ 32 - ceilDiv (256 * bitsAt v.toNat 0 8) s.dev.dzStep % 2 ^
            32) % 2 ^ 32, s.dev.rd DRIZZLE.PRERAMP_BEAT, bitsAt v.toNat 0 8, s.dev.rd DRIZZLE.PRERAMP_MASK_CH, bitsAt
            v.toNat 16 8, false, false, 0⟩ } })) ∧
  (∀ (a : Acc) (v : BitVec 32) (s : State),
      s.settled = true →
      s.dev.ready 0x19 = true →
      a.privOk = true →
      bitsAt v.toNat 31 1 = 1 →
      s.dev.dz.pre ≠ none ∨ bitsAt v.toNat 0 8 = 0 ∨ s.dev.beatDiff (s.dev.rd DRIZZLE.PRERAMP_BEAT) < ((ceilDiv (256 *
        bitsAt v.toNat 0 8) s.dev.dzStep + 2 : Nat) : Int) ∨ 2 ^ 30 < s.dev.beatDiff (s.dev.rd DRIZZLE.PRERAMP_BEAT) →
      exec (.prerampGo a v) s = .next (s.ends [s.event (Ev.badValue 0x19)] [] s.dev)) ∧
  (∀ (p : PreRamp) (s : State),
      s.settled = true →
      s.dev.dz.pre = some p →
      p.running = false →
      s.dev.beatDiff p.start ≤ 0 →
      exec .prerampStart s = .next (s.ends [] [] { s.dev with
        dz := { s.dev.dz with
          pre := some { p with running := true }, cl := s.dev.dz.cl.zipIdx.map (fun (y : DzCl × Nat) => if bitAt
            p.mask y.2 = true then { y.1 with st := .pre } else y.1) } })) ∧
  (∀ (s : State),
      s.settled = true →
      (∀ p ∈ s.dev.dz.pre.toList, p.running = true ∨ 0 < s.dev.beatDiff p.start) →
      exec .prerampStart s = .next (s.ends [] [] s.dev)) ∧
  (∀ (p : PreRamp) (s : State),
      s.settled = true →
      s.dev.dz.pre = some p →
      p.running = true →
      p.done = false →
      s.dev.beatDiff p.beat ≤ 0 →
      exec .drizzlePrerampDone s = .next (s.ends [s.event Ev.DRIZZLE_PRERAMP_DONE] [] { s.dev with
        dz := { s.dev.dz with pre := some { p with done := true, doneAt := s.dev.tick.mono } } })) ∧
  (∀ (s : State),
      s.settled = true →
      (∀ p ∈ s.dev.dz.pre.toList, p.running = false ∨ p.done = true ∨ 0 < s.dev.beatDiff p.beat) →
      exec .drizzlePrerampDone s = .next (s.ends [] [] s.dev)) ∧
  (∀ (p : PreRamp) (s : State),
      let l := (List.range s.dev.dz.cl.length).filter (fun c => decide ((s.dev.cl c).st = DzSt.pre))
      s.settled = true →
      s.dev.dz.pre = some p →
      p.done = true →
      1000 * p.holdMs ≤ s.dev.tick.mono - p.doneAt →
      exec .drizzlePrerampLapsed s = .next (s.ends (l.map (fun c => s.event Ev.DRIZZLE_PRERAMP_LAPSED c)) [] { (if l =
        [] then s.dev else s.dev.bump DRIZZLE.ENTRIES_COUNT 0 0 l.length) with
        dz := { s.dev.dz with
          flags := (l.flatMap s.dev.clCores).foldl (fun fs c => flagPut ⟨c, false, s.dev.tick.mono⟩ fs)
            s.dev.dz.flags, cl := s.dev.dz.cl.zipIdx.map (fun (y : DzCl × Nat) => if y.1.st = DzSt.pre then { y.1 with
            st := .fill } else y.1) } })) ∧
  (∀ (s : State),
      s.settled = true →
      (∀ p ∈ s.dev.dz.pre.toList, p.done = false ∨ s.dev.tick.mono - p.doneAt < 1000 * p.holdMs) →
      exec .drizzlePrerampLapsed s = .next (s.ends [] [] s.dev)) ∧
  (∀ (x : DzCl) (held : Bool) (w : Nat) (step : Nat) (level : Nat),
      x.next true held w step level = { x with e := 0, st := .run } ∧ (x.st = .pre → x.next false held w step level =
        { x with e := min (256 * level) (if held then x.e else x.e + step) }) ∧ (x.st = .run → 0 < w → x.next false
        held w step level = { x with st := .fill, e := max x.e x.h }) ∧ (x.st = .fill → 0 < w → x.next false held w
        step level = { x with e := x.e - step }) ∧ (x.st ≠ .pre → x.next false held 0 step level = { x with
        st := .run, e := x.e - step })) ∧
  (∀ (d : Dev) (c : Nat) (w : Nat) (n : Nat) (e : Nat),
      d.dzStep = max 1 (65536 / (1000 * max 1 d.gov.set.fillMs)) ∧ d.fillWant c w n e = min (if n = 0 then 0 else min
        255 ((e * w / n + 128) / 256)) ((if d.rd DRIZZLE.CL_CFG_FULL_UNITS 0 c = 0 then 0 else 256 * d.fillerUnits c /
        d.rd DRIZZLE.CL_CFG_FULL_UNITS 0 c) + d.rd DRIZZLE.CTRL_HEAD)) ∧
  (∀ (d : Dev) (c : Nat),
      (d.clCores c).isEmpty = false →
      d.realShare c = min 65536 (65536 * sumN ((d.clCores c).map (fun x => d.act.cnt.getD x 0)) / ((d.clCores
        c).length * d.rd DRIZZLE.ACT_FULL)) - 256 * (d.cl c).prev) ∧
  (∀ (d : Dev) (c : Nat),
      let w : Nat := ((d.clCores c).filter (fun k => d.waitingFlag k)).length
      let off : Bool := d.sqActive || !d.on DRIZZLE.CTRL_EN || d.rd DRIZZLE.CL_CFG_FULL_UNITS 0 c == 0
      let held : Bool := (d.clCores c).any (fun k => decide (0 < d.gov.limB.getD k 0))
      let h : Nat := if d.rd DRIZZLE.ACT_FULL = 0 then 0 else if w = 0 ∧ (d.cl c).fall = false ∧ (d.cl c).st = .run
        ∧ d.act.late.contains c = false then d.realShare c else (d.cl c).h
      let y : DzCl := ({ d.cl c with h := h }).next false held w d.dzStep ((d.dz.pre.map (fun (p : PreRamp) =>
        p.level)).getD 0)
      let want : Nat := d.fillWant c (if y.st = .pre then (d.clCores c).length else w) (d.clCores c).length y.e
      c < d.dz.cl.length →
      off = false →
      ((d.clBeat c).cl c).h = h ∧ ((d.clBeat c).cl c).e = y.e ∧ ((d.clBeat c).cl c).st = y.st
        ∧ ((d.clBeat c).cl c).w = w ∧ ((d.clBeat c).cl c).prev = (d.cl c).fill ∧ ((d.clBeat c).cl c).fill = (if held
        then min want (d.cl c).fill else want)) ∧
  (∀ (d : Dev) (c : Nat),
      c < d.dz.cl.length →
      d.sqActive = true ∨ d.on DRIZZLE.CTRL_EN = false ∨ d.rd DRIZZLE.CL_CFG_FULL_UNITS 0 c = 0 →
      ((d.clBeat c).cl c).fill = 0 ∧ ((d.clBeat c).cl c).e = 0 ∧ ((d.clBeat c).cl c).st = .run)

/-- GRANT_SUBMIT with VALID_MS above 0 submits WATTS, VALID_MS and SEQ and sets PENDING; with VALID_MS 0 it is
refused. BUDGET_EXPIRED of a grant in force with no time left lowers P_GRANT to FLOOR in use, and wakes the Steward.
BUDGET_ASK of an ask that is due publishes it, moves its sequence, tells the Steward and starts a new interval.
PMB_POLL_START of a due poll starts it and sends the reads of each enabled device, spelled out for device 0 alone.
PMB_POLL_DONE with a device that failed by a timeout, NACK or PEC counts, clears LAST_OK, drops the card power and
raises BUDGET_PMB_ERR; with none it writes what each enabled device read and the sum of their input power, and sets
LAST_OK; the recorder takes the sum as a sample. PMB_TIMEOUT counts, and fails the poll in progress where its device
is enabled. PMB_ALERT reads the Alert Response Address and STATUS_WORD of the device, STATUS_INPUT where that shows an
input fault, sends CLEAR_FAULTS, records them and holds ALERT_N until SMBALERT_RELEASE. Nothing else changes; where
its condition does not hold, each changes nothing. The bytes of a transaction, the PEC and bit 13 of STATUS_WORD (log
entry 87) and 0xFF for an unknown address (log entry 38) are presumed. Task 0x30, function by function: grant intake
(R370), where a grant stands as it was written under the bound as it now is and a stale one is counted; the set-point
of R231; the value of an ask (R372); and their order. Rests on: R64, R65, R369, R371, R372, R373, R486, R231, R370. -/
def Obligations.GrantsAsksAndCardPower : Prop :=
  (∀ (a : Acc) (v : BitVec 32) (s : State),
      s.settled = true →
      s.dev.ready 0x1A = true →
      a.privOk = true →
      s.dev.rd BUDGET.GRANT0_VALID_MS ≠ 0 →
      exec (.grantSubmit a v) s = .next (s.ends [] [] { ((s.dev.wr BUDGET.GRANT1_SEQ (bitsAt v.toNat 0 16)).wr
        BUDGET.GRANT_STAT_PENDING 1) with
        bud := { s.dev.bud with
          sub := some (s.dev.rd BUDGET.GRANT0_WATTS, s.dev.rd BUDGET.GRANT0_VALID_MS, bitsAt v.toNat 0 16) } })) ∧
  (∀ (a : Acc) (v : BitVec 32) (s : State),
      s.settled = true →
      s.dev.ready 0x1A = true →
      a.privOk = true →
      s.dev.rd BUDGET.GRANT0_VALID_MS = 0 →
      exec (.grantSubmit a v) s = .next (s.ends [s.event (Ev.badValue 0x1A)] [] s.dev)) ∧
  (∀ (s : State),
      s.settled = true →
      s.dev.on BUDGET.GRANT_STAT_IN_FORCE = true →
      s.dev.rd BUDGET.GRANT_LEFT_MS = 0 →
      exec .budgetExpired s = .next (s.ends [s.event Ev.BUDGET_EXPIRED] [] { (((s.dev.wr BUDGET.P_GRANT_P_GRANT
        s.dev.floorUse).wr BUDGET.GRANT_STAT_IN_FORCE 0).wr BUDGET.GRANT_STAT_LAST 3) with
        stw := (if s.dev.stw.st = .sleep then { s.dev.stw with wake := true } else s.dev.stw) })) ∧
  (∀ (s : State),
      s.settled = true →
      s.dev.on BUDGET.GRANT_STAT_IN_FORCE = false ∨ s.dev.rd BUDGET.GRANT_LEFT_MS ≠ 0 →
      exec .budgetExpired s = .next (s.ends [] [] s.dev)) ∧
  (∀ (s : State),
      s.settled = true →
      s.dev.bud.askDue = true →
      exec .budgetAsk s = .next (s.ends [s.event Ev.BUDGET_ASK] [] { ((s.dev.wr BUDGET.ASK_W s.dev.askValue).wr
        BUDGET.ASK_SEQ (s.dev.rd BUDGET.ASK_SEQ + 1)) with
        bud := { s.dev.bud with sum := 0, cnt := 0, above := false, askDue := false },
        stw := { s.dev.stw with askDue := s.dev.stw.askDue || s.dev.stw.st == .run || s.dev.stw.st == .sleep } })) ∧
  (∀ (s : State),
      s.settled = true →
      s.dev.bud.askDue = false →
      exec .budgetAsk s = .next (s.ends [] [] s.dev)) ∧
  (∀ (s : State),
      s.settled = true →
      s.dev.on BUDGET.PMB_CFG_EN = true →
      s.dev.rd BUDGET.PMB_CFG_PERIOD ≤ s.dev.bud.pollMs →
      s.dev.bud.poll = false →
      exec .pmbPollStart s = .next (s.ends [] (s.dev.pollSend 0 ++ s.dev.pollSend 1) { s.dev with
        bud := { s.dev.bud with pollMs := 0, poll := true, bad := none } })) ∧
  (∀ (s : State),
      s.settled = true →
      s.dev.on BUDGET.PMB_CFG_EN = true →
      s.dev.rd BUDGET.PMB_CFG_PERIOD ≤ s.dev.bud.pollMs →
      s.dev.bud.poll = false →
      s.dev.on BUDGET.PMB_DEV_EN 0 0 = true →
      s.dev.on BUDGET.PMB_DEV_EN 0 1 = false →
      exec .pmbPollStart s = .next (s.ends [] ((if s.dev.on BUDGET.PMB_DEV_PAGED 0 0 then [Out.pmbus [2 * s.dev.rd
        BUDGET.PMB_DEV_ADDR 0 0, 0, s.dev.rd BUDGET.PMB_DEV_PAGE 0 0, pec [2 * s.dev.rd BUDGET.PMB_DEV_ADDR 0 0, 0,
        s.dev.rd BUDGET.PMB_DEV_PAGE 0 0]] 0] else []) ++ [.pmbus [2 * s.dev.rd BUDGET.PMB_DEV_ADDR 0 0, 0x97, 2 *
        s.dev.rd BUDGET.PMB_DEV_ADDR 0 0 + 1] 3, .pmbus [2 * s.dev.rd BUDGET.PMB_DEV_ADDR 0 0, 0x88, 2 * s.dev.rd
        BUDGET.PMB_DEV_ADDR 0 0 + 1] 3, .pmbus [2 * s.dev.rd BUDGET.PMB_DEV_ADDR 0 0, 0x89, 2 * s.dev.rd
        BUDGET.PMB_DEV_ADDR 0 0 + 1] 3, .pmbus [2 * s.dev.rd BUDGET.PMB_DEV_ADDR 0 0, 0x79, 2 * s.dev.rd
        BUDGET.PMB_DEV_ADDR 0 0 + 1] 3] ++ (if s.dev.bud.revRead.getD 0 false then [] else [.pmbus [2 * s.dev.rd
        BUDGET.PMB_DEV_ADDR 0 0, 0x98, 2 * s.dev.rd BUDGET.PMB_DEV_ADDR 0 0 + 1] 2])) { s.dev with
        bud := { s.dev.bud with pollMs := 0, poll := true, bad := none } })) ∧
  (∀ (s : State),
      s.settled = true →
      s.dev.on BUDGET.PMB_CFG_EN = false ∨ s.dev.bud.pollMs < s.dev.rd BUDGET.PMB_CFG_PERIOD ∨ s.dev.bud.poll = true →
      exec .pmbPollStart s = .next (s.ends [] [] s.dev)) ∧
  (∀ (f : Option Nat) (x : List (List (BitVec 8))) (y : List (List (BitVec 8))) (k : Nat) (s : State),
      s.settled = true →
      s.dev.bud.poll = true →
      s.dev.pollBad f (x.map (fun l => l.map (fun b => b.toNat))) (y.map (fun l => l.map (fun b => b.toNat))) = some k
        →
      exec (.pmbPollDone f x y) s = .next (s.ends [s.event Ev.BUDGET_PMB_ERR k] [] { ((s.dev.bump
        BUDGET.PMB_ERR_FAILED).wr BUDGET.PMB_STAT_LAST_OK 0) with
        bud := { s.dev.bud with poll := false, bad := none }, gov := { s.dev.gov with pinAge := none } })) ∧
  (∀ (f : Option Nat) (x : List (List (BitVec 8))) (y : List (List (BitVec 8))) (s : State),
      s.settled = true →
      s.dev.bud.poll = true →
      s.dev.bud.bad = none →
      f = some 0 →
      s.dev.on BUDGET.PMB_DEV_EN 0 0 = true →
      exec (.pmbPollDone f x y) s = .next (s.ends [s.event Ev.BUDGET_PMB_ERR 0] [] { ((s.dev.bump
        BUDGET.PMB_ERR_FAILED).wr BUDGET.PMB_STAT_LAST_OK 0) with
        bud := { s.dev.bud with poll := false, bad := none }, gov := { s.dev.gov with pinAge := none } })) ∧
  (∀ (f : Option Nat) (x : List (List (BitVec 8))) (y : List (List (BitVec 8))) (s : State),
      s.settled = true →
      s.dev.bud.poll = true →
      s.dev.pollBad f (x.map (fun l => l.map (fun b => b.toNat))) (y.map (fun l => l.map (fun b => b.toNat))) = none →
      Reaches (.pmbPollDone f x y) s (fun t => (s.dev.on BUDGET.PMB_DEV_EN 0 0 = true → t.dev.rd BUDGET.PMB_PIN_PIN 0
        0 = linear11 (((s.dev.pollValues 0 (x.map (fun l => l.map (fun b => b.toNat)))).getD []).getD 0 0) 4 32
        ∧ t.dev.rd BUDGET.PMB_VI_VIN 0 0 = linear11 (((s.dev.pollValues 0 (x.map (fun l => l.map (fun b =>
        b.toNat)))).getD []).getD 1 0) 8 16 ∧ t.dev.rd BUDGET.PMB_VI_IIN 0 0 = linear11 (((s.dev.pollValues 0 (x.map
        (fun l => l.map (fun b => b.toNat)))).getD []).getD 2 0) 8 16 ∧ t.dev.rd BUDGET.PMB_ST_STATUS_WORD 0 0 =
        ((s.dev.pollValues 0 (x.map (fun l => l.map (fun b => b.toNat)))).getD []).getD 3 0
        ∧ (bitAt (((s.dev.pollValues 0 (x.map (fun l => l.map (fun b => b.toNat)))).getD []).getD 3 0) 13 = true →
        t.dev.rd BUDGET.PMB_ST_STATUS_INPUT 0 0 = ((s.dev.pollValues 0 (x.map (fun l => l.map (fun b =>
        b.toNat)))).getD []).getD 4 0) ∧ (s.dev.bud.revRead.getD 0 false = false → t.dev.rd BUDGET.PMB_ST_REVISION 0 0
        = ((s.dev.pollValues 0 (x.map (fun l => l.map (fun b => b.toNat)))).getD []).getD 5 0))
        ∧ (s.dev.on BUDGET.PMB_DEV_EN 0 1 = true → t.dev.rd BUDGET.PMB_PIN_PIN 0 1 = linear11 (((s.dev.pollValues 1
        (y.map (fun l => l.map (fun b => b.toNat)))).getD []).getD 0 0) 4 32 ∧ t.dev.rd BUDGET.PMB_VI_VIN 0 1 =
        linear11 (((s.dev.pollValues 1 (y.map (fun l => l.map (fun b => b.toNat)))).getD []).getD 1 0) 8 16
        ∧ t.dev.rd BUDGET.PMB_VI_IIN 0 1 = linear11 (((s.dev.pollValues 1 (y.map (fun l => l.map (fun b =>
        b.toNat)))).getD []).getD 2 0) 8 16 ∧ t.dev.rd BUDGET.PMB_ST_STATUS_WORD 0 1 = ((s.dev.pollValues 1 (y.map
        (fun l => l.map (fun b => b.toNat)))).getD []).getD 3 0 ∧ (bitAt (((s.dev.pollValues 1 (y.map (fun l => l.map
        (fun b => b.toNat)))).getD []).getD 3 0) 13 = true → t.dev.rd BUDGET.PMB_ST_STATUS_INPUT 0 1 =
        ((s.dev.pollValues 1 (y.map (fun l => l.map (fun b => b.toNat)))).getD []).getD 4 0)
        ∧ (s.dev.bud.revRead.getD 1 false = false → t.dev.rd BUDGET.PMB_ST_REVISION 0 1 = ((s.dev.pollValues 1 (y.map
        (fun l => l.map (fun b => b.toNat)))).getD []).getD 5 0)) ∧ t.dev.rd BUDGET.CARD_PIN_PIN = min (2 ^ 32 - 1)
        ((if s.dev.on BUDGET.PMB_DEV_EN 0 0 then t.dev.rd BUDGET.PMB_PIN_PIN 0 0 else 0) + (if s.dev.on
        BUDGET.PMB_DEV_EN 0 1 then t.dev.rd BUDGET.PMB_PIN_PIN 0 1 else 0)) ∧ t.dev.rd BUDGET.PMB_STAT_LAST_OK = 1
        ∧ t.dev.gov = { s.dev.gov with pinAge := some 0 } ∧ t.dev.bud = { s.dev.bud with
        poll := false, bad := none, revRead := t.dev.bud.revRead } ∧ t = { s with
        dev := { s.dev with
          out := t.dev.out, regs := t.dev.regs, gov := t.dev.gov, bud := t.dev.bud, baro := t.dev.baro } }
        ∧ RegsAgree [BUDGET.PMB_PIN_PIN.key 0 0, BUDGET.PMB_VI_VIN.key 0 0, BUDGET.PMB_VI_IIN.key 0 0,
        BUDGET.PMB_ST_STATUS_WORD.key 0 0, BUDGET.PMB_ST_STATUS_INPUT.key 0 0, BUDGET.PMB_ST_REVISION.key 0 0,
        BUDGET.PMB_PIN_PIN.key 0 1, BUDGET.PMB_VI_VIN.key 0 1, BUDGET.PMB_VI_IIN.key 0 1,
        BUDGET.PMB_ST_STATUS_WORD.key 0 1, BUDGET.PMB_ST_STATUS_INPUT.key 0 1, BUDGET.PMB_ST_REVISION.key 0 1,
        BUDGET.PMB_STAT_LAST_OK.key 0 0, BUDGET.CARD_PIN_PIN.key 0 0, BARO.LOSTSAMP_COUNT.key 0 0] s.dev.regs
        t.dev.regs)) ∧
  (∀ (f : Option Nat) (x : List (List (BitVec 8))) (y : List (List (BitVec 8))) (s : State),
      s.settled = true →
      s.dev.bud.poll = false →
      exec (.pmbPollDone f x y) s = .next (s.ends [] [] s.dev)) ∧
  (∀ (k : Nat) (s : State),
      s.settled = true →
      k < 2 →
      s.dev.on BUDGET.PMB_DEV_EN 0 k = true →
      s.dev.bud.poll = true →
      s.dev.bud.bad = none →
      exec (.pmbTimeout k) s = .next (s.ends [] [] { (s.dev.bump BUDGET.PMB_ERR_TIMEOUTS) with
        bud := { s.dev.bud with bad := some k } })) ∧
  (∀ (k : Nat) (s : State),
      s.settled = true →
      k < 2 →
      s.dev.on BUDGET.PMB_DEV_EN 0 k = false ∨ s.dev.bud.poll = false ∨ s.dev.bud.bad ≠ none →
      exec (.pmbTimeout k) s = .next (s.ends [] [] (s.dev.bump BUDGET.PMB_ERR_TIMEOUTS))) ∧
  (∀ (k : Nat) (s : State),
      s.settled = true →
      2 ≤ k →
      exec (.pmbTimeout k) s = .next (s.ends [] [] s.dev)) ∧
  (∀ (x : BitVec 7) (y : BitVec 16 × BitVec 8) (s : State),
      s.settled = true →
      bitAt y.1.toNat 13 = true →
      s.dev.rd BUDGET.PMB_DEV_ADDR 0 0 = x.toNat →
      exec (.pmbAlert x y) s = .next (s.ends [s.event Ev.BUDGET_PMB_ALERT 0] [.pmbus [25] 2, .pmbus [2 * x.toNat,
        0x79, 2 * x.toNat + 1] 3, .pmbus [2 * x.toNat, 0x7C, 2 * x.toNat + 1] 2, .pmbus [2 * x.toNat, 3, pec [2 *
        x.toNat, 3]] 0] { ((((s.dev.bump BUDGET.PMB_STAT_ALERTS).wr BUDGET.PMB_STAT_ALERT_ADDR x.toNat).wr
        BUDGET.PMB_ST_STATUS_WORD y.1.toNat 0 0).wr BUDGET.PMB_ST_STATUS_INPUT y.2.toNat 0 0) with
        bud := { s.dev.bud with alertLow := true } })) ∧
  (∀ (x : BitVec 7) (y : BitVec 16 × BitVec 8) (s : State),
      s.settled = true →
      bitAt y.1.toNat 13 = false →
      s.dev.rd BUDGET.PMB_DEV_ADDR 0 0 = x.toNat →
      exec (.pmbAlert x y) s = .next (s.ends [s.event Ev.BUDGET_PMB_ALERT 0] [.pmbus [25] 2, .pmbus [2 * x.toNat,
        0x79, 2 * x.toNat + 1] 3, .pmbus [2 * x.toNat, 3, pec [2 * x.toNat, 3]] 0] { (((s.dev.bump
        BUDGET.PMB_STAT_ALERTS).wr BUDGET.PMB_STAT_ALERT_ADDR x.toNat).wr BUDGET.PMB_ST_STATUS_WORD y.1.toNat 0 0)
        with bud := { s.dev.bud with alertLow := true } })) ∧
  (∀ (x : BitVec 7) (y : BitVec 16 × BitVec 8) (s : State),
      s.settled = true →
      bitAt y.1.toNat 13 = true →
      s.dev.rd BUDGET.PMB_DEV_ADDR 0 0 ≠ x.toNat →
      s.dev.rd BUDGET.PMB_DEV_ADDR 0 1 = x.toNat →
      exec (.pmbAlert x y) s = .next (s.ends [s.event Ev.BUDGET_PMB_ALERT 1] [.pmbus [25] 2, .pmbus [2 * x.toNat,
        0x79, 2 * x.toNat + 1] 3, .pmbus [2 * x.toNat, 0x7C, 2 * x.toNat + 1] 2, .pmbus [2 * x.toNat, 3, pec [2 *
        x.toNat, 3]] 0] { ((((s.dev.bump BUDGET.PMB_STAT_ALERTS).wr BUDGET.PMB_STAT_ALERT_ADDR x.toNat).wr
        BUDGET.PMB_ST_STATUS_WORD y.1.toNat 0 1).wr BUDGET.PMB_ST_STATUS_INPUT y.2.toNat 0 1) with
        bud := { s.dev.bud with alertLow := true } })) ∧
  (∀ (x : BitVec 7) (y : BitVec 16 × BitVec 8) (s : State),
      s.settled = true →
      bitAt y.1.toNat 13 = false →
      s.dev.rd BUDGET.PMB_DEV_ADDR 0 0 ≠ x.toNat →
      s.dev.rd BUDGET.PMB_DEV_ADDR 0 1 = x.toNat →
      exec (.pmbAlert x y) s = .next (s.ends [s.event Ev.BUDGET_PMB_ALERT 1] [.pmbus [25] 2, .pmbus [2 * x.toNat,
        0x79, 2 * x.toNat + 1] 3, .pmbus [2 * x.toNat, 3, pec [2 * x.toNat, 3]] 0] { (((s.dev.bump
        BUDGET.PMB_STAT_ALERTS).wr BUDGET.PMB_STAT_ALERT_ADDR x.toNat).wr BUDGET.PMB_ST_STATUS_WORD y.1.toNat 0 1)
        with bud := { s.dev.bud with alertLow := true } })) ∧
  (∀ (x : BitVec 7) (y : BitVec 16 × BitVec 8) (s : State),
      s.settled = true →
      bitAt y.1.toNat 13 = true →
      s.dev.rd BUDGET.PMB_DEV_ADDR 0 0 ≠ x.toNat →
      s.dev.rd BUDGET.PMB_DEV_ADDR 0 1 ≠ x.toNat →
      exec (.pmbAlert x y) s = .next (s.ends [s.event Ev.BUDGET_PMB_ALERT 0xFF] [.pmbus [25] 2, .pmbus [2 * x.toNat,
        0x79, 2 * x.toNat + 1] 3, .pmbus [2 * x.toNat, 0x7C, 2 * x.toNat + 1] 2, .pmbus [2 * x.toNat, 3, pec [2 *
        x.toNat, 3]] 0] { ((s.dev.bump BUDGET.PMB_STAT_ALERTS).wr BUDGET.PMB_STAT_ALERT_ADDR x.toNat) with
        bud := { s.dev.bud with alertLow := true } })) ∧
  (∀ (x : BitVec 7) (y : BitVec 16 × BitVec 8) (s : State),
      s.settled = true →
      bitAt y.1.toNat 13 = false →
      s.dev.rd BUDGET.PMB_DEV_ADDR 0 0 ≠ x.toNat →
      s.dev.rd BUDGET.PMB_DEV_ADDR 0 1 ≠ x.toNat →
      exec (.pmbAlert x y) s = .next (s.ends [s.event Ev.BUDGET_PMB_ALERT 0xFF] [.pmbus [25] 2, .pmbus [2 * x.toNat,
        0x79, 2 * x.toNat + 1] 3, .pmbus [2 * x.toNat, 3, pec [2 * x.toNat, 3]] 0] { ((s.dev.bump
        BUDGET.PMB_STAT_ALERTS).wr BUDGET.PMB_STAT_ALERT_ADDR x.toNat) with
        bud := { s.dev.bud with alertLow := true } })) ∧
  (∀ (s : State),
      s.settled = true →
      exec .smbalertRelease s = .next (s.ends [] [] { s.dev with bud := { s.dev.bud with alertLow := false } })) ∧
  (∀ (d : Dev) (w : Nat) (v : Nat) (q : Nat),
      let k : Nat := (q + 65536 - d.rd BUDGET.GRANT_STAT_SEQ) % 65536
      d.bud.sub = some (w, v, q) →
      d.bud.first = false ∨ (1 ≤ k ∧ k ≤ 32767) →
      v < 2 ^ BUDGET.GRANT_LEFT_MS.wid →
      q < 2 ^ BUDGET.GRANT_STAT_SEQ.wid →
      d.grantIntake.rd BUDGET.P_GRANT_P_GRANT = min w d.hardGrant % 2 ^ BUDGET.P_GRANT_P_GRANT.wid
        ∧ d.grantIntake.rd BUDGET.GRANT_LEFT_MS = v ∧ d.grantIntake.rd BUDGET.GRANT_STAT_SEQ = q
        ∧ d.grantIntake.on BUDGET.GRANT_STAT_IN_FORCE = true ∧ d.grantIntake.rd BUDGET.GRANT_STAT_LAST = 1
        ∧ d.grantIntake.rd BUDGET.GRANT_STAT_PENDING = 0 ∧ d.grantIntake.bud.sub = none
        ∧ d.grantIntake.bud.watts = w ∧ d.grantIntake.evq = d.evq ++ [⟨Ev.BUDGET_GRANT_DONE.page,
        Ev.BUDGET_GRANT_DONE.loc, Ev.BUDGET_GRANT_DONE.sev, 0, d.tick.b % 2 ^ 32⟩]) ∧
  (∀ (d : Dev) (w : Nat) (v : Nat) (q : Nat),
      let k : Nat := (q + 65536 - d.rd BUDGET.GRANT_STAT_SEQ) % 65536
      d.bud.sub = some (w, v, q) →
      d.bud.first = true →
      k = 0 ∨ 32767 < k →
      d.grantIntake.rd BUDGET.GRANT_STAT_LAST = 2 ∧ d.grantIntake.rd BUDGET.GRANT_STAT_PENDING = 0
        ∧ d.grantIntake.bud.sub = none ∧ d.grantIntake.bud.watts = d.bud.watts
        ∧ d.grantIntake.rd BUDGET.P_GRANT_P_GRANT = (if d.on BUDGET.GRANT_STAT_IN_FORCE then min d.bud.watts
        d.hardGrant else d.floorUse) % 2 ^ BUDGET.P_GRANT_P_GRANT.wid
        ∧ d.grantIntake.evq = d.evq ++ [⟨Ev.BUDGET_GRANT_STALE.page, Ev.BUDGET_GRANT_STALE.loc,
        Ev.BUDGET_GRANT_STALE.sev, 0, d.tick.b % 2 ^ 32⟩]) ∧
  (∀ (d : Dev),
      d.bud.sub = none →
      d.grantIntake = d.wr BUDGET.P_GRANT_P_GRANT (if d.on BUDGET.GRANT_STAT_IN_FORCE then min d.bud.watts d.hardGrant
        else d.floorUse)) ∧
  (∀ (d : Dev),
      let pin : Int := if (d.gov.pinAge.map (fun a => decide (a < d.rd BUDGET.PMB_CFG_PERIOD))).getD false then (d.rd
        BUDGET.CARD_PIN_PIN : Int) else (roundDivN d.gov.lim.pSum d.gov.lim.pCnt : Int)
      (d.budgetLoop.gov.pset : Int) = max 0 (min ((d.susUse : Nat) : Int) (max ((d.rd GOV.PSET_PSET_MIN : Nat) : Int)
        ((d.gov.pset : Int) + rshift (((d.rd GOV.BLOOP_KB : Nat) : Int) * ((d.rd BUDGET.P_GRANT_P_GRANT : Int) - pin))
        (d.rd GOV.BLOOP_SHIFT)))) ∧ d.budgetLoop.gov.lim.pSum = 0 ∧ d.budgetLoop.gov.lim.pCnt = 0) ∧
  (∀ (d : Dev),
      d.bud.cnt ≠ 0 →
      d.askValue = min d.hardGrant (min d.susUse (max d.floorUse (if d.bud.above then d.rd BUDGET.P_GRANT_P_GRANT +
        d.rd BUDGET.ASK_CFG_STEP else roundDivN d.bud.sum d.bud.cnt + d.rd BUDGET.ASK_CFG_HEAD)))) ∧
  (∀ (d : Dev),
      d.held 0x30 = false →
      d.task30 = (((d.grantIntake.budgetLoop).levelTableCheck).askStrobe).budgetAsk) ∧
  (∀ (d : Dev),
      d.held 0x30 = true →
      d.task30 = d)

/-- LEDGER_CLOSE with GO of a tag from 16 up waits for the next beat; of a lower tag it is refused. LEDGER_QUERY takes
the tag and clears VALID: a line without a fetch in progress answers at once with its record and state, a tag without
a line reads its slot while the window is valid and answers zeros while it is not, and otherwise the query waits.
LEDGER_QUERY_DONE answers one that waits, once no fetch of its line runs. LEDGER_FLUSH leaves no line dirty that is
neither closed nor being fetched; with one such line and no fetch it sends its record; with nothing to write it is
over at once. LEDGER_FLUSH_DONE ends a flush with no write-back left, and raises its event. LEDGER_INIT_DONE ends the
zero-fill with all its writes. MEM_READ_DATA answers the oldest read: an OPEN record fetched for a line adds to what
the line has gathered and ends its fetch; with an end waiting the line is closed; a FREE record with the table below
its limit opens the tag; the slot of a waiting query goes to QDATA. MEM_WRITE_DONE ends the oldest write, and a flush
or the zero-fill with its last one; during the zero-fill its next write follows. With no read, or no write,
outstanding the surroundings have left their requirement and the model stops by name (R6; the stop is the model's,
safe). Nothing else changes; beside these cases MEM_READ_DATA changes only the ledger, the export queue, the port,
registers and events. When a CLOSE acts, the end that waits and the line that makes room are log entry 39, the port's
turn at reset is 40. Task 0x07, function by function: the estimates of R374; the shares of R380, whose sum is the
energy of the rail, with what cannot be shared on tag 0; and TOTAL (R381). Rests on: R6, R47, R48, R378, R384, R385,
R386, R387, R396, R374, R380, R381. -/
def Obligations.LedgerAndMemoryPort : Prop :=
  (∀ (a : Acc) (v : BitVec 32) (s : State),
      s.settled = true →
      s.dev.ready 0x1B = true →
      a.privOk = true →
      bitsAt v.toNat 31 1 = 1 →
      16 ≤ (bitsAt v.toNat 0 20) →
      exec (.ledgerClose a v) s = .next (s.ends [] [] { s.dev with
        led := { s.dev.led with closes := s.dev.led.closes ++ [(bitsAt v.toNat 0 20)] } })) ∧
  (∀ (a : Acc) (v : BitVec 32) (s : State),
      s.settled = true →
      s.dev.ready 0x1B = true →
      a.privOk = true →
      (bitsAt v.toNat 0 20) < 16 →
      exec (.ledgerClose a v) s = .next (s.ends [s.event (Ev.badValue 0x1B)] [] s.dev)) ∧
  (∀ (a : Acc) (v : BitVec 32) (s : State),
      s.settled = true →
      s.dev.ready 0x1B = true →
      a.privOk = true →
      bitsAt v.toNat 31 1 = 1 →
      s.dev.line (bitsAt v.toNat 0 20) = none →
      s.dev.memOpen = true →
      s.dev.memPort.wait = [] →
      s.dev.slotWrite [] (bitsAt v.toNat 0 20) = false →
      s.dev.memPort.reads.length < 32 →
      exec (.ledgerQuery a v) s = .next (s.ends [] [.memRead (32 * (bitsAt v.toNat 0 20)) 32] { ((s.dev.wr
        LEDGER.QUERY_TAG (bitsAt v.toNat 0 20)).wr LEDGER.QUERY_VALID 0) with
        led := { s.dev.led with query := true }, memPort := { s.dev.memPort with
          turn := s.dev.memPort.turnAfter true, reads := s.dev.memPort.reads ++ [.query (bitsAt v.toNat 0 20)] } })) ∧
  (∀ (a : Acc) (v : BitVec 32) (x : Line) (s : State),
      s.settled = true →
      s.dev.ready 0x1B = true →
      a.privOk = true →
      bitsAt v.toNat 31 1 = 1 →
      s.dev.line (bitsAt v.toNat 0 20) = some x →
      x.fetch = false →
      Reaches (.ledgerQuery a v) s (fun t => (∀ k ∈ List.range 8, t.dev.rd LEDGER.QDATA_WORD 0 k = bitsAt
        (s.dev.record x) (32 * k) 32) ∧ t.dev.rd LEDGER.QUERY_VALID = 1 ∧ t.dev.rd LEDGER.QUERY_STATE = x.st.code
        ∧ t.dev.led.query = false ∧ t.dev.rd LEDGER.QUERY_TAG = (bitsAt v.toNat 0 20) ∧ t.dev.led = { s.dev.led with
        query := false } ∧ t = { s with dev := { s.dev with out := [], regs := t.dev.regs, led := t.dev.led } }
        ∧ RegsAgree [LEDGER.QUERY_VALID.key 0 0, LEDGER.QUERY_STATE.key 0 0, LEDGER.QDATA_WORD.key 0 0,
        LEDGER.QDATA_WORD.key 0 1, LEDGER.QDATA_WORD.key 0 2, LEDGER.QDATA_WORD.key 0 3, LEDGER.QDATA_WORD.key 0 4,
        LEDGER.QDATA_WORD.key 0 5, LEDGER.QDATA_WORD.key 0 6, LEDGER.QDATA_WORD.key 0 7, LEDGER.QUERY_TAG.key 0 0]
        s.dev.regs t.dev.regs)) ∧
  (∀ (a : Acc) (v : BitVec 32) (x : Line) (s : State),
      s.settled = true →
      s.dev.ready 0x1B = true →
      a.privOk = true →
      bitsAt v.toNat 31 1 = 1 →
      s.dev.line (bitsAt v.toNat 0 20) = some x →
      x.fetch = true →
      exec (.ledgerQuery a v) s = .next (s.ends [] [] { ((s.dev.wr LEDGER.QUERY_TAG (bitsAt v.toNat 0 20)).wr
        LEDGER.QUERY_VALID 0) with led := { s.dev.led with query := true } })) ∧
  (∀ (a : Acc) (v : BitVec 32) (s : State),
      s.settled = true →
      s.dev.ready 0x1B = true →
      a.privOk = true →
      bitsAt v.toNat 31 1 = 1 →
      s.dev.line (bitsAt v.toNat 0 20) = none →
      s.dev.memOpen = false →
      Reaches (.ledgerQuery a v) s (fun t => (∀ k ∈ List.range 8, t.dev.rd LEDGER.QDATA_WORD 0 k = bitsAt (0) (32 * k)
        32) ∧ t.dev.rd LEDGER.QUERY_VALID = 1 ∧ t.dev.rd LEDGER.QUERY_STATE = 0 ∧ t.dev.led.query = false
        ∧ t.dev.rd LEDGER.QUERY_TAG = (bitsAt v.toNat 0 20) ∧ t.dev.led = { s.dev.led with query := false }
        ∧ t = { s with dev := { s.dev with out := [], regs := t.dev.regs, led := t.dev.led } }
        ∧ RegsAgree [LEDGER.QUERY_VALID.key 0 0, LEDGER.QUERY_STATE.key 0 0, LEDGER.QDATA_WORD.key 0 0,
        LEDGER.QDATA_WORD.key 0 1, LEDGER.QDATA_WORD.key 0 2, LEDGER.QDATA_WORD.key 0 3, LEDGER.QDATA_WORD.key 0 4,
        LEDGER.QDATA_WORD.key 0 5, LEDGER.QDATA_WORD.key 0 6, LEDGER.QDATA_WORD.key 0 7, LEDGER.QUERY_TAG.key 0 0]
        s.dev.regs t.dev.regs)) ∧
  (∀ (x : Line) (s : State),
      s.settled = true →
      s.dev.led.query = true →
      s.dev.line (s.dev.rd LEDGER.QUERY_TAG) = some x →
      x.fetch = false →
      Reaches (.ledgerQueryDone) s (fun t => (∀ k ∈ List.range 8, t.dev.rd LEDGER.QDATA_WORD 0 k = bitsAt
        (s.dev.record x) (32 * k) 32) ∧ t.dev.rd LEDGER.QUERY_VALID = 1 ∧ t.dev.rd LEDGER.QUERY_STATE = x.st.code
        ∧ t.dev.led.query = false ∧ t.dev.led = { s.dev.led with query := false } ∧ t = { s with
        dev := { s.dev with out := [], regs := t.dev.regs, led := t.dev.led } }
        ∧ RegsAgree [LEDGER.QUERY_VALID.key 0 0, LEDGER.QUERY_STATE.key 0 0, LEDGER.QDATA_WORD.key 0 0,
        LEDGER.QDATA_WORD.key 0 1, LEDGER.QDATA_WORD.key 0 2, LEDGER.QDATA_WORD.key 0 3, LEDGER.QDATA_WORD.key 0 4,
        LEDGER.QDATA_WORD.key 0 5, LEDGER.QDATA_WORD.key 0 6, LEDGER.QDATA_WORD.key 0 7] s.dev.regs t.dev.regs)) ∧
  (∀ (s : State),
      s.settled = true →
      s.dev.led.query = true →
      s.dev.line (s.dev.rd LEDGER.QUERY_TAG) = none →
      s.dev.memOpen = false →
      Reaches (.ledgerQueryDone) s (fun t => (∀ k ∈ List.range 8, t.dev.rd LEDGER.QDATA_WORD 0 k = bitsAt (0) (32 * k)
        32) ∧ t.dev.rd LEDGER.QUERY_VALID = 1 ∧ t.dev.rd LEDGER.QUERY_STATE = 0 ∧ t.dev.led.query = false
        ∧ t.dev.led = { s.dev.led with query := false } ∧ t = { s with
        dev := { s.dev with out := [], regs := t.dev.regs, led := t.dev.led } }
        ∧ RegsAgree [LEDGER.QUERY_VALID.key 0 0, LEDGER.QUERY_STATE.key 0 0, LEDGER.QDATA_WORD.key 0 0,
        LEDGER.QDATA_WORD.key 0 1, LEDGER.QDATA_WORD.key 0 2, LEDGER.QDATA_WORD.key 0 3, LEDGER.QDATA_WORD.key 0 4,
        LEDGER.QDATA_WORD.key 0 5, LEDGER.QDATA_WORD.key 0 6, LEDGER.QDATA_WORD.key 0 7] s.dev.regs t.dev.regs)) ∧
  (∀ (s : State),
      s.settled = true →
      s.dev.led.query = false ∨ (∃ x ∈ (s.dev.line (s.dev.rd LEDGER.QUERY_TAG)).toList, x.fetch = true)
        ∨ (s.dev.line (s.dev.rd LEDGER.QUERY_TAG) = none ∧ s.dev.memOpen = true) →
      exec .ledgerQueryDone s = .next (s.ends [] [] s.dev)) ∧
  (∀ (a : Acc) (v : BitVec 32) (s : State),
      s.settled = true →
      s.dev.ready 0x1B = true →
      a.privOk = true →
      bitsAt v.toNat 1 1 = 1 →
      s.dev.led.lines.filter (fun x => x.dirty && x.st != .closed && !x.fetch) = [] →
      s.dev.memPort.writes = [] →
      s.dev.memPort.reads.all (fun q => match q with | .mend _ => false | _ => true) = true →
      s.dev.led.lines.all (fun x => !x.fetch && !x.flush) = true →
      s.dev.led.away.all (fun a => !a.2) = true →
      s.dev.memPort.wait = [] →
      exec (.ledgerFlush a v) s = .next (s.ends [s.event Ev.LEDGER_FLUSH_DONE] [] { s.dev with
        led := { s.dev.led with flushing := false } })) ∧
  (∀ (a : Acc) (v : BitVec 32) (x : Line) (s : State),
      s.settled = true →
      s.dev.ready 0x1B = true →
      a.privOk = true →
      bitsAt v.toNat 1 1 = 1 →
      s.dev.led.lines.filter (fun x => x.dirty && x.st != .closed && !x.fetch) = [x] →
      s.dev.memOpen = true →
      s.dev.memPort.writes.length < 32 →
      s.dev.led.lines.all (fun x => !x.fetch && !x.flush) = true →
      s.dev.led.away.all (fun a => !a.2) = true →
      s.dev.memPort.wait = [] →
      exec (.ledgerFlush a v) s = .next (s.ends [] [.memWrite (32 * x.tag) 32 (s.dev.record x)] { s.dev with
        led := { s.dev.led with
          flushing := true,
          lines := s.dev.led.lines.map (fun y => if y.st != .closed then { y with dirty := false } else y) }, memPort
          := { s.dev.memPort with
          turn := s.dev.memPort.turnAfter true,
          writes := s.dev.memPort.writes ++ [.slot x.tag (s.dev.record x) true] } })) ∧
  (∀ (a : Acc) (v : BitVec 32) (s : State),
      s.settled = true →
      s.dev.ready 0x1B = true →
      a.privOk = true →
      bitsAt v.toNat 1 1 = 1 →
      Reaches (.ledgerFlush a v) s (fun t => (∀ x ∈ t.dev.led.lines, x.st ≠ .closed → x.fetch = false → x.dirty =
        false) ∧ (∀ x ∈ t.dev.led.lines, x.fetch = true → x.flush = x.endReq.isNone)
        ∧ t.dev.led.lines.map (fun x => (x.tag, x.eCore, x.eRest, x.st, x.fetch)) = s.dev.led.lines.map (fun x =>
        (x.tag, x.eCore, x.eRest, x.st, x.fetch)) ∧ t = { s with
        hdr := t.hdr, dev := { s.dev with out := t.dev.out, led := t.dev.led, memPort := t.dev.memPort } })) ∧
  (∀ (s : State),
      s.settled = true →
      s.dev.led.flushing = true →
      s.dev.flushLeft = false →
      exec .ledgerFlushDone s = .next (s.ends [s.event Ev.LEDGER_FLUSH_DONE] [] { s.dev with
        led := { s.dev.led with flushing := false } })) ∧
  (∀ (s : State),
      s.settled = true →
      s.dev.led.flushing = false ∨ s.dev.flushLeft = true →
      exec .ledgerFlushDone s = .next (s.ends [] [] s.dev)) ∧
  (∀ (s : State),
      s.settled = true →
      s.dev.led.init = true →
      s.dev.memPort.wait = [] →
      exec .ledgerInitDone s = .next (s.ends [] [] { s.dev with
        led := { s.dev.led with init := false, fillAt := fillParts }, memPort := { s.dev.memPort with writes :=
                                                                                                        s.dev.memPort.writes.filter
                                                                                                        (fun r =>
                                                                                                        match r with
                                                                                                        | .fill _ =>
                                                                                                          false | _ =>
                                                                                                          true) } })) ∧
  (∀ (s : State),
      s.settled = true →
      s.dev.led.init = true →
      Reaches (.ledgerInitDone) s (fun t => t.dev.led = { s.dev.led with init := false, fillAt := fillParts }
        ∧ t.dev.memPort.writes.take (s.dev.memPort.writes.filter (fun r => match r with | .fill _ => false | _ =>
                                                                                          true)).length =
        s.dev.memPort.writes.filter (fun r => match r with | .fill _ => false | _ => true) ∧ t = { s with
        hdr := t.hdr, dev := { s.dev with out := t.dev.out, led := t.dev.led, memPort := t.dev.memPort } }
        ∧ t.hdr = s.hdr)) ∧
  (∀ (s : State),
      s.settled = true →
      s.dev.led.init = false →
      exec .ledgerInitDone s = .next (s.ends [] [] s.dev)) ∧
  (∀ (w : BitVec 512) (g : Nat) (r : List MemReq) (x : Line) (s : State),
      s.settled = true →
      s.dev.led.init = false →
      s.dev.memPort.reads = .fetch g :: r →
      s.dev.memPort.wait = [] →
      s.dev.line g = some x →
      x.fetch = true →
      x.flush = false →
      s.dev.led.query = false →
      x.endReq = none →
      bitsAt w.toNat 224 2 = 1 →
      Reaches (.memReadData w) s (fun t => t.dev.memPort = { s.dev.memPort with reads := r } ∧ t.dev.line g = some {
        lineOf g w.toNat with
        eCore := (bitsAt w.toNat 0 64 + x.eCore) % 2 ^ 64, eRest := (bitsAt w.toNat 64 64 + x.eRest) % 2 ^ 64,
        peak := max (bitsAt w.toNat 176 16) x.peak, fill := min (2 ^ 42 - 1) ((lineOf g w.toNat).fill + x.fill),
        overrun := bitAt w.toNat 226 || x.overrun || s.dev.slotOverrun g, dirty := x.dirty || s.dev.slotOverrun g,
        forced := x.forced, closeB := x.closeB, closeM := x.closeM, alC := x.alC } ∧ (∀ o, o ≠ g → t.dev.line o =
        s.dev.line o) ∧ t.dev.led = { s.dev.led with
        lines := t.dev.led.lines, away := s.dev.led.away.filter (fun y => y.1 != g) } ∧ t = { s with
        dev := { s.dev with out := [], led := t.dev.led, memPort := t.dev.memPort } })) ∧
  (∀ (w : BitVec 512) (g : Nat) (r : List MemReq) (x : Line) (s : State),
      s.settled = true →
      s.dev.led.init = false →
      s.dev.memPort.reads = .fetch g :: r →
      s.dev.memPort.wait = [] →
      s.dev.line g = some x →
      x.fetch = true →
      x.flush = false →
      s.dev.led.query = false →
      x.endReq ≠ none →
      bitsAt w.toNat 224 2 = 1 →
      x.forced = false →
      Reaches (.memReadData w) s (fun t => t.dev.memPort = { s.dev.memPort with reads := r } ∧ t.dev.line g = some {
        lineOf g w.toNat with
        st := .closed, eCore := (bitsAt w.toNat 0 64 + x.eCore) % 2 ^ 64,
        eRest := (bitsAt w.toNat 64 64 + x.eRest) % 2 ^ 64, peak := max (bitsAt w.toNat 176 16) x.peak,
        fill := min (2 ^ 42 - 1) ((lineOf g w.toNat).fill + x.fill),
        overrun := bitAt w.toNat 226 || x.overrun || s.dev.slotOverrun g, dirty := x.dirty || s.dev.slotOverrun g,
        forced := x.forced, closeB := x.closeB, closeM := x.closeM, alC := x.alC } ∧ (∀ o, o ≠ g → t.dev.line o =
        s.dev.line o) ∧ t.dev.led = { s.dev.led with
        lines := t.dev.led.lines, away := s.dev.led.away.filter (fun y => y.1 != g) } ∧ t = { s with
        dev := { s.dev with out := [], led := t.dev.led, memPort := t.dev.memPort } })) ∧
  (∀ (w : BitVec 512) (g : Nat) (r : List MemReq) (x : Line) (s : State),
      s.settled = true →
      s.dev.led.init = false →
      s.dev.memPort.reads = .fetch g :: r →
      s.dev.memPort.wait = [] →
      s.dev.line g = some x →
      x.fetch = true →
      x.flush = false →
      s.dev.led.query = false →
      x.endReq = none →
      bitsAt w.toNat 224 2 ≠ 1 →
      (((s.dev.led.lines.filter (fun y => decide (16 ≤ y.tag) && y.st != .free)).length + (s.dev.led.away.filter (fun
        y => y.1 != g)).length)) < s.dev.rd LEDGER.LIMIT_MAX_TAGS →
      Reaches (.memReadData w) s (fun t => t.dev.memPort = { s.dev.memPort with reads := r } ∧ t.dev.line g = some { x
        with st := .open_, fetch := false, dirty := true } ∧ (∀ o, o ≠ g → t.dev.line o = s.dev.line o)
        ∧ t.dev.led = { s.dev.led with lines := t.dev.led.lines, away := s.dev.led.away.filter (fun y => y.1 != g) }
        ∧ t = { s with dev := { s.dev with out := [], led := t.dev.led, memPort := t.dev.memPort } })) ∧
  (∀ (w : BitVec 512) (g : Nat) (r : List MemReq) (s : State),
      s.settled = true →
      s.dev.led.init = false →
      s.dev.memPort.reads = .query g :: r →
      s.dev.memPort.wait = [] →
      s.dev.line g = none →
      s.dev.slotOverrun g = false →
      s.dev.ending g = false →
      s.dev.led.query = true →
      s.dev.rd LEDGER.QUERY_TAG = g →
      Reaches (.memReadData w) s (fun t => t.dev.memPort = { s.dev.memPort with reads := r } ∧ (∀ k ∈ List.range 8,
        t.dev.rd LEDGER.QDATA_WORD 0 k = bitsAt (w.toNat) (32 * k) 32) ∧ t.dev.rd LEDGER.QUERY_VALID = 1
        ∧ t.dev.rd LEDGER.QUERY_STATE = bitsAt w.toNat 224 2 ∧ t.dev.led.query = false ∧ t.dev.led = { s.dev.led with
        query := false } ∧ t = { s with
        dev := { s.dev with out := [], regs := t.dev.regs, led := t.dev.led, memPort := t.dev.memPort } }
        ∧ RegsAgree [LEDGER.QUERY_VALID.key 0 0, LEDGER.QUERY_STATE.key 0 0, LEDGER.QDATA_WORD.key 0 0,
        LEDGER.QDATA_WORD.key 0 1, LEDGER.QDATA_WORD.key 0 2, LEDGER.QDATA_WORD.key 0 3, LEDGER.QDATA_WORD.key 0 4,
        LEDGER.QDATA_WORD.key 0 5, LEDGER.QDATA_WORD.key 0 6, LEDGER.QDATA_WORD.key 0 7] s.dev.regs t.dev.regs)) ∧
  (∀ (w : BitVec 512) (s : State),
      s.settled = true →
      s.dev.memPort.reads ≠ [] →
      Reaches (.memReadData w) s (fun t => t = { s with
        hdr := t.hdr, dev := { s.dev with
          out := t.dev.out, regs := t.dev.regs, led := t.dev.led, ex := t.dev.ex, memPort := t.dev.memPort } })) ∧
  (∀ (w : BitVec 512) (s : State),
      s.dev.memPort.reads = [] →
      exec (.memReadData w) s = .fault (.unsolicited "MEM read")) ∧
  (∀ (w : MemReq) (r : List MemReq) (s : State),
      s.settled = true →
      s.dev.memPort.writes = w :: r →
      s.dev.memPort.wait = [] →
      s.dev.led.init = false →
      s.dev.led.flushing = false →
      exec .memWriteDone s = .next (s.ends [] [] { s.dev with memPort := { s.dev.memPort with writes := r } })) ∧
  (∀ (w : MemReq) (s : State),
      s.settled = true →
      s.dev.memPort.writes = [w] →
      s.dev.memPort.wait = [] →
      s.dev.led.init = false →
      s.dev.led.flushing = true →
      s.dev.led.lines.all (fun x => !x.flush) = true →
      s.dev.memPort.reads.all (fun q => match q with | .mend _ => false | _ => true) = true →
      exec .memWriteDone s = .next (s.ends [s.event Ev.LEDGER_FLUSH_DONE] [] { s.dev with
        led := { s.dev.led with flushing := false }, memPort := { s.dev.memPort with writes := [] } })) ∧
  (∀ (w : MemReq) (r : List MemReq) (s : State),
      s.settled = true →
      s.dev.memPort.writes = w :: r →
      Reaches (.memWriteDone) s (fun t => t.dev.memPort.writes.take r.length = r
        ∧ t.dev.memPort.reads.take s.dev.memPort.reads.length = s.dev.memPort.reads ∧ t.dev.led = { s.dev.led with
        flushing := t.dev.led.flushing, init := t.dev.led.init, fillAt := t.dev.led.fillAt } ∧ t = { s with
        hdr := t.hdr, dev := { s.dev with out := t.dev.out, led := t.dev.led, memPort := t.dev.memPort } })) ∧
  (∀ (k : Nat) (r : List MemReq) (s : State),
      s.settled = true →
      s.dev.memPort.writes = .fill k :: r →
      r.length = 31 →
      s.dev.memPort.wait = [] →
      s.dev.led.init = true →
      s.dev.led.flushing = false →
      s.dev.led.fillAt < fillParts →
      s.dev.on TOP.MEM_WIN_BASE_VALID = true →
      exec .memWriteDone s = .next (s.ends [] [.memWrite (64 * s.dev.led.fillAt) 64 0] { s.dev with
        led := { s.dev.led with fillAt := s.dev.led.fillAt + 1 }, memPort := { s.dev.memPort with
          turn := s.dev.memPort.turnAfter true, writes := r ++ [.fill s.dev.led.fillAt] } })) ∧
  (∀ (k : Nat) (s : State),
      s.settled = true →
      s.dev.memPort.writes = [.fill k] →
      s.dev.memPort.wait = [] →
      s.dev.led.init = true →
      s.dev.led.flushing = false →
      fillParts ≤ s.dev.led.fillAt →
      exec .memWriteDone s = .next (s.ends [] [] { s.dev with
        led := { s.dev.led with init := false }, memPort := { s.dev.memPort with writes := [] } })) ∧
  (∀ (s : State),
      s.dev.memPort.writes = [] →
      exec (.memWriteDone) s = .fault (.unsolicited "MEM write")) ∧
  (∀ (d : Dev) (n : Nat) (c : Nat),
      d.estCore n c = (d.act.cnt.getD c 0 * d.rd LEDGER.EST_GAIN 0 n + (if d.rd LEDGER.EST_SHIFT 0 n = 0 then 0 else 2
        ^ (d.rd LEDGER.EST_SHIFT 0 n - 1))) / 2 ^ d.rd LEDGER.EST_SHIFT 0 n ∧ d.estRail n = min 65535 (d.rd
        LEDGER.EST_S_STATIC 0 n + sumN ((d.coveredCores n).map (fun c => d.estCore n c)))) ∧
  (∀ (ws : List (Nat × Nat × Nat)) (e : Nat),
      0 < sumN (ws.map (fun x => x.2.1)) →
      sumN ((shares ws e).map (fun x => x.2.1)) = e ∧ (shares ws e).drop 1 = ws.map (fun x => (x.1, e * x.2.1 / sumN
        (ws.map (fun x => x.2.1)), if 16 ≤ x.1 then e * x.2.2 / sumN (ws.map (fun x => x.2.1)) else 0))
        ∧ ((shares ws e).head?).map (·.1) = some 0) ∧
  (∀ (ws : List (Nat × Nat × Nat)) (e : Nat),
      sumN (ws.map (fun x => x.2.1)) = 0 →
      shares ws e = [(0, e, 0)]) ∧
  (∀ (d : Dev) (e : Nat),
      let sum : Nat := (d.rd LEDGER.TOTAL_LO_ENERGY + 2 ^ 32 * d.rd LEDGER.TOTAL_HI_ENERGY + e) % 2 ^ 64
      (d.addTotal e).rd LEDGER.TOTAL_LO_ENERGY = sum % 2 ^ 32 ∧ (d.addTotal e).rd LEDGER.TOTAL_HI_ENERGY = sum / 2 ^
        32) ∧
  (∀ (d : Dev),
      d.led.eBeat.isEmpty = false →
      d.task07 = (((d.actLatch.estimate).attribute).addTotal (sumN (((d.actLatch.estimate).attribute).led.eBeat.map
        (fun x => x.getD 0)))).updLed (fun l => { l with cutShort := false, eBeat := [] })) ∧
  (∀ (d : Dev),
      d.tick.mono ≠ 0 →
      d.ledMeasure.led.eBeat = (upto d.rails.length).map (fun n => if (d.rail n).flt.accB1.any then some (roundDivN
        (d.beatV n * d.measI n) 16) else none) ∧ d.ledMeasure.led.iv = d.led.iv + sumN (d.ledMeasure.led.eBeat.map
        (fun x => x.getD 0)))

/-- EXPORT_RECORD_ENTER with export enabled, no signature outstanding and room puts the record of the earliest
attributed closed tag at the end of the queue and into the open batch, takes SEQ, counts it and frees the tag, with
zeros to its slot while the window is valid; without one of these it changes nothing; where it opens a batch, fills
one or moves items it changes only the queue, the ledger, the memory port, registers and events. EXPORT_BATCH_CLOSE of
a batch at MAX items or CLOSE_MS closes it and sends its digest to be signed. EXPORT_SIGNATURE with the key puts the
two signature items, the last one marked, behind the batch, or lets them wait for room; EXPORT_SIGN_FAIL after
SIGN.LIMIT does so with zero signatures of status 1, counts and raises EXPORT_SIGN_FAIL. EXPORT_EN_WRITE stores EN,
and 0 closes the open batch. EXPORT_PTR_FAULT empties the queue, drops what waits for the spill, counts, and opens a
batch with a header and a LOST marker. Nothing else changes; a close of no batch, a signature of none and a limit not
reached change nothing. Where items stand, signature items that wait for room, the random value by the beat strobe
count (log entry 41), and that a signature needs the derived key, are the model's choice (log entry 57). Rests on:
R378, R388, R389, R390, R391, R395. -/
def Obligations.ExportBatchesAndSignatures : Prop :=
  (∀ (x : Line) (b : XBatch) (s : State),
      s.settled = true →
      s.dev.exReady = true →
      s.dev.closedNext = some x →
      s.dev.ex.batch = some b →
      s.dev.ex.items.length + 1 < s.dev.exCap →
      s.dev.ex.inLoc .tail < 64 →
      s.dev.ex.inLoc .head < 64 →
      b.n + 1 < s.dev.rd EXPORT.BATCH_MAX →
      (s.dev.ex.items[s.dev.ex.t]?.all (fun i => i.loc == .head)) = true →
      s.dev.memOpen = false →
      exec .exportRecordEnter s = .next (s.ends [] [] { ((s.dev.bump EXPORT.RECORDS_COUNT).wr EXPORT.SEQ_SEQ
        ((s.dev.rd EXPORT.SEQ_SEQ + 1) % 2 ^ 32)) with
        ex := { s.dev.ex with
          items := s.dev.ex.items ++ [⟨0, false, s.dev.exRecord x b.no, (if s.dev.ex.t = s.dev.ex.items.length then
            .head else .tail), false, false⟩],
          idleMs := (if s.dev.ex.items.length = s.dev.ex.t then 0 else s.dev.ex.idleMs),
          batch := some { b with n := b.n + 1, items := b.items ++ [s.dev.exRecord x b.no] } }, led := { s.dev.led
          with lines := s.dev.led.lines.map (fun y => if y.tag = x.tag then { tag := x.tag, dirty := true } else y) }
          })) ∧
  (∀ (x : Line) (b : XBatch) (s : State),
      s.settled = true →
      s.dev.exReady = true →
      s.dev.closedNext = some x →
      s.dev.ex.batch = some b →
      s.dev.ex.items.length + 1 < s.dev.exCap →
      s.dev.ex.inLoc .tail < 64 →
      s.dev.ex.inLoc .head < 64 →
      b.n + 1 < s.dev.rd EXPORT.BATCH_MAX →
      (s.dev.ex.items[s.dev.ex.t]?.all (fun i => i.loc == .head)) = true →
      s.dev.memOpen = true →
      s.dev.memPort.wait = [] →
      s.dev.memPort.writes.length < 32 →
      exec .exportRecordEnter s = .next (s.ends [] [.memWrite (32 * x.tag) 32 0] { ((s.dev.bump
        EXPORT.RECORDS_COUNT).wr EXPORT.SEQ_SEQ ((s.dev.rd EXPORT.SEQ_SEQ + 1) % 2 ^ 32)) with
        ex := { s.dev.ex with
          items := s.dev.ex.items ++ [⟨0, false, s.dev.exRecord x b.no, (if s.dev.ex.t = s.dev.ex.items.length then
            .head else .tail), false, false⟩],
          idleMs := (if s.dev.ex.items.length = s.dev.ex.t then 0 else s.dev.ex.idleMs),
          batch := some { b with n := b.n + 1, items := b.items ++ [s.dev.exRecord x b.no] } }, memPort := {
          s.dev.memPort with
          turn := s.dev.memPort.turnAfter true, writes := s.dev.memPort.writes ++ [.slot x.tag 0 false] },
        led := { s.dev.led with lines := s.dev.led.lines.filter (fun y => y.tag != x.tag) } })) ∧
  (∀ (s : State),
      s.settled = true →
      s.dev.exReady = false ∨ s.dev.closedNext = none →
      exec .exportRecordEnter s = .next (s.ends [] [] s.dev)) ∧
  (∀ (s : State),
      s.settled = true →
      Reaches (.exportRecordEnter) s (fun t => t = { s with
        hdr := t.hdr, dev := { s.dev with
          out := t.dev.out, ex := t.dev.ex, led := t.dev.led, memPort := t.dev.memPort, regs := t.dev.regs } })) ∧
  (∀ (b : XBatch) (s : State),
      s.settled = true →
      s.dev.ex.batch = some b →
      b.n ≠ 0 →
      s.dev.rd EXPORT.BATCH_MAX ≤ b.n ∨ s.dev.rd EXPORT.BATCH_CLOSE_MS ≤ b.ms →
      exec .exportBatchClose s = .next (s.ends [] [] { (s.dev.bump EXPORT.BATCHES_COUNT) with
        ex := { s.dev.ex with
          batch := none, sign := some ⟨b.no, b.no + putAt b.n 32 + putAt (s.dev.tick.b % 2 ^ 64) 64, b.items, 0⟩ } })) ∧
  (∀ (s : State),
      s.settled = true →
      (∀ b ∈ s.dev.ex.batch.toList, b.n = 0 ∨ (b.n < s.dev.rd EXPORT.BATCH_MAX
        ∧ b.ms < s.dev.rd EXPORT.BATCH_CLOSE_MS)) →
      exec .exportBatchClose s = .next (s.ends [] [] s.dev)) ∧
  (∀ (g : XSign) (k : Nat) (s : State),
      let q := Config.ecdsaSign k (Config.sha384 g.message) s.dev.tick.mono
      s.settled = true →
      s.dev.ex.sign = some g →
      s.dev.wrd.key = some k →
      s.dev.ex.items.length + 2 < s.dev.exCap →
      s.dev.ex.inLoc .tail < 63 →
      s.dev.ex.inLoc .head < 64 →
      (s.dev.ex.items[s.dev.ex.t]?.all (fun i => i.loc == .head)) = true →
      exec .exportSignature s = .next (s.ends [] [] { s.dev with
        ex := { s.dev.ex with
          idleMs := (if s.dev.ex.items.length = s.dev.ex.t then 0 else s.dev.ex.idleMs), sign := none, sigs := [],
          items := s.dev.ex.items ++ [⟨1, false, bigEndian48 q.1 + putAt g.meta_ 384, (if s.dev.ex.t =
            s.dev.ex.items.length then .head else .tail), false, false⟩, ⟨1, true, bigEndian48 q.2 + putAt g.no 384,
            .tail, false, false⟩] } })) ∧
  (∀ (g : XSign) (k : Nat) (s : State),
      let q := Config.ecdsaSign k (Config.sha384 g.message) s.dev.tick.mono
      s.settled = true →
      s.dev.ex.sign = some g →
      s.dev.wrd.key = some k →
      s.dev.exCap ≤ s.dev.ex.items.length →
      exec .exportSignature s = .next (s.ends [] [] { s.dev with
        ex := { s.dev.ex with
          sign := none,
          sigs := [(false, bigEndian48 q.1 + putAt g.meta_ 384), (true, bigEndian48 q.2 + putAt g.no 384)] } })) ∧
  (∀ (s : State),
      s.settled = true →
      s.dev.ex.sign = none ∨ s.dev.wrd.key = none →
      exec .exportSignature s = .next (s.ends [] [] s.dev)) ∧
  (∀ (g : XSign) (s : State),
      s.settled = true →
      s.dev.ex.sign = some g →
      s.dev.rd EXPORT.SIGN_LIMIT ≤ g.ms →
      s.dev.ex.items.length + 2 < s.dev.exCap →
      s.dev.ex.inLoc .tail < 63 →
      s.dev.ex.inLoc .head < 64 →
      (s.dev.ex.items[s.dev.ex.t]?.all (fun i => i.loc == .head)) = true →
      exec .exportSignFail s = .next (s.ends [s.event Ev.EXPORT_SIGN_FAIL] [] { (s.dev.bump EXPORT.UNSIGNED_COUNT)
        with
        ex := { s.dev.ex with
          idleMs := (if s.dev.ex.items.length = s.dev.ex.t then 0 else s.dev.ex.idleMs), sign := none, sigs := [],
          items := s.dev.ex.items ++ [⟨1, false, putAt g.meta_ 384, (if s.dev.ex.t = s.dev.ex.items.length then .head
            else .tail), false, false⟩, ⟨1, true, putAt g.no 384 + putAt 1 416, .tail, false, false⟩] } })) ∧
  (∀ (g : XSign) (s : State),
      s.settled = true →
      s.dev.ex.sign = some g →
      s.dev.rd EXPORT.SIGN_LIMIT ≤ g.ms →
      s.dev.exCap ≤ s.dev.ex.items.length →
      exec .exportSignFail s = .next (s.ends [s.event Ev.EXPORT_SIGN_FAIL] [] { (s.dev.bump EXPORT.UNSIGNED_COUNT)
        with
        ex := { s.dev.ex with
          sign := none, sigs := [(false, putAt g.meta_ 384), (true, putAt g.no 384 + putAt 1 416)] } })) ∧
  (∀ (s : State),
      s.settled = true →
      (∀ g ∈ s.dev.ex.sign.toList, g.ms < s.dev.rd EXPORT.SIGN_LIMIT) →
      exec .exportSignFail s = .next (s.ends [] [] s.dev)) ∧
  (∀ (a : Acc) (v : BitVec 32) (b : XBatch) (s : State),
      s.settled = true →
      s.dev.ready 0x1C = true →
      a.privOk = true →
      bitsAt v.toNat 0 1 = 0 →
      s.dev.ex.batch = some b →
      b.n ≠ 0 →
      exec (.exportEnWrite a v) s = .next (s.ends [] [] { ((s.dev.wr EXPORT.CTRL_EN 0).bump EXPORT.BATCHES_COUNT) with
        ex := { s.dev.ex with
          batch := none, sign := some ⟨b.no, b.no + putAt b.n 32 + putAt (s.dev.tick.b % 2 ^ 64) 64, b.items, 0⟩ } })) ∧
  (∀ (a : Acc) (v : BitVec 32) (s : State),
      s.settled = true →
      s.dev.ready 0x1C = true →
      a.privOk = true →
      bitsAt v.toNat 0 1 = 0 →
      (∀ b ∈ s.dev.ex.batch.toList, b.n = 0) →
      exec (.exportEnWrite a v) s = .next (s.ends [] [] (s.dev.wr EXPORT.CTRL_EN 0))) ∧
  (∀ (a : Acc) (v : BitVec 32) (s : State),
      s.settled = true →
      s.dev.ready 0x1C = true →
      a.privOk = true →
      bitsAt v.toNat 0 1 = 1 →
      exec (.exportEnWrite a v) s = .next (s.ends [] [] (s.dev.wr EXPORT.CTRL_EN 1))) ∧
  (∀ (s : State),
      s.settled = true →
      1 < s.dev.rd EXPORT.BATCH_MAX →
      exec .exportPtrFault s = .next (s.ends [s.event Ev.EXPORT_PTR_FAULT] [] { (((s.dev.bump
        EXPORT.PTR_RESETS_COUNT).bump EXPORT.LOST_REC_COUNT 0 0 (s.dev.ex.items.filter (fun i => i.kind ==
        0)).length).wr EXPORT.BATCH_SEQ_BATCH ((s.dev.rd EXPORT.BATCH_SEQ_BATCH + 1) % 2 ^ 32)) with
        ex := { s.dev.ex with
          f := 0, t := 0, m := 0, pres := none, sign := none, sigs := [], idleMs := 0, idle := false, items := [⟨3,
            false, s.dev.exHeader (s.dev.rd EXPORT.BATCH_SEQ_BATCH), .head, false, false⟩, ⟨2, false,
            (s.dev.ex.items.length + putAt (s.dev.ex.items.filter (fun i => i.kind == 0)).length 32 + putAt
            (s.dev.tick.b % 2 ^ 64) 64 + putAt (s.dev.rd EXPORT.SEQ_SEQ) 128), .tail, false, false⟩], batch := some
            ⟨s.dev.rd EXPORT.BATCH_SEQ_BATCH, 1, 0, [s.dev.exHeader (s.dev.rd EXPORT.BATCH_SEQ_BATCH),
            (s.dev.ex.items.length + putAt (s.dev.ex.items.filter (fun i => i.kind == 0)).length 32 + putAt
            (s.dev.tick.b % 2 ^ 64) 64 + putAt (s.dev.rd EXPORT.SEQ_SEQ) 128)]⟩ }, memPort := { s.dev.memPort with
          reads := s.dev.memPort.reads.map MemReq.orphan, wait := s.dev.memPort.wait.filter (fun r => match r with
          | .spill _ _ => false | .unspill _ => false | _ => true) } }))

/-- EXPORT_TRANSFER with an item presented sends it, clears the idle state, and moves T past it, or, where a REWIND
has held it on the port, ends the hold; with none presented it changes nothing. EXPORT_MARK sets M to T. EXPORT_REWIND
sets T to M, holding the item on the port until its transfer; with T at M it changes nothing. EXPORT_RELEASE drops the
items below M and moves F; a write of MARK and RELEASE drops those below T. Where the item then at T stands outside
the head, or records and signature items wait for the room, the queue, the memory port, registers, events and for a
release the ledger may change too. EXPORT_IDLE after IDLE.TIMEOUT with items unread raises EXPORT_IDLE once and closes
an open batch that holds items; otherwise it changes nothing. Nothing else changes. That a rewind leaves the item on
the port, whose transfer then does not advance T, are the model's choice (log entry 41). Rests on: R49, R391, R392,
R393, R394. -/
def Obligations.ExportReading : Prop :=
  (∀ (k : Nat) (l : Bool) (d : Nat) (s : State),
      s.settled = true →
      s.dev.exPresent = some (k, l, d) →
      s.dev.ex.pres = none →
      (s.dev.ex.items[s.dev.ex.t + 1]?.all (fun i => i.loc == .head)) = true →
      exec .exportTransfer s = .next (s.ends [] [.exItem k l d] { s.dev with
        ex := { s.dev.ex with t := s.dev.ex.t + 1, idleMs := 0, idle := false } })) ∧
  (∀ (k : Nat) (l : Bool) (d : Nat) (s : State),
      s.settled = true →
      s.dev.exPresent = some (k, l, d) →
      s.dev.ex.pres ≠ none →
      (s.dev.ex.items[s.dev.ex.t]?.all (fun i => i.loc == .head)) = true →
      exec .exportTransfer s = .next (s.ends [] [.exItem k l d] { s.dev with
        ex := { s.dev.ex with pres := none, idleMs := 0, idle := false } })) ∧
  (∀ (k : Nat) (l : Bool) (d : Nat) (s : State),
      s.settled = true →
      s.dev.exPresent = some (k, l, d) →
      Reaches (.exportTransfer) s (fun t => t.dev.out.take 1 = [.exItem k l d] ∧ t.dev.ex.t = (if s.dev.ex.pres = none
        then s.dev.ex.t + 1 else s.dev.ex.t) ∧ t.dev.ex.pres = none ∧ t.dev.ex.idle = false
        ∧ t.dev.ex.idleMs = 0 ∧ t.dev.ex.f = s.dev.ex.f ∧ t.dev.ex.items.map (fun i => (i.kind, i.last, i.data)) =
        s.dev.ex.items.map (fun i => (i.kind, i.last, i.data)) ∧ t = { s with
        hdr := t.hdr,
        dev := { s.dev with out := t.dev.out, ex := t.dev.ex, memPort := t.dev.memPort, regs := t.dev.regs } }
        ∧ t.hdr = s.hdr)) ∧
  (∀ (s : State),
      s.settled = true →
      s.dev.exPresent = none →
      exec .exportTransfer s = .next (s.ends [] [] s.dev)) ∧
  (∀ (a : Acc) (v : BitVec 32) (s : State),
      s.settled = true →
      s.dev.ready 0x1C = true →
      a.privOk = true →
      bitsAt v.toNat 0 3 = 1 →
      exec (.exportMark a v) s = .next (s.ends [] [] { s.dev with ex := { s.dev.ex with m := s.dev.ex.t } })) ∧
  (∀ (a : Acc) (v : BitVec 32) (s : State),
      s.settled = true →
      s.dev.ready 0x1C = true →
      a.privOk = true →
      bitsAt v.toNat 0 3 = 2 →
      s.dev.ex.t ≠ s.dev.ex.m →
      (s.dev.ex.items[s.dev.ex.m]?.all (fun i => i.loc == .head)) = true →
      exec (.exportRewind a v) s = .next (s.ends [] [] { s.dev with
        ex := { s.dev.ex with t := s.dev.ex.m, pres := s.dev.exPresent } })) ∧
  (∀ (a : Acc) (v : BitVec 32) (s : State),
      s.settled = true →
      s.dev.ready 0x1C = true →
      a.privOk = true →
      bitsAt v.toNat 0 3 = 2 →
      s.dev.ex.t ≠ s.dev.ex.m →
      Reaches (.exportRewind a v) s (fun t => t.dev.ex.t = s.dev.ex.m ∧ t.dev.ex.m = s.dev.ex.m
        ∧ t.dev.ex.pres = s.dev.exPresent ∧ t.dev.ex.f = s.dev.ex.f ∧ t.dev.ex.items.map (fun i => (i.kind, i.last,
        i.data)) = s.dev.ex.items.map (fun i => (i.kind, i.last, i.data)) ∧ t = { s with
        hdr := t.hdr,
        dev := { s.dev with out := t.dev.out, ex := t.dev.ex, memPort := t.dev.memPort, regs := t.dev.regs } }
        ∧ t.hdr = s.hdr)) ∧
  (∀ (a : Acc) (v : BitVec 32) (s : State),
      s.settled = true →
      s.dev.ready 0x1C = true →
      a.privOk = true →
      bitsAt v.toNat 0 3 = 2 →
      s.dev.ex.t = s.dev.ex.m →
      exec (.exportRewind a v) s = .next (s.ends [] [] s.dev)) ∧
  (∀ (a : Acc) (v : BitVec 32) (s : State),
      s.settled = true →
      s.dev.ready 0x1C = true →
      a.privOk = true →
      bitsAt v.toNat 0 3 = 4 →
      s.dev.ex.sigs = [] →
      s.dev.closedNext = none →
      exec (.exportRelease a v) s = .next (s.ends [] [] { s.dev with
        ex := { s.dev.ex with
          f := s.dev.ex.f + s.dev.ex.m, t := s.dev.ex.t - s.dev.ex.m, m := 0,
          items := s.dev.ex.items.drop s.dev.ex.m } })) ∧
  (∀ (a : Acc) (v : BitVec 32) (s : State),
      s.settled = true →
      s.dev.ready 0x1C = true →
      a.privOk = true →
      bitsAt v.toNat 0 3 = 5 →
      s.dev.ex.sigs = [] →
      s.dev.closedNext = none →
      exec (.exportRelease a v) s = .next (s.ends [] [] { s.dev with
        ex := { s.dev.ex with f := s.dev.ex.f + s.dev.ex.t, t := 0, m := 0, items := s.dev.ex.items.drop s.dev.ex.t }
          })) ∧
  (∀ (a : Acc) (v : BitVec 32) (s : State),
      s.settled = true →
      s.dev.ready 0x1C = true →
      a.privOk = true →
      bitsAt v.toNat 0 3 = 4 →
      Reaches (.exportRelease a v) s (fun t => t.dev.ex.f = s.dev.ex.f + s.dev.ex.m
        ∧ t.dev.ex.t = s.dev.ex.t - s.dev.ex.m ∧ t.dev.ex.m = 0
        ∧ (t.dev.ex.items.take (s.dev.ex.items.length - s.dev.ex.m)).map (fun i => (i.kind, i.last, i.data)) =
        (s.dev.ex.items.drop s.dev.ex.m).map (fun i => (i.kind, i.last, i.data)) ∧ t = { s with
        hdr := t.hdr, dev := { s.dev with
          out := t.dev.out, ex := t.dev.ex, led := t.dev.led, memPort := t.dev.memPort, regs := t.dev.regs } })) ∧
  (∀ (s : State),
      s.settled = true →
      s.dev.rd EXPORT.IDLE_TIMEOUT ≤ s.dev.ex.idleMs →
      s.dev.ex.t < s.dev.ex.items.length →
      s.dev.ex.idle = false →
      (∀ b ∈ s.dev.ex.batch.toList, b.n = 0) →
      exec .exportIdle s = .next (s.ends [s.event Ev.EXPORT_IDLE] [] { s.dev with
        ex := { s.dev.ex with idle := true } })) ∧
  (∀ (b : XBatch) (s : State),
      s.settled = true →
      s.dev.rd EXPORT.IDLE_TIMEOUT ≤ s.dev.ex.idleMs →
      s.dev.ex.t < s.dev.ex.items.length →
      s.dev.ex.idle = false →
      s.dev.ex.batch = some b →
      b.n ≠ 0 →
      exec .exportIdle s = .next (s.ends [s.event Ev.EXPORT_IDLE] [] { (s.dev.bump EXPORT.BATCHES_COUNT) with
        ex := { s.dev.ex with
          idle := true, batch := none,
          sign := some ⟨b.no, b.no + putAt b.n 32 + putAt (s.dev.tick.b % 2 ^ 64) 64, b.items, 0⟩ } })) ∧
  (∀ (s : State),
      s.settled = true →
      s.dev.ex.idleMs < s.dev.rd EXPORT.IDLE_TIMEOUT ∨ s.dev.ex.items.length ≤ s.dev.ex.t ∨ s.dev.ex.idle = true →
      exec .exportIdle s = .next (s.ends [] [] s.dev))

/-- MBOX_DATA_WRITE by the sender of mailbox m stores the word, sets FULL and doorbell bit 0 and clears ABORTED; with
FULL set it changes no word, counts an overrun and raises MBOX_OVERRUN once per BUDGET tick and mailbox. MBOX_TAKE by
the receiver clears FULL; the message that waits for MB_WH, MB_SH or MB_WS in a running core then goes out on it. A
write of TAKE = 0 does nothing. MBOX_RING by the sender sets doorbell bits 1 to 29, MBOX_DB_CLEAR by the receiver
clears the bits written 1. On MB_WH and MB_SH the first enabled doorbell bit raises its event. A write by another path
than the one the command is for counts a guard miss, records it, raises SEC_GUARD_MISS once per BUDGET tick and does
nothing else. A mailbox number from 6 up does nothing. That a composed message waits in its core until the mailbox is
free is the model's choice (log entry 44). Rests on: R105, R408, R410, R411, R414, R429, R430. -/
def Obligations.MailboxMessagesAndDoorbells : Prop :=
  (∀ (m : Nat) (a : Acc) (v : BitVec 32) (s : State),
      s.settled = true →
      m < 6 →
      s.dev.ready 0x03 = true →
      mbSender m a = true →
      s.dev.mbFull m = false →
      exec (.mboxDataWrite m a v) s = .next (s.ends (s.rings m 1) [] (s.dev.holds m v.toNat []))) ∧
  (∀ (m : Nat) (a : Acc) (v : BitVec 32) (s : State),
      s.settled = true →
      m < 6 →
      s.dev.ready 0x03 = true →
      mbSender m a = true →
      s.dev.mbFull m = true →
      s.dev.mbox.ovSent.contains m = false →
      exec (.mboxDataWrite m a v) s = .next (s.ends [s.event Ev.MBOX_OVERRUN m] [] { (s.dev.bump MBOX.STAT_OVERRUNS 0
        m) with mbox := { s.dev.mbox with ovSent := insertAsc m s.dev.mbox.ovSent } })) ∧
  (∀ (m : Nat) (a : Acc) (v : BitVec 32) (s : State),
      s.settled = true →
      m < 6 →
      s.dev.ready 0x03 = true →
      mbSender m a = true →
      s.dev.mbFull m = true →
      s.dev.mbox.ovSent.contains m = true →
      exec (.mboxDataWrite m a v) s = .next (s.ends [] [] (s.dev.bump MBOX.STAT_OVERRUNS 0 m))) ∧
  (∀ (m : Nat) (a : Acc) (v : BitVec 32) (s : State),
      s.settled = true →
      m < 6 →
      s.dev.ready 0x03 = true →
      mbReceiver m a = true →
      bitsAt v.toNat 0 1 = 1 →
      s.dev.sendIdle = true →
      (m = 1 → s.dev.wrd.outH = []) ∧ (m = 3 → s.dev.stw.out = []) ∧ (m = 5 → s.dev.wrd.outS = []) →
      exec (.mboxTake m a v) s = .next (s.ends [] [] (s.dev.wr MBOX.STAT_FULL 0 0 m))) ∧
  (∀ (m : Nat) (a : Acc) (v : BitVec 32) (x : Msg) (r : List Msg) (s : State),
      s.settled = true →
      m = 1 →
      s.dev.ready 0x03 = true →
      mbReceiver m a = true →
      bitsAt v.toNat 0 1 = 1 →
      s.dev.wrd.st = .ready →
      s.dev.wrd.outH = x :: r →
      s.dev.stw.out = [] →
      s.dev.wrd.outS = [] →
      exec (.mboxTake m a v) s = .next (s.ends (s.rings 1 1) [] { (s.dev.holds 1 x.word x.bytes) with
        wrd := { s.dev.wrd with outH := r } })) ∧
  (∀ (m : Nat) (a : Acc) (v : BitVec 32) (x : Msg) (r : List Msg) (s : State),
      s.settled = true →
      m = 3 →
      s.dev.ready 0x03 = true →
      mbReceiver m a = true →
      bitsAt v.toNat 0 1 = 1 →
      s.dev.stw.st = .run →
      s.dev.stw.out = x :: r →
      s.dev.wrd.outH = [] →
      s.dev.wrd.outS = [] →
      exec (.mboxTake m a v) s = .next (s.ends (s.rings 3 1) [] { (s.dev.holds 3 x.word x.bytes) with
        stw := { s.dev.stw with out := r } })) ∧
  (∀ (m : Nat) (a : Acc) (v : BitVec 32) (x : Msg) (r : List Msg) (s : State),
      s.settled = true →
      m = 5 →
      s.dev.ready 0x03 = true →
      mbReceiver m a = true →
      bitsAt v.toNat 0 1 = 1 →
      s.dev.wrd.st = .ready →
      s.dev.wrd.outS = x :: r →
      s.dev.wrd.outH = [] →
      s.dev.stw.out = [] →
      exec (.mboxTake m a v) s = .next (s.ends (s.rings 5 1) [] { (s.dev.holds 5 x.word x.bytes) with
        wrd := { s.dev.wrd with outS := r } })) ∧
  (∀ (m : Nat) (a : Acc) (v : BitVec 32) (s : State),
      s.settled = true →
      m < 6 →
      s.dev.ready 0x03 = true →
      mbReceiver m a = true →
      bitsAt v.toNat 0 1 = 0 →
      exec (.mboxTake m a v) s = .next (s.ends [] [] s.dev)) ∧
  (∀ (m : Nat) (a : Acc) (v : BitVec 32) (s : State),
      s.settled = true →
      m < 6 →
      s.dev.ready 0x03 = true →
      mbSender m a = true →
      exec (.mboxRing m a v) s = .next (s.ends (s.rings m (2 * bitsAt v.toNat 1 29)) [] (s.dev.wr MBOX.DB_DB
        ((s.dev.rd MBOX.DB_DB 0 m) ||| (2 * bitsAt v.toNat 1 29)) 0 m))) ∧
  (∀ (m : Nat) (a : Acc) (v : BitVec 32) (s : State),
      s.settled = true →
      m < 6 →
      s.dev.ready 0x03 = true →
      mbReceiver m a = true →
      exec (.mboxDbClear m a v) s = .next (s.ends [] [] (s.dev.wr MBOX.DB_DB (s.dev.rd MBOX.DB_DB 0 m - ((s.dev.rd
        MBOX.DB_DB 0 m) &&& v.toNat)) 0 m))) ∧
  (∀ (m : Nat) (a : Acc) (v : BitVec 32) (s : State),
      s.settled = true →
      m < 6 →
      s.dev.ready 0x03 = true →
      mbSender m a = false →
      v ≠ 0#32 →
      s.dev.missSent = true →
      exec (.mboxDataWrite m a v) s = .next (s.ends [] [] (((((s.dev.wr SEC.GUARD_MISS_COUNT (min (2 ^ 32 - 1)
        (s.dev.rd SEC.GUARD_MISS_COUNT + 1))).wr SEC.GUARD_LAST_PATH (missPath a.path)).wr SEC.GUARD_LAST_APERTURE
        0).wr SEC.GUARD_LAST_MID a.mid.toNat).wr SEC.GUARD_LAST_ADDR (MBOX.DATA_WORD.adr 0 m)))) ∧
  (∀ (m : Nat) (a : Acc) (v : BitVec 32) (s : State),
      s.settled = true →
      m < 6 →
      s.dev.ready 0x03 = true →
      mbSender m a = false →
      v ≠ 0#32 →
      s.dev.missSent = false →
      exec (.mboxDataWrite m a v) s = .next (s.ends [s.event Ev.SEC_GUARD_MISS (missPath a.path)] [] { (((((s.dev.wr
        SEC.GUARD_MISS_COUNT (min (2 ^ 32 - 1) (s.dev.rd SEC.GUARD_MISS_COUNT + 1))).wr SEC.GUARD_LAST_PATH (missPath
        a.path)).wr SEC.GUARD_LAST_APERTURE 0).wr SEC.GUARD_LAST_MID a.mid.toNat).wr SEC.GUARD_LAST_ADDR
        (MBOX.DATA_WORD.adr 0 m)) with missSent := true })) ∧
  (∀ (m : Nat) (a : Acc) (v : BitVec 32) (s : State),
      s.settled = true →
      m < 6 →
      s.dev.ready 0x03 = true →
      mbReceiver m a = false →
      bitsAt v.toNat 0 1 = 1 →
      s.dev.missSent = true →
      exec (.mboxTake m a v) s = .next (s.ends [] [] (((((s.dev.wr SEC.GUARD_MISS_COUNT (min (2 ^ 32 - 1) (s.dev.rd
        SEC.GUARD_MISS_COUNT + 1))).wr SEC.GUARD_LAST_PATH (missPath a.path)).wr SEC.GUARD_LAST_APERTURE 0).wr
        SEC.GUARD_LAST_MID a.mid.toNat).wr SEC.GUARD_LAST_ADDR (MBOX.CTRL_TAKE.adr 0 m)))) ∧
  (∀ (m : Nat) (a : Acc) (v : BitVec 32) (s : State),
      s.settled = true →
      m < 6 →
      s.dev.ready 0x03 = true →
      mbReceiver m a = false →
      bitsAt v.toNat 0 1 = 1 →
      s.dev.missSent = false →
      exec (.mboxTake m a v) s = .next (s.ends [s.event Ev.SEC_GUARD_MISS (missPath a.path)] [] { (((((s.dev.wr
        SEC.GUARD_MISS_COUNT (min (2 ^ 32 - 1) (s.dev.rd SEC.GUARD_MISS_COUNT + 1))).wr SEC.GUARD_LAST_PATH (missPath
        a.path)).wr SEC.GUARD_LAST_APERTURE 0).wr SEC.GUARD_LAST_MID a.mid.toNat).wr SEC.GUARD_LAST_ADDR
        (MBOX.CTRL_TAKE.adr 0 m)) with missSent := true })) ∧
  (∀ (m : Nat) (a : Acc) (v : BitVec 32) (s : State),
      s.settled = true →
      m < 6 →
      s.dev.ready 0x03 = true →
      mbSender m a = false →
      bitsAt v.toNat 1 29 ≠ 0 →
      s.dev.missSent = true →
      exec (.mboxRing m a v) s = .next (s.ends [] [] (((((s.dev.wr SEC.GUARD_MISS_COUNT (min (2 ^ 32 - 1) (s.dev.rd
        SEC.GUARD_MISS_COUNT + 1))).wr SEC.GUARD_LAST_PATH (missPath a.path)).wr SEC.GUARD_LAST_APERTURE 0).wr
        SEC.GUARD_LAST_MID a.mid.toNat).wr SEC.GUARD_LAST_ADDR (MBOX.RING_RING.adr 0 m)))) ∧
  (∀ (m : Nat) (a : Acc) (v : BitVec 32) (s : State),
      s.settled = true →
      m < 6 →
      s.dev.ready 0x03 = true →
      mbSender m a = false →
      bitsAt v.toNat 1 29 ≠ 0 →
      s.dev.missSent = false →
      exec (.mboxRing m a v) s = .next (s.ends [s.event Ev.SEC_GUARD_MISS (missPath a.path)] [] { (((((s.dev.wr
        SEC.GUARD_MISS_COUNT (min (2 ^ 32 - 1) (s.dev.rd SEC.GUARD_MISS_COUNT + 1))).wr SEC.GUARD_LAST_PATH (missPath
        a.path)).wr SEC.GUARD_LAST_APERTURE 0).wr SEC.GUARD_LAST_MID a.mid.toNat).wr SEC.GUARD_LAST_ADDR
        (MBOX.RING_RING.adr 0 m)) with missSent := true })) ∧
  (∀ (m : Nat) (a : Acc) (v : BitVec 32) (s : State),
      s.settled = true →
      m < 6 →
      s.dev.ready 0x03 = true →
      mbReceiver m a = false →
      v ≠ 0#32 →
      s.dev.missSent = true →
      exec (.mboxDbClear m a v) s = .next (s.ends [] [] (((((s.dev.wr SEC.GUARD_MISS_COUNT (min (2 ^ 32 - 1) (s.dev.rd
        SEC.GUARD_MISS_COUNT + 1))).wr SEC.GUARD_LAST_PATH (missPath a.path)).wr SEC.GUARD_LAST_APERTURE 0).wr
        SEC.GUARD_LAST_MID a.mid.toNat).wr SEC.GUARD_LAST_ADDR (MBOX.DB_DB.adr 0 m)))) ∧
  (∀ (m : Nat) (a : Acc) (v : BitVec 32) (s : State),
      s.settled = true →
      m < 6 →
      s.dev.ready 0x03 = true →
      mbReceiver m a = false →
      v ≠ 0#32 →
      s.dev.missSent = false →
      exec (.mboxDbClear m a v) s = .next (s.ends [s.event Ev.SEC_GUARD_MISS (missPath a.path)] [] { (((((s.dev.wr
        SEC.GUARD_MISS_COUNT (min (2 ^ 32 - 1) (s.dev.rd SEC.GUARD_MISS_COUNT + 1))).wr SEC.GUARD_LAST_PATH (missPath
        a.path)).wr SEC.GUARD_LAST_APERTURE 0).wr SEC.GUARD_LAST_MID a.mid.toNat).wr SEC.GUARD_LAST_ADDR
        (MBOX.DB_DB.adr 0 m)) with missSent := true })) ∧
  (∀ (m : Nat) (a : Acc) (v : BitVec 32) (s : State),
      s.settled = true →
      6 ≤ m →
      exec (.mboxDataWrite m a v) s = .next (s.ends [] [] s.dev)) ∧
  (∀ (m : Nat) (a : Acc) (v : BitVec 32) (s : State),
      s.settled = true →
      6 ≤ m →
      exec (.mboxTake m a v) s = .next (s.ends [] [] s.dev)) ∧
  (∀ (m : Nat) (a : Acc) (v : BitVec 32) (s : State),
      s.settled = true →
      6 ≤ m →
      exec (.mboxRing m a v) s = .next (s.ends [] [] s.dev)) ∧
  (∀ (m : Nat) (a : Acc) (v : BitVec 32) (s : State),
      s.settled = true →
      6 ≤ m →
      exec (.mboxDbClear m a v) s = .next (s.ends [] [] s.dev))

/-- CORE_SLEEP gates a running core; CORE_WAKE runs a gated core that a wake event has reached, and a message that
waits in it for a free mailbox goes out. STEWARD_HALT with its key from the register port empties the Steward, wipes
its active bank and, unless a swap still holds it, its staging bank, aborts MB_HS and MB_WS with bit 31 of their
reverses, ends its claims, puts the governor in POLICY_STALE if a Steward has run, and ends a swap in hand with RESULT
9. WARDEN_RESTART with its key from a secure access makes the Warden boot, keeps its key, ends its nonces, messages
and claims, aborts MB_HW and MB_SW, clears PATCH_OK and counts. With no swap, no signature, no TUNE run and no
snapshot in hand nothing else changes but the capture RAM of an ended claim. A halt of another value raises
FW_BAD_VALUE only. HEARTBEAT of the Steward is latched for the next BUDGET strobe. FW_POLICY_STALE at three missed
heartbeats puts the governor in POLICY_STALE, sets bit 30 of MB_SH and raises its event. Where their condition fails,
CORE_SLEEP, CORE_WAKE and FW_POLICY_STALE change nothing. That CORE_WAKE performs a wake and that HALT keeps the
staging bank only in a swap (log entry 43), and that an abort clears the payload window (log entry 44), are the
model's choice. Rests on: R33, R34, R406, R407, R411, R412, R413, R422, R426, R481. -/
def Obligations.ControlCoresSleepRunAndReset : Prop :=
  (∀ (w : Bool) (s : State),
      s.settled = true →
      w = false →
      s.dev.stw.st = .run →
      exec (.coreSleep w) s = .next (s.ends [] [] { s.dev with
        stw := { s.dev.stw with st := .sleep, wake := false } })) ∧
  (∀ (w : Bool) (s : State),
      s.settled = true →
      w = true →
      s.dev.wrd.st = .ready →
      exec (.coreSleep w) s = .next (s.ends [] [] { s.dev with
        wrd := { s.dev.wrd with st := .sleep, wake := false } })) ∧
  (∀ (w : Bool) (s : State),
      s.settled = true →
      (w = false ∧ s.dev.stw.st ≠ .run) ∨ (w = true ∧ s.dev.wrd.st ≠ .ready) →
      exec (.coreSleep w) s = .next (s.ends [] [] s.dev)) ∧
  (∀ (w : Bool) (s : State),
      s.settled = true →
      w = false →
      s.dev.stw.st = .sleep →
      s.dev.stw.wake = true →
      s.dev.sendIdle = true →
      s.dev.stw.out = [] ∨ s.dev.mbFull 3 = true →
      exec (.coreWake w) s = .next (s.ends [] [] { s.dev with stw := { s.dev.stw with st := .run, wake := false } })) ∧
  (∀ (w : Bool) (s : State),
      s.settled = true →
      w = true →
      s.dev.wrd.st = .sleep →
      s.dev.wrd.wake = true →
      s.dev.sendIdle = true →
      s.dev.wrd.outH = [] ∨ s.dev.mbFull 1 = true →
      s.dev.wrd.outS = [] ∨ s.dev.mbFull 5 = true →
      exec (.coreWake w) s = .next (s.ends [] [] { s.dev with
        wrd := { s.dev.wrd with st := .ready, wake := false } })) ∧
  (∀ (w : Bool) (x : Msg) (r : List Msg) (s : State),
      s.settled = true →
      w = false →
      s.dev.stw.st = .sleep →
      s.dev.stw.wake = true →
      s.dev.stw.out = x :: r →
      s.dev.mbFull 3 = false →
      s.dev.wrd.outH = [] →
      s.dev.wrd.outS = [] →
      exec (.coreWake w) s = .next (s.ends (s.rings 3 1) [] { (s.dev.holds 3 x.word x.bytes) with
        stw := { s.dev.stw with st := .run, wake := false, out := r } })) ∧
  (∀ (w : Bool) (x : Msg) (r : List Msg) (s : State),
      s.settled = true →
      w = true →
      s.dev.wrd.st = .sleep →
      s.dev.wrd.wake = true →
      s.dev.wrd.outH = x :: r →
      s.dev.mbFull 1 = false →
      s.dev.stw.out = [] →
      s.dev.wrd.outS = [] →
      exec (.coreWake w) s = .next (s.ends (s.rings 1 1) [] { (s.dev.holds 1 x.word x.bytes) with
        wrd := { s.dev.wrd with st := .ready, wake := false, outH := r } })) ∧
  (∀ (w : Bool) (x : Msg) (r : List Msg) (s : State),
      s.settled = true →
      w = true →
      s.dev.wrd.st = .sleep →
      s.dev.wrd.wake = true →
      s.dev.wrd.outS = x :: r →
      s.dev.mbFull 5 = false →
      s.dev.wrd.outH = [] →
      s.dev.stw.out = [] →
      exec (.coreWake w) s = .next (s.ends (s.rings 5 1) [] { (s.dev.holds 5 x.word x.bytes) with
        wrd := { s.dev.wrd with st := .ready, wake := false, outS := r } })) ∧
  (∀ (w : Bool) (s : State),
      s.settled = true →
      (w = false ∧ (s.dev.stw.st ≠ .sleep ∨ s.dev.stw.wake = false)) ∨ (w = true
        ∧ (s.dev.wrd.st ≠ .sleep ∨ s.dev.wrd.wake = false)) →
      exec (.coreWake w) s = .next (s.ends [] [] s.dev)) ∧
  (∀ (a : Acc) (v : BitVec 32) (s : State),
      s.settled = true →
      s.dev.ready 0x04 = true →
      a.path = .regPort →
      a.privOk = true →
      v = 0x5E7D#32 →
      s.dev.wrd.swap = .none →
      s.dev.tune.running = false →
      s.dev.baro.snap = none →
      Reaches (.stewardHalt a v) s (fun t => t.dev.stw = { s.dev.stw with
        st := .empty, active := [], staging := [], chunks := [], hb := false, first := false, okDue := false,
        newImage := false, wake := false, periods := [0, 0, 0, 0, 0], noticeAt := none, out := [], grant := none,
        askDue := false } ∧ t.dev.rd FW.STW_STAT_SVN = 0 ∧ t.dev.rd FW.STW_VERSION_VERSION = 0
        ∧ t.dev.mbFull 2 = false ∧ t.dev.rd MBOX.STAT_ABORTED 0 2 = 1 ∧ t.dev.rd MBOX.DB_DB 0 2 = 0
        ∧ t.dev.rd MBOX.DB_DB 0 3 = (s.dev.rd MBOX.DB_DB 0 3 ||| 2 ^ 31) % 2 ^ 32 ∧ t.dev.mbFull 5 = false
        ∧ t.dev.rd MBOX.STAT_ABORTED 0 5 = 1 ∧ t.dev.rd MBOX.DB_DB 0 5 = 0 ∧ t.dev.rd MBOX.DB_DB 0 4 = (s.dev.rd
        MBOX.DB_DB 0 4 ||| 2 ^ 31) % 2 ^ 32 ∧ t.dev.mbox = { s.dev.mbox with
        buf := (s.dev.mbox.buf.clear 0x2000 0x1000).clear 0x5000 0x1000 } ∧ t.dev.gov = (if s.dev.stw.ran &&
        !s.dev.gov.stale then { s.dev.gov with stale := true, staleBeats := 0, safe := false } else s.dev.gov)
        ∧ (∀ r ∈ List.range 26, t.dev.owner r = (if (s.dev.owner r).kind = 1 ∧ (s.dev.owner r).path = 2 then {} else
        s.dev.owner r)) ∧ t = { s with
        hdr := s.hdr.enterAll (s.rings 3 (2 ^ 31) ++ [s.event Ev.MBOX_ABORTED 2, s.event Ev.MBOX_ABORTED 5, s.event
          Ev.FW_STW_RESET]), dev := { s.dev with
          out := [], stw := t.dev.stw, wrd := t.dev.wrd, regs := t.dev.regs, mbox := t.dev.mbox, gov := t.dev.gov,
          claims := t.dev.claims, capRam := t.dev.capRam, baro := t.dev.baro, wave := t.dev.wave } }
        ∧ t.dev.wrd = { s.dev.wrd with wake := t.dev.wrd.wake }
        ∧ RegsAgree [MBOX.STAT_FULL.key 0 2, MBOX.STAT_ABORTED.key 0 2, MBOX.DB_DB.key 0 2, MBOX.STAT_FULL.key 0 3,
        MBOX.STAT_ABORTED.key 0 3, MBOX.DB_DB.key 0 3, MBOX.STAT_FULL.key 0 4, MBOX.STAT_ABORTED.key 0 4,
        MBOX.DB_DB.key 0 4, MBOX.STAT_FULL.key 0 5, MBOX.STAT_ABORTED.key 0 5, MBOX.DB_DB.key 0 5, CLAIM.TMR_RUN.key 0
        0, CLAIM.TMR_RUN.key 0 1, CLAIM.TMR_RUN.key 0 2, CLAIM.TMR_RUN.key 0 3, CLAIM.TMR_RUN.key 0 4,
        CLAIM.TMR_RUN.key 0 5, CLAIM.TMR_RUN.key 0 6, CLAIM.TMR_RUN.key 0 7, CLAIM.TMR_RUN.key 0 8, CLAIM.TMR_RUN.key
        0 9, CLAIM.TMR_RUN.key 0 10, CLAIM.TMR_RUN.key 0 11, CLAIM.TMR_RUN.key 0 12, CLAIM.TMR_RUN.key 0 13,
        CLAIM.TMR_RUN.key 0 14, CLAIM.TMR_RUN.key 0 15, FW.STW_STAT_SVN.key 0 0, FW.STW_VERSION_VERSION.key 0 0]
        s.dev.regs t.dev.regs)) ∧
  (∀ (a : Acc) (v : BitVec 32) (s : State),
      s.settled = true →
      s.dev.ready 0x04 = true →
      a.path = .regPort →
      a.privOk = true →
      v = 0x5E7D#32 →
      Reaches (.stewardHalt a v) s (fun t => t.dev.stw = { s.dev.stw with
        st := .empty, active := [], staging := (if s.dev.wrd.swap.staged then s.dev.stw.staging else []),
        chunks := (if s.dev.wrd.swap.staged then s.dev.stw.chunks else []), hb := false, first := false,
        okDue := false, newImage := false, wake := false, periods := [0, 0, 0, 0, 0], noticeAt := none, out := [],
        grant := none, askDue := false } ∧ t.dev.gov = (if s.dev.stw.ran && !s.dev.gov.stale then { s.dev.gov with
        stale := true, staleBeats := 0, safe := false } else s.dev.gov) ∧ (∀ r ∈ List.range 26, t.dev.owner r = (if
        (s.dev.owner r).kind = 1 ∧ (s.dev.owner r).path = 2 then {} else s.dev.owner r))
        ∧ t.dev.wrd.swap = .none ∧ (s.dev.wrd.swap ≠ .none → t.dev.rd FW.SWAP_STAT_RESULT = 9
        ∧ t.dev.rd FW.SWAP_STAT_BUSY = 0) ∧ t = { s with
        hdr := t.hdr, dev := { s.dev with
          out := t.dev.out, stw := t.dev.stw, wrd := t.dev.wrd, regs := t.dev.regs, mbox := t.dev.mbox,
          gov := t.dev.gov, claims := t.dev.claims, capRam := t.dev.capRam, baro := t.dev.baro, wave := t.dev.wave,
          tune := t.dev.tune } })) ∧
  (∀ (a : Acc) (v : BitVec 32) (s : State),
      s.settled = true →
      s.dev.ready 0x04 = true →
      a.path = .regPort →
      a.privOk = true →
      v ≠ 0x5E7D#32 →
      exec (.stewardHalt a v) s = .next (s.ends [s.event (Ev.badValue 0x04)] [] s.dev)) ∧
  (∀ (a : Acc) (v : BitVec 32) (s : State),
      s.settled = true →
      s.dev.ready 0x04 = true →
      a.sec = true →
      v = 0x3A5D#32 →
      s.dev.wrd.swap = .none →
      s.dev.ex.sign = none →
      s.dev.tune.running = false →
      s.dev.baro.snap = none →
      Reaches (.wardenRestart a v) s (fun t => t.dev.wrd = { s.dev.wrd with
        st := .boot, wiped := true, restart := true, waiting := none, late := 0, got := none, idReq := false,
        lcNonce := none, baroNonce := none, outH := [], outS := [], nvJob := none, wake := false, prov := {},
        lifeRun := t.dev.wrd.lifeRun, lifeQ := t.dev.wrd.lifeQ }
        ∧ t.dev.wrd.lifeRun.isSome = s.dev.wrd.lifeRun.isSome ∧ t.dev.nv = s.dev.nv.orphan
        ∧ t.dev.rd FW.WRD_STAT_RESTARTS = min (2 ^ FW.WRD_STAT_RESTARTS.wid - 1) (s.dev.rd FW.WRD_STAT_RESTARTS + 1)
        ∧ t.dev.rd FW.WRD_STAT_PATCH_OK = 0 ∧ t.dev.mbFull 0 = false ∧ t.dev.mbFull 4 = false
        ∧ t.dev.rd MBOX.STAT_ABORTED 0 0 = 1 ∧ t.dev.rd MBOX.STAT_ABORTED 0 4 = 1 ∧ t.dev.rd MBOX.DB_DB 0 0 = 0
        ∧ t.dev.rd MBOX.DB_DB 0 4 = 0 ∧ t.dev.rd MBOX.DB_DB 0 1 = (s.dev.rd MBOX.DB_DB 0 1 ||| 2 ^ 31) % 2 ^ 32
        ∧ t.dev.rd MBOX.DB_DB 0 5 = (s.dev.rd MBOX.DB_DB 0 5 ||| 2 ^ 31) % 2 ^ 32 ∧ t.dev.mbox = { s.dev.mbox with
        buf := (s.dev.mbox.buf.clear 0 0x1000).clear 0x4000 0x1000 } ∧ (∀ r ∈ List.range 26, t.dev.owner r = (if
        (s.dev.owner r).kind = 1 ∧ (s.dev.owner r).path = 3 then {} else s.dev.owner r)) ∧ t = { s with
        hdr := s.hdr.enterAll (s.rings 1 (2 ^ 31) ++ [s.event Ev.MBOX_ABORTED 0, s.event Ev.MBOX_ABORTED 4, s.event
          Ev.FW_WRD_RESET]), dev := { s.dev with
          out := [], wrd := t.dev.wrd, stw := t.dev.stw, nv := t.dev.nv, regs := t.dev.regs, mbox := t.dev.mbox,
          claims := t.dev.claims, capRam := t.dev.capRam, baro := t.dev.baro, wave := t.dev.wave } }
        ∧ t.dev.stw = { s.dev.stw with wake := t.dev.stw.wake }
        ∧ RegsAgree [MBOX.STAT_FULL.key 0 0, MBOX.STAT_ABORTED.key 0 0, MBOX.DB_DB.key 0 0, MBOX.STAT_FULL.key 0 1,
        MBOX.STAT_ABORTED.key 0 1, MBOX.DB_DB.key 0 1, MBOX.STAT_FULL.key 0 4, MBOX.STAT_ABORTED.key 0 4,
        MBOX.DB_DB.key 0 4, MBOX.STAT_FULL.key 0 5, MBOX.STAT_ABORTED.key 0 5, MBOX.DB_DB.key 0 5, CLAIM.TMR_RUN.key 0
        0, CLAIM.TMR_RUN.key 0 1, CLAIM.TMR_RUN.key 0 2, CLAIM.TMR_RUN.key 0 3, CLAIM.TMR_RUN.key 0 4,
        CLAIM.TMR_RUN.key 0 5, CLAIM.TMR_RUN.key 0 6, CLAIM.TMR_RUN.key 0 7, CLAIM.TMR_RUN.key 0 8, CLAIM.TMR_RUN.key
        0 9, CLAIM.TMR_RUN.key 0 10, CLAIM.TMR_RUN.key 0 11, CLAIM.TMR_RUN.key 0 12, CLAIM.TMR_RUN.key 0 13,
        CLAIM.TMR_RUN.key 0 14, CLAIM.TMR_RUN.key 0 15, FW.WRD_STAT_RESTARTS.key 0 0, FW.WRD_STAT_PATCH_OK.key 0 0]
        s.dev.regs t.dev.regs)) ∧
  (∀ (a : Acc) (v : BitVec 32) (s : State),
      s.settled = true →
      s.dev.ready 0x04 = true →
      a.sec = true →
      v = 0x3A5D#32 →
      Reaches (.wardenRestart a v) s (fun t => t.dev.wrd.st = .boot ∧ t.dev.wrd.restart = true
        ∧ t.dev.wrd.lcNonce = none ∧ t.dev.wrd.baroNonce = none ∧ t.dev.wrd.outH = []
        ∧ t.dev.wrd.outS = [] ∧ t.dev.wrd.key = s.dev.wrd.key ∧ t.dev.ex.sign = none ∧ (∀ r ∈ List.range 26,
        t.dev.owner r = (if (s.dev.owner r).kind = 1 ∧ (s.dev.owner r).path = 3 then {} else s.dev.owner r))
        ∧ t = { s with
        hdr := t.hdr, dev := { s.dev with
          out := t.dev.out, wrd := t.dev.wrd, stw := t.dev.stw, nv := t.dev.nv, regs := t.dev.regs,
          mbox := t.dev.mbox, claims := t.dev.claims, capRam := t.dev.capRam, baro := t.dev.baro, wave := t.dev.wave,
          tune := t.dev.tune, ex := t.dev.ex, memPort := t.dev.memPort } })) ∧
  (∀ (a : Acc) (v : BitVec 32) (s : State),
      s.settled = true →
      s.dev.ready 0x04 = true →
      a = accSteward →
      exec (.heartbeat a v) s = .next (s.ends [] [] { s.dev with stw := { s.dev.stw with hb := true } })) ∧
  (∀ (s : State),
      s.settled = true →
      s.dev.rd FW.HB_STAT_MISS = 3 →
      s.dev.gov.stale = false →
      exec .fwPolicyStale s = .next (s.ends (s.rings 3 (2 ^ 30) ++ [s.event Ev.FW_POLICY_STALE]) [] { (s.dev.wr
        MBOX.DB_DB ((s.dev.rd MBOX.DB_DB 0 3) ||| 2 ^ 30) 0 3) with
        gov := { s.dev.gov with stale := true, staleBeats := 0, safe := false } })) ∧
  (∀ (s : State),
      s.settled = true →
      s.dev.rd FW.HB_STAT_MISS ≠ 3 ∨ s.dev.gov.stale = true →
      exec .fwPolicyStale s = .next (s.ends [] [] s.dev))

/-- IMAGE_BEGIN wipes the staging bank and the chunk map, IMAGE_CHUNK k copies its payload to offset 4096 k and marks
chunk k, IMAGE_SWAP starts the check with BUSY set and is not answered yet; the first two are answered OK. While a
swap runs all three are DENIED; a wrong length, or a chunk above 63, is BAD. IMAGE_CHECK_DONE of a failed check ends
the swap with its code, FW_IMAGE_BAD and the answer FAILED; of a passed one it sends SWAP_NOTICE with the grace to a
running Steward, or performs steps 1 and 2 of the swap for another; where no check runs it does nothing. SWAP_READY,
or SWAP_GRACE_END, during the grace performs steps 1 and 2: FW_SWAP_START, the core reset of the Steward with MB_HS
and MB_WS aborted and its claims ended, and the Steward held. Without a grace SWAP_READY is only taken and
SWAP_GRACE_END does nothing. The next steps turn the banks, then start the Steward with its SVN and version, count the
swap, set RESULT 1, clear BUSY and answer OK. A word on MB_HW or MB_SW with an operation outside its catalogue is
answered UNKNOWN; an answer is only taken; with no word or no core up nothing happens. That the steps of a swap follow
at successive beat strobes (log entry 89), and UNKNOWN by any row, BAD before DENIED and DENIED for IMAGE_SWAP in a
swap (log entry 55), are the model's choice. Rests on: R418, R419, R420, R421, R408, R409, R414. -/
def Obligations.ImageLoadingAndSwap : Prop :=
  (∀ (s : State),
      s.settled = true →
      s.dev.asks 0 0x10 0 = true →
      s.swapping = false →
      exec .imageBegin s = .next (s.ends (s.answerRings 0) [] { (s.dev.answered 0 0 []) with
        stw := { s.dev.stw with staging := [], chunks := [] } })) ∧
  (∀ (n : Nat) (s : State),
      s.settled = true →
      s.dev.asks 0 16 n = true →
      n ≠ 0 →
      exec .imageBegin s = .next (s.ends (s.answerRings 0) [] (s.dev.answered 0 2 []))) ∧
  (∀ (n : Nat) (s : State),
      s.settled = true →
      s.dev.asks 0 18 n = true →
      n ≠ 0 →
      exec .imageSwap s = .next (s.ends (s.answerRings 0) [] (s.dev.answered 0 2 []))) ∧
  (∀ (n : Nat) (s : State),
      s.settled = true →
      s.dev.asks 0 17 n = true →
      n = 0 ∨ 1024 < n ∨ 63 < msgARG (s.dev.mbWord 0) →
      exec .imageChunk s = .next (s.ends (s.answerRings 0) [] (s.dev.answered 0 2 []))) ∧
  (∀ (n : Nat) (s : State),
      s.settled = true →
      s.dev.asks 0 16 n = true →
      n = 0 →
      s.swapping = true →
      exec .imageBegin s = .next (s.ends (s.answerRings 0) [] (s.dev.answered 0 3 []))) ∧
  (∀ (n : Nat) (s : State),
      s.settled = true →
      s.dev.asks 0 17 n = true →
      1 ≤ n ∧ n ≤ 1024 ∧ msgARG (s.dev.mbWord 0) ≤ 63 →
      s.swapping = true →
      exec .imageChunk s = .next (s.ends (s.answerRings 0) [] (s.dev.answered 0 3 []))) ∧
  (∀ (n : Nat) (s : State),
      s.settled = true →
      s.dev.asks 0 18 n = true →
      n = 0 →
      s.swapping = true →
      exec .imageSwap s = .next (s.ends (s.answerRings 0) [] (s.dev.answered 0 3 []))) ∧
  (∀ (n : Nat) (s : State),
      let u : Dev := s.dev.answered 0 0 []
      s.settled = true →
      s.dev.asks 0 0x11 n = true →
      1 ≤ n →
      n ≤ 1024 →
      msgARG (s.dev.mbWord 0) ≤ 63 →
      s.swapping = false →
      exec .imageChunk s = .next (s.ends (s.answerRings 0) [] { u with
        stw := { u.stw with
          staging := s.dev.stw.staging.writeBytes (4096 * msgARG (s.dev.mbWord 0)) (s.dev.mbBytes 0),
          chunks := insertAsc (msgARG (s.dev.mbWord 0)) s.dev.stw.chunks } })) ∧
  (∀ (s : State),
      s.settled = true →
      s.dev.asks 0 0x12 0 = true →
      s.swapping = false →
      exec .imageSwap s = .next (s.ends [] [] { ((s.dev.wr MBOX.STAT_FULL 0 0 0).wr FW.SWAP_STAT_BUSY 1) with
        wrd := { s.dev.wrd with swap := .check (msgTAG (s.dev.mbWord 0)) } })) ∧
  (∀ (g : Nat) (s : State),
      let u : Nat → Dev := fun c => ((s.dev.wr FW.SWAP_STAT_BUSY 0).wr FW.SWAP_STAT_RESULT c).posts 1 (putAt 0x92 24 +
        putAt g 20 + putAt 1 9 + putAt 5 5) (leBytes 4 c)
      let n : Dev := s.dev.posts 5 (putAt 0x30 24 + s.dev.rd FW.SWAP_GRACE) []
      s.settled = true →
      s.dev.wrd.swap = .check g →
      s.dev.sendIdle = true →
      s.dev.stw.st = .run →
      exec .imageCheckDone s = .next ((match s.imageCheck with | some c => s.ends (s.postRings 1 ++ [s.event
                                                                 Ev.FW_IMAGE_BAD c]) [] { u c with
                                                                 wrd := { (u c).wrd with swap := .none } } | none =>
                                                                 s.ends [] [] { n with
                                                                 wrd := { n.wrd with swap := .grace g } }))) ∧
  (∀ (g : Nat) (s : State),
      let u : Nat → Dev := fun c => ((s.dev.wr FW.SWAP_STAT_BUSY 0).wr FW.SWAP_STAT_RESULT c).posts 1 (putAt 0x92 24 +
        putAt g 20 + putAt 1 9 + putAt 5 5) (leBytes 4 c)
      s.settled = true →
      s.dev.stw.st ≠ .run →
      s.dev.sendIdle = true →
      s.dev.wrd.swap = .check g →
      s.dev.tune.running = false →
      s.dev.baro.snap = none →
      Reaches (.imageCheckDone) s (fun t => (if s.imageCheck.isSome = true then t = s.ends (s.postRings 1 ++ [s.event
        Ev.FW_IMAGE_BAD (s.imageCheck.getD 0)]) [] { u (s.imageCheck.getD 0) with
        wrd := { (u (s.imageCheck.getD 0)).wrd with swap := .none } } else t.dev.stw = { s.dev.stw with
        st := .swap, hb := false, first := false, okDue := false, newImage := false, wake := false,
        periods := [0, 0, 0, 0, 0], noticeAt := none, out := [], grant := none, askDue := false }
        ∧ t.dev.wrd = { s.dev.wrd with swap := .held (some g), wake := t.dev.wrd.wake } ∧ t.dev.mbFull 2 = false
        ∧ t.dev.rd MBOX.STAT_ABORTED 0 2 = 1 ∧ t.dev.rd MBOX.DB_DB 0 2 = 0 ∧ t.dev.rd MBOX.DB_DB 0 3 = (s.dev.rd
        MBOX.DB_DB 0 3 ||| 2 ^ 31) % 2 ^ 32 ∧ t.dev.mbFull 5 = false ∧ t.dev.rd MBOX.STAT_ABORTED 0 5 = 1
        ∧ t.dev.rd MBOX.DB_DB 0 5 = 0 ∧ t.dev.rd MBOX.DB_DB 0 4 = (s.dev.rd MBOX.DB_DB 0 4 ||| 2 ^ 31) % 2 ^ 32
        ∧ t.dev.mbox = { s.dev.mbox with buf := (s.dev.mbox.buf.clear 0x2000 0x1000).clear 0x5000 0x1000 }
        ∧ t.dev.gov = (if s.dev.stw.ran && !s.dev.gov.stale then { s.dev.gov with
        stale := true, staleBeats := 0, safe := false } else s.dev.gov) ∧ (∀ r ∈ List.range 26, t.dev.owner r = (if
        (s.dev.owner r).kind = 1 ∧ (s.dev.owner r).path = 2 then {} else s.dev.owner r)) ∧ t = { s with
        hdr := s.hdr.enterAll (s.rings 3 (2 ^ 31) ++ [s.event Ev.MBOX_ABORTED 2, s.event Ev.MBOX_ABORTED 5, s.event
          Ev.FW_SWAP_START, s.event Ev.FW_STW_RESET]), dev := { s.dev with
          out := [], stw := t.dev.stw, wrd := t.dev.wrd, regs := t.dev.regs, mbox := t.dev.mbox, gov := t.dev.gov,
          claims := t.dev.claims, capRam := t.dev.capRam, baro := t.dev.baro, wave := t.dev.wave } }
        ∧ RegsAgree [MBOX.STAT_FULL.key 0 2, MBOX.STAT_ABORTED.key 0 2, MBOX.DB_DB.key 0 2, MBOX.STAT_FULL.key 0 3,
        MBOX.STAT_ABORTED.key 0 3, MBOX.DB_DB.key 0 3, MBOX.STAT_FULL.key 0 4, MBOX.STAT_ABORTED.key 0 4,
        MBOX.DB_DB.key 0 4, MBOX.STAT_FULL.key 0 5, MBOX.STAT_ABORTED.key 0 5, MBOX.DB_DB.key 0 5, CLAIM.TMR_RUN.key 0
        0, CLAIM.TMR_RUN.key 0 1, CLAIM.TMR_RUN.key 0 2, CLAIM.TMR_RUN.key 0 3, CLAIM.TMR_RUN.key 0 4,
        CLAIM.TMR_RUN.key 0 5, CLAIM.TMR_RUN.key 0 6, CLAIM.TMR_RUN.key 0 7, CLAIM.TMR_RUN.key 0 8, CLAIM.TMR_RUN.key
        0 9, CLAIM.TMR_RUN.key 0 10, CLAIM.TMR_RUN.key 0 11, CLAIM.TMR_RUN.key 0 12, CLAIM.TMR_RUN.key 0 13,
        CLAIM.TMR_RUN.key 0 14, CLAIM.TMR_RUN.key 0 15] s.dev.regs t.dev.regs))) ∧
  (∀ (s : State),
      s.settled = true →
      (∀ g ∈ List.range 16, s.dev.wrd.swap ≠ .check g) →
      s.dev.wrd.swap.staged = false →
      exec .imageCheckDone s = .next (s.ends [] [] s.dev)) ∧
  (∀ (n : Nat) (s : State),
      s.settled = true →
      s.dev.asks 4 0x24 n = true →
      (∀ g ∈ List.range 16, s.dev.wrd.swap ≠ .grace g) →
      s.dev.wrd.swap = .none ∨ s.dev.wrd.swap.staged = false →
      exec .swapReady s = .next (s.ends [] [] (s.dev.wr MBOX.STAT_FULL 0 0 4))) ∧
  (∀ (s : State),
      s.settled = true →
      s.dev.wrd.swap = .none →
      exec .swapGraceEnd s = .next (s.ends [] [] s.dev)) ∧
  (∀ (g : Nat) (n : Nat) (s : State),
      s.settled = true →
      s.dev.asks 4 0x24 n = true →
      n ≤ 1024 →
      s.dev.wrd.swap = .grace g →
      s.dev.tune.running = false →
      s.dev.baro.snap = none →
      Reaches (.swapReady) s (fun t => t.dev.stw = { s.dev.stw with
        st := .swap, hb := false, first := false, okDue := false, newImage := false, wake := false,
        periods := [0, 0, 0, 0, 0], noticeAt := none, out := [], grant := none, askDue := false }
        ∧ t.dev.wrd = { s.dev.wrd with swap := .held (some g), wake := t.dev.wrd.wake } ∧ t.dev.mbFull 2 = false
        ∧ t.dev.rd MBOX.STAT_ABORTED 0 2 = 1 ∧ t.dev.rd MBOX.DB_DB 0 2 = 0 ∧ t.dev.rd MBOX.DB_DB 0 3 = (s.dev.rd
        MBOX.DB_DB 0 3 ||| 2 ^ 31) % 2 ^ 32 ∧ t.dev.mbFull 5 = false ∧ t.dev.rd MBOX.STAT_ABORTED 0 5 = 1
        ∧ t.dev.rd MBOX.DB_DB 0 5 = 0 ∧ t.dev.rd MBOX.DB_DB 0 4 = (s.dev.rd MBOX.DB_DB 0 4 ||| 2 ^ 31) % 2 ^ 32
        ∧ t.dev.mbox = { s.dev.mbox with buf := (s.dev.mbox.buf.clear 0x2000 0x1000).clear 0x5000 0x1000 }
        ∧ t.dev.gov = (if s.dev.stw.ran && !s.dev.gov.stale then { s.dev.gov with
        stale := true, staleBeats := 0, safe := false } else s.dev.gov) ∧ (∀ r ∈ List.range 26, t.dev.owner r = (if
        (s.dev.owner r).kind = 1 ∧ (s.dev.owner r).path = 2 then {} else s.dev.owner r)) ∧ t = { s with
        hdr := s.hdr.enterAll (s.rings 3 (2 ^ 31) ++ [s.event Ev.MBOX_ABORTED 2, s.event Ev.MBOX_ABORTED 5, s.event
          Ev.FW_SWAP_START, s.event Ev.FW_STW_RESET]), dev := { s.dev with
          out := [], stw := t.dev.stw, wrd := t.dev.wrd, regs := t.dev.regs, mbox := t.dev.mbox, gov := t.dev.gov,
          claims := t.dev.claims, capRam := t.dev.capRam, baro := t.dev.baro, wave := t.dev.wave } }
        ∧ RegsAgree [MBOX.STAT_FULL.key 0 2, MBOX.STAT_ABORTED.key 0 2, MBOX.DB_DB.key 0 2, MBOX.STAT_FULL.key 0 3,
        MBOX.STAT_ABORTED.key 0 3, MBOX.DB_DB.key 0 3, MBOX.STAT_FULL.key 0 4, MBOX.STAT_ABORTED.key 0 4,
        MBOX.DB_DB.key 0 4, MBOX.STAT_FULL.key 0 5, MBOX.STAT_ABORTED.key 0 5, MBOX.DB_DB.key 0 5, CLAIM.TMR_RUN.key 0
        0, CLAIM.TMR_RUN.key 0 1, CLAIM.TMR_RUN.key 0 2, CLAIM.TMR_RUN.key 0 3, CLAIM.TMR_RUN.key 0 4,
        CLAIM.TMR_RUN.key 0 5, CLAIM.TMR_RUN.key 0 6, CLAIM.TMR_RUN.key 0 7, CLAIM.TMR_RUN.key 0 8, CLAIM.TMR_RUN.key
        0 9, CLAIM.TMR_RUN.key 0 10, CLAIM.TMR_RUN.key 0 11, CLAIM.TMR_RUN.key 0 12, CLAIM.TMR_RUN.key 0 13,
        CLAIM.TMR_RUN.key 0 14, CLAIM.TMR_RUN.key 0 15, MBOX.STAT_FULL.key 0 4] s.dev.regs t.dev.regs)) ∧
  (∀ (g : Nat) (s : State),
      s.settled = true →
      s.dev.wrd.swap = .grace g →
      s.dev.tune.running = false →
      s.dev.baro.snap = none →
      Reaches (.swapGraceEnd) s (fun t => t.dev.stw = { s.dev.stw with
        st := .swap, hb := false, first := false, okDue := false, newImage := false, wake := false,
        periods := [0, 0, 0, 0, 0], noticeAt := none, out := [], grant := none, askDue := false }
        ∧ t.dev.wrd = { s.dev.wrd with swap := .held (some g), wake := t.dev.wrd.wake } ∧ t.dev.mbFull 2 = false
        ∧ t.dev.rd MBOX.STAT_ABORTED 0 2 = 1 ∧ t.dev.rd MBOX.DB_DB 0 2 = 0 ∧ t.dev.rd MBOX.DB_DB 0 3 = (s.dev.rd
        MBOX.DB_DB 0 3 ||| 2 ^ 31) % 2 ^ 32 ∧ t.dev.mbFull 5 = false ∧ t.dev.rd MBOX.STAT_ABORTED 0 5 = 1
        ∧ t.dev.rd MBOX.DB_DB 0 5 = 0 ∧ t.dev.rd MBOX.DB_DB 0 4 = (s.dev.rd MBOX.DB_DB 0 4 ||| 2 ^ 31) % 2 ^ 32
        ∧ t.dev.mbox = { s.dev.mbox with buf := (s.dev.mbox.buf.clear 0x2000 0x1000).clear 0x5000 0x1000 }
        ∧ t.dev.gov = (if s.dev.stw.ran && !s.dev.gov.stale then { s.dev.gov with
        stale := true, staleBeats := 0, safe := false } else s.dev.gov) ∧ (∀ r ∈ List.range 26, t.dev.owner r = (if
        (s.dev.owner r).kind = 1 ∧ (s.dev.owner r).path = 2 then {} else s.dev.owner r)) ∧ t = { s with
        hdr := s.hdr.enterAll (s.rings 3 (2 ^ 31) ++ [s.event Ev.MBOX_ABORTED 2, s.event Ev.MBOX_ABORTED 5, s.event
          Ev.FW_SWAP_START, s.event Ev.FW_STW_RESET]), dev := { s.dev with
          out := [], stw := t.dev.stw, wrd := t.dev.wrd, regs := t.dev.regs, mbox := t.dev.mbox, gov := t.dev.gov,
          claims := t.dev.claims, capRam := t.dev.capRam, baro := t.dev.baro, wave := t.dev.wave } }
        ∧ RegsAgree [MBOX.STAT_FULL.key 0 2, MBOX.STAT_ABORTED.key 0 2, MBOX.DB_DB.key 0 2, MBOX.STAT_FULL.key 0 3,
        MBOX.STAT_ABORTED.key 0 3, MBOX.DB_DB.key 0 3, MBOX.STAT_FULL.key 0 4, MBOX.STAT_ABORTED.key 0 4,
        MBOX.DB_DB.key 0 4, MBOX.STAT_FULL.key 0 5, MBOX.STAT_ABORTED.key 0 5, MBOX.DB_DB.key 0 5, CLAIM.TMR_RUN.key 0
        0, CLAIM.TMR_RUN.key 0 1, CLAIM.TMR_RUN.key 0 2, CLAIM.TMR_RUN.key 0 3, CLAIM.TMR_RUN.key 0 4,
        CLAIM.TMR_RUN.key 0 5, CLAIM.TMR_RUN.key 0 6, CLAIM.TMR_RUN.key 0 7, CLAIM.TMR_RUN.key 0 8, CLAIM.TMR_RUN.key
        0 9, CLAIM.TMR_RUN.key 0 10, CLAIM.TMR_RUN.key 0 11, CLAIM.TMR_RUN.key 0 12, CLAIM.TMR_RUN.key 0 13,
        CLAIM.TMR_RUN.key 0 14, CLAIM.TMR_RUN.key 0 15] s.dev.regs t.dev.regs)) ∧
  (∀ (s : State) (tag : Option Nat), s.dev.wrd.swap = .held tag →
      s.swapStep = { s with
        dev := { s.dev with
          stw := { s.dev.stw with
            bank := 1 - s.dev.stw.bank, active := s.dev.stw.staging, staging := [], chunks := [] },
          wrd := { s.dev.wrd with swap := .turned tag } } }) ∧
  (∀ (s : State) (g : Nat), s.dev.wrd.swap = .turned (some g) →
      imgRaise s.dev.stw.active = false →
      s.dev.stw.out = [] →
      s.dev.sendIdle = true →
      let u : Dev := (((((s.dev.wr FW.STW_STAT_SVN (imgSvn s.dev.stw.active)).wr FW.STW_VERSION_VERSION
        (s.dev.stw.active.readLE 8 4)).wr FW.SWAP_STAT_BUSY 0).bump FW.SWAP_STAT_SWAPS).wr FW.SWAP_STAT_RESULT
        1).posts 1 (putAt 0x92 24 + putAt g 20 + putAt 0 9 + putAt 0 5) []
      s.swapStep = { s with
        dev := { u with
          evq := s.swapStep.dev.evq, evd := s.swapStep.dev.evd,
          stw := { s.dev.stw with st := .run, ran := true, newImage := true }, wrd := { u.wrd with swap := .none } }
          }) ∧
  (∀ c ∈ ([.imageBegin, .imageChunk, .imageSwap] : List Instr), ∀ (s : State),
      s.settled = true →
      s.dev.coreUp 0 = false ∨ s.dev.mbFull 0 = false →
      exec c s = .next (s.ends [] [] s.dev)) ∧
  (∀ c ∈ ([.imageBegin, .imageChunk, .imageSwap] : List Instr), ∀ (s : State),
      s.settled = true →
      s.dev.coreUp 0 = true →
      s.dev.mbFull 0 = true →
      (catalogue 0).contains (msgOP (s.dev.mbWord 0)) = false →
      msgOP (s.dev.mbWord 0) < 0x80 →
      s.dev.sendIdle = true →
      exec c s = .next (s.ends (s.answerRings 0) [] (s.dev.answered 0 4 []))) ∧
  (∀ c ∈ ([.imageBegin, .imageChunk, .imageSwap] : List Instr), ∀ (s : State),
      s.settled = true →
      s.dev.coreUp 0 = true →
      s.dev.mbFull 0 = true →
      0x80 ≤ msgOP (s.dev.mbWord 0) →
      s.dev.sendIdle = true →
      exec c s = .next (s.ends [] [] (s.dev.wr MBOX.STAT_FULL 0 0 0))) ∧
  (∀ c ∈ ([.swapReady] : List Instr), ∀ (s : State),
      s.settled = true →
      s.dev.coreUp 4 = false ∨ s.dev.mbFull 4 = false →
      exec c s = .next (s.ends [] [] s.dev)) ∧
  (∀ c ∈ ([.swapReady] : List Instr), ∀ (s : State),
      s.settled = true →
      s.dev.coreUp 4 = true →
      s.dev.mbFull 4 = true →
      (catalogue 4).contains (msgOP (s.dev.mbWord 4)) = false →
      msgOP (s.dev.mbWord 4) < 0x80 →
      s.dev.sendIdle = true →
      exec c s = .next (s.ends (s.answerRings 4) [] (s.dev.answered 4 4 []))) ∧
  (∀ c ∈ ([.swapReady] : List Instr), ∀ (s : State),
      s.settled = true →
      s.dev.coreUp 4 = true →
      s.dev.mbFull 4 = true →
      0x80 ≤ msgOP (s.dev.mbWord 4) →
      s.dev.sendIdle = true →
      exec c s = .next (s.ends [] [] (s.dev.wr MBOX.STAT_FULL 0 0 4)))

/-- GRANT of two words writes WATTS, VALID_MS and SEQ, submits them and keeps its TAG for the answer after the next
BUDGET tick; WATTS rising above HARD_GRANT raises BUDGET_CLAMP, VALID_MS 0 is refused with BUDGET_BAD_VALUE, and where
the field is 0 the submission is refused with another; while a GRANT waits for its answer the next one waits. POLICY
writes MODE and LEVEL_MAX of GOV.CTRL, with GOV_CLAMP where LEVEL_MAX rises above HARD_LEVEL, and TELEM_CFG the period
of a set; PING answers the image version. Each but GRANT is answered OK, a wrong LEN or set BAD; at shed level 2
POLICY, TELEM_CFG and PING BUSY with RETRY. TELEMETRY of a set with its period set sends OP 0x40 with the set number
and the 8, 17, 33, 6 or 9 words of the set, as the Steward reads their registers, on a MB_SH that is not FULL and not
slowed by shedding; else nothing. ASK sends the ASK register once for each ask published. BARO is answered with the
status and payload that the spec leaves open. A word on MB_HS with an operation outside its catalogue is answered
UNKNOWN; an answer is only taken; with no word or no Steward nothing happens. The second GRANT that waits, UNKNOWN by
any row and which requests are BUSY (log entry 55), and the payload of BARO (log entry 15), are the model's choice.
Rests on: R369, R370, R108, R409, R414, R415, R416, R424. -/
def Obligations.StewardAnswersRequests : Prop :=
  (∀ (s : State),
      s.settled = true →
      s.dev.asks 2 1 2 = true →
      s.dev.stw.grant = none →
      s.dev.ready 0x1A = true →
      (s.dev.mbPayload 2 0 / 2 ^ 16) ≠ 0 →
      (s.dev.mbPayload 2 0 % 2 ^ 16) ≤ s.dev.rd BUDGET.HARD_GRANT_HARD_GRANT
        ∨ s.dev.rd BUDGET.HARD_GRANT_HARD_GRANT < s.dev.rd BUDGET.GRANT0_WATTS →
      exec .grant s = .next (s.ends [] [] { (((((s.dev.wr MBOX.STAT_FULL 0 0 2).wr BUDGET.GRANT0_WATTS
        (s.dev.mbPayload 2 0 % 2 ^ 16)).wr BUDGET.GRANT0_VALID_MS (s.dev.mbPayload 2 0 / 2 ^ 16)).wr BUDGET.GRANT1_SEQ
        (s.dev.mbPayload 2 1 % 2 ^ 16)).wr BUDGET.GRANT_STAT_PENDING 1) with
        bud := { s.dev.bud with
          sub := some ((s.dev.mbPayload 2 0 % 2 ^ 16), (s.dev.mbPayload 2 0 / 2 ^ 16), (s.dev.mbPayload 2 1 % 2 ^ 16))
            }, stw := { s.dev.stw with grant := some (msgTAG (s.dev.mbWord 2)) } })) ∧
  (∀ (s : State),
      s.settled = true →
      s.dev.asks 2 1 2 = true →
      s.dev.stw.grant = none →
      s.dev.ready 0x1A = true →
      (s.dev.mbPayload 2 0 / 2 ^ 16) = 0 →
      s.dev.rd BUDGET.GRANT0_VALID_MS ≠ 0 →
      (s.dev.mbPayload 2 0 % 2 ^ 16) ≤ s.dev.rd BUDGET.HARD_GRANT_HARD_GRANT
        ∨ s.dev.rd BUDGET.HARD_GRANT_HARD_GRANT < s.dev.rd BUDGET.GRANT0_WATTS →
      exec .grant s = .next (s.ends [s.event (Ev.badValue 0x1A)] [] { ((((s.dev.wr MBOX.STAT_FULL 0 0 2).wr
        BUDGET.GRANT0_WATTS (s.dev.mbPayload 2 0 % 2 ^ 16)).wr BUDGET.GRANT1_SEQ (s.dev.mbPayload 2 1 % 2 ^ 16)).wr
        BUDGET.GRANT_STAT_PENDING 1) with
        bud := { s.dev.bud with
          sub := some ((s.dev.mbPayload 2 0 % 2 ^ 16), s.dev.rd BUDGET.GRANT0_VALID_MS, (s.dev.mbPayload 2 1 % 2 ^
            16)) }, stw := { s.dev.stw with grant := some (msgTAG (s.dev.mbWord 2)) } })) ∧
  (∀ (s : State),
      s.settled = true →
      s.dev.asks 2 1 2 = true →
      s.dev.stw.grant = none →
      s.dev.ready 0x1A = true →
      (s.dev.mbPayload 2 0 / 2 ^ 16) = 0 →
      s.dev.rd BUDGET.GRANT0_VALID_MS = 0 →
      (s.dev.mbPayload 2 0 % 2 ^ 16) ≤ s.dev.rd BUDGET.HARD_GRANT_HARD_GRANT
        ∨ s.dev.rd BUDGET.HARD_GRANT_HARD_GRANT < s.dev.rd BUDGET.GRANT0_WATTS →
      exec .grant s = .next (s.ends [s.event (Ev.badValue 0x1A), s.event (Ev.badValue 0x1A)] [] { ((s.dev.wr
        MBOX.STAT_FULL 0 0 2).wr BUDGET.GRANT0_WATTS (s.dev.mbPayload 2 0 % 2 ^ 16)) with
        stw := { s.dev.stw with grant := some (msgTAG (s.dev.mbWord 2)) } })) ∧
  (∀ (s : State),
      s.settled = true →
      s.dev.asks 2 1 2 = true →
      s.dev.stw.grant = none →
      s.dev.ready 0x1A = true →
      (s.dev.mbPayload 2 0 / 2 ^ 16) ≠ 0 →
      s.dev.rd BUDGET.HARD_GRANT_HARD_GRANT < (s.dev.mbPayload 2 0 % 2 ^ 16) →
      s.dev.rd BUDGET.GRANT0_WATTS ≤ s.dev.rd BUDGET.HARD_GRANT_HARD_GRANT →
      exec .grant s = .next (s.ends [s.event (Ev.clamp 0x1A)] [] { (((((s.dev.wr MBOX.STAT_FULL 0 0 2).wr
        BUDGET.GRANT0_WATTS (s.dev.mbPayload 2 0 % 2 ^ 16)).wr BUDGET.GRANT0_VALID_MS (s.dev.mbPayload 2 0 / 2 ^
        16)).wr BUDGET.GRANT1_SEQ (s.dev.mbPayload 2 1 % 2 ^ 16)).wr BUDGET.GRANT_STAT_PENDING 1) with
        bud := { s.dev.bud with
          sub := some ((s.dev.mbPayload 2 0 % 2 ^ 16), (s.dev.mbPayload 2 0 / 2 ^ 16), (s.dev.mbPayload 2 1 % 2 ^ 16))
            }, stw := { s.dev.stw with grant := some (msgTAG (s.dev.mbWord 2)) } })) ∧
  (∀ (s : State),
      s.settled = true →
      msgOP (s.dev.mbWord 2) = 1 →
      s.dev.stw.grant.isSome = true →
      exec .grant s = .next (s.ends [] [] s.dev)) ∧
  (∀ (n : Nat) (s : State),
      s.settled = true →
      s.dev.asks 2 1 n = true →
      n ≠ 2 →
      s.dev.stw.grant = none →
      exec .grant s = .next (s.ends (s.answerRings 2) [] (s.dev.answered 2 2 []))) ∧
  (∀ (n : Nat) (s : State),
      s.settled = true →
      s.dev.asks 2 2 n = true →
      n ≠ 1 →
      exec .policy s = .next (s.ends (s.answerRings 2) [] (s.dev.answered 2 2 []))) ∧
  (∀ (n : Nat) (s : State),
      s.settled = true →
      s.dev.asks 2 3 n = true →
      n ≠ 1 ∨ 4 < bitsAt (s.dev.mbPayload 2 0) 16 8 →
      exec .telemCfg s = .next (s.ends (s.answerRings 2) [] (s.dev.answered 2 2 []))) ∧
  (∀ (n : Nat) (s : State),
      s.settled = true →
      s.dev.asks 2 6 n = true →
      n ≠ 0 →
      exec .ping s = .next (s.ends (s.answerRings 2) [] (s.dev.answered 2 2 []))) ∧
  (∀ (s : State),
      s.settled = true →
      s.dev.stw.st = .run →
      s.dev.mbFull 2 = true →
      msgOP (s.dev.mbWord 2) = 2 →
      msgLEN (s.dev.mbWord 2) ≤ 1024 →
      s.dev.sendIdle = true →
      s.dev.rd FW.STW_LOAD_SHED = 2 →
      exec .policy s = .next (s.ends (s.answerRings 2) [] ((s.dev.wr MBOX.STAT_FULL 0 0 2).posts 3 (s.dev.answerWord 2
        1 0 + s.dev.rd FW.SHED_RETRY) []))) ∧
  (∀ (s : State),
      s.settled = true →
      s.dev.stw.st = .run →
      s.dev.mbFull 2 = true →
      msgOP (s.dev.mbWord 2) = 3 →
      msgLEN (s.dev.mbWord 2) ≤ 1024 →
      s.dev.sendIdle = true →
      s.dev.rd FW.STW_LOAD_SHED = 2 →
      exec .telemCfg s = .next (s.ends (s.answerRings 2) [] ((s.dev.wr MBOX.STAT_FULL 0 0 2).posts 3 (s.dev.answerWord
        2 1 0 + s.dev.rd FW.SHED_RETRY) []))) ∧
  (∀ (s : State),
      s.settled = true →
      s.dev.stw.st = .run →
      s.dev.mbFull 2 = true →
      msgOP (s.dev.mbWord 2) = 6 →
      msgLEN (s.dev.mbWord 2) ≤ 1024 →
      s.dev.sendIdle = true →
      s.dev.rd FW.STW_LOAD_SHED = 2 →
      exec .ping s = .next (s.ends (s.answerRings 2) [] ((s.dev.wr MBOX.STAT_FULL 0 0 2).posts 3 (s.dev.answerWord 2 1
        0 + s.dev.rd FW.SHED_RETRY) []))) ∧
  (∀ (s : State),
      s.settled = true →
      s.dev.asks 2 2 1 = true →
      s.dev.ready 0x11 = true →
      bitsAt (s.dev.mbPayload 2 0) 16 6 ≤ s.dev.rd GOV.HARD_PL1_HARD_LEVEL
        ∨ s.dev.rd GOV.HARD_PL1_HARD_LEVEL < s.dev.rd GOV.CTRL_LEVEL_MAX →
      exec .policy s = .next (s.ends (s.answerRings 2) [] ((((s.dev.wr GOV.CTRL_HOLD_LEVEL_CAP (s.dev.rd
        GOV.CTRL_HOLD_LEVEL_CAP)).wr GOV.CTRL_MODE (bitsAt (s.dev.mbPayload 2 0) 24 2)).wr GOV.CTRL_LEVEL_MAX (bitsAt
        (s.dev.mbPayload 2 0) 16 6)).answered 2 0 []))) ∧
  (∀ (s : State),
      s.settled = true →
      s.dev.asks 2 2 1 = true →
      s.dev.ready 0x11 = true →
      s.dev.rd GOV.HARD_PL1_HARD_LEVEL < bitsAt (s.dev.mbPayload 2 0) 16 6 →
      s.dev.rd GOV.CTRL_LEVEL_MAX ≤ s.dev.rd GOV.HARD_PL1_HARD_LEVEL →
      exec .policy s = .next (s.ends (s.answerRings 2 ++ [s.event (Ev.clamp 0x11)]) [] ((((s.dev.wr
        GOV.CTRL_HOLD_LEVEL_CAP (s.dev.rd GOV.CTRL_HOLD_LEVEL_CAP)).wr GOV.CTRL_MODE (bitsAt (s.dev.mbPayload 2 0) 24
        2)).wr GOV.CTRL_LEVEL_MAX (bitsAt (s.dev.mbPayload 2 0) 16 6)).answered 2 0 []))) ∧
  (∀ (s : State),
      let u : Dev := s.dev.answered 2 0 []
      s.settled = true →
      s.dev.asks 2 3 1 = true →
      bitsAt (s.dev.mbPayload 2 0) 16 8 ≤ 4 →
      exec .telemCfg s = .next (s.ends (s.answerRings 2) [] { u with
        stw := { u.stw with
          periods := modAt s.dev.stw.periods (bitsAt (s.dev.mbPayload 2 0) 16 8) (fun _ => bitsAt (s.dev.mbPayload 2
            0) 0 16) } })) ∧
  (∀ (s : State),
      s.settled = true →
      s.dev.asks 2 6 0 = true →
      exec .ping s = .next (s.ends (s.answerRings 2) [] (s.dev.answered 2 0 (leBytes 4 (s.dev.rd
        FW.STW_VERSION_VERSION))))) ∧
  (∀ (n : Nat) (s : State),
      s.settled = true →
      s.dev.asks 2 5 n = true →
      n ≤ 1024 →
      exec .baro s = .next (s.ends (s.answerRings 2) [] (s.dev.answered 2 ((Config.baroAnswer (s.dev.mbBytes 2)).1 %
        6) ((Config.baroAnswer (s.dev.mbBytes 2)).2.take 4096)))) ∧
  (∀ (n : Nat) (s : State),
      s.settled = true →
      s.dev.asks 2 5 n = true →
      1024 < n →
      exec .baro s = .next (s.ends (s.answerRings 2) [] (s.dev.answered 2 2 []))) ∧
  (∀ (k : Nat) (s : State),
      let u : Dev := s.dev.holds 3 (putAt 0x40 24 + putAt ([8, 17, 33, 6, 9].getD k 0) 9 + k) (wordBytes
        (telemetryPack k (s.readAll (s.dev.telemetryRegs k)).2))
      s.settled = true →
      s.dev.stw.st = .run →
      s.dev.sendIdle = true →
      s.dev.mbFull 3 = false →
      k ≤ 4 →
      s.dev.stw.periods.getD k 0 ≠ 0 →
      s.dev.noticeSlow = false →
      (∀ a ∈ (s.dev.telemetryRegs k).filterMap id, s.dev.ready (a / 1024) = true) →
      exec (.telemetry k) s = .next (s.ends (s.rings 3 1) [] { u with
        snaps := (s.readAll (s.dev.telemetryRegs k)).1.dev.snaps,
        stw := { u.stw with noticeAt := some s.dev.tick.mono } })) ∧
  (∀ (k : Nat) (s : State),
      s.settled = true →
      s.dev.stw.st ≠ .run ∨ s.dev.stw.periods.getD k 0 = 0 ∨ s.dev.mbFull 3 = true ∨ s.dev.noticeSlow = true →
      exec (.telemetry k) s = .next (s.ends [] [] s.dev)) ∧
  (∀ (s : State),
      let u : Dev := s.dev.posts 3 (putAt 0x41 24 + putAt 1 9) (leBytes 4 (s.dev.rd BUDGET.ASK_W % 2 ^ 16 + putAt
        (s.dev.rd BUDGET.ASK_SEQ % 2 ^ BUDGET.ASK_SEQ.wid) BUDGET.ASK_SEQ.lo))
      s.settled = true →
      s.dev.stw.st = .run →
      s.dev.sendIdle = true →
      s.dev.stw.askDue = true →
      s.dev.ready 0x1A = true →
      exec .ask s = .next (s.ends (s.postRings 3) [] { u with stw := { u.stw with askDue := false } })) ∧
  (∀ (s : State),
      s.settled = true →
      s.dev.stw.st ≠ .run ∨ s.dev.stw.askDue = false →
      exec .ask s = .next (s.ends [] [] s.dev)) ∧
  (∀ c ∈ ([.grant, .policy, .telemCfg, .baro, .ping] : List Instr), ∀ (s : State),
      s.settled = true →
      s.dev.coreUp 2 = false ∨ s.dev.mbFull 2 = false →
      exec c s = .next (s.ends [] [] s.dev)) ∧
  (∀ c ∈ ([.grant, .policy, .telemCfg, .baro, .ping] : List Instr), ∀ (s : State),
      s.settled = true →
      s.dev.coreUp 2 = true →
      s.dev.mbFull 2 = true →
      (catalogue 2).contains (msgOP (s.dev.mbWord 2)) = false →
      msgOP (s.dev.mbWord 2) < 0x80 →
      s.dev.sendIdle = true →
      exec c s = .next (s.ends (s.answerRings 2) [] (s.dev.answered 2 4 []))) ∧
  (∀ c ∈ ([.grant, .policy, .telemCfg, .baro, .ping] : List Instr), ∀ (s : State),
      s.settled = true →
      s.dev.coreUp 2 = true →
      s.dev.mbFull 2 = true →
      0x80 ≤ msgOP (s.dev.mbWord 2) →
      s.dev.sendIdle = true →
      exec c s = .next (s.ends [] [] (s.dev.wr MBOX.STAT_FULL 0 0 2)))

/-- Each of the seven supported SPDM requests is answered OK on MB_SH: VERSION with the one entry 1.3; CAPABILITIES
with CTExponent 14, the certificate, challenge and signed-measurement flags and both sizes 4,096; ALGORITHMS with
ECDSA P-384 and SHA-384 where they are offered; DIGESTS and CERTIFICATE of slot 0 alone; CHALLENGE_AUTH with the
summary hash over all indices or none; MEASUREMENTS with the number of indices, one block or all six; the last two,
MEASUREMENTS where it asks, with the Warden's signature over the combined prefix and the digest behind them. Without
the chain or key that it needs the response is the error Unspecified; a request for another slot, summary, index or an
offset beyond the chain is answered InvalidRequest. Any other SPDM message is answered with the error
UnsupportedRequest and its code, an empty one, or one above 1,024 words, BAD. An OP on MB_HS outside its catalogue is
answered UNKNOWN; an answer is only taken; with no word or no Steward nothing happens. The layouts and codes of SPDM,
InvalidRequest, the empty message BAD, and the signature within the row are the model's (log entry 53, PRESUMED);
UNKNOWN by any row is the model's (log entry 55); the nonce and the type of a raw measurement are left open
(Config.spdmNonce, Config.spdmRawType). Rests on: R472, R474, R414, R415. -/
def Obligations.SpdmRequestsAnswered : Prop :=
  (∀ (n : Nat) (s : State),
      s.settled = true →
      s.dev.asks 2 4 n = true →
      1 ≤ n →
      n ≤ 1024 →
      (s.dev.mbBytes 2).getD 1 0 = 0x84 →
      exec .getVersion s = .next (s.ends (s.answerRings 2) [] { (s.dev.answered 2 0 (([0x10, 0x04, 0, 0, 0, 1, 0x00,
        0x13]).take 4096)) with wrd := { s.dev.wrd with fresh := s.dev.wrd.fresh + 1 } })) ∧
  (∀ (n : Nat) (s : State),
      s.settled = true →
      s.dev.asks 2 4 n = true →
      1 ≤ n →
      n ≤ 1024 →
      (s.dev.mbBytes 2).getD 1 0 = 0xE1 →
      exec .getCapabilities s = .next (s.ends (s.answerRings 2) [] { (s.dev.answered 2 0 (([0x13, 0x61, 0, 0, 0, 14,
        0, 0, 0x16, 0, 0, 0, 0, 16, 0, 0, 0, 16, 0, 0]).take 4096)) with
        wrd := { s.dev.wrd with fresh := s.dev.wrd.fresh + 1 } })) ∧
  (∀ (n : Nat) (s : State),
      s.settled = true →
      s.dev.asks 2 4 n = true →
      1 ≤ n →
      n ≤ 1024 →
      (s.dev.mbBytes 2).getD 1 0 = 0xE3 →
      exec .negotiateAlgorithms s = .next (s.ends (s.answerRings 2) [] { (s.dev.answered 2 0 (([0x13, 0x63, 0, 0, 36,
        0, (s.dev.mbBytes 2).getD 6 0 % 2, 0, 4 * ((s.dev.mbBytes 2).getD 6 0 % 2), 0, 0, 0] ++ leBytes 4 (if bitAt
        (ofLe (((s.dev.mbBytes 2).drop 8).take 4)) 7 = true then 0x80 else 0) ++ leBytes 4 (if bitAt (ofLe
        (((s.dev.mbBytes 2).drop 12).take 4)) 1 = true then 2 else 0) ++ List.replicate 16 0).take 4096)) with
        wrd := { s.dev.wrd with fresh := s.dev.wrd.fresh + 1 } })) ∧
  (∀ (n : Nat) (k : Nat) (h : List Nat) (s : State),
      s.settled = true →
      s.dev.asks 2 4 n = true →
      1 ≤ n →
      n ≤ 1024 →
      (s.dev.mbBytes 2).getD 1 0 = 0x81 →
      s.dev.wrd.key = some k →
      s.dev.wrd.prov.chain = some h →
      exec .getDigests s = .next (s.ends (s.answerRings 2) [] { (s.dev.answered 2 0 (([0x13, 0x01, 1, 1] ++
        digestBytes (Config.sha384 h)).take 4096)) with wrd := { s.dev.wrd with fresh := s.dev.wrd.fresh + 1 } })) ∧
  (∀ (n : Nat) (k : Nat) (h : List Nat) (s : State),
      let part : List Nat := (h.drop (ofLe (((s.dev.mbBytes 2).drop 4).take 2))).take (min 4088 (ofLe (((s.dev.mbBytes
        2).drop 6).take 2)))
      s.settled = true →
      s.dev.asks 2 4 n = true →
      1 ≤ n →
      n ≤ 1024 →
      (s.dev.mbBytes 2).getD 1 0 = 0x82 →
      s.dev.wrd.key = some k →
      s.dev.wrd.prov.chain = some h →
      (s.dev.mbBytes 2).getD 2 0 % 16 = 0 →
      ofLe (((s.dev.mbBytes 2).drop 4).take 2) < h.length →
      exec .getCertificate s = .next (s.ends (s.answerRings 2) [] { (s.dev.answered 2 0 (([0x13, 0x02, 0, 0] ++
        leBytes 2 part.length ++ leBytes 2 (h.length - ofLe (((s.dev.mbBytes 2).drop 4).take 2) - part.length) ++
        part).take 4096)) with wrd := { s.dev.wrd with fresh := s.dev.wrd.fresh + 1 } })) ∧
  (∀ (n : Nat) (k : Nat) (h : List Nat) (s : State),
      s.settled = true →
      s.dev.asks 2 4 n = true →
      1 ≤ n →
      n ≤ 1024 →
      (s.dev.mbBytes 2).getD 1 0 = 0x82 →
      s.dev.wrd.key = some k →
      s.dev.wrd.prov.chain = some h →
      (s.dev.mbBytes 2).getD 2 0 % 16 ≠ 0 ∨ h.length ≤ ofLe (((s.dev.mbBytes 2).drop 4).take 2) →
      exec .getCertificate s = .next (s.ends (s.answerRings 2) [] { (s.dev.answered 2 0 (([0x13, 0x7F, 0x01, 0]).take
        4096)) with wrd := { s.dev.wrd with fresh := s.dev.wrd.fresh + 1 } })) ∧
  (∀ (n : Nat) (k : Nat) (h : List Nat) (s : State),
      let resp : List Nat := [0x13, 0x03, 0, 1] ++ digestBytes (Config.sha384 h) ++ leBytes 32 (Config.spdmNonce
        s.dev.wrd.fresh) ++ (if (s.dev.mbBytes 2).getD 3 0 = 0xFF then digestBytes (Config.sha384 ([1, 2, 3, 4, 5,
        6].flatMap (fun i => [i, 1] ++ leBytes 2 (3 + measLen i) ++ [measType i] ++ leBytes 2 (measLen i) ++
        (s.dev.measurement i ++ List.replicate (measLen i) 0).take (measLen i)))) else []) ++ [0, 0] ++
        ((s.dev.mbBytes 2).drop 36).take 8
      let sig : Nat × Nat := Config.ecdsaSign k (Config.sha384 (spdmPrefix 1 ++ Config.spdmDigest (s.dev.mbBytes 2)
        resp)) (2 ^ 64 + s.dev.wrd.fresh)
      s.settled = true →
      s.dev.asks 2 4 n = true →
      1 ≤ n →
      n ≤ 1024 →
      (s.dev.mbBytes 2).getD 1 0 = 0x83 →
      s.dev.wrd.key = some k →
      s.dev.wrd.prov.chain = some h →
      (s.dev.mbBytes 2).getD 2 0 = 0 →
      (s.dev.mbBytes 2).getD 3 0 = 0 ∨ (s.dev.mbBytes 2).getD 3 0 = 0xFF →
      exec .challenge s = .next (s.ends (s.answerRings 2) [] { (s.dev.answered 2 0 ((resp ++ (be48 sig.1 ++ be48
        sig.2)).take 4096)) with wrd := { s.dev.wrd with fresh := s.dev.wrd.fresh + 1 } })) ∧
  (∀ (n : Nat) (s : State),
      s.settled = true →
      s.dev.asks 2 4 n = true →
      1 ≤ n →
      n ≤ 1024 →
      (s.dev.mbBytes 2).getD 1 0 = 0x83 →
      (s.dev.mbBytes 2).getD 2 0 ≠ 0 ∨ ((s.dev.mbBytes 2).getD 3 0 ≠ 0 ∧ (s.dev.mbBytes 2).getD 3 0 ≠ 0xFF) →
      exec .challenge s = .next (s.ends (s.answerRings 2) [] { (s.dev.answered 2 0 (([0x13, 0x7F, 0x01, 0]).take
        4096)) with wrd := { s.dev.wrd with fresh := s.dev.wrd.fresh + 1 } })) ∧
  (∀ (n : Nat) (s : State),
      let recs : List Nat := if (s.dev.mbBytes 2).getD 3 0 = 0xFF then [1, 2, 3, 4, 5, 6].flatMap (fun i => [i, 1] ++
        leBytes 2 (3 + measLen i) ++ [measType i] ++ leBytes 2 (measLen i) ++ (s.dev.measurement i ++ List.replicate
        (measLen i) 0).take (measLen i)) else if (s.dev.mbBytes 2).getD 3 0 = 0 then [] else (fun i => [i, 1] ++
        leBytes 2 (3 + measLen i) ++ [measType i] ++ leBytes 2 (measLen i) ++ (s.dev.measurement i ++ List.replicate
        (measLen i) 0).take (measLen i)) ((s.dev.mbBytes 2).getD 3 0)
      s.settled = true →
      s.dev.asks 2 4 n = true →
      1 ≤ n →
      n ≤ 1024 →
      (s.dev.mbBytes 2).getD 1 0 = 0xE0 →
      (s.dev.mbBytes 2).getD 3 0 ≤ 6 ∨ (s.dev.mbBytes 2).getD 3 0 = 0xFF →
      (s.dev.mbBytes 2).getD 2 0 % 2 = 0 →
      exec .getMeasurements s = .next (s.ends (s.answerRings 2) [] { (s.dev.answered 2 0 (([0x13, 0x60, if
        (s.dev.mbBytes 2).getD 3 0 = 0 then 6 else 0, 0] ++ [if (s.dev.mbBytes 2).getD 3 0 = 0xFF then 6 else if
        (s.dev.mbBytes 2).getD 3 0 = 0 then 0 else 1] ++ leBytes 3 recs.length ++ recs ++ leBytes 32 (Config.spdmNonce
        s.dev.wrd.fresh) ++ [0, 0] ++ ((s.dev.mbBytes 2).drop 4).take 8).take 4096)) with
        wrd := { s.dev.wrd with fresh := s.dev.wrd.fresh + 1 } })) ∧
  (∀ (n : Nat) (k : Nat) (h : List Nat) (s : State),
      let recs : List Nat := if (s.dev.mbBytes 2).getD 3 0 = 0xFF then [1, 2, 3, 4, 5, 6].flatMap (fun i => [i, 1] ++
        leBytes 2 (3 + measLen i) ++ [measType i] ++ leBytes 2 (measLen i) ++ (s.dev.measurement i ++ List.replicate
        (measLen i) 0).take (measLen i)) else if (s.dev.mbBytes 2).getD 3 0 = 0 then [] else (fun i => [i, 1] ++
        leBytes 2 (3 + measLen i) ++ [measType i] ++ leBytes 2 (measLen i) ++ (s.dev.measurement i ++ List.replicate
        (measLen i) 0).take (measLen i)) ((s.dev.mbBytes 2).getD 3 0)
      let resp : List Nat := [0x13, 0x60, if (s.dev.mbBytes 2).getD 3 0 = 0 then 6 else 0, 0] ++ [if (s.dev.mbBytes
        2).getD 3 0 = 0xFF then 6 else if (s.dev.mbBytes 2).getD 3 0 = 0 then 0 else 1] ++ leBytes 3 recs.length ++
        recs ++ leBytes 32 (Config.spdmNonce s.dev.wrd.fresh) ++ [0, 0] ++ ((s.dev.mbBytes 2).drop 37).take 8
      let sig : Nat × Nat := Config.ecdsaSign k (Config.sha384 (spdmPrefix 2 ++ Config.spdmDigest (s.dev.mbBytes 2)
        resp)) (2 ^ 64 + s.dev.wrd.fresh)
      s.settled = true →
      s.dev.asks 2 4 n = true →
      1 ≤ n →
      n ≤ 1024 →
      (s.dev.mbBytes 2).getD 1 0 = 0xE0 →
      s.dev.wrd.key = some k →
      s.dev.wrd.prov.chain = some h →
      (s.dev.mbBytes 2).getD 3 0 ≤ 6 ∨ (s.dev.mbBytes 2).getD 3 0 = 0xFF →
      (s.dev.mbBytes 2).getD 2 0 % 2 = 1 →
      (s.dev.mbBytes 2).getD 36 0 % 16 = 0 →
      exec .getMeasurements s = .next (s.ends (s.answerRings 2) [] { (s.dev.answered 2 0 ((resp ++ (be48 sig.1 ++ be48
        sig.2)).take 4096)) with wrd := { s.dev.wrd with fresh := s.dev.wrd.fresh + 1 } })) ∧
  (∀ (n : Nat) (s : State),
      s.settled = true →
      s.dev.asks 2 4 n = true →
      1 ≤ n →
      n ≤ 1024 →
      (s.dev.mbBytes 2).getD 1 0 = 0xE0 →
      (6 < (s.dev.mbBytes 2).getD 3 0 ∧ (s.dev.mbBytes 2).getD 3 0 ≠ 0xFF) ∨ ((s.dev.mbBytes 2).getD 2 0 % 2 = 1
        ∧ (s.dev.mbBytes 2).getD 36 0 % 16 ≠ 0) →
      exec .getMeasurements s = .next (s.ends (s.answerRings 2) [] { (s.dev.answered 2 0 (([0x13, 0x7F, 0x01, 0]).take
        4096)) with wrd := { s.dev.wrd with fresh := s.dev.wrd.fresh + 1 } })) ∧
  (∀ (n : Nat) (s : State),
      s.settled = true →
      s.dev.asks 2 4 n = true →
      1 ≤ n →
      n ≤ 1024 →
      (s.dev.mbBytes 2).getD 1 0 = 0x81 →
      s.dev.wrd.key = none ∨ s.dev.wrd.prov.chain = none →
      exec .getDigests s = .next (s.ends (s.answerRings 2) [] { (s.dev.answered 2 0 (([0x13, 0x7F, 0x05, 0]).take
        4096)) with wrd := { s.dev.wrd with fresh := s.dev.wrd.fresh + 1 } })) ∧
  (∀ (n : Nat) (s : State),
      s.settled = true →
      s.dev.asks 2 4 n = true →
      1 ≤ n →
      n ≤ 1024 →
      (s.dev.mbBytes 2).getD 1 0 = 0x82 →
      s.dev.wrd.key = none ∨ s.dev.wrd.prov.chain = none →
      exec .getCertificate s = .next (s.ends (s.answerRings 2) [] { (s.dev.answered 2 0 (([0x13, 0x7F, 0x05, 0]).take
        4096)) with wrd := { s.dev.wrd with fresh := s.dev.wrd.fresh + 1 } })) ∧
  (∀ (n : Nat) (s : State),
      s.settled = true →
      s.dev.asks 2 4 n = true →
      1 ≤ n →
      n ≤ 1024 →
      (s.dev.mbBytes 2).getD 1 0 = 0x83 →
      s.dev.wrd.key = none ∨ s.dev.wrd.prov.chain = none →
      (s.dev.mbBytes 2).getD 2 0 = 0 →
      (s.dev.mbBytes 2).getD 3 0 = 0 ∨ (s.dev.mbBytes 2).getD 3 0 = 0xFF →
      exec .challenge s = .next (s.ends (s.answerRings 2) [] { (s.dev.answered 2 0 (([0x13, 0x7F, 0x05, 0]).take
        4096)) with wrd := { s.dev.wrd with fresh := s.dev.wrd.fresh + 1 } })) ∧
  (∀ (n : Nat) (s : State),
      s.settled = true →
      s.dev.asks 2 4 n = true →
      1 ≤ n →
      n ≤ 1024 →
      (s.dev.mbBytes 2).getD 1 0 = 0xE0 →
      s.dev.wrd.key = none ∨ s.dev.wrd.prov.chain = none →
      (s.dev.mbBytes 2).getD 3 0 ≤ 6 ∨ (s.dev.mbBytes 2).getD 3 0 = 0xFF →
      (s.dev.mbBytes 2).getD 2 0 % 2 = 1 →
      (s.dev.mbBytes 2).getD 36 0 % 16 = 0 →
      exec .getMeasurements s = .next (s.ends (s.answerRings 2) [] { (s.dev.answered 2 0 (([0x13, 0x7F, 0x05, 0]).take
        4096)) with wrd := { s.dev.wrd with fresh := s.dev.wrd.fresh + 1 } })) ∧
  (∀ (n : Nat) (s : State),
      s.settled = true →
      s.dev.asks 2 4 n = true →
      1 ≤ n →
      n ≤ 1024 →
      (s.dev.mbBytes 2).getD 1 0 ∉ [0x84, 0xE1, 0xE3, 0x81, 0x82, 0x83, 0xE0] →
      exec .spdmUnsupported s = .next (s.ends (s.answerRings 2) [] (s.dev.answered 2 0 [0x13, 0x7F, 0x07,
        (s.dev.mbBytes 2).getD 1 0]))) ∧
  (∀ (s : State),
      s.settled = true →
      s.dev.asks 2 4 0 = true →
      exec .spdmUnsupported s = .next (s.ends (s.answerRings 2) [] (s.dev.answered 2 2 []))) ∧
  (∀ (n : Nat) (s : State),
      s.settled = true →
      s.dev.asks 2 4 n = true →
      1024 < n →
      (s.dev.mbBytes 2).getD 1 0 = 0x84 →
      exec .getVersion s = .next (s.ends (s.answerRings 2) [] (s.dev.answered 2 2 []))) ∧
  (∀ (n : Nat) (s : State),
      s.settled = true →
      s.dev.asks 2 4 n = true →
      1024 < n →
      (s.dev.mbBytes 2).getD 1 0 = 0xE1 →
      exec .getCapabilities s = .next (s.ends (s.answerRings 2) [] (s.dev.answered 2 2 []))) ∧
  (∀ (n : Nat) (s : State),
      s.settled = true →
      s.dev.asks 2 4 n = true →
      1024 < n →
      (s.dev.mbBytes 2).getD 1 0 = 0xE3 →
      exec .negotiateAlgorithms s = .next (s.ends (s.answerRings 2) [] (s.dev.answered 2 2 []))) ∧
  (∀ (n : Nat) (s : State),
      s.settled = true →
      s.dev.asks 2 4 n = true →
      1024 < n →
      (s.dev.mbBytes 2).getD 1 0 = 0x81 →
      exec .getDigests s = .next (s.ends (s.answerRings 2) [] (s.dev.answered 2 2 []))) ∧
  (∀ (n : Nat) (s : State),
      s.settled = true →
      s.dev.asks 2 4 n = true →
      1024 < n →
      (s.dev.mbBytes 2).getD 1 0 = 0x82 →
      exec .getCertificate s = .next (s.ends (s.answerRings 2) [] (s.dev.answered 2 2 []))) ∧
  (∀ (n : Nat) (s : State),
      s.settled = true →
      s.dev.asks 2 4 n = true →
      1024 < n →
      (s.dev.mbBytes 2).getD 1 0 = 0x83 →
      exec .challenge s = .next (s.ends (s.answerRings 2) [] (s.dev.answered 2 2 []))) ∧
  (∀ (n : Nat) (s : State),
      s.settled = true →
      s.dev.asks 2 4 n = true →
      1024 < n →
      (s.dev.mbBytes 2).getD 1 0 = 0xE0 →
      exec .getMeasurements s = .next (s.ends (s.answerRings 2) [] (s.dev.answered 2 2 []))) ∧
  (∀ c ∈ ([.getVersion, .getCapabilities, .negotiateAlgorithms, .getDigests, .getCertificate, .challenge,
    .getMeasurements, .spdmUnsupported] : List Instr), ∀ (s : State),
      s.settled = true →
      s.dev.coreUp 2 = false ∨ s.dev.mbFull 2 = false →
      exec c s = .next (s.ends [] [] s.dev)) ∧
  (∀ c ∈ ([.getVersion, .getCapabilities, .negotiateAlgorithms, .getDigests, .getCertificate, .challenge,
    .getMeasurements, .spdmUnsupported] : List Instr), ∀ (s : State),
      s.settled = true →
      s.dev.coreUp 2 = true →
      s.dev.mbFull 2 = true →
      (catalogue 2).contains (msgOP (s.dev.mbWord 2)) = false →
      msgOP (s.dev.mbWord 2) < 0x80 →
      s.dev.sendIdle = true →
      exec c s = .next (s.ends (s.answerRings 2) [] (s.dev.answered 2 4 []))) ∧
  (∀ c ∈ ([.getVersion, .getCapabilities, .negotiateAlgorithms, .getDigests, .getCertificate, .challenge,
    .getMeasurements, .spdmUnsupported] : List Instr), ∀ (s : State),
      s.settled = true →
      s.dev.coreUp 2 = true →
      s.dev.mbFull 2 = true →
      0x80 ≤ msgOP (s.dev.mbWord 2) →
      s.dev.sendIdle = true →
      exec c s = .next (s.ends [] [] (s.dev.wr MBOX.STAT_FULL 0 0 2)))

/-- LC_NONCE and BARO_NONCE make, keep and answer a fresh 32-byte nonce, which LC_NONCE_EXPIRE and BARO_NONCE_EXPIRE
end. LC_TRANSITION ends the nonce. One that is listed and passes every check asks for the life record of the new
state, behind a write in progress, and 4 to 4 sets DEBUG_AUTH; else SEC_LC_DENIED is raised and the answer is DENIED
(not listed, LC not VALID, or in a swap), BAD (length), or FAILED with the code: the signature's, 4 without what the
state requires, 5 with a broken record. PROV_WRITE in RAW or TEST asks for the write of its record, elsewhere it is
DENIED. PUBKEY answers the public key, CERT_READ the part of the chain that ARG names; FAILED without key or chain,
BAD beyond the end. BARO_CLEAR ends the nonce; with all in order it clears the records in scope, counts, takes the
next SEQ for the clear record and answers how many it cleared; else BARO_CLEAR_DENIED with the answer BAD, DENIED in
the life-cycle state 5, or FAILED with its code. During a Steward swap every LC_REQ is DENIED, and while the write of
a transition is unanswered none is taken. A reserved FUNC and a wrong length are BAD. The layout of a nonce is
presumed (log entry 52); which answers end a nonce, the DEBUG_AUTH without an event and the parameter of SEC_LC_DENIED
are log entry 54, the statuses and the wait during a write log entry 55. Rests on: R414, R415, R444, R445, R446, R462,
R463, R464, R467, R468, R475. -/
def Obligations.WardenLifeCycleKeysAndNonces : Prop :=
  (∀ (gt : BitVec 64) (s : State),
      let n := (digestBytes (Config.sha384 (s.dev.keyId ++ leBytes 4 (putAt s.aon.count 16 + s.aon.last) ++ leBytes 4
        s.aon.pcc ++ leBytes 4 (s.dev.rd SEC.LIFE_SEQ_SEQ) ++ leBytes 8 s.dev.tick.b ++ leBytes 8 gt.toNat))).take 32
      let u : Dev := s.dev.answered 0 0 n
      s.settled = true →
      s.dev.asks 0 0x13 0 = true →
      bitsAt (s.dev.mbWord 0) 6 3 = 0 →
      s.dev.wrd.changing = false →
      s.swapping = false →
      exec (.lcNonce gt) s = .next (s.ends (s.answerRings 0) [] { u with wrd := { u.wrd with lcNonce := some n } })) ∧
  (∀ (gt : BitVec 64) (n : Nat) (s : State),
      s.settled = true →
      s.dev.asks 0 19 n = true →
      4 ≤ bitsAt (s.dev.mbWord 0) 6 3 ∨ (bitsAt (s.dev.mbWord 0) 6 3 = 0 ∧ n ≠ 0) →
      s.dev.wrd.changing = false →
      s.swapping = false →
      exec (.lcNonce gt) s = .next (s.ends (s.answerRings 0) [] (s.dev.answered 0 2 []))) ∧
  (∀ (s : State),
      s.settled = true →
      exec .lcNonceExpire s = .next (s.ends [] [] { s.dev with wrd := { s.dev.wrd with lcNonce := none } })) ∧
  (∀ (n : Nat) (g : Bool) (s : State),
      let seq := (s.dev.rd SEC.LIFE_SEQ_SEQ + 1) % 2 ^ 32
      let y : LifeWhy := .change (bitsAt (s.dev.mbWord 0) 0 3) (msgTAG (s.dev.mbWord 0))
      let p := s.dev.nv.gets [⟨.life y, true, lifeOther s.dev.wrd.lifeAt, s.lifeRecord seq (bitsAt (s.dev.mbWord 0) 0
        3) ((s.dev.wrd.transitions + 1) % 2 ^ 16)⟩]
      s.settled = true →
      s.dev.asks 0 0x13 n = true →
      bitsAt (s.dev.mbWord 0) 6 3 = 1 →
      s.dev.wrd.changing = false →
      lcListed (s.dev.rd SEC.LC_STATE) (bitsAt (s.dev.mbWord 0) 0 3) = some g →
      n = (if g then 32 else 0) →
      s.dev.on SEC.LC_VALID = true →
      s.swapping = false →
      (if g then s.lcSigned s.dev.wrd.lcNonce (s.dev.rd SEC.LC_STATE) (bitsAt (s.dev.mbWord 0) 0 3) else none) = none
        →
      s.lcMeets (s.dev.rd SEC.LC_STATE) (bitsAt (s.dev.mbWord 0) 0 3) = true →
      s.dev.rd SEC.LC_STATE ≠ bitsAt (s.dev.mbWord 0) 0 3 →
      s.dev.on SEC.LC_BROKEN = false →
      s.dev.wrd.lifeRun = none →
      s.dev.nv.wait = [] ∨ s.dev.nv.closed = true →
      exec .lcTransition s = .next (s.ends [] p.2 { (s.dev.wr MBOX.STAT_FULL 0 0 0) with
        wrd := { s.dev.wrd with lcNonce := none, lifeRun := some (y, seq) }, nv := p.1 })) ∧
  (∀ (n : Nat) (g : Bool) (s : State),
      s.settled = true →
      s.dev.asks 0 0x13 n = true →
      bitsAt (s.dev.mbWord 0) 6 3 = 1 →
      s.dev.wrd.changing = false →
      lcListed (s.dev.rd SEC.LC_STATE) (bitsAt (s.dev.mbWord 0) 0 3) = some g →
      n = (if g then 32 else 0) →
      s.dev.on SEC.LC_VALID = true →
      s.swapping = false →
      (if g then s.lcSigned s.dev.wrd.lcNonce (s.dev.rd SEC.LC_STATE) (bitsAt (s.dev.mbWord 0) 0 3) else none) = none
        →
      s.lcMeets (s.dev.rd SEC.LC_STATE) (bitsAt (s.dev.mbWord 0) 0 3) = true →
      s.dev.rd SEC.LC_STATE ≠ bitsAt (s.dev.mbWord 0) 0 3 →
      s.dev.on SEC.LC_BROKEN = false →
      s.dev.wrd.lifeRun.isSome = true →
      exec .lcTransition s = .next (s.ends [] [] { (s.dev.wr MBOX.STAT_FULL 0 0 0) with
        wrd := { s.dev.wrd with
          lcNonce := none,
          lifeQ := s.dev.wrd.lifeQ ++ [.change (bitsAt (s.dev.mbWord 0) 0 3) (msgTAG (s.dev.mbWord 0))] } })) ∧
  (∀ (n : Nat) (g : Bool) (s : State),
      let d : Dev := (s.dev.wr SEC.LC_DEBUG_AUTH 1).answered 0 0 []
      let r : Nat → Dev := fun c => s.dev.answered 0 5 (leBytes 4 c)
      s.settled = true →
      s.dev.asks 0 0x13 n = true →
      bitsAt (s.dev.mbWord 0) 6 3 = 1 →
      s.dev.wrd.changing = false →
      lcListed (s.dev.rd SEC.LC_STATE) (bitsAt (s.dev.mbWord 0) 0 3) = some g →
      n = (if g then 32 else 0) →
      s.dev.on SEC.LC_VALID = true →
      s.swapping = false →
      s.dev.rd SEC.LC_STATE = bitsAt (s.dev.mbWord 0) 0 3 →
      exec .lcTransition s = .next ((match (if g then s.lcSigned s.dev.wrd.lcNonce (s.dev.rd SEC.LC_STATE) (bitsAt
        (s.dev.mbWord 0) 0 3) else none) with | none => s.ends (s.answerRings 0) [] { d with
                                                wrd := { d.wrd with lcNonce := none } } | some c => s.ends (s.event
                                                Ev.SEC_LC_DENIED c :: s.answerRings 0) [] { r c with
                                                wrd := { (r c).wrd with lcNonce := none } }))) ∧
  (∀ (n : Nat) (s : State),
      let u : Dev := s.dev.answered 0 3 []
      s.settled = true →
      s.dev.asks 0 0x13 n = true →
      bitsAt (s.dev.mbWord 0) 6 3 = 1 →
      s.dev.wrd.changing = false →
      lcListed (s.dev.rd SEC.LC_STATE) (bitsAt (s.dev.mbWord 0) 0 3) = none →
      exec .lcTransition s = .next (s.ends (s.event Ev.SEC_LC_DENIED 3 :: s.answerRings 0) [] { u with
        wrd := { u.wrd with lcNonce := none } })) ∧
  (∀ (n : Nat) (g : Bool) (s : State),
      let u : Dev := s.dev.answered 0 3 []
      s.settled = true →
      s.dev.asks 0 0x13 n = true →
      bitsAt (s.dev.mbWord 0) 6 3 = 1 →
      s.dev.wrd.changing = false →
      lcListed (s.dev.rd SEC.LC_STATE) (bitsAt (s.dev.mbWord 0) 0 3) = some g →
      s.dev.on SEC.LC_VALID = false ∨ s.swapping = true →
      exec .lcTransition s = .next (s.ends (s.event Ev.SEC_LC_DENIED 3 :: s.answerRings 0) [] { u with
        wrd := { u.wrd with lcNonce := none } })) ∧
  (∀ (n : Nat) (g : Bool) (s : State),
      let u : Dev := s.dev.answered 0 2 []
      s.settled = true →
      s.dev.asks 0 0x13 n = true →
      bitsAt (s.dev.mbWord 0) 6 3 = 1 →
      s.dev.wrd.changing = false →
      lcListed (s.dev.rd SEC.LC_STATE) (bitsAt (s.dev.mbWord 0) 0 3) = some g →
      n ≠ (if g then 32 else 0) →
      s.dev.on SEC.LC_VALID = true →
      s.swapping = false →
      exec .lcTransition s = .next (s.ends (s.event Ev.SEC_LC_DENIED 2 :: s.answerRings 0) [] { u with
        wrd := { u.wrd with lcNonce := none } })) ∧
  (∀ (n : Nat) (g : Bool) (c : Nat) (s : State),
      let u : Dev := s.dev.answered 0 5 (leBytes 4 c)
      s.settled = true →
      s.dev.asks 0 0x13 n = true →
      bitsAt (s.dev.mbWord 0) 6 3 = 1 →
      s.dev.wrd.changing = false →
      lcListed (s.dev.rd SEC.LC_STATE) (bitsAt (s.dev.mbWord 0) 0 3) = some g →
      n = (if g then 32 else 0) →
      g = true →
      s.dev.on SEC.LC_VALID = true →
      s.swapping = false →
      s.lcSigned s.dev.wrd.lcNonce (s.dev.rd SEC.LC_STATE) (bitsAt (s.dev.mbWord 0) 0 3) = some c →
      exec .lcTransition s = .next (s.ends (s.event Ev.SEC_LC_DENIED c :: s.answerRings 0) [] { u with
        wrd := { u.wrd with lcNonce := none } })) ∧
  (∀ (n : Nat) (g : Bool) (s : State),
      let u : Dev := s.dev.answered 0 5 (leBytes 4 4)
      s.settled = true →
      s.dev.asks 0 0x13 n = true →
      bitsAt (s.dev.mbWord 0) 6 3 = 1 →
      s.dev.wrd.changing = false →
      lcListed (s.dev.rd SEC.LC_STATE) (bitsAt (s.dev.mbWord 0) 0 3) = some g →
      n = (if g then 32 else 0) →
      s.dev.on SEC.LC_VALID = true →
      s.swapping = false →
      (if g then s.lcSigned s.dev.wrd.lcNonce (s.dev.rd SEC.LC_STATE) (bitsAt (s.dev.mbWord 0) 0 3) else none) = none
        →
      s.lcMeets (s.dev.rd SEC.LC_STATE) (bitsAt (s.dev.mbWord 0) 0 3) = false →
      exec .lcTransition s = .next (s.ends (s.event Ev.SEC_LC_DENIED 4 :: s.answerRings 0) [] { u with
        wrd := { u.wrd with lcNonce := none } })) ∧
  (∀ (n : Nat) (g : Bool) (s : State),
      let u : Dev := s.dev.answered 0 5 (leBytes 4 5)
      s.settled = true →
      s.dev.asks 0 0x13 n = true →
      bitsAt (s.dev.mbWord 0) 6 3 = 1 →
      s.dev.wrd.changing = false →
      lcListed (s.dev.rd SEC.LC_STATE) (bitsAt (s.dev.mbWord 0) 0 3) = some g →
      n = (if g then 32 else 0) →
      s.dev.on SEC.LC_VALID = true →
      s.swapping = false →
      (if g then s.lcSigned s.dev.wrd.lcNonce (s.dev.rd SEC.LC_STATE) (bitsAt (s.dev.mbWord 0) 0 3) else none) = none
        →
      s.lcMeets (s.dev.rd SEC.LC_STATE) (bitsAt (s.dev.mbWord 0) 0 3) = true →
      s.dev.rd SEC.LC_STATE ≠ bitsAt (s.dev.mbWord 0) 0 3 →
      s.dev.on SEC.LC_BROKEN = true →
      exec .lcTransition s = .next (s.ends (s.event Ev.SEC_LC_DENIED 5 :: s.answerRings 0) [] { u with
        wrd := { u.wrd with lcNonce := none } })) ∧
  (∀ (n : Nat) (s : State),
      s.settled = true →
      s.dev.asks 0 19 n = true →
      4 ≤ bitsAt (s.dev.mbWord 0) 6 3 →
      s.dev.wrd.changing = false →
      s.swapping = false →
      exec .lcTransition s = .next (s.ends (s.answerRings 0) [] (s.dev.answered 0 2 []))) ∧
  (∀ (n : Nat) (s : State),
      let u : Dev := s.dev.answered 0 3 []
      s.settled = true →
      s.dev.asks 0 0x13 n = true →
      bitsAt (s.dev.mbWord 0) 6 3 = 1 →
      s.dev.wrd.changing = false →
      s.swapping = true →
      exec .lcTransition s = .next (s.ends (s.event Ev.SEC_LC_DENIED 3 :: s.answerRings 0) [] { u with
        wrd := { u.wrd with lcNonce := none } })) ∧
  (∀ (n : Nat) (s : State),
      s.settled = true →
      s.dev.asks 0 0x13 n = true →
      s.dev.wrd.changing = false →
      4 ≤ bitsAt (s.dev.mbWord 0) 6 3 →
      s.swapping = true →
      exec .lcTransition s = .next (s.ends (s.answerRings 0) [] (s.dev.answered 0 3 []))) ∧
  (∀ (gt : BitVec 64) (n : Nat) (s : State),
      s.settled = true →
      s.dev.asks 0 0x13 n = true →
      s.dev.wrd.changing = false →
      bitsAt (s.dev.mbWord 0) 6 3 = 0 ∨ 4 ≤ bitsAt (s.dev.mbWord 0) 6 3 →
      s.swapping = true →
      exec (.lcNonce gt) s = .next (s.ends (s.answerRings 0) [] (s.dev.answered 0 3 []))) ∧
  (∀ (n : Nat) (s : State),
      s.settled = true →
      s.dev.asks 0 0x13 n = true →
      s.dev.wrd.changing = false →
      bitsAt (s.dev.mbWord 0) 6 3 = 2 ∨ 4 ≤ bitsAt (s.dev.mbWord 0) 6 3 →
      s.swapping = true →
      exec .provWrite s = .next (s.ends (s.answerRings 0) [] (s.dev.answered 0 3 []))) ∧
  (∀ (n : Nat) (s : State),
      s.settled = true →
      s.dev.asks 0 0x13 n = true →
      s.dev.wrd.changing = false →
      bitsAt (s.dev.mbWord 0) 6 3 = 3 ∨ 4 ≤ bitsAt (s.dev.mbWord 0) 6 3 →
      s.swapping = true →
      exec .pubkey s = .next (s.ends (s.answerRings 0) [] (s.dev.answered 0 3 []))) ∧
  (∀ (gt : BitVec 64) (s : State),
      s.settled = true →
      msgOP (s.dev.mbWord 0) = 0x13 →
      s.dev.wrd.changing = true →
      exec (.lcNonce gt) s = .next (s.ends [] [] s.dev)) ∧
  (∀ (s : State),
      s.settled = true →
      msgOP (s.dev.mbWord 0) = 0x13 →
      s.dev.wrd.changing = true →
      exec .lcTransition s = .next (s.ends [] [] s.dev)) ∧
  (∀ (s : State),
      s.settled = true →
      msgOP (s.dev.mbWord 0) = 0x13 →
      s.dev.wrd.changing = true →
      exec .provWrite s = .next (s.ends [] [] s.dev)) ∧
  (∀ (s : State),
      s.settled = true →
      msgOP (s.dev.mbWord 0) = 0x13 →
      s.dev.wrd.changing = true →
      exec .pubkey s = .next (s.ends [] [] s.dev)) ∧
  (∀ (s : State),
      let p := s.dev.nv.gets [⟨.prov (msgTAG (s.dev.mbWord 0)), true, 16384 + bitsAt (s.dev.mbPayload 0 0) 0 10,
        (s.dev.mbBytes 0).drop 4⟩]
      s.settled = true →
      s.dev.wrd.changing = false →
      s.swapping = false →
      s.dev.asks 0 0x13 17 = true →
      bitsAt (s.dev.mbWord 0) 6 3 = 2 →
      s.dev.rd SEC.LC_STATE ≤ 1 →
      s.dev.nv.wait = [] ∨ s.dev.nv.closed = true →
      exec .provWrite s = .next (s.ends [] p.2 { (s.dev.wr MBOX.STAT_FULL 0 0 0) with nv := p.1 })) ∧
  (∀ (s : State),
      s.settled = true →
      s.dev.wrd.changing = false →
      s.swapping = false →
      s.dev.asks 0 0x13 17 = true →
      bitsAt (s.dev.mbWord 0) 6 3 = 2 →
      2 ≤ s.dev.rd SEC.LC_STATE →
      exec .provWrite s = .next (s.ends (s.answerRings 0) [] (s.dev.answered 0 3 []))) ∧
  (∀ (n : Nat) (s : State),
      s.settled = true →
      s.dev.asks 0 19 n = true →
      4 ≤ bitsAt (s.dev.mbWord 0) 6 3 ∨ (bitsAt (s.dev.mbWord 0) 6 3 = 2 ∧ n ≠ 17) →
      s.dev.wrd.changing = false →
      s.swapping = false →
      exec .provWrite s = .next (s.ends (s.answerRings 0) [] (s.dev.answered 0 2 []))) ∧
  (∀ (k : Nat) (s : State),
      s.settled = true →
      s.dev.wrd.changing = false →
      s.swapping = false →
      s.dev.asks 0 0x13 0 = true →
      bitsAt (s.dev.mbWord 0) 6 3 = 3 →
      s.dev.wrd.key = some k →
      exec .pubkey s = .next (s.ends (s.answerRings 0) [] (s.dev.answered 0 0 ([0x04] ++ be48 (Config.p384Point k).1
        ++ be48 (Config.p384Point k).2 ++ [0, 0, 0])))) ∧
  (∀ (s : State),
      s.settled = true →
      s.dev.wrd.changing = false →
      s.swapping = false →
      s.dev.asks 0 0x13 0 = true →
      bitsAt (s.dev.mbWord 0) 6 3 = 3 →
      s.dev.wrd.key = none →
      exec .pubkey s = .next (s.ends (s.answerRings 0) [] (s.dev.answered 0 5 (leBytes 4 2)))) ∧
  (∀ (n : Nat) (s : State),
      s.settled = true →
      s.dev.asks 0 19 n = true →
      4 ≤ bitsAt (s.dev.mbWord 0) 6 3 ∨ (bitsAt (s.dev.mbWord 0) 6 3 = 3 ∧ n ≠ 0) →
      s.dev.wrd.changing = false →
      s.swapping = false →
      exec .pubkey s = .next (s.ends (s.answerRings 0) [] (s.dev.answered 0 2 []))) ∧
  (∀ (n : Nat) (c : List Nat) (s : State),
      s.settled = true →
      s.dev.asks 0 0x14 n = true →
      n ≤ 1024 →
      s.dev.wrd.prov.chain = some c →
      4096 * bitsAt (s.dev.mbWord 0) 0 8 < c.length →
      exec .certRead s = .next (s.ends (s.answerRings 0) [] (s.dev.answered 0 0 ((c.drop (4096 * bitsAt (s.dev.mbWord
        0) 0 8)).take 4096)))) ∧
  (∀ (n : Nat) (c : List Nat) (s : State),
      s.settled = true →
      s.dev.asks 0 0x14 n = true →
      1024 < n ∨ (s.dev.wrd.prov.chain = some c ∧ c.length ≤ 4096 * bitsAt (s.dev.mbWord 0) 0 8) →
      exec .certRead s = .next (s.ends (s.answerRings 0) [] (s.dev.answered 0 2 []))) ∧
  (∀ (n : Nat) (s : State),
      s.settled = true →
      s.dev.asks 0 0x14 n = true →
      n ≤ 1024 →
      s.dev.wrd.prov.chain = none →
      exec .certRead s = .next (s.ends (s.answerRings 0) [] (s.dev.answered 0 5 (leBytes 4 2)))) ∧
  (∀ (gt : BitVec 64) (s : State),
      let n := (digestBytes (Config.sha384 (s.dev.keyId ++ leBytes 4 (putAt s.aon.count 16 + s.aon.last) ++ leBytes 4
        s.aon.pcc ++ leBytes 8 s.dev.tick.b ++ leBytes 8 gt.toNat))).take 32
      let u : Dev := s.dev.answered 0 0 n
      s.settled = true →
      s.dev.asks 0 0x15 0 = true →
      exec (.baroNonce gt) s = .next (s.ends (s.answerRings 0) [] { u with
        wrd := { u.wrd with baroNonce := some n } })) ∧
  (∀ (gt : BitVec 64) (n : Nat) (s : State),
      s.settled = true →
      s.dev.asks 0 21 n = true →
      n ≠ 0 →
      exec (.baroNonce gt) s = .next (s.ends (s.answerRings 0) [] (s.dev.answered 0 2 []))) ∧
  (∀ (s : State),
      s.settled = true →
      exec .baroNonceExpire s = .next (s.ends [] [] { s.dev with wrd := { s.dev.wrd with baroNonce := none } })) ∧
  (∀ (n : Nat) (k : List Nat) (s : State),
      let sc := ofLe (((s.dev.mbBytes 0).drop 32).take 4)
      let v := Config.ecdsaOk k (Config.sha384 ([0x42, 0x43, 0x4C, 0x52] ++ s.dev.keyId ++ (s.dev.mbBytes 0).take 32
        ++ [sc])) (ofBe (((s.dev.mbBytes 0).drop 36).take 48)) (ofBe (((s.dev.mbBytes 0).drop 84).take 48))
      let gone := (upto 2048).filter (fun i => s.dev.baro.clears (sc % 8) (bitAt sc 3) i)
      let a := s.dev.answered 0 0 (leBytes 4 gone.length)
      s.settled = true →
      s.dev.asks 0 0x16 n = true →
      n = 33 →
      ofLe (((s.dev.mbBytes 0).drop 32).take 4) < 16 →
      ofLe (((s.dev.mbBytes 0).drop 32).take 4) % 8 ≤ 4 →
      s.dev.rd SEC.LC_STATE ≠ 5 →
      s.dev.wrd.baroNonce = some ((s.dev.mbBytes 0).take 32) →
      s.dev.wrd.prov.clearKey = some k →
      s.dev.baro.allPinned (ofLe (((s.dev.mbBytes 0).drop 32).take 4) % 8) (bitAt (ofLe (((s.dev.mbBytes 0).drop
        32).take 4)) 3) = false →
      s.dev.baroHeld = false →
      s.dev.baro.shadow = [] →
      s.dev.on BARO.STATUS_RESTORED = false →
      Reaches (.baroClear) s (fun t => (if v = true then t.dev.rd BARO.CLEARS_COUNT = min (2 ^ BARO.CLEARS_COUNT.wid -
        1) (s.dev.rd BARO.CLEARS_COUNT + 1) ∧ t.dev.rd BARO.NEXT_SEQ_SEQ = (s.dev.rd BARO.NEXT_SEQ_SEQ + 1) % 2 ^ 32
        ∧ t.dev.baro.frz = 0 ∧ t.dev.rd BARO.DROPS2_FATAL = 0 ∧ t.dev.mbox = a.mbox ∧ (∀ m ∈ List.range 6,
        t.dev.mbWord m = a.mbWord m ∧ t.dev.mbFull m = a.mbFull m) ∧ t.dev.wrd = { a.wrd with baroNonce := none }
        ∧ t = { s with
        hdr := s.hdr.enterAll (s.answerRings 0 ++ [s.event Ev.BARO_CLEARED sc]), dev := { s.dev with
          out := [], regs := t.dev.regs, baro := t.dev.baro, mbox := t.dev.mbox, wrd := t.dev.wrd } }
        ∧ RegsAgree [BARO.DROPS0_INFO.key 0 0, BARO.DROPS0_NOTICE.key 0 0, BARO.DROPS1_WARN.key 0 0,
        BARO.DROPS1_CRIT.key 0 0, BARO.DROPS2_SHADOW.key 0 0, BARO.DROPS2_FATAL.key 0 0, BARO.NEXT_SEQ_SEQ.key 0 0,
        BARO.COMMITS_COUNT.key 0 0, BARO.CLEARS_COUNT.key 0 0, MBOX.STAT_FULL.key 0 0, MBOX.DATA_WORD.key 0 1,
        MBOX.STAT_FULL.key 0 1, MBOX.STAT_ABORTED.key 0 1, MBOX.DB_DB.key 0 1] s.dev.regs t.dev.regs else t = s.ends
        (s.answerRings 0 ++ [s.event Ev.BARO_CLEAR_DENIED 3]) [] (
        let u := s.dev.answered 0 5 (leBytes 4 3);
        { u with wrd := { u.wrd with baroNonce := none } })))) ∧
  (∀ (n : Nat) (s : State),
      let u : Dev := s.dev.answered 0 2 []
      s.settled = true →
      s.dev.asks 0 0x16 n = true →
      n ≠ 33 ∨ 16 ≤ ofLe (((s.dev.mbBytes 0).drop 32).take 4) ∨ 4 < ofLe (((s.dev.mbBytes 0).drop 32).take 4) % 8 →
      exec .baroClear s = .next (s.ends (s.answerRings 0 ++ [s.event Ev.BARO_CLEAR_DENIED 0]) [] { u with
        wrd := { u.wrd with baroNonce := none } })) ∧
  (∀ (n : Nat) (s : State),
      let u : Dev := s.dev.answered 0 3 []
      s.settled = true →
      s.dev.asks 0 0x16 n = true →
      n = 33 →
      ofLe (((s.dev.mbBytes 0).drop 32).take 4) < 16 →
      ofLe (((s.dev.mbBytes 0).drop 32).take 4) % 8 ≤ 4 →
      s.dev.rd SEC.LC_STATE = 5 →
      exec .baroClear s = .next (s.ends (s.answerRings 0 ++ [s.event Ev.BARO_CLEAR_DENIED 5]) [] { u with
        wrd := { u.wrd with baroNonce := none } })) ∧
  (∀ (n : Nat) (s : State),
      let u : Dev := s.dev.answered 0 5 (leBytes 4 1)
      s.settled = true →
      s.dev.asks 0 0x16 n = true →
      n = 33 →
      ofLe (((s.dev.mbBytes 0).drop 32).take 4) < 16 →
      ofLe (((s.dev.mbBytes 0).drop 32).take 4) % 8 ≤ 4 →
      s.dev.rd SEC.LC_STATE ≠ 5 →
      s.dev.wrd.baroNonce ≠ some ((s.dev.mbBytes 0).take 32) →
      exec .baroClear s = .next (s.ends (s.answerRings 0 ++ [s.event Ev.BARO_CLEAR_DENIED 1]) [] { u with
        wrd := { u.wrd with baroNonce := none } })) ∧
  (∀ (n : Nat) (s : State),
      let u : Dev := s.dev.answered 0 5 (leBytes 4 2)
      s.settled = true →
      s.dev.asks 0 0x16 n = true →
      n = 33 →
      ofLe (((s.dev.mbBytes 0).drop 32).take 4) < 16 →
      ofLe (((s.dev.mbBytes 0).drop 32).take 4) % 8 ≤ 4 →
      s.dev.rd SEC.LC_STATE ≠ 5 →
      s.dev.wrd.baroNonce = some ((s.dev.mbBytes 0).take 32) →
      s.dev.wrd.prov.clearKey = none →
      exec .baroClear s = .next (s.ends (s.answerRings 0 ++ [s.event Ev.BARO_CLEAR_DENIED 2]) [] { u with
        wrd := { u.wrd with baroNonce := none } })) ∧
  (∀ c ∈ ([.lcTransition, .provWrite, .pubkey, .certRead, .baroClear] : List Instr), ∀ (s : State),
      s.settled = true →
      s.dev.coreUp 0 = false ∨ s.dev.mbFull 0 = false →
      exec c s = .next (s.ends [] [] s.dev)) ∧
  (∀ c ∈ ([.lcTransition, .provWrite, .pubkey, .certRead, .baroClear] : List Instr), ∀ (s : State),
      s.settled = true →
      s.dev.coreUp 0 = true →
      s.dev.mbFull 0 = true →
      (catalogue 0).contains (msgOP (s.dev.mbWord 0)) = false →
      msgOP (s.dev.mbWord 0) < 0x80 →
      s.dev.sendIdle = true →
      exec c s = .next (s.ends (s.answerRings 0) [] (s.dev.answered 0 4 []))) ∧
  (∀ c ∈ ([.lcTransition, .provWrite, .pubkey, .certRead, .baroClear] : List Instr), ∀ (s : State),
      s.settled = true →
      s.dev.coreUp 0 = true →
      s.dev.mbFull 0 = true →
      0x80 ≤ msgOP (s.dev.mbWord 0) →
      s.dev.sendIdle = true →
      exec c s = .next (s.ends [] [] (s.dev.wr MBOX.STAT_FULL 0 0 0)))

/-- NV_READ and NV_WRITE of 1 to 16 records of the Steward ask for them at the NV port, one after the other; the last
response brings the answer, with the data read, or FAILED when one was not OK. Records outside 18,432 to 32,767 are
DENIED, a wrong count or length is BAD; with such a request in hand the next one waits. SEC_WRITE that lowers
HARD_GRANT while it is not locked writes it and is answered OK; one that is not listed or would weaken protection is
DENIED, counted, and raises FW_SEC_REFUSED. SPDM_SIGN signs the digest under the context prefix, FAILED without a key,
BAD for a wrong length or context. NV_REQUEST_ACCEPT moves the request presented to those outstanding, and the
critical record, when presented, from presented to accepted. NV_RESPONSE answers the oldest outstanding: of a life
record LIFE_SEQ and its copy move on and the change of state, the swap or the next record follows, or the failure is
raised and answered; PROV_WRITE is answered, a record of the reset ring needs nothing. After both the next request
that waits is presented if it may be. With none presented or none outstanding the surroundings have left their
requirement and the model stops by name (R6; the stop is the model's, safe). That an answer belongs to the oldest
request (log entry 45), the second request that waits (log entry 55), and which bits of SEC_WRITE count and what its
event names (log entry 56) are the model's choice. Rests on: R6, R50, R52, R405, R414, R415, R460, R461, R464, R469,
R474. -/
def Obligations.WardenServicesAndNvPort : Prop :=
  (∀ (s : State),
      let p := s.dev.nv.gets ((upto (bitsAt (s.dev.mbPayload 4 0) 16 5)).map (fun k => ⟨.stw, false, bitsAt
        (s.dev.mbPayload 4 0) 0 15 + k, []⟩))
      s.settled = true →
      s.dev.asks 4 0x20 1 = true →
      s.dev.wrd.nvJob = none →
      1 ≤ bitsAt (s.dev.mbPayload 4 0) 16 5 →
      bitsAt (s.dev.mbPayload 4 0) 16 5 ≤ 16 →
      18432 ≤ bitsAt (s.dev.mbPayload 4 0) 0 15 →
      bitsAt (s.dev.mbPayload 4 0) 0 15 + bitsAt (s.dev.mbPayload 4 0) 16 5 ≤ 32768 →
      s.dev.nv.wait = [] ∨ s.dev.nv.closed = true →
      exec .nvRead s = .next (s.ends [] p.2 { (s.dev.wr MBOX.STAT_FULL 0 0 4) with
        wrd := { s.dev.wrd with
          nvJob := some ⟨msgTAG (s.dev.mbWord 4), false, bitsAt (s.dev.mbPayload 4 0) 16 5, [], false⟩ },
        nv := p.1 })) ∧
  (∀ (s : State),
      let p := s.dev.nv.gets ((upto (bitsAt (s.dev.mbPayload 4 0) 16 5)).map (fun k => ⟨.stw, true, bitsAt
        (s.dev.mbPayload 4 0) 0 15 + k, (((s.dev.mbBytes 4).drop 4).drop (64 * k)).take 64⟩))
      s.settled = true →
      s.dev.asks 4 0x21 (1 + 16 * bitsAt (s.dev.mbPayload 4 0) 16 5) = true →
      s.dev.wrd.nvJob = none →
      1 ≤ bitsAt (s.dev.mbPayload 4 0) 16 5 →
      bitsAt (s.dev.mbPayload 4 0) 16 5 ≤ 16 →
      18432 ≤ bitsAt (s.dev.mbPayload 4 0) 0 15 →
      bitsAt (s.dev.mbPayload 4 0) 0 15 + bitsAt (s.dev.mbPayload 4 0) 16 5 ≤ 32768 →
      s.dev.nv.wait = [] ∨ s.dev.nv.closed = true →
      exec .nvWrite s = .next (s.ends [] p.2 { (s.dev.wr MBOX.STAT_FULL 0 0 4) with
        wrd := { s.dev.wrd with
          nvJob := some ⟨msgTAG (s.dev.mbWord 4), true, bitsAt (s.dev.mbPayload 4 0) 16 5, [], false⟩ }, nv := p.1 })) ∧
  (∀ (s : State),
      s.settled = true →
      s.dev.asks 4 0x20 1 = true →
      s.dev.wrd.nvJob = none →
      1 ≤ bitsAt (s.dev.mbPayload 4 0) 16 5 →
      bitsAt (s.dev.mbPayload 4 0) 16 5 ≤ 16 →
      bitsAt (s.dev.mbPayload 4 0) 0 15 < 18432 ∨ 32768 < bitsAt (s.dev.mbPayload 4 0) 0 15 + bitsAt (s.dev.mbPayload
        4 0) 16 5 →
      exec .nvRead s = .next (s.ends [] [] (s.dev.answered 4 3 []))) ∧
  (∀ (s : State),
      s.settled = true →
      s.dev.asks 4 0x21 (1 + 16 * bitsAt (s.dev.mbPayload 4 0) 16 5) = true →
      s.dev.wrd.nvJob = none →
      1 ≤ bitsAt (s.dev.mbPayload 4 0) 16 5 →
      bitsAt (s.dev.mbPayload 4 0) 16 5 ≤ 16 →
      bitsAt (s.dev.mbPayload 4 0) 0 15 < 18432 ∨ 32768 < bitsAt (s.dev.mbPayload 4 0) 0 15 + bitsAt (s.dev.mbPayload
        4 0) 16 5 →
      exec .nvWrite s = .next (s.ends [] [] (s.dev.answered 4 3 []))) ∧
  (∀ (n : Nat) (s : State),
      s.settled = true →
      s.dev.asks 4 32 n = true →
      n ≠ 1 ∨ bitsAt (s.dev.mbPayload 4 0) 16 5 = 0 ∨ 16 < bitsAt (s.dev.mbPayload 4 0) 16 5 →
      s.dev.wrd.nvJob = none →
      exec .nvRead s = .next (s.ends (s.answerRings 4) [] (s.dev.answered 4 2 []))) ∧
  (∀ (n : Nat) (s : State),
      s.settled = true →
      s.dev.asks 4 33 n = true →
      n ≠ 1 + 16 * bitsAt (s.dev.mbPayload 4 0) 16 5 ∨ bitsAt (s.dev.mbPayload 4 0) 16 5 = 0
        ∨ 16 < bitsAt (s.dev.mbPayload 4 0) 16 5 →
      s.dev.wrd.nvJob = none →
      exec .nvWrite s = .next (s.ends (s.answerRings 4) [] (s.dev.answered 4 2 []))) ∧
  (∀ (s : State),
      s.settled = true →
      msgOP (s.dev.mbWord 4) = 0x20 →
      s.dev.wrd.nvJob.isSome = true →
      exec .nvRead s = .next (s.ends [] [] s.dev)) ∧
  (∀ (s : State),
      s.settled = true →
      msgOP (s.dev.mbWord 4) = 0x21 →
      s.dev.wrd.nvJob.isSome = true →
      exec .nvWrite s = .next (s.ends [] [] s.dev)) ∧
  (∀ (s : State),
      let u : Dev := (s.dev.wr BUDGET.HARD_GRANT_HARD_GRANT (bitsAt (s.dev.mbPayload 4 1) 0 16)).answered 4 0 []
      s.settled = true →
      s.dev.asks 4 0x22 3 = true →
      s.dev.mbPayload 4 0 % 2 ^ 15 = BUDGET.HARD_GRANT_HARD_GRANT.adr 0 0 →
      s.dev.mbPayload 4 2 = 65535 →
      s.dev.ready 0x1A = true →
      s.dev.rd BUDGET.HARD_GRANT_LOCK = 0 →
      bitsAt (s.dev.mbPayload 4 1) 0 16 < s.dev.rd BUDGET.HARD_GRANT_HARD_GRANT →
      s.dev.rd BUDGET.HARD_GRANT_HARD_GRANT < 65536 →
      s.dev.rd BUDGET.FLOOR_FLOOR ≤ bitsAt (s.dev.mbPayload 4 1) 0 16 →
      s.dev.rd BUDGET.GRANT0_WATTS ≤ bitsAt (s.dev.mbPayload 4 1) 0 16 →
      exec .secWrite s = .next (s.ends [] [] { u with wrd := { u.wrd with measBusy := true } })) ∧
  (∀ (s : State),
      s.settled = true →
      s.dev.asks 4 0x22 3 = true →
      s.secWord (s.dev.mbPayload 4 0 % 2 ^ 15) (s.dev.mbPayload 4 1) (s.dev.mbPayload 4 2) = none →
      exec .secWrite s = .next (s.ends [s.event Ev.FW_SEC_REFUSED (s.dev.mbPayload 4 0 % 2 ^ 15 / 1024)] []
        ((s.dev.bump FW.SEC_REFUSED_COUNT).answered 4 3 []))) ∧
  (∀ (n : Nat) (s : State),
      s.settled = true →
      s.dev.asks 4 34 n = true →
      n ≠ 3 →
      exec .secWrite s = .next (s.ends (s.answerRings 4) [] (s.dev.answered 4 2 []))) ∧
  (∀ (c : Nat) (k : Nat) (s : State),
      let g := Config.ecdsaSign k (Config.sha384 (spdmPrefix c ++ s.dev.mbBytes 4)) (2 ^ 64 + s.dev.wrd.fresh)
      let u : Dev := s.dev.answered 4 0 (be48 g.1 ++ be48 g.2)
      s.settled = true →
      s.dev.asks 4 0x23 12 = true →
      msgARG (s.dev.mbWord 4) = c →
      c = 1 ∨ c = 2 →
      s.dev.wrd.key = some k →
      exec .spdmSign s = .next (s.ends [] [] { u with wrd := { u.wrd with fresh := s.dev.wrd.fresh + 1 } })) ∧
  (∀ (c : Nat) (s : State),
      s.settled = true →
      s.dev.asks 4 0x23 12 = true →
      msgARG (s.dev.mbWord 4) = c →
      c = 1 ∨ c = 2 →
      s.dev.wrd.key = none →
      exec .spdmSign s = .next (s.ends [] [] (s.dev.answered 4 5 (leBytes 4 2)))) ∧
  (∀ (n : Nat) (s : State),
      s.settled = true →
      s.dev.asks 4 35 n = true →
      n ≠ 12 ∨ (msgARG (s.dev.mbWord 4) ≠ 1 ∧ msgARG (s.dev.mbWord 4) ≠ 2) →
      exec .spdmSign s = .next (s.ends (s.answerRings 4) [] (s.dev.answered 4 2 []))) ∧
  (∀ (r : NvReq) (s : State),
      let p := { s.dev.nv with pres := none, out := s.dev.nv.out ++ [r] }.next
      s.settled = true →
      s.aon.squall.st ≠ .presented →
      s.dev.nv.pres = some r →
      exec .nvRequestAccept s = .next (s.ends [] p.2 { s.dev with nv := p.1 })) ∧
  (∀ (s : State),
      let p := { s.dev.nv with block := false, critOut := true }.next
      s.settled = true →
      s.aon.squall.st = .presented →
      exec .nvRequestAccept s = .next ({ s.ends [] p.2 { s.dev with nv := p.1 } with
        aon := { s.aon with squall := { s.aon.squall with st := .accepted } } })) ∧
  (∀ (s : State),
      s.aon.squall.st ≠ .presented →
      s.dev.nv.pres = none →
      exec (.nvRequestAccept) s = .fault (.unsolicited "NV request presented")) ∧
  (∀ (x : BitVec 2) (w : BitVec 512) (r : NvReq) (l : List NvReq) (s : State),
      let p := { s.dev.nv with out := l }.next
      s.settled = true →
      s.dev.nv.out = r :: l →
      r.src = .ring →
      exec (.nvResponse x w) s = .next (s.ends [] p.2 { s.dev with nv := p.1 })) ∧
  (∀ (x : BitVec 2) (w : BitVec 512) (r : NvReq) (l : List NvReq) (g : Nat) (s : State),
      let p := { s.dev.nv with out := l }.next
      let b := if x = 0#2 then [] else leBytes 4 (Config.failCode 2)
      let u : Dev := s.dev.posts 1 (putAt 147 24 + putAt g 20 + putAt (if x = 0#2 then 0 else 1) 9 + putAt (if x = 0#2
        then 0 else 5) 5) b
      s.settled = true →
      s.dev.nv.out = r :: l →
      r.src = .prov g →
      s.dev.sendIdle = true →
      exec (.nvResponse x w) s = .next (s.ends (s.postRings 1) p.2 { u with nv := p.1 })) ∧
  (∀ (x : BitVec 2) (w : BitVec 512) (r : NvReq) (l : List NvReq) (j : NvJob) (s : State),
      let p := { s.dev.nv with out := l }.next
      s.settled = true →
      s.dev.nv.out = r :: l →
      r.src = .stw →
      s.dev.wrd.nvJob = some j →
      2 ≤ j.left →
      exec (.nvResponse x w) s = .next (s.ends [] p.2 { s.dev with
        wrd := { s.dev.wrd with
          nvJob := some { j with
            left := j.left - 1, data := if j.write then [] else j.data ++ leBytes 64 w.toNat,
            bad := j.bad || x ≠ 0#2 } }, nv := p.1 })) ∧
  (∀ (x : BitVec 2) (w : BitVec 512) (r : NvReq) (l : List NvReq) (j : NvJob) (s : State),
      let p := { s.dev.nv with out := l }.next
      let b := if j.write then [] else j.data ++ leBytes 64 w.toNat
      let u : Dev := s.dev.posts 5 (putAt (if j.write then 0xA1 else 0xA0) 24 + putAt j.tag 20 + putAt (ceilDiv
        b.length 4) 9 + putAt 0 5) b
      s.settled = true →
      s.dev.nv.out = r :: l →
      r.src = .stw →
      s.dev.wrd.nvJob = some j →
      j.left = 1 →
      j.bad = false →
      x = 0#2 →
      s.dev.sendIdle = true →
      exec (.nvResponse x w) s = .next (s.ends [] p.2 { u with wrd := { u.wrd with nvJob := none }, nv := p.1 })) ∧
  (∀ (x : BitVec 2) (w : BitVec 512) (r : NvReq) (l : List NvReq) (j : NvJob) (s : State),
      let p := { s.dev.nv with out := l }.next
      let u : Dev := s.dev.posts 5 (putAt (if j.write then 0xA1 else 0xA0) 24 + putAt j.tag 20 + putAt 1 9 + putAt 5
        5) (leBytes 4 (Config.failCode (bnat j.write)))
      s.settled = true →
      s.dev.nv.out = r :: l →
      r.src = .stw →
      s.dev.wrd.nvJob = some j →
      j.left = 1 →
      j.bad = true ∨ x ≠ 0#2 →
      s.dev.sendIdle = true →
      exec (.nvResponse x w) s = .next (s.ends [] p.2 { u with wrd := { u.wrd with nvJob := none }, nv := p.1 })) ∧
  (∀ (x : BitVec 2) (w : BitVec 512) (r : NvReq) (l : List NvReq) (y : LifeWhy) (q : Nat) (s : State),
      let p := { s.dev.nv with out := l }.next
      let u : Dev := (s.dev.wr SEC.LIFE_SEQ_SEQ q)
      s.settled = true →
      s.dev.nv.out = r :: l →
      r.src = .life y →
      s.dev.wrd.lifeRun = some (.counters, q) →
      s.dev.wrd.lifeQ = [] →
      x = 0#2 →
      exec (.nvResponse x w) s = .next (s.ends ([]) p.2 { u with
        wrd := { u.wrd with lifeRun := none, lifeAt := lifeOther s.dev.wrd.lifeAt }, nv := p.1 })) ∧
  (∀ (x : BitVec 2) (w : BitVec 512) (r : NvReq) (l : List NvReq) (y : LifeWhy) (q : Nat) (s : State),
      let p := { s.dev.nv with out := l }.next
      let u : Dev := s.dev
      s.settled = true →
      s.dev.nv.out = r :: l →
      r.src = .life y →
      s.dev.wrd.lifeRun = some (.counters, q) →
      s.dev.wrd.lifeQ = [] →
      x ≠ 0#2 →
      exec (.nvResponse x w) s = .next (s.ends ([s.event Ev.SEC_LIFE_BAD]) p.2 { u with
        wrd := { u.wrd with lifeRun := none }, nv := p.1 })) ∧
  (∀ (x : BitVec 2) (w : BitVec 512) (r : NvReq) (l : List NvReq) (y : LifeWhy) (q : Nat) (k : Nat) (g : Nat) (s :
    State),
      let p := { s.dev.nv with out := l }.next
      let u : Dev := ((s.dev.wr SEC.LIFE_SEQ_SEQ q).wr SEC.LC_STATE k).posts 1 (putAt 147 24 + putAt g 20 + putAt 0 9
        + putAt 0 5) []
      s.settled = true →
      s.dev.nv.out = r :: l →
      r.src = .life y →
      s.dev.wrd.lifeRun = some (.change k g, q) →
      s.dev.wrd.lifeQ = [] →
      x = 0#2 →
      s.dev.sendIdle = true →
      exec (.nvResponse x w) s = .next (s.ends (s.event Ev.SEC_LC_CHANGE k :: s.postRings 1) p.2 { u with
        wrd := { u.wrd with
          lifeRun := none, lifeAt := lifeOther s.dev.wrd.lifeAt, transitions := (s.dev.wrd.transitions + 1) % 2 ^ 16,
          lcReset := true }, nv := p.1 })) ∧
  (∀ (x : BitVec 2) (w : BitVec 512) (r : NvReq) (l : List NvReq) (y : LifeWhy) (q : Nat) (k : Nat) (g : Nat) (s :
    State),
      let p := { s.dev.nv with out := l }.next
      let u : Dev := s.dev.posts 1 (putAt 147 24 + putAt g 20 + putAt 1 9 + putAt 5 5) (leBytes 4 5)
      s.settled = true →
      s.dev.nv.out = r :: l →
      r.src = .life y →
      s.dev.wrd.lifeRun = some (.change k g, q) →
      s.dev.wrd.lifeQ = [] →
      x ≠ 0#2 →
      s.dev.sendIdle = true →
      exec (.nvResponse x w) s = .next (s.ends (s.event Ev.SEC_LC_DENIED 5 :: s.postRings 1) p.2 { u with
        wrd := { u.wrd with lifeRun := none }, nv := p.1 })) ∧
  (∀ (x : BitVec 2) (w : BitVec 512) (r : NvReq) (l : List NvReq) (y : LifeWhy) (q : Nat) (g : Nat) (s : State),
      let p := { s.dev.nv with out := l }.next
      let u : Dev := ((((s.dev.wr SEC.LIFE_SEQ_SEQ q).wr FW.SWAP_STAT_BUSY 0).bump FW.SWAP_STAT_SWAPS).wr
        FW.SWAP_STAT_RESULT 1).posts 1 (putAt 146 24 + putAt g 20 + putAt 0 9 + putAt 0 5) []
      s.settled = true →
      s.dev.nv.out = r :: l →
      r.src = .life y →
      s.dev.wrd.lifeRun = some (.svn g, q) →
      s.dev.wrd.lifeQ = [] →
      x = 0#2 →
      s.dev.sendIdle = true →
      exec (.nvResponse x w) s = .next (s.ends (s.postRings 1) p.2 { u with
        wrd := { u.wrd with lifeRun := none, lifeAt := lifeOther s.dev.wrd.lifeAt, swap := .none }, nv := p.1 })) ∧
  (∀ (x : BitVec 2) (w : BitVec 512) (r : NvReq) (l : List NvReq) (y : LifeWhy) (q : Nat) (g : Nat) (s : State),
      let p := { s.dev.nv with out := l }.next
      let u : Dev := (((s.dev.wr FW.SWAP_STAT_BUSY 0).bump FW.SWAP_STAT_SWAPS).wr FW.SWAP_STAT_RESULT 1).posts 1
        (putAt 146 24 + putAt g 20 + putAt 0 9 + putAt 0 5) []
      s.settled = true →
      s.dev.nv.out = r :: l →
      r.src = .life y →
      s.dev.wrd.lifeRun = some (.svn g, q) →
      s.dev.wrd.lifeQ = [] →
      x ≠ 0#2 →
      s.dev.sendIdle = true →
      exec (.nvResponse x w) s = .next (s.ends (s.event Ev.SEC_LIFE_BAD :: s.postRings 1) p.2 { u with
        wrd := { u.wrd with lifeRun := none, swap := .none }, nv := p.1 })) ∧
  (∀ (x : BitVec 2) (w : BitVec 512) (s : State),
      s.dev.nv.out = [] →
      exec (.nvResponse x w) s = .fault (.unsolicited "NV request")) ∧
  (∀ c ∈ ([.nvRead, .nvWrite, .secWrite, .spdmSign] : List Instr), ∀ (s : State),
      s.settled = true →
      s.dev.coreUp 4 = false ∨ s.dev.mbFull 4 = false →
      exec c s = .next (s.ends [] [] s.dev)) ∧
  (∀ c ∈ ([.nvRead, .nvWrite, .secWrite, .spdmSign] : List Instr), ∀ (s : State),
      s.settled = true →
      s.dev.coreUp 4 = true →
      s.dev.mbFull 4 = true →
      (catalogue 4).contains (msgOP (s.dev.mbWord 4)) = false →
      msgOP (s.dev.mbWord 4) < 0x80 →
      s.dev.sendIdle = true →
      exec c s = .next (s.ends (s.answerRings 4) [] (s.dev.answered 4 4 []))) ∧
  (∀ c ∈ ([.nvRead, .nvWrite, .secWrite, .spdmSign] : List Instr), ∀ (s : State),
      s.settled = true →
      s.dev.coreUp 4 = true →
      s.dev.mbFull 4 = true →
      0x80 ≤ msgOP (s.dev.mbWord 4) →
      s.dev.sendIdle = true →
      exec c s = .next (s.ends [] [] (s.dev.wr MBOX.STAT_FULL 0 0 4)))

/-- BARO_WINDOW_CLOSE commits the record of a closed window: it takes NEXT_SEQ, counts, and goes with its CRC to the
slot of R437, which becomes dirty, or is dropped and counted with BARO_DROP once per BUDGET tick; while the recorder
is held it joins the shadow, or with 64 there is counted as lost with BARO_SHADOW_FULL once. One of WARN or above
wakes a gated Steward. With none, or its task stopped, nothing happens. BARO_FREEZE_HOLD grants a free freeze to the
path and leaves one that is held. BARO_FREEZE_RELEASE by the holder, and BARO_FREEZE_TIMEOUT after 100 BUDGET strobes
with its event, end the freeze; the end places the record that waited unless something else holds it. BARO_SNAP by the
owner of the capture RAM for snapshots stores FIRST and COUNT and starts the copy; from another, or during one, it is
refused with BARO_BAD_VALUE. BARO_SNAP_DONE leaves the slots in the capture RAM. Each of them without its condition,
or with its bit 0, starts nothing. The clauses with a record are those of one record; one of WARN or above with
RESTORED and MIRROR_EN set, which also triggers the mirror, is stated with RecorderMirrorAndRestore. Task 0x08: the
bin of a sample and a window with one sample more (R432), the samples that a beat hands on (R431), none of a subject
written in that beat (R433), and those that enter. Rests on: R84, R108, R433, R434, R436, R437, R439, R440, R485,
R431, R432. -/
def Obligations.RecorderCommitsFreezesAndSnapshots : Prop :=
  (∀ (b : List Nat) (s : State),
      let q := s.dev.rd BARO.NEXT_SEQ_SEQ
      let e := leBytes 4 q ++ b ++ leBytes 4 (crc32c (leBytes 4 q ++ b))
      let sev := b.getD 1 0 % 8
      let c := (s.dev.wr BARO.NEXT_SEQ_SEQ (q + 1)).bump BARO.COMMITS_COUNT
      let u : Dev := { c with
        stw := (if 2 ≤ sev then s.dev.wakeStw.stw else s.dev.stw), baro := { s.dev.baro with due := [] } }
      let z : Dev := (if sev = 0 then u.bump BARO.DROPS0_INFO else if sev = 1 then u.bump BARO.DROPS0_NOTICE else if
        sev = 2 then u.bump BARO.DROPS1_WARN else if sev = 3 then u.bump BARO.DROPS1_CRIT else u.bump
        BARO.DROPS2_FATAL)
      let x : Nat → Baro := fun i => { s.dev.baro with
        due := [], ram := s.dev.baro.ram.writeBytes (256 * i) e, dirty := insertAsc i s.dev.baro.dirty, pass :=
          s.dev.baro.pass.map (fun (p : BPass) => if p.slot == some i then { p with touched := true } else p) }
      s.settled = true →
      s.dev.baro.held = false →
      s.dev.baro.due = [b] →
      2 ≤ b.length →
      b.getD 1 0 % 8 < 2 ∨ s.dev.on BARO.STATUS_RESTORED = false ∨ s.dev.on BARO.CTRL_MIRROR_EN = false →
      s.dev.baroHeld = false →
      exec .baroWindowClose s = .next (s.ends (if (s.dev.baro.place sev).isSome = true
        ∨ s.dev.baro.dropSent = true then [] else [s.event Ev.BARO_DROP sev]) [] (match s.dev.baro.place sev with |
                                                                                                                    some
                                                                                                                    i
                                                                                                                    =>
                                                                                                                    {
                                                                                                                    u
                                                                                                                    with
                                                                                                                    baro
                                                                                                                      :=
                                                                                                                      x
                                                                                                                      i
                                                                                                                      }
                                                                                                                    |
                                                                                                                    none
                                                                                                                    =>
                                                                                                                    {
                                                                                                                    z
                                                                                                                    with
                                                                                                                    baro
                                                                                                                      :=
                                                                                                                      {
                                                                                                                      s.dev.baro
                                                                                                                      with
                                                                                                                      due
                                                                                                                        :=
                                                                                                                        [],
                                                                                                                      dropSent
                                                                                                                        :=
                                                                                                                        true
                                                                                                                        }
                                                                                                                      }))) ∧
  (∀ (b : List Nat) (s : State),
      let q := s.dev.rd BARO.NEXT_SEQ_SEQ
      let e := leBytes 4 q ++ b ++ leBytes 4 (crc32c (leBytes 4 q ++ b))
      let sev := b.getD 1 0 % 8
      let c := (s.dev.wr BARO.NEXT_SEQ_SEQ (q + 1)).bump BARO.COMMITS_COUNT
      s.settled = true →
      s.dev.baro.held = false →
      s.dev.baro.due = [b] →
      2 ≤ b.length →
      b.getD 1 0 % 8 < 2 ∨ s.dev.on BARO.STATUS_RESTORED = false ∨ s.dev.on BARO.CTRL_MIRROR_EN = false →
      s.dev.baroHeld = true →
      s.dev.baro.shadow.length < 64 →
      exec .baroWindowClose s = .next (s.ends ([]) [] { c with
        stw := (if 2 ≤ sev then s.dev.wakeStw.stw else s.dev.stw),
        baro := { s.dev.baro with due := [], shadow := s.dev.baro.shadow ++ [e] } })) ∧
  (∀ (b : List Nat) (s : State),
      let q := s.dev.rd BARO.NEXT_SEQ_SEQ
      let sev := b.getD 1 0 % 8
      let c := (s.dev.wr BARO.NEXT_SEQ_SEQ (q + 1)).bump BARO.COMMITS_COUNT
      s.settled = true →
      s.dev.baro.held = false →
      s.dev.baro.due = [b] →
      2 ≤ b.length →
      b.getD 1 0 % 8 < 2 ∨ s.dev.on BARO.STATUS_RESTORED = false ∨ s.dev.on BARO.CTRL_MIRROR_EN = false →
      s.dev.baroHeld = true →
      64 ≤ s.dev.baro.shadow.length →
      exec .baroWindowClose s = .next (s.ends (if s.dev.baro.fullSent then [] else [s.event Ev.BARO_SHADOW_FULL]) [] {
        (if sev = 0 then (c.bump BARO.DROPS2_SHADOW).bump BARO.DROPS0_INFO else if sev = 1 then (c.bump
        BARO.DROPS2_SHADOW).bump BARO.DROPS0_NOTICE else if sev = 2 then (c.bump BARO.DROPS2_SHADOW).bump
        BARO.DROPS1_WARN else if sev = 3 then (c.bump BARO.DROPS2_SHADOW).bump BARO.DROPS1_CRIT else (c.bump
        BARO.DROPS2_SHADOW).bump BARO.DROPS2_FATAL) with
        stw := (if 2 ≤ sev then s.dev.wakeStw.stw else s.dev.stw),
        baro := { s.dev.baro with due := [], fullSent := true } })) ∧
  (∀ (s : State),
      s.settled = true →
      s.dev.baro.held = true ∨ s.dev.baro.due = [] →
      exec .baroWindowClose s = .next (s.ends [] [] s.dev)) ∧
  (∀ (a : Acc) (v : BitVec 32) (s : State),
      s.settled = true →
      s.dev.ready 0x1D = true →
      a.privOk = true →
      bitsAt v.toNat 0 2 = 1 →
      s.dev.baro.frz = 0 →
      exec (.baroFreezeHold a v) s = .next (s.ends [] [] { s.dev with
        baro := { s.dev.baro with
          frz := if a.path = .regPort then 1 else if a.path = .steward then 2 else 0, frzMs := 0 } })) ∧
  (∀ (a : Acc) (v : BitVec 32) (s : State),
      s.settled = true →
      s.dev.ready 0x1D = true →
      a.privOk = true →
      bitsAt v.toNat 0 2 = 0 ∨ (bitsAt v.toNat 0 2 = 1 ∧ s.dev.baro.frz ≠ 0) →
      exec (.baroFreezeHold a v) s = .next (s.ends [] [] s.dev)) ∧
  (∀ (a : Acc) (v : BitVec 32) (s : State),
      s.settled = true →
      s.dev.ready 0x1D = true →
      a.privOk = true →
      bitsAt v.toNat 0 2 = 2 →
      (a.path = .regPort ∧ s.dev.baro.frz = 1 ∨ a.path = .steward ∧ s.dev.baro.frz = 2) →
      s.dev.baro.shadow = [] ∨ (s.dev.baro.snap.isSome = true ∨ (s.dev.on BARO.STATUS_RESTORED = false
        ∧ s.dev.on BARO.STATUS_NO_RESTORE = false)) →
      exec (.baroFreezeRelease a v) s = .next (s.ends [] [] { s.dev with
        baro := { s.dev.baro with frz := 0, frzMs := 0 } })) ∧
  (∀ (a : Acc) (v : BitVec 32) (b : List Nat) (i : Nat) (s : State),
      s.settled = true →
      s.dev.ready 0x1D = true →
      a.privOk = true →
      bitsAt v.toNat 0 2 = 2 →
      (a.path = .regPort ∧ s.dev.baro.frz = 1 ∨ a.path = .steward ∧ s.dev.baro.frz = 2) →
      s.dev.baro.snap = none →
      s.dev.on BARO.STATUS_RESTORED = true →
      s.dev.baro.shadow = [b] →
      s.dev.baro.place (b.getD 5 0 % 8) = some i →
      exec (.baroFreezeRelease a v) s = .next (s.ends [] [] { s.dev with
        baro := { s.dev.baro with
          frz := 0, frzMs := 0, shadow := [], ram := s.dev.baro.ram.writeBytes (256 * i) b,
          dirty := insertAsc i s.dev.baro.dirty, pass := s.dev.baro.pass.map (fun (p : BPass) => if p.slot == some i
            then { p with touched := true } else p) } })) ∧
  (∀ (a : Acc) (v : BitVec 32) (s : State),
      s.settled = true →
      s.dev.ready 0x1D = true →
      a.privOk = true →
      bitsAt v.toNat 0 2 = 0 ∨ (bitsAt v.toNat 0 2 = 2 ∧ ¬(a.path = .regPort ∧ s.dev.baro.frz = 1
        ∨ a.path = .steward ∧ s.dev.baro.frz = 2)) →
      exec (.baroFreezeRelease a v) s = .next (s.ends [] [] s.dev)) ∧
  (∀ (s : State),
      s.settled = true →
      s.dev.baro.frz ≠ 0 →
      100 ≤ s.dev.baro.frzMs →
      s.dev.baro.shadow = [] ∨ (s.dev.baro.snap.isSome = true ∨ (s.dev.on BARO.STATUS_RESTORED = false
        ∧ s.dev.on BARO.STATUS_NO_RESTORE = false)) →
      exec .baroFreezeTimeout s = .next (s.ends [s.event Ev.BARO_FREEZE_TIMEOUT s.dev.baro.frz] [] { s.dev with
        baro := { s.dev.baro with frz := 0, frzMs := 0 } })) ∧
  (∀ (b : List Nat) (i : Nat) (s : State),
      s.settled = true →
      s.dev.baro.frz ≠ 0 →
      100 ≤ s.dev.baro.frzMs →
      s.dev.baro.snap = none →
      s.dev.on BARO.STATUS_RESTORED = true →
      s.dev.baro.shadow = [b] →
      s.dev.baro.place (b.getD 5 0 % 8) = some i →
      exec .baroFreezeTimeout s = .next (s.ends [s.event Ev.BARO_FREEZE_TIMEOUT s.dev.baro.frz] [] { s.dev with
        baro := { s.dev.baro with
          frz := 0, frzMs := 0, shadow := [], ram := s.dev.baro.ram.writeBytes (256 * i) b,
          dirty := insertAsc i s.dev.baro.dirty, pass := s.dev.baro.pass.map (fun (p : BPass) => if p.slot == some i
            then { p with touched := true } else p) } })) ∧
  (∀ (s : State),
      s.settled = true →
      s.dev.baro.frz = 0 ∨ s.dev.baro.frzMs < 100 →
      exec .baroFreezeTimeout s = .next (s.ends [] [] s.dev)) ∧
  (∀ (a : Acc) (v : BitVec 32) (s : State),
      s.settled = true →
      s.dev.ready 0x1D = true →
      a.privOk = true →
      bitsAt v.toNat 31 1 = 1 →
      1 ≤ bitsAt v.toNat 0 11 →
      bitsAt v.toNat 0 11 ≤ 1024 →
      s.dev.owns a 0 = true →
      (s.dev.owner 0).feat = 3 →
      s.dev.baro.snap = none →
      exec (.baroSnap a v) s = .next (s.ends [] [] { (s.dev.stores [BARO.SNAP_FIRST, BARO.SNAP_COUNT] 0 0 v) with
        baro := { s.dev.baro with snap := some (bitsAt v.toNat 16 11, bitsAt v.toNat 0 11) } })) ∧
  (∀ (a : Acc) (v : BitVec 32) (s : State),
      s.settled = true →
      s.dev.ready 0x1D = true →
      a.privOk = true →
      bitsAt v.toNat 31 1 = 1 →
      1 ≤ bitsAt v.toNat 0 11 →
      bitsAt v.toNat 0 11 ≤ 1024 →
      s.dev.owns a 0 = false ∨ (s.dev.owner 0).feat ≠ 3 ∨ s.dev.baro.snap.isSome = true →
      exec (.baroSnap a v) s = .next (s.ends [s.event (Ev.badValue 0x1D)] [] (s.dev.stores [BARO.SNAP_FIRST,
        BARO.SNAP_COUNT] 0 0 v))) ∧
  (∀ (a : Acc) (v : BitVec 32) (s : State),
      s.settled = true →
      s.dev.ready 0x1D = true →
      a.privOk = true →
      bitsAt v.toNat 31 1 = 0 →
      1 ≤ bitsAt v.toNat 0 11 →
      bitsAt v.toNat 0 11 ≤ 1024 →
      exec (.baroSnap a v) s = .next (s.ends [] [] (s.dev.stores [BARO.SNAP_FIRST, BARO.SNAP_COUNT] 0 0 v))) ∧
  (∀ (f : Nat) (c : Nat) (s : State),
      s.settled = true →
      s.dev.baro.snap = some (f, c) →
      s.dev.baro.shadow = [] ∨ s.dev.baro.frz ≠ 0 ∨ (s.dev.on BARO.STATUS_RESTORED = false
        ∧ s.dev.on BARO.STATUS_NO_RESTORE = false) →
      Reaches (.baroSnapDone) s (fun t => (∀ o, t.dev.capRam.read o = if o < 256 * c then s.dev.baro.ram.read (256 *
        ((f + o / 256) % 2048) + o % 256) else s.dev.capRam.read o) ∧ t.dev.baro = { s.dev.baro with snap := none }
        ∧ t = { s with dev := { s.dev with out := [], capRam := t.dev.capRam, baro := t.dev.baro } })) ∧
  (∀ (s : State),
      s.settled = true →
      s.dev.baro.snap = none →
      exec .baroSnapDone s = .next (s.ends [] [] s.dev)) ∧
  (∀ (w : BWin) (x : Int) (beat : Nat) (j : Nat),
      (w.add x beat j).samples = min (2 ^ 32 - 1) (w.samples + 1) ∧ (w.add x beat j).sum = min (2 ^ 63 - 1) (max (-(2
        ^ 63)) (w.sum + x)) ∧ (w.add x beat j).lo = (if w.samples = 0 then x else min w.lo x) ∧ (w.add x beat j).hi =
        (if w.samples = 0 then x else max w.hi x) ∧ (w.add x beat j).minAt = (if w.samples = 0 ∨ x < w.lo then beat
        else w.minAt) ∧ (w.add x beat j).maxAt = (if w.samples = 0 ∨ w.hi < x then beat else w.maxAt)) ∧
  (∀ (w : BWin) (x : Int) (beat : Nat) (j : Nat) (k : Nat),
      j < 32 →
      k < 32 →
      w.bins = [] ∨ w.bins.length = 32 →
      (w.add x beat j).bins.length = 32 ∧ (w.add x beat j).bins.getD k 0 = (if k = j then min (2 ^ 32 - 1)
        (w.bins.getD k 0 + 1) else w.bins.getD k 0)) ∧
  (∀ (d : Dev) (k : Nat) (x : Int),
      (d.binOf k x : Int) = max 0 (min 31 ((x - signedOf 32 (d.rd BARO.SUBJ_ORG_ORIGIN 0 k)) / 2 ^ d.rd
        BARO.SUBJ_CFG_SHIFT 0 k))) ∧
  (∀ (d : Dev) (beat : Nat),
      d.on BARO.CTRL_EN = true →
      (d.baroTake beat).baro.todo = (upto 32).filterMap (fun k => if everyBeat (d.rd BARO.SUBJ_CFG_SOURCE 0 k) &&
        !d.baro.fresh.contains k then (d.beatSample (d.rd BARO.SUBJ_CFG_SOURCE 0 k) (d.rd BARO.SUBJ_CFG_INSTANCE 0
        k)).map (fun v => (k, v, beat)) else none) ++ d.baro.evs.flatMap (fun e => ((d.subjects e.1 e.2.1).filter (fun
        k => !d.baro.fresh.contains k)).map (fun k => (k, e.2.2, beat))) ∧ (d.baroTake beat).baro.evs = []) ∧
  (∀ (d : Dev),
      d.baro.todo = [] →
      d.baroFold = d) ∧
  (∀ (d : Dev) (k : Nat) (x : Int) (beat : Nat) (w : Nat),
      d.baro.todo = [(k, x, beat)] →
      k < 32 →
      w < 3 →
      sparseGet {} (3 * k + w) d.baroFold.baro.wins = (if d.winOn k w then (sparseGet {} (3 * k + w) d.baro.wins).add
        x beat (d.binOf k x) else sparseGet {} (3 * k + w) d.baro.wins))

/-- BARO_MIRROR_NOW, and BARO_MIRROR_PERIOD after PERIOD seconds of BUDGET strobes, start a pass once RESTORED and
MIRROR_EN are set: it asks for the four NV writes of the lowest dirty slot at the copy of its SEQ's parity, for a
cleared slot to both copies, or has no slot left; a pass that runs is followed by another. An NV_RESPONSE to a mirror
write counts it, and one that is not OK counts an error with BARO_MIRROR_ERR; after the last of a slot the slot stops
being dirty if all were OK and no commit touched it, and with no later dirty slot the pass has no slot left.
BARO_MIRROR_DONE of a pass with no slot left ends it, counts, raises its event, and starts the pass that was to
follow. BARO_RESTORE_DONE by a secure access sets NEXT_SEQ to RST_SEQ, RESTORED and raises BARO_RESTORED; after either
end of the restore it is refused with BARO_BAD_VALUE. BARO_NO_RESTORE empties the store, sets NO_RESTORE and raises
its event before such an end, once the page's wipe is over. Without its condition, or with its bit 0, each of them
starts nothing. A BARO_WINDOW_CLOSE that commits a record of WARN or above with RESTORED and MIRROR_EN set wakes a
gated Steward and is a trigger of the mirror too: placed in its slot it starts the pass with the four or eight NV
writes of that slot where no other was dirty, held in the shadow it starts a pass with no slot left, and a pass that
runs is followed by another. That BARO_RESTORE_DONE is refused to a store already RESTORED is the model's choice (log
entry 48). Rests on: R52, R441, R442, R443, R108, R433, R436. -/
def Obligations.RecorderMirrorAndRestore : Prop :=
  (∀ (a : Acc) (v : BitVec 32) (s : State),
      s.settled = true →
      s.dev.ready 0x1D = true →
      a.privOk = true →
      bitsAt v.toNat 31 1 = 1 →
      1 ≤ bitsAt v.toNat 0 16 →
      s.dev.on BARO.STATUS_RESTORED = false ∨ s.dev.on BARO.CTRL_MIRROR_EN = false →
      exec (.baroMirrorNow a v) s = .next (s.ends [] [] (s.dev.stores [BARO.MIRROR_PERIOD] 0 0 v))) ∧
  (∀ (a : Acc) (v : BitVec 32) (s : State),
      s.settled = true →
      s.dev.ready 0x1D = true →
      a.privOk = true →
      bitsAt v.toNat 31 1 = 1 →
      1 ≤ bitsAt v.toNat 0 16 →
      s.dev.on BARO.STATUS_RESTORED = true →
      s.dev.on BARO.CTRL_MIRROR_EN = true →
      s.dev.baro.pass = none →
      s.dev.baro.dirty = [] →
      exec (.baroMirrorNow a v) s = .next (s.ends [] [] { (s.dev.stores [BARO.MIRROR_PERIOD] 0 0 v) with
        baro := { s.dev.baro with pass := some ⟨none, 0, true, false, false⟩ } })) ∧
  (∀ (a : Acc) (v : BitVec 32) (i : Nat) (r : List Nat) (s : State),
      let ws := (if s.dev.baro.kind i = 0 then [⟨.mirror, true, 0 + 4 * i + 0, s.dev.baro.ram.bytes (256 * i + 0) 64⟩,
        ⟨.mirror, true, 0 + 4 * i + 1, s.dev.baro.ram.bytes (256 * i + 64) 64⟩, ⟨.mirror, true, 0 + 4 * i + 2,
        s.dev.baro.ram.bytes (256 * i + 128) 64⟩, ⟨.mirror, true, 0 + 4 * i + 3, s.dev.baro.ram.bytes (256 * i + 192)
        64⟩, ⟨.mirror, true, 8192 + 4 * i + 0, s.dev.baro.ram.bytes (256 * i + 0) 64⟩, ⟨.mirror, true, 8192 + 4 * i +
        1, s.dev.baro.ram.bytes (256 * i + 64) 64⟩, ⟨.mirror, true, 8192 + 4 * i + 2, s.dev.baro.ram.bytes (256 * i +
        128) 64⟩, ⟨.mirror, true, 8192 + 4 * i + 3, s.dev.baro.ram.bytes (256 * i + 192) 64⟩] else [⟨.mirror, true,
        8192 * (s.dev.baro.seq i % 2) + 4 * i + 0, s.dev.baro.ram.bytes (256 * i + 0) 64⟩, ⟨.mirror, true, 8192 *
        (s.dev.baro.seq i % 2) + 4 * i + 1, s.dev.baro.ram.bytes (256 * i + 64) 64⟩, ⟨.mirror, true, 8192 *
        (s.dev.baro.seq i % 2) + 4 * i + 2, s.dev.baro.ram.bytes (256 * i + 128) 64⟩, ⟨.mirror, true, 8192 *
        (s.dev.baro.seq i % 2) + 4 * i + 3, s.dev.baro.ram.bytes (256 * i + 192) 64⟩] : List NvReq)
      let n := s.dev.nv.gets ws
      s.settled = true →
      s.dev.ready 0x1D = true →
      a.privOk = true →
      bitsAt v.toNat 31 1 = 1 →
      1 ≤ bitsAt v.toNat 0 16 →
      s.dev.on BARO.STATUS_RESTORED = true →
      s.dev.on BARO.CTRL_MIRROR_EN = true →
      s.dev.baro.pass = none →
      s.dev.baro.dirty = i :: r →
      s.dev.nv.wait = [] ∨ s.dev.nv.closed = true →
      exec (.baroMirrorNow a v) s = .next (s.ends [] n.2 { (s.dev.stores [BARO.MIRROR_PERIOD] 0 0 v) with
        baro := { s.dev.baro with pass := some ⟨some i, ws.length, true, false, false⟩ }, nv := n.1 })) ∧
  (∀ (a : Acc) (v : BitVec 32) (p : BPass) (s : State),
      s.settled = true →
      s.dev.ready 0x1D = true →
      a.privOk = true →
      bitsAt v.toNat 31 1 = 1 →
      1 ≤ bitsAt v.toNat 0 16 →
      s.dev.on BARO.STATUS_RESTORED = true →
      s.dev.on BARO.CTRL_MIRROR_EN = true →
      s.dev.baro.pass = some p →
      exec (.baroMirrorNow a v) s = .next (s.ends [] [] { (s.dev.stores [BARO.MIRROR_PERIOD] 0 0 v) with
        baro := { s.dev.baro with again := true } })) ∧
  (∀ (a : Acc) (v : BitVec 32) (s : State),
      s.settled = true →
      s.dev.ready 0x1D = true →
      a.privOk = true →
      bitsAt v.toNat 31 1 = 0 →
      1 ≤ bitsAt v.toNat 0 16 →
      exec (.baroMirrorNow a v) s = .next (s.ends [] [] (s.dev.stores [BARO.MIRROR_PERIOD] 0 0 v))) ∧
  (∀ (s : State),
      s.settled = true →
      1000 * s.dev.rd BARO.MIRROR_PERIOD ≤ s.dev.baro.ms →
      s.dev.on BARO.STATUS_RESTORED = false ∨ s.dev.on BARO.CTRL_MIRROR_EN = false →
      exec .baroMirrorPeriod s = .next (s.ends [] [] { s.dev with baro := { s.dev.baro with ms := 0 } })) ∧
  (∀ (s : State),
      s.settled = true →
      1000 * s.dev.rd BARO.MIRROR_PERIOD ≤ s.dev.baro.ms →
      s.dev.on BARO.STATUS_RESTORED = true →
      s.dev.on BARO.CTRL_MIRROR_EN = true →
      s.dev.baro.pass = none →
      s.dev.baro.dirty = [] →
      exec .baroMirrorPeriod s = .next (s.ends [] [] { s.dev with
        baro := { s.dev.baro with ms := 0, pass := some ⟨none, 0, true, false, false⟩ } })) ∧
  (∀ (i : Nat) (r : List Nat) (s : State),
      let ws := (if s.dev.baro.kind i = 0 then [⟨.mirror, true, 0 + 4 * i + 0, s.dev.baro.ram.bytes (256 * i + 0) 64⟩,
        ⟨.mirror, true, 0 + 4 * i + 1, s.dev.baro.ram.bytes (256 * i + 64) 64⟩, ⟨.mirror, true, 0 + 4 * i + 2,
        s.dev.baro.ram.bytes (256 * i + 128) 64⟩, ⟨.mirror, true, 0 + 4 * i + 3, s.dev.baro.ram.bytes (256 * i + 192)
        64⟩, ⟨.mirror, true, 8192 + 4 * i + 0, s.dev.baro.ram.bytes (256 * i + 0) 64⟩, ⟨.mirror, true, 8192 + 4 * i +
        1, s.dev.baro.ram.bytes (256 * i + 64) 64⟩, ⟨.mirror, true, 8192 + 4 * i + 2, s.dev.baro.ram.bytes (256 * i +
        128) 64⟩, ⟨.mirror, true, 8192 + 4 * i + 3, s.dev.baro.ram.bytes (256 * i + 192) 64⟩] else [⟨.mirror, true,
        8192 * (s.dev.baro.seq i % 2) + 4 * i + 0, s.dev.baro.ram.bytes (256 * i + 0) 64⟩, ⟨.mirror, true, 8192 *
        (s.dev.baro.seq i % 2) + 4 * i + 1, s.dev.baro.ram.bytes (256 * i + 64) 64⟩, ⟨.mirror, true, 8192 *
        (s.dev.baro.seq i % 2) + 4 * i + 2, s.dev.baro.ram.bytes (256 * i + 128) 64⟩, ⟨.mirror, true, 8192 *
        (s.dev.baro.seq i % 2) + 4 * i + 3, s.dev.baro.ram.bytes (256 * i + 192) 64⟩] : List NvReq)
      let n := s.dev.nv.gets ws
      s.settled = true →
      1000 * s.dev.rd BARO.MIRROR_PERIOD ≤ s.dev.baro.ms →
      s.dev.on BARO.STATUS_RESTORED = true →
      s.dev.on BARO.CTRL_MIRROR_EN = true →
      s.dev.baro.pass = none →
      s.dev.baro.dirty = i :: r →
      s.dev.nv.wait = [] ∨ s.dev.nv.closed = true →
      exec .baroMirrorPeriod s = .next (s.ends [] n.2 { s.dev with
        baro := { s.dev.baro with ms := 0, pass := some ⟨some i, ws.length, true, false, false⟩ }, nv := n.1 })) ∧
  (∀ (p : BPass) (s : State),
      s.settled = true →
      1000 * s.dev.rd BARO.MIRROR_PERIOD ≤ s.dev.baro.ms →
      s.dev.on BARO.STATUS_RESTORED = true →
      s.dev.on BARO.CTRL_MIRROR_EN = true →
      s.dev.baro.pass = some p →
      exec .baroMirrorPeriod s = .next (s.ends [] [] { s.dev with
        baro := { s.dev.baro with ms := 0, again := true } })) ∧
  (∀ (s : State),
      s.settled = true →
      s.dev.baro.ms < 1000 * s.dev.rd BARO.MIRROR_PERIOD →
      exec .baroMirrorPeriod s = .next (s.ends [] [] s.dev)) ∧
  (∀ (p : BPass) (s : State),
      s.settled = true →
      s.dev.baro.pass = some p →
      p.slot = none →
      s.dev.baro.again = false →
      exec .baroMirrorDone s = .next (s.ends [s.event Ev.BARO_MIRROR_DONE] [] { (s.dev.bump BARO.MIRROR_STAT_PASSES)
        with baro := { s.dev.baro with pass := none } })) ∧
  (∀ (p : BPass) (s : State),
      s.settled = true →
      s.dev.baro.pass = some p →
      p.slot = none →
      s.dev.baro.again = true →
      s.dev.on BARO.STATUS_RESTORED = false ∨ s.dev.on BARO.CTRL_MIRROR_EN = false →
      exec .baroMirrorDone s = .next (s.ends [s.event Ev.BARO_MIRROR_DONE] [] { (s.dev.bump BARO.MIRROR_STAT_PASSES)
        with baro := { s.dev.baro with again := false, pass := none } })) ∧
  (∀ (p : BPass) (s : State),
      s.settled = true →
      s.dev.baro.pass = some p →
      p.slot = none →
      s.dev.baro.again = true →
      s.dev.on BARO.STATUS_RESTORED = true →
      s.dev.on BARO.CTRL_MIRROR_EN = true →
      s.dev.baro.dirty = [] →
      exec .baroMirrorDone s = .next (s.ends [s.event Ev.BARO_MIRROR_DONE] [] { (s.dev.bump BARO.MIRROR_STAT_PASSES)
        with baro := { s.dev.baro with again := false, pass := some ⟨none, 0, true, false, false⟩ } })) ∧
  (∀ (p : BPass) (i : Nat) (r : List Nat) (s : State),
      let ws := (if s.dev.baro.kind i = 0 then [⟨.mirror, true, 0 + 4 * i + 0, s.dev.baro.ram.bytes (256 * i + 0) 64⟩,
        ⟨.mirror, true, 0 + 4 * i + 1, s.dev.baro.ram.bytes (256 * i + 64) 64⟩, ⟨.mirror, true, 0 + 4 * i + 2,
        s.dev.baro.ram.bytes (256 * i + 128) 64⟩, ⟨.mirror, true, 0 + 4 * i + 3, s.dev.baro.ram.bytes (256 * i + 192)
        64⟩, ⟨.mirror, true, 8192 + 4 * i + 0, s.dev.baro.ram.bytes (256 * i + 0) 64⟩, ⟨.mirror, true, 8192 + 4 * i +
        1, s.dev.baro.ram.bytes (256 * i + 64) 64⟩, ⟨.mirror, true, 8192 + 4 * i + 2, s.dev.baro.ram.bytes (256 * i +
        128) 64⟩, ⟨.mirror, true, 8192 + 4 * i + 3, s.dev.baro.ram.bytes (256 * i + 192) 64⟩] else [⟨.mirror, true,
        8192 * (s.dev.baro.seq i % 2) + 4 * i + 0, s.dev.baro.ram.bytes (256 * i + 0) 64⟩, ⟨.mirror, true, 8192 *
        (s.dev.baro.seq i % 2) + 4 * i + 1, s.dev.baro.ram.bytes (256 * i + 64) 64⟩, ⟨.mirror, true, 8192 *
        (s.dev.baro.seq i % 2) + 4 * i + 2, s.dev.baro.ram.bytes (256 * i + 128) 64⟩, ⟨.mirror, true, 8192 *
        (s.dev.baro.seq i % 2) + 4 * i + 3, s.dev.baro.ram.bytes (256 * i + 192) 64⟩] : List NvReq)
      let n := s.dev.nv.gets ws
      s.settled = true →
      s.dev.baro.pass = some p →
      p.slot = none →
      s.dev.baro.again = true →
      s.dev.on BARO.STATUS_RESTORED = true →
      s.dev.on BARO.CTRL_MIRROR_EN = true →
      s.dev.baro.dirty = i :: r →
      s.dev.nv.wait = [] ∨ s.dev.nv.closed = true →
      exec .baroMirrorDone s = .next (s.ends [s.event Ev.BARO_MIRROR_DONE] n.2 { (s.dev.bump BARO.MIRROR_STAT_PASSES)
        with
        baro := { s.dev.baro with again := false, pass := some ⟨some i, ws.length, true, false, false⟩ },
        nv := n.1 })) ∧
  (∀ (p : BPass) (s : State),
      s.settled = true →
      s.dev.baro.pass = none ∨ (s.dev.baro.pass = some p ∧ p.slot.isSome = true) →
      exec .baroMirrorDone s = .next (s.ends [] [] s.dev)) ∧
  (∀ (x : BitVec 2) (w : BitVec 512) (q : NvReq) (l : List NvReq) (p : BPass) (i : Nat) (s : State),
      let n := { s.dev.nv with out := l }.next
      let ok := decide (x = 0#2)
      s.settled = true →
      s.dev.nv.out = q :: l →
      q.src = .mirror →
      s.dev.baro.pass = some p →
      p.slot = some i →
      2 ≤ p.left →
      exec (.nvResponse x w) s = .next (s.ends (if ok then [] else [s.event Ev.BARO_MIRROR_ERR]) n.2 { (if ok then
        s.dev else s.dev.bump BARO.MIRROR_STAT_ERRORS) with
        nv := n.1, baro := { s.dev.baro with pass := some { p with left := p.left - 1, ok := p.ok && ok } } })) ∧
  (∀ (x : BitVec 2) (w : BitVec 512) (q : NvReq) (l : List NvReq) (p : BPass) (i : Nat) (s : State),
      let n := { s.dev.nv with out := l }.next
      let ok := decide (x = 0#2)
      s.settled = true →
      s.dev.nv.out = q :: l →
      q.src = .mirror →
      s.dev.baro.pass = some p →
      p.slot = some i →
      p.left = 1 →
      p.stop = true ∨ s.dev.baro.dirty.find? (fun k => decide (i + 1 ≤ k)) = none →
      exec (.nvResponse x w) s = .next (s.ends (if ok then [] else [s.event Ev.BARO_MIRROR_ERR]) n.2 { (if ok then
        s.dev else s.dev.bump BARO.MIRROR_STAT_ERRORS) with
        nv := n.1, baro := { s.dev.baro with
          dirty := (if p.ok && ok && !p.touched then s.dev.baro.dirty.filter (fun k => k ≠ i) else s.dev.baro.dirty),
          pass := some ⟨none, 0, true, false, false⟩ } })) ∧
  (∀ (a : Acc) (v : BitVec 32) (s : State),
      s.settled = true →
      s.dev.ready 0x1D = true →
      a.sec = true →
      bitsAt v.toNat 31 1 = 1 →
      s.dev.on BARO.STATUS_RESTORED = false →
      s.dev.on BARO.STATUS_NO_RESTORE = false →
      s.dev.baro.shadow = [] ∨ s.dev.baro.frz ≠ 0 ∨ s.dev.baro.snap.isSome = true →
      exec (.baroRestoreDone a v) s = .next (s.ends [s.event Ev.BARO_RESTORED] [] ((s.dev.wr BARO.NEXT_SEQ_SEQ
        (s.dev.rd BARO.RST_SEQ_SEQ)).wr BARO.STATUS_RESTORED 1))) ∧
  (∀ (a : Acc) (v : BitVec 32) (s : State),
      s.settled = true →
      s.dev.ready 0x1D = true →
      a.sec = true →
      bitsAt v.toNat 31 1 = 1 →
      s.dev.on BARO.STATUS_RESTORED = true ∨ s.dev.on BARO.STATUS_NO_RESTORE = true →
      exec (.baroRestoreDone a v) s = .next (s.ends [s.event (Ev.badValue 0x1D)] [] s.dev)) ∧
  (∀ (a : Acc) (v : BitVec 32) (s : State),
      s.settled = true →
      s.dev.ready 0x1D = true →
      a.sec = true →
      bitsAt v.toNat 31 1 = 0 →
      exec (.baroRestoreDone a v) s = .next (s.ends [] [] s.dev)) ∧
  (∀ (s : State),
      s.settled = true →
      s.dev.wiping.contains 0x1D = false ∨ s.dev.wipeBad.contains 0x1D = true →
      s.dev.on BARO.STATUS_RESTORED = false →
      s.dev.on BARO.STATUS_NO_RESTORE = false →
      s.dev.baro.shadow = [] ∨ s.dev.baro.frz ≠ 0 ∨ s.dev.baro.snap.isSome = true →
      exec .baroNoRestore s = .next (s.ends [s.event Ev.BARO_NO_RESTORE] [] { (s.dev.wr BARO.STATUS_NO_RESTORE 1) with
        baro := { s.dev.baro with ram := [], dirty := [] } })) ∧
  (∀ (s : State),
      s.settled = true →
      (s.dev.wiping.contains 0x1D = true ∧ s.dev.wipeBad.contains 0x1D = false)
        ∨ s.dev.on BARO.STATUS_RESTORED = true ∨ s.dev.on BARO.STATUS_NO_RESTORE = true →
      exec .baroNoRestore s = .next (s.ends [] [] s.dev)) ∧
  (∀ (b : List Nat) (i : Nat) (s : State),
      let q := s.dev.rd BARO.NEXT_SEQ_SEQ
      let e := leBytes 4 q ++ b ++ leBytes 4 (crc32c (leBytes 4 q ++ b))
      let sev := b.getD 1 0 % 8
      let c := (s.dev.wr BARO.NEXT_SEQ_SEQ (q + 1)).bump BARO.COMMITS_COUNT
      let y : Baro := { s.dev.baro with
        due := [], ram := s.dev.baro.ram.writeBytes (256 * i) e, dirty := insertAsc i s.dev.baro.dirty }
      let ws := (if y.kind i = 0 then [⟨.mirror, true, 0 + 4 * i + 0, y.ram.bytes (256 * i + 0) 64⟩, ⟨.mirror, true, 0
        + 4 * i + 1, y.ram.bytes (256 * i + 64) 64⟩, ⟨.mirror, true, 0 + 4 * i + 2, y.ram.bytes (256 * i + 128) 64⟩,
        ⟨.mirror, true, 0 + 4 * i + 3, y.ram.bytes (256 * i + 192) 64⟩, ⟨.mirror, true, 8192 + 4 * i + 0, y.ram.bytes
        (256 * i + 0) 64⟩, ⟨.mirror, true, 8192 + 4 * i + 1, y.ram.bytes (256 * i + 64) 64⟩, ⟨.mirror, true, 8192 + 4
        * i + 2, y.ram.bytes (256 * i + 128) 64⟩, ⟨.mirror, true, 8192 + 4 * i + 3, y.ram.bytes (256 * i + 192) 64⟩]
        else [⟨.mirror, true, 8192 * (y.seq i % 2) + 4 * i + 0, y.ram.bytes (256 * i + 0) 64⟩, ⟨.mirror, true, 8192 *
        (y.seq i % 2) + 4 * i + 1, y.ram.bytes (256 * i + 64) 64⟩, ⟨.mirror, true, 8192 * (y.seq i % 2) + 4 * i + 2,
        y.ram.bytes (256 * i + 128) 64⟩, ⟨.mirror, true, 8192 * (y.seq i % 2) + 4 * i + 3, y.ram.bytes (256 * i + 192)
        64⟩] : List NvReq)
      let n := s.dev.nv.gets ws
      s.settled = true →
      s.dev.baro.held = false →
      s.dev.baro.due = [b] →
      2 ≤ b.length →
      2 ≤ b.getD 1 0 % 8 →
      s.dev.on BARO.STATUS_RESTORED = true →
      s.dev.on BARO.CTRL_MIRROR_EN = true →
      s.dev.baroHeld = false →
      s.dev.baro.place (b.getD 1 0 % 8) = some i →
      s.dev.baro.pass = none →
      s.dev.baro.dirty = [] →
      s.dev.nv.wait = [] ∨ s.dev.nv.closed = true →
      exec .baroWindowClose s = .next (s.ends [] n.2 { c with
        stw := s.dev.wakeStw.stw, baro := { y with pass := some ⟨some i, ws.length, true, false, false⟩ },
        nv := n.1 })) ∧
  (∀ (b : List Nat) (i : Nat) (p : BPass) (s : State),
      let q := s.dev.rd BARO.NEXT_SEQ_SEQ
      let e := leBytes 4 q ++ b ++ leBytes 4 (crc32c (leBytes 4 q ++ b))
      let sev := b.getD 1 0 % 8
      let c := (s.dev.wr BARO.NEXT_SEQ_SEQ (q + 1)).bump BARO.COMMITS_COUNT
      let y : Baro := { s.dev.baro with
        due := [], ram := s.dev.baro.ram.writeBytes (256 * i) e, dirty := insertAsc i s.dev.baro.dirty }
      s.settled = true →
      s.dev.baro.held = false →
      s.dev.baro.due = [b] →
      2 ≤ b.length →
      2 ≤ b.getD 1 0 % 8 →
      s.dev.on BARO.STATUS_RESTORED = true →
      s.dev.on BARO.CTRL_MIRROR_EN = true →
      s.dev.baroHeld = false →
      s.dev.baro.place (b.getD 1 0 % 8) = some i →
      s.dev.baro.pass = some p →
      exec .baroWindowClose s = .next (s.ends [] [] { c with
        stw := s.dev.wakeStw.stw, baro := { y with
          pass := y.pass.map (fun (p : BPass) => if p.slot == some i then { p with touched := true } else p),
          again := true } })) ∧
  (∀ (b : List Nat) (s : State),
      let q := s.dev.rd BARO.NEXT_SEQ_SEQ
      let e := leBytes 4 q ++ b ++ leBytes 4 (crc32c (leBytes 4 q ++ b))
      let sev := b.getD 1 0 % 8
      let c := (s.dev.wr BARO.NEXT_SEQ_SEQ (q + 1)).bump BARO.COMMITS_COUNT
      s.settled = true →
      s.dev.baro.held = false →
      s.dev.baro.due = [b] →
      2 ≤ b.length →
      2 ≤ b.getD 1 0 % 8 →
      s.dev.on BARO.STATUS_RESTORED = true →
      s.dev.on BARO.CTRL_MIRROR_EN = true →
      s.dev.baroHeld = true →
      s.dev.baro.shadow.length < 64 →
      s.dev.baro.pass = none →
      s.dev.baro.dirty = [] →
      exec .baroWindowClose s = .next (s.ends [] [] { c with
        stw := s.dev.wakeStw.stw, baro := { s.dev.baro with
          due := [], shadow := s.dev.baro.shadow ++ [e], pass := some ⟨none, 0, true, false, false⟩ } })) ∧
  (∀ (b : List Nat) (p : BPass) (s : State),
      let q := s.dev.rd BARO.NEXT_SEQ_SEQ
      let e := leBytes 4 q ++ b ++ leBytes 4 (crc32c (leBytes 4 q ++ b))
      let sev := b.getD 1 0 % 8
      let c := (s.dev.wr BARO.NEXT_SEQ_SEQ (q + 1)).bump BARO.COMMITS_COUNT
      s.settled = true →
      s.dev.baro.held = false →
      s.dev.baro.due = [b] →
      2 ≤ b.length →
      2 ≤ b.getD 1 0 % 8 →
      s.dev.on BARO.STATUS_RESTORED = true →
      s.dev.on BARO.CTRL_MIRROR_EN = true →
      s.dev.baroHeld = true →
      s.dev.baro.shadow.length < 64 →
      s.dev.baro.pass = some p →
      exec .baroWindowClose s = .next (s.ends [] [] { c with
        stw := s.dev.wakeStw.stw,
        baro := { s.dev.baro with due := [], shadow := s.dev.baro.shadow ++ [e], again := true } }))

/-- CLAIM for a listed feature of a resource that is free, the capture RAM then not being wiped, or that the path
itself owns with no run of the feature in force in progress, makes the path its owner for that feature and answers
GRANTED; with such a run in progress, with another owner, or with the capture RAM being wiped, it is answered
RESOURCE_BUSY, counted, with CLAIM_BUSY once per BUDGET tick and resource. RELEASE by the owner frees the resource,
stops a timer, empties the freed capture RAM and starts its wipe, answers RELEASED, and ends what runs on the claim: a
TUNE run aborts with reason 5, a waveform capture as ABORTED, a snapshot stops; from another it is answered NOT_OWNER
with its event once per BUDGET tick. Either, for a feature that is not listed or with a reserved OP, is answered BAD
with CLAIM_BAD_VALUE. CAPTURE_WIPE_DONE ends the wipe. TMR_WRITE by the owner stores RUN, PERIODIC and LOAD, clears
EXPIRED where its bit is 1, and a start loads the count; a LOAD of 0 is refused with CLAIM_BAD_VALUE and the other
fields are stored; from another path the write is answered NOT_OWNER. CLAIM_TIMER of a running timer at 0 sets
EXPIRED, raises its event and reloads a periodic timer or stops another; for a timer not at 0 it does nothing, and
both do nothing for a number from 16 up. Nothing else changes. What a release does to a run, NOT_OWNER to a release of
a free resource and the load at RUN 0 to 1 are the model's choice (log entry 58); a claim that a safety owner pre-
empts is stated with LiveCalibration and SquallTriggersAndGating. Rests on: R108, R168, R212, R440, R479, R481, R482,
R487, R490, R491. -/
def Obligations.ClaimsReleasesAndTimers : Prop :=
  (∀ (a : Acc) (v : BitVec 32) (s : State),
      s.settled = true →
      s.dev.ready 0x05 = true →
      a.privOk = true →
      bitsAt v.toNat 30 2 = 1 →
      featureOk (bitsAt v.toNat 0 5) (bitsAt v.toNat 8 4) = true →
      s.dev.owns a (bitsAt v.toNat 0 5) = false →
      (s.dev.owner (bitsAt v.toNat 0 5)).kind = 0 →
      (bitsAt v.toNat 0 5 = 0 → s.dev.capWiping = false) →
      exec (.claim a v) s = .next (s.ends [] [] { ((s.dev.wr CLAIM.RESULT_CODE 1 0 (resultIdx a.path)).wr
        CLAIM.RESULT_RES (bitsAt v.toNat 0 5) 0 (resultIdx a.path)) with
        claims := { s.dev.claims with
          res := modAt s.dev.claims.res (bitsAt v.toNat 0 5) (fun _ => { kind := 1, path := pathCode a.path,
                                                                         mid := a.mid.toNat,
                                                                         feat := bitsAt v.toNat 8 4 }) } })) ∧
  (∀ (a : Acc) (v : BitVec 32) (s : State),
      s.settled = true →
      s.dev.ready 0x05 = true →
      a.privOk = true →
      bitsAt v.toNat 30 2 = 1 →
      featureOk (bitsAt v.toNat 0 5) (bitsAt v.toNat 8 4) = true →
      s.dev.owns a (bitsAt v.toNat 0 5) = true →
      s.dev.featureRuns (bitsAt v.toNat 0 5) = false →
      exec (.claim a v) s = .next (s.ends [] [] { ((s.dev.wr CLAIM.RESULT_CODE 1 0 (resultIdx a.path)).wr
        CLAIM.RESULT_RES (bitsAt v.toNat 0 5) 0 (resultIdx a.path)) with
        claims := { s.dev.claims with
          res := modAt s.dev.claims.res (bitsAt v.toNat 0 5) (fun _ => { kind := 1, path := pathCode a.path,
                                                                         mid := a.mid.toNat,
                                                                         feat := bitsAt v.toNat 8 4 }) } })) ∧
  (∀ (a : Acc) (v : BitVec 32) (s : State),
      s.settled = true →
      s.dev.ready 0x05 = true →
      a.privOk = true →
      bitsAt v.toNat 30 2 = 1 →
      featureOk (bitsAt v.toNat 0 5) (bitsAt v.toNat 8 4) = true →
      s.dev.owns a (bitsAt v.toNat 0 5) = true →
      s.dev.featureRuns (bitsAt v.toNat 0 5) = true →
      exec (.claim a v) s = .next (s.ends (if s.dev.claims.busySent.contains (bitsAt v.toNat 0 5) then [] else
        [s.event Ev.CLAIM_BUSY (bitsAt v.toNat 0 5)]) [] { (((s.dev.wr CLAIM.RESULT_CODE 3 0 (resultIdx a.path)).wr
        CLAIM.RESULT_RES (bitsAt v.toNat 0 5) 0 (resultIdx a.path)).bump CLAIM.BUSY_CNT_COUNT) with
        claims := { s.dev.claims with
          busySent := (if s.dev.claims.busySent.contains (bitsAt v.toNat 0 5) then s.dev.claims.busySent else
            insertAsc (bitsAt v.toNat 0 5) s.dev.claims.busySent) } })) ∧
  (∀ (a : Acc) (v : BitVec 32) (s : State),
      s.settled = true →
      s.dev.ready 0x05 = true →
      a.privOk = true →
      bitsAt v.toNat 30 2 = 1 →
      featureOk (bitsAt v.toNat 0 5) (bitsAt v.toNat 8 4) = true →
      s.dev.owns a (bitsAt v.toNat 0 5) = true →
      s.dev.featureRuns (bitsAt v.toNat 0 5) = true →
      exec (.claim a v) s = .next (s.ends (if s.dev.claims.busySent.contains (bitsAt v.toNat 0 5) then [] else
        [s.event Ev.CLAIM_BUSY (bitsAt v.toNat 0 5)]) [] { (((s.dev.wr CLAIM.RESULT_CODE 3 0 (resultIdx a.path)).wr
        CLAIM.RESULT_RES (bitsAt v.toNat 0 5) 0 (resultIdx a.path)).bump CLAIM.BUSY_CNT_COUNT) with
        claims := { s.dev.claims with
          busySent := (if s.dev.claims.busySent.contains (bitsAt v.toNat 0 5) then s.dev.claims.busySent else
            insertAsc (bitsAt v.toNat 0 5) s.dev.claims.busySent) } })) ∧
  (∀ (a : Acc) (v : BitVec 32) (s : State),
      s.settled = true →
      s.dev.ready 0x05 = true →
      a.privOk = true →
      bitsAt v.toNat 30 2 = 1 →
      featureOk (bitsAt v.toNat 0 5) (bitsAt v.toNat 8 4) = true →
      s.dev.owns a (bitsAt v.toNat 0 5) = false →
      (s.dev.owner (bitsAt v.toNat 0 5)).kind ≠ 0 →
      exec (.claim a v) s = .next (s.ends (if s.dev.claims.busySent.contains (bitsAt v.toNat 0 5) then [] else
        [s.event Ev.CLAIM_BUSY (bitsAt v.toNat 0 5)]) [] { (((s.dev.wr CLAIM.RESULT_CODE 3 0 (resultIdx a.path)).wr
        CLAIM.RESULT_RES (bitsAt v.toNat 0 5) 0 (resultIdx a.path)).bump CLAIM.BUSY_CNT_COUNT) with
        claims := { s.dev.claims with
          busySent := (if s.dev.claims.busySent.contains (bitsAt v.toNat 0 5) then s.dev.claims.busySent else
            insertAsc (bitsAt v.toNat 0 5) s.dev.claims.busySent) } })) ∧
  (∀ (a : Acc) (v : BitVec 32) (s : State),
      s.settled = true →
      s.dev.ready 0x05 = true →
      a.privOk = true →
      bitsAt v.toNat 30 2 = 1 →
      featureOk (bitsAt v.toNat 0 5) (bitsAt v.toNat 8 4) = true →
      (s.dev.owner (bitsAt v.toNat 0 5)).kind = 0 →
      bitsAt v.toNat 0 5 = 0 →
      s.dev.capWiping = true →
      exec (.claim a v) s = .next (s.ends (if s.dev.claims.busySent.contains (bitsAt v.toNat 0 5) then [] else
        [s.event Ev.CLAIM_BUSY (bitsAt v.toNat 0 5)]) [] { (((s.dev.wr CLAIM.RESULT_CODE 3 0 (resultIdx a.path)).wr
        CLAIM.RESULT_RES (bitsAt v.toNat 0 5) 0 (resultIdx a.path)).bump CLAIM.BUSY_CNT_COUNT) with
        claims := { s.dev.claims with
          busySent := (if s.dev.claims.busySent.contains (bitsAt v.toNat 0 5) then s.dev.claims.busySent else
            insertAsc (bitsAt v.toNat 0 5) s.dev.claims.busySent) } })) ∧
  (∀ (a : Acc) (v : BitVec 32) (s : State),
      s.settled = true →
      s.dev.ready 0x05 = true →
      a.privOk = true →
      bitsAt v.toNat 30 2 = 1 →
      featureOk (bitsAt v.toNat 0 5) (bitsAt v.toNat 8 4) = true →
      (s.dev.owner (bitsAt v.toNat 0 5)).kind = 0 →
      bitsAt v.toNat 0 5 = 0 →
      s.dev.capWiping = true →
      exec (.claim a v) s = .next (s.ends (if s.dev.claims.busySent.contains (bitsAt v.toNat 0 5) then [] else
        [s.event Ev.CLAIM_BUSY (bitsAt v.toNat 0 5)]) [] { (((s.dev.wr CLAIM.RESULT_CODE 3 0 (resultIdx a.path)).wr
        CLAIM.RESULT_RES (bitsAt v.toNat 0 5) 0 (resultIdx a.path)).bump CLAIM.BUSY_CNT_COUNT) with
        claims := { s.dev.claims with
          busySent := (if s.dev.claims.busySent.contains (bitsAt v.toNat 0 5) then s.dev.claims.busySent else
            insertAsc (bitsAt v.toNat 0 5) s.dev.claims.busySent) } })) ∧
  (∀ (a : Acc) (v : BitVec 32) (s : State),
      s.settled = true →
      s.dev.ready 0x05 = true →
      a.privOk = true →
      featureOk (bitsAt v.toNat 0 5) (bitsAt v.toNat 8 4) = false ∨ bitsAt v.toNat 30 2 = 0 ∨ bitsAt v.toNat 30 2 = 3
        →
      exec (.claim a v) s = .next (s.ends [s.event (Ev.badValue 0x05)] [] ((s.dev.wr CLAIM.RESULT_CODE 5 0 (resultIdx
        a.path)).wr CLAIM.RESULT_RES (bitsAt v.toNat 0 5) 0 (resultIdx a.path)))) ∧
  (∀ (a : Acc) (v : BitVec 32) (s : State),
      s.settled = true →
      s.dev.ready 0x05 = true →
      a.privOk = true →
      featureOk (bitsAt v.toNat 0 5) (bitsAt v.toNat 8 4) = false ∨ bitsAt v.toNat 30 2 = 0 ∨ bitsAt v.toNat 30 2 = 3
        →
      exec (.release a v) s = .next (s.ends [s.event (Ev.badValue 0x05)] [] ((s.dev.wr CLAIM.RESULT_CODE 5 0
        (resultIdx a.path)).wr CLAIM.RESULT_RES (bitsAt v.toNat 0 5) 0 (resultIdx a.path)))) ∧
  (∀ (a : Acc) (v : BitVec 32) (s : State),
      let u : Dev := ((s.dev.wr CLAIM.RESULT_CODE 2 0 (resultIdx a.path)).wr CLAIM.RESULT_RES (bitsAt v.toNat 0 5) 0
        (resultIdx a.path))
      s.settled = true →
      s.dev.ready 0x05 = true →
      a.privOk = true →
      bitsAt v.toNat 30 2 = 2 →
      featureOk (bitsAt v.toNat 0 5) (bitsAt v.toNat 8 4) = true →
      s.dev.owns a (bitsAt v.toNat 0 5) = true →
      1 ≤ bitsAt v.toNat 0 5 →
      s.dev.tuneUses (bitsAt v.toNat 0 5) = false →
      exec (.release a v) s = .next (s.ends [] [] { (if 10 ≤ bitsAt v.toNat 0 5 then u.wr CLAIM.TMR_RUN 0 0 (bitsAt
        v.toNat 0 5 - 10) else u) with
        claims := { s.dev.claims with res := modAt s.dev.claims.res (bitsAt v.toNat 0 5) (fun _ => {}) } })) ∧
  (∀ (a : Acc) (v : BitVec 32) (s : State),
      s.settled = true →
      s.dev.ready 0x05 = true →
      a.privOk = true →
      bitsAt v.toNat 30 2 = 2 →
      featureOk (bitsAt v.toNat 0 5) (bitsAt v.toNat 8 4) = true →
      s.dev.owns a (bitsAt v.toNat 0 5) = true →
      1 ≤ bitsAt v.toNat 0 5 →
      bitsAt v.toNat 0 5 ≤ 9 →
      s.dev.tuneUses (bitsAt v.toNat 0 5) = true →
      exec (.release a v) s = .next (s.ends [s.event Ev.TUNE_ABORT s.dev.tune.rail] [] { ((s.dev.wr CLAIM.RESULT_CODE
        2 0 (resultIdx a.path)).wr CLAIM.RESULT_RES (bitsAt v.toNat 0 5) 0 (resultIdx a.path)) with
        tune := { s.dev.tune with st := .aborted, reason := 5, d := 0 },
        claims := { s.dev.claims with res := modAt s.dev.claims.res (bitsAt v.toNat 0 5) (fun _ => {}) } })) ∧
  (∀ (a : Acc) (v : BitVec 32) (s : State),
      s.settled = true →
      s.dev.ready 0x05 = true →
      a.privOk = true →
      bitsAt v.toNat 30 2 = 2 →
      featureOk (bitsAt v.toNat 0 5) (bitsAt v.toNat 8 4) = true →
      s.dev.owns a 0 = true →
      bitsAt v.toNat 0 5 = 0 →
      (s.dev.owner 0).feat = 1 →
      s.dev.tune.running = true →
      exec (.release a v) s = .next (s.ends [s.event Ev.TUNE_ABORT s.dev.tune.rail] [] { ((s.dev.wr CLAIM.RESULT_CODE
        2 0 (resultIdx a.path)).wr CLAIM.RESULT_RES (bitsAt v.toNat 0 5) 0 (resultIdx a.path)) with
        capRam := [], tune := { s.dev.tune with st := .aborted, reason := 5, d := 0 }, claims := { s.dev.claims with
          wiping := true, res := modAt s.dev.claims.res (bitsAt v.toNat 0 5) (fun _ => {}) } })) ∧
  (∀ (a : Acc) (v : BitVec 32) (s : State),
      s.settled = true →
      s.dev.ready 0x05 = true →
      a.privOk = true →
      bitsAt v.toNat 30 2 = 2 →
      featureOk (bitsAt v.toNat 0 5) (bitsAt v.toNat 8 4) = true →
      s.dev.owns a 0 = true →
      bitsAt v.toNat 0 5 = 0 →
      (s.dev.owner 0).feat = 2 →
      s.dev.wave.st = .armed →
      exec (.release a v) s = .next (s.ends [] [] { ((s.dev.wr CLAIM.RESULT_CODE 2 0 (resultIdx a.path)).wr
        CLAIM.RESULT_RES (bitsAt v.toNat 0 5) 0 (resultIdx a.path)) with
        capRam := [], wave := { s.dev.wave with st := .aborted }, claims := { s.dev.claims with
          wiping := true, res := modAt s.dev.claims.res (bitsAt v.toNat 0 5) (fun _ => {}) } })) ∧
  (∀ (a : Acc) (v : BitVec 32) (s : State),
      s.settled = true →
      s.dev.ready 0x05 = true →
      a.privOk = true →
      bitsAt v.toNat 30 2 = 2 →
      featureOk (bitsAt v.toNat 0 5) (bitsAt v.toNat 8 4) = true →
      s.dev.owns a 0 = true →
      bitsAt v.toNat 0 5 = 0 →
      (s.dev.owner 0).feat = 3 →
      s.dev.baro.shadow = [] →
      exec (.release a v) s = .next (s.ends [] [] { ((s.dev.wr CLAIM.RESULT_CODE 2 0 (resultIdx a.path)).wr
        CLAIM.RESULT_RES (bitsAt v.toNat 0 5) 0 (resultIdx a.path)) with
        capRam := [], baro := { s.dev.baro with snap := none }, claims := { s.dev.claims with
          wiping := true, res := modAt s.dev.claims.res (bitsAt v.toNat 0 5) (fun _ => {}) } })) ∧
  (∀ (a : Acc) (v : BitVec 32) (s : State),
      s.settled = true →
      s.dev.ready 0x05 = true →
      a.privOk = true →
      bitsAt v.toNat 30 2 = 2 →
      featureOk (bitsAt v.toNat 0 5) (bitsAt v.toNat 8 4) = true →
      s.dev.owns a 0 = true →
      bitsAt v.toNat 0 5 = 0 →
      s.dev.tuneUses 0 = false →
      s.dev.wave.st ≠ .armed →
      s.dev.baro.snap = none →
      exec (.release a v) s = .next (s.ends [] [] { ((s.dev.wr CLAIM.RESULT_CODE 2 0 (resultIdx a.path)).wr
        CLAIM.RESULT_RES (bitsAt v.toNat 0 5) 0 (resultIdx a.path)) with
        capRam := [], claims := { s.dev.claims with
          wiping := true, res := modAt s.dev.claims.res (bitsAt v.toNat 0 5) (fun _ => {}) } })) ∧
  (∀ (a : Acc) (v : BitVec 32) (s : State),
      s.settled = true →
      s.dev.ready 0x05 = true →
      a.privOk = true →
      bitsAt v.toNat 30 2 = 2 →
      featureOk (bitsAt v.toNat 0 5) (bitsAt v.toNat 8 4) = true →
      s.dev.owns a (bitsAt v.toNat 0 5) = false →
      exec (.release a v) s = .next (s.ends (if s.dev.claims.notSent.contains (bitsAt v.toNat 0 5) then [] else
        [s.event Ev.CLAIM_NOT_OWNER (bitsAt v.toNat 0 5)]) [] { ((s.dev.wr CLAIM.RESULT_CODE 4 0 (resultIdx
        a.path)).wr CLAIM.RESULT_RES (bitsAt v.toNat 0 5) 0 (resultIdx a.path)) with
        claims := { s.dev.claims with
          notSent := (if s.dev.claims.notSent.contains (bitsAt v.toNat 0 5) then s.dev.claims.notSent else insertAsc
            (bitsAt v.toNat 0 5) s.dev.claims.notSent) } })) ∧
  (∀ (s : State),
      s.settled = true →
      exec .captureWipeDone s = .next (s.ends [] [] { s.dev with claims := { s.dev.claims with wiping := false } })) ∧
  (∀ (k : Nat) (a : Acc) (v : BitVec 32) (s : State),
      let u : Dev := (((s.dev.stores [CLAIM.TMR_RUN, CLAIM.TMR_PERIODIC, CLAIM.TMR_LOAD] 0 k v).wr CLAIM.TMR_EXPIRED
        (s.dev.rd CLAIM.TMR_EXPIRED 0 k - (s.dev.rd CLAIM.TMR_EXPIRED 0 k &&& bitsAt v.toNat 29 1)) 0 k))
      s.settled = true →
      k < 16 →
      s.dev.ready 0x05 = true →
      a.privOk = true →
      s.dev.owns a (10 + k) = true →
      1 ≤ bitsAt v.toNat 0 24 →
      exec (.tmrWrite k a v) s = .next (s.ends [] [] (if s.dev.on CLAIM.TMR_RUN 0 k = false ∧ bitsAt v.toNat 31 1 = 1
        then u.wr CLAIM.TMR_REM_REMAIN (bitsAt v.toNat 0 24) 0 k else u))) ∧
  (∀ (k : Nat) (a : Acc) (v : BitVec 32) (s : State),
      let u : Dev := (((s.dev.stores [CLAIM.TMR_RUN, CLAIM.TMR_PERIODIC] 0 k v).wr CLAIM.TMR_EXPIRED (s.dev.rd
        CLAIM.TMR_EXPIRED 0 k - (s.dev.rd CLAIM.TMR_EXPIRED 0 k &&& bitsAt v.toNat 29 1)) 0 k))
      s.settled = true →
      k < 16 →
      s.dev.ready 0x05 = true →
      a.privOk = true →
      s.dev.owns a (10 + k) = true →
      bitsAt v.toNat 0 24 = 0 →
      exec (.tmrWrite k a v) s = .next (s.ends [s.event (Ev.badValue 0x05)] [] (if s.dev.on CLAIM.TMR_RUN 0 k = false
        ∧ bitsAt v.toNat 31 1 = 1 then u.wr CLAIM.TMR_REM_REMAIN (s.dev.rd CLAIM.TMR_LOAD 0 k) 0 k else u))) ∧
  (∀ (k : Nat) (a : Acc) (v : BitVec 32) (s : State),
      s.settled = true →
      k < 16 →
      s.dev.ready 0x05 = true →
      a.privOk = true →
      s.dev.owns a (10 + k) = false →
      exec (.tmrWrite k a v) s = .next (s.ends (if s.dev.claims.notSent.contains (10 + k) then [] else [s.event
        Ev.CLAIM_NOT_OWNER (10 + k)]) [] { ((s.dev.wr CLAIM.RESULT_CODE 4 0 (resultIdx a.path)).wr CLAIM.RESULT_RES
        (10 + k) 0 (resultIdx a.path)) with
        claims := { s.dev.claims with
          notSent := (if s.dev.claims.notSent.contains (10 + k) then s.dev.claims.notSent else insertAsc (10 + k)
            s.dev.claims.notSent) } })) ∧
  (∀ (k : Nat) (a : Acc) (v : BitVec 32) (s : State),
      s.settled = true →
      16 ≤ k →
      exec (.tmrWrite k a v) s = .next (s.ends [] [] s.dev)) ∧
  (∀ (k : Nat) (s : State),
      s.settled = true →
      k < 16 →
      s.dev.on CLAIM.TMR_RUN 0 k = true →
      s.dev.rd CLAIM.TMR_REM_REMAIN 0 k = 0 →
      exec (.claimTimer k) s = .next (s.ends [s.event Ev.CLAIM_TIMER k] [] (if s.dev.on CLAIM.TMR_PERIODIC 0 k then
        (s.dev.wr CLAIM.TMR_EXPIRED 1 0 k).wr CLAIM.TMR_REM_REMAIN (s.dev.rd CLAIM.TMR_LOAD 0 k) 0 k else (s.dev.wr
        CLAIM.TMR_EXPIRED 1 0 k).wr CLAIM.TMR_RUN 0 0 k))) ∧
  (∀ (k : Nat) (s : State),
      s.settled = true →
      16 ≤ k ∨ s.dev.on CLAIM.TMR_RUN 0 k = false ∨ s.dev.rd CLAIM.TMR_REM_REMAIN 0 k ≠ 0 →
      exec (.claimTimer k) s = .next (s.ends [] [] s.dev))

/-- IRQ_HOST[j], for j from 0 to 3, is high exactly while some page routed to line j has some bit set in both
PAGE_FAULT and PAGE_FAULT_EN. IRQ_SEC is high exactly while some page routed to it has such a bit, or some page has a
set PAGE_FAULT bit whose code is FATAL, whatever PAGE_FAULT_EN and PAGE_IRQ_ROUTE hold. Rests on: R97. -/
def Obligations.InterruptLinesFollowFaults : Prop :=
  (∀ (h : Hdr) (j : Nat), h.irqHost j = true ↔ j < 4 ∧ ∃ p k : Nat, k < 32 ∧ bitAt (h.routeOf p) j = true
      ∧ bitAt (h.faultOf p) k = true ∧ bitAt (h.enOf p) k = true) ∧
  (∀ h : Hdr, h.irqSec = true ↔ (∃ p k : Nat, k < 32 ∧ bitAt (h.routeOf p) 4 = true
      ∧ bitAt (h.faultOf p) k = true ∧ bitAt (h.enOf p) k = true)
      ∨ ∃ p k : Nat, k < 32 ∧ bitAt (h.faultOf p) k = true ∧ codeSev p k = 4)

/-- CLAIM_BREAK with GO = 1 by a secure access to the page ends the claim of a path: the resource becomes free, RESULT
of that path reads PREEMPTED with the resource, PREEMPTS counts and CLAIM_BROKEN is raised with it; on RES 0 the
capture RAM is wiped with what was copied, and a snapshot in progress stops; a TUNE run on the claim aborts with
reason 5 and a waveform capture as ABORTED; a timer whose claim ends stops. A break of a resource that is free, or
that a hardware claimant or safety owner holds, is refused with CLAIM_BAD_VALUE, and one without the secure attribute
is a guard miss. Nothing else changes. That a TUNE run then aborts with reason 5 is log entry 58. Rests on: R483,
R481, R490, R168, R212. -/
def Obligations.BreakEndsAPathsClaim : Prop :=
  (∀ (a : Acc) (v : BitVec 32) (s : State),
      let p := (s.dev.owner (bitsAt v.toNat 0 5)).path - 1
      s.settled = true →
      s.dev.ready 0x05 = true →
      a.sec = true →
      bitsAt v.toNat 31 1 = 1 →
      (s.dev.owner (bitsAt v.toNat 0 5)).kind = 1 →
      1 ≤ bitsAt v.toNat 0 5 →
      bitsAt v.toNat 0 5 ≤ 9 →
      s.dev.tuneUses (bitsAt v.toNat 0 5) = false →
      exec (.claimBreak a v) s = .next (s.ends [s.event Ev.CLAIM_BROKEN (bitsAt v.toNat 0 5)] [] { (((s.dev.wr
        CLAIM.RESULT_CODE 6 0 p).wr CLAIM.RESULT_RES (bitsAt v.toNat 0 5) 0 p).bump CLAIM.PREEMPTS_COUNT) with
        claims := { s.dev.claims with res := modAt s.dev.claims.res (bitsAt v.toNat 0 5) (fun _ => {}) } })) ∧
  (∀ (a : Acc) (v : BitVec 32) (s : State),
      let p := (s.dev.owner (bitsAt v.toNat 0 5)).path - 1
      s.settled = true →
      s.dev.ready 0x05 = true →
      a.sec = true →
      bitsAt v.toNat 31 1 = 1 →
      (s.dev.owner (bitsAt v.toNat 0 5)).kind = 1 →
      1 ≤ bitsAt v.toNat 0 5 →
      bitsAt v.toNat 0 5 ≤ 8 →
      s.dev.tuneUses (bitsAt v.toNat 0 5) = true →
      exec (.claimBreak a v) s = .next (s.ends [s.event Ev.CLAIM_BROKEN (bitsAt v.toNat 0 5), s.event Ev.TUNE_ABORT
        s.dev.tune.rail] [] { (((s.dev.wr CLAIM.RESULT_CODE 6 0 p).wr CLAIM.RESULT_RES (bitsAt v.toNat 0 5) 0 p).bump
        CLAIM.PREEMPTS_COUNT) with
        tune := { s.dev.tune with st := .aborted, reason := 5, d := 0 },
        claims := { s.dev.claims with res := modAt s.dev.claims.res (bitsAt v.toNat 0 5) (fun _ => {}) } })) ∧
  (∀ (a : Acc) (v : BitVec 32) (s : State),
      let p := (s.dev.owner (bitsAt v.toNat 0 5)).path - 1
      s.settled = true →
      s.dev.ready 0x05 = true →
      a.sec = true →
      bitsAt v.toNat 31 1 = 1 →
      (s.dev.owner (bitsAt v.toNat 0 5)).kind = 1 →
      bitsAt v.toNat 0 5 = 0 →
      s.dev.tuneUses 0 = true →
      exec (.claimBreak a v) s = .next (s.ends [s.event Ev.CLAIM_BROKEN 0, s.event Ev.TUNE_ABORT s.dev.tune.rail] [] {
        (((s.dev.wr CLAIM.RESULT_CODE 6 0 p).wr CLAIM.RESULT_RES (bitsAt v.toNat 0 5) 0 p).bump CLAIM.PREEMPTS_COUNT)
        with
        capRam := [], tune := { s.dev.tune with st := .aborted, reason := 5, d := 0 }, claims := { s.dev.claims with
          wiping := true, res := modAt s.dev.claims.res (bitsAt v.toNat 0 5) (fun _ => {}) } })) ∧
  (∀ (a : Acc) (v : BitVec 32) (s : State),
      let p := (s.dev.owner (bitsAt v.toNat 0 5)).path - 1
      s.settled = true →
      s.dev.ready 0x05 = true →
      a.sec = true →
      bitsAt v.toNat 31 1 = 1 →
      (s.dev.owner (bitsAt v.toNat 0 5)).kind = 1 →
      bitsAt v.toNat 0 5 = 0 →
      s.dev.tuneUses 0 = false →
      (s.dev.owner 0).feat ≠ 2 →
      (s.dev.owner 0).feat ≠ 3 →
      exec (.claimBreak a v) s = .next (s.ends [s.event Ev.CLAIM_BROKEN (bitsAt v.toNat 0 5)] [] { (((s.dev.wr
        CLAIM.RESULT_CODE 6 0 p).wr CLAIM.RESULT_RES (bitsAt v.toNat 0 5) 0 p).bump CLAIM.PREEMPTS_COUNT) with
        capRam := [], claims := { s.dev.claims with
          wiping := true, res := modAt s.dev.claims.res (bitsAt v.toNat 0 5) (fun _ => {}) } })) ∧
  (∀ (a : Acc) (v : BitVec 32) (s : State),
      let p := (s.dev.owner (bitsAt v.toNat 0 5)).path - 1
      s.settled = true →
      s.dev.ready 0x05 = true →
      a.sec = true →
      bitsAt v.toNat 31 1 = 1 →
      (s.dev.owner (bitsAt v.toNat 0 5)).kind = 1 →
      bitsAt v.toNat 0 5 = 0 →
      (s.dev.owner 0).feat = 2 →
      exec (.claimBreak a v) s = .next (s.ends [s.event Ev.CLAIM_BROKEN (bitsAt v.toNat 0 5)] [] { (((s.dev.wr
        CLAIM.RESULT_CODE 6 0 p).wr CLAIM.RESULT_RES (bitsAt v.toNat 0 5) 0 p).bump CLAIM.PREEMPTS_COUNT) with
        capRam := [], wave := if s.dev.wave.st = .armed then { s.dev.wave with st := .aborted } else s.dev.wave,
        claims := { s.dev.claims with
          wiping := true, res := modAt s.dev.claims.res (bitsAt v.toNat 0 5) (fun _ => {}) } })) ∧
  (∀ (a : Acc) (v : BitVec 32) (s : State),
      let p := (s.dev.owner (bitsAt v.toNat 0 5)).path - 1
      s.settled = true →
      s.dev.ready 0x05 = true →
      a.sec = true →
      bitsAt v.toNat 31 1 = 1 →
      (s.dev.owner (bitsAt v.toNat 0 5)).kind = 1 →
      bitsAt v.toNat 0 5 = 0 →
      (s.dev.owner 0).feat = 3 →
      s.dev.baro.shadow = [] →
      exec (.claimBreak a v) s = .next (s.ends [s.event Ev.CLAIM_BROKEN (bitsAt v.toNat 0 5)] [] { (((s.dev.wr
        CLAIM.RESULT_CODE 6 0 p).wr CLAIM.RESULT_RES (bitsAt v.toNat 0 5) 0 p).bump CLAIM.PREEMPTS_COUNT) with
        capRam := [], baro := { s.dev.baro with snap := none }, claims := { s.dev.claims with
          wiping := true, res := modAt s.dev.claims.res (bitsAt v.toNat 0 5) (fun _ => {}) } })) ∧
  (∀ (a : Acc) (v : BitVec 32) (s : State),
      let p := (s.dev.owner (bitsAt v.toNat 0 5)).path - 1
      s.settled = true →
      s.dev.ready 0x05 = true →
      a.sec = true →
      bitsAt v.toNat 31 1 = 1 →
      (s.dev.owner (bitsAt v.toNat 0 5)).kind = 1 →
      10 ≤ bitsAt v.toNat 0 5 →
      exec (.claimBreak a v) s = .next (s.ends [s.event Ev.CLAIM_BROKEN (bitsAt v.toNat 0 5)] [] { ((((s.dev.wr
        CLAIM.RESULT_CODE 6 0 p).wr CLAIM.RESULT_RES (bitsAt v.toNat 0 5) 0 p).bump CLAIM.PREEMPTS_COUNT).wr
        CLAIM.TMR_RUN 0 0 (bitsAt v.toNat 0 5 - 10)) with
        claims := { s.dev.claims with res := modAt s.dev.claims.res (bitsAt v.toNat 0 5) (fun _ => {}) } })) ∧
  (∀ (a : Acc) (v : BitVec 32) (s : State),
      s.settled = true →
      s.dev.ready 0x05 = true →
      a.sec = true →
      bitsAt v.toNat 31 1 = 1 →
      (s.dev.owner (bitsAt v.toNat 0 5)).kind ≠ 1 →
      exec (.claimBreak a v) s = .next (s.ends [s.event (Ev.badValue 0x05)] [] s.dev)) ∧
  (∀ (a : Acc) (v : BitVec 32) (s : State),
      s.settled = true →
      s.dev.ready 0x05 = true →
      a.sec = false →
      v ≠ 0#32 →
      bitsAt v.toNat 31 1 = 1 →
      s.dev.missSent = true →
      exec (.claimBreak a v) s = .next (s.ends [] [] (((((s.dev.wr SEC.GUARD_MISS_COUNT (min (2 ^ 32 - 1) (s.dev.rd
        SEC.GUARD_MISS_COUNT + 1))).wr SEC.GUARD_LAST_PATH (missPath a.path)).wr SEC.GUARD_LAST_APERTURE 0).wr
        SEC.GUARD_LAST_MID a.mid.toNat).wr SEC.GUARD_LAST_ADDR (CLAIM.BREAK_GO.adr 0 0))))

/-- BARO_WINDOW_CLOSE that commits one record gives it the SEQ in NEXT_SEQ, which it increments modulo 2^32: the
record placed in slot i reads that SEQ, and a record that waits in the shadow starts with its four bytes. Record A is
older than record B exactly when (SEQ_B - SEQ_A) mod 2^32 lies from 1 to 2^31 - 1. Rests on: R436. -/
def Obligations.CommitsTakeNextSeq : Prop :=
  (∀ (b : List Nat) (i : Nat) (s : State),
      let q := s.dev.rd BARO.NEXT_SEQ_SEQ
      s.settled = true →
      s.dev.baro.held = false →
      s.dev.baro.due = [b] →
      s.dev.baroHeld = false →
      2 ≤ b.length →
      s.dev.baro.place (b.getD 1 0 % 8) = some i →
      Reaches (.baroWindowClose) s (fun t => t.dev.baro.seq i = q % 2 ^ 32 ∧ t.dev.rd BARO.NEXT_SEQ_SEQ = (q + 1) % 2
        ^ 32)) ∧
  (∀ (b : List Nat) (s : State),
      let q := s.dev.rd BARO.NEXT_SEQ_SEQ
      s.settled = true →
      s.dev.baro.held = false →
      s.dev.baro.due = [b] →
      s.dev.baroHeld = true →
      s.dev.baro.shadow.length < 64 →
      Reaches (.baroWindowClose) s (fun t => t.dev.baro.shadow.length = s.dev.baro.shadow.length + 1
        ∧ t.dev.baro.shadow.take s.dev.baro.shadow.length = s.dev.baro.shadow
        ∧ (t.dev.baro.shadow.getD s.dev.baro.shadow.length []).take 4 = leBytes 4 q
        ∧ t.dev.rd BARO.NEXT_SEQ_SEQ = (q + 1) % 2 ^ 32)) ∧
  (∀ a b : Nat, older a b = true ↔ 1 ≤ ((b : Int) - a) % 2 ^ 32 ∧ ((b : Int) - a) % 2 ^ 32 ≤ 2 ^ 31 - 1)

/-- TEST_DESELECT of a selected instrument other than BLOCK_ID leaves what the BLOCK reset of BLOCK_RST_N leaves on
the block with the instrument deselected, except that RESET_CAUSE names test exit (4). So no memory is left as the
instrument set it. Rests on: R71. -/
def Obligations.DeselectPerformsBlockReset : Prop :=
  (∀ (x : Nat) (s : State), s.test.contains x = true → x ≠ 0 →
      ∃ t, exec .blockResetPin { s with test := s.test.filter (fun y => y != x) } = .next t ∧
        exec (.testDeselect x) s = .next { t with aon := { t.aon with last := 4 } } ∧
        t.dev.capRam = [] ∧ t.dev.mbox.buf = [] ∧ t.dev.baro.ram = [] ∧ t.dev.fit = [] ∧ t.dev.therm.cal = [] ∧
        t.dev.stw.active = [] ∧ t.dev.stw.staging = [] ∧ t.dev.fc.bank0 = [] ∧ t.dev.fc.bank1 = [] ∧
        t.dev.step.bank0 = [] ∧ t.dev.step.bank1 = [] ∧ t.dev.lvl0 = [] ∧ t.dev.lvl1 = [])

/-- step of a state with command c in front of its queue is exec of c on the state with the rest of the queue; step of
a state whose queue is empty leaves it as it is (the model's choice, log entry 1). Rests on: R100, R102. -/
def Obligations.StepTakesTheFrontCommand : Prop :=
  (∀ (c : Instr) (r : List Instr) (s : State), step { s with pending := c :: r } = exec c { s with pending := r }) ∧
  (∀ s : State, s.pending = [] → step s = .next s)

/-- State.reset holds nothing of a command in progress, no wake event that has not reached its control core, and an
event ring with no entry; its queue is empty, and its Squall latch is clear. Rests on: R34, R110, R450. -/
def Obligations.ResetIsSettled : Prop :=
  (State.reset.settled = true) ∧
  (State.reset.pending = []) ∧
  (State.reset.hdr.ring = [] ∧ State.reset.aon.squall.active = false)

/-- From every settled state, a step that answers a next state answers a settled one: every event raised has entered
the ring, which holds at most 32 entries, every sample has reached the recorder, every Squall trigger has acted, and
every wake event that the mailboxes hold has reached its control core. Rests on: R34, R110, R413, R432. -/
def Obligations.StepKeepsSettled : Prop :=
  (∀ s t : State, s.settled = true → step s = .next t → t.settled = true)

/-- From every state with the Squall latch set, a step that answers a next state leaves the latch set with its cause,
keeps every trigger of TRIGMASK, REC_DONE and NVFAIL once set, and keeps the critical record in PD_AON, unless the
command taken is COLD_RESET. Stated for every command of the block. Rests on: R32, R326. -/
def Obligations.OnlyColdResetClearsSquall : Prop :=
  (∀ s t : State, s.aon.squall.active = true → step s = .next t → s.pending.head? ≠ some .coldReset →
      t.aon.squall.active = true ∧ t.aon.squall.cause = s.aon.squall.cause ∧ t.aon.squall.bytes = s.aon.squall.bytes ∧
      t.aon.squall.trigs ||| s.aon.squall.trigs = t.aon.squall.trigs ∧
      (s.aon.squall.recDone = true → t.aon.squall.recDone = true) ∧ (s.aon.squall.nvFail = true → t.aon.squall.nvFail
        = true))
end

