-- ==== Sys2Proof/WellFormed.lean ====
section
/-!
DEFINITION. WellFormed.lean: which commands the block can be sent: instances and task IDs within the block's largest build,
the attributes of each path (R106), and the word that a row of the opcode table names.
-/
namespace Sys2Proof
open Sys2Proof.Machine

/-- R106: the control cores' accesses carry fixed attributes. -/
def Acc.wf (a : Acc) : Bool :=
  match a.path with
  | .steward => a == accSteward
  | .warden => a == accWarden
  | _ => true

/-- An access to the register aperture: every path but the TBL port (R44). -/
def Acc.wfReg (a : Acc) : Bool := a.wf && a.path != .tblPort

/-- An access to the table aperture: every path but the register port (R44). -/
def Acc.wfTbl (a : Acc) : Bool := a.wf && a.path != .regPort

/-- The field `f` of a written word is `x`. -/
def wordHas (f : Fld) (v : BitVec 32) (x : Nat) : Bool := bitsAt v.toNat f.lo f.wid == x

/-- The command can be sent. -/
def Instr.wf (i : Instr) : Bool :=
  match i with
  | .coldReset => true
  | .warmReset => true
  | .blockResetPin => true
  | .blockReset a v => a.wfReg && v.toNat == 0xB10C
  | .testDeselect x => decide (x < 4)
  | .lifeCycleReset => true
  | .pageWipeDone page _ => memPages.contains page
  | .beat _ _ _ _ => true
  | .railTick vs => decide (vs.length ≤ 8) && vs.all (fun l => l.all (fun x => decide (x < 2 ^ 14)))
  | .thermTick ring _ => decide (ring.1.length ≤ 4) && decide (ring.2.length ≤ 256)
  | .isobarSlot => true
  | .budgetTick _ => true
  | .tickOverrun t => [0x05, 0x07, 0x08, 0x21, 0x31].contains t
  | .tickFixedOverrun t => fixedTasks.contains t
  | .gtValidFall => true
  | .forwardSlot p _ => decide (p < 80)
  | .railCycleStart n _ => decide (n < 8)
  | .returnFrame p m _ => decide (p < 80) && decide (m < 6)
  | .linkStepTimeout p => decide (p < 80)
  | .phaseEnWrite p a _ => a.wfReg && decide (p < 80)
  | .phaseRetrain p a v => a.wfReg && decide (p < 80) && wordHas PHASE.CTRL_RETRAIN v 1
  | .phaseClear p a v => a.wfReg && decide (p < 80) && wordHas PHASE.CTRL_CLEAR v 1
  | .phaseForced n a v => a.wfReg && decide (n < 8) && wordHas RAIL.FINJ_GO v 1
  | .railVsLost n => decide (n < 8)
  | .railVsSquall n => decide (n < 8)
  | .railRun n a v => a.wfReg && decide (n < 8) && wordHas RAIL.CTRL_RUN v 1
  | .railStop n a v => a.wfReg && decide (n < 8) && wordHas RAIL.CTRL_RUN v 0
  | .loopOpen n a v => a.wfReg && decide (n < 8) && wordHas RAIL.CTRL_LOOP v 0
  | .loopClose n a v => a.wfReg && decide (n < 8) && wordHas RAIL.CTRL_LOOP v 1
  | .railOpenTimeout n => decide (n < 8)
  | .coefEditWrite n k a _ => a.wfReg && decide (n < 8) && decide (k < 8)
  | .railSrcWrite n a _ => a.wfReg && decide (n < 8)
  | .railCmd n a _ => a.wfReg && decide (n < 8)
  | .avsResponse n _ _ _ => decide (n < 8)
  | .railAvsTimeout n => decide (n < 8)
  | .tuneArm a v => a.wfReg && wordHas TUNE.CTRL_ARM v 1
  | .tuneStop a v => a.wfReg && wordHas TUNE.CTRL_STOP v 1
  | .tuneDone => true
  | .dsEvtAccept s _ _ => decide (s < 64)
  | .servoStep s => decide (s < 64)
  | .gustReleaseWaitEnd m => decide (m < 32)
  | .gustLong m => decide (m < 32)
  | .droopStuck s => decide (s < 64)
  | .mapUseWrite s a v => a.wfReg && decide (s < 64) && wordHas DROOP.MAP_USE v 1
  | .calPeriodDue => true
  | .calGo a v => a.wfReg && wordHas DROOP.CAL_CTRL_GO v 1
  | .calStart => true
  | .calGapEnd => true
  | .calPulseEnd => true
  | .waveArm a v => a.wfReg && wordHas DROOP.WAVE_CFG_ARM v 1
  | .waveStop a v => a.wfReg && wordHas DROOP.WAVE_CFG_STOP v 1
  | .droopWaveDone => true
  | .govEscLevel sc => decide (sc < 9)
  | .govEscPool sc => decide (sc < 9)
  | .govStepUp => true
  | .govSafePolicy => true
  | .prochot => true
  | .levelBankSwap a v => a.wfReg && wordHas LEVEL.BANK_SWAP v 1
  | .levelTableCheck => true
  | .fitctlWrite a _ => a.wfReg
  | .cdPrepAck m => decide (m < 32)
  | .cdSwitchRaise m => decide (m < 32)
  | .cdSwitchAck m => decide (m < 32)
  | .cdUngate m => decide (m < 32)
  | .levelPrepTimeout m => decide (m < 32)
  | .levelSwitchTimeout m => decide (m < 32)
  | .creditRequest reqs _ => reqs.all (fun r => decide (r.1 < 512))
  | .creditReturn c _ => decide (c < 512)
  | .creditGrant => true
  | .creditReclaim c slot => decide (c < 512) && decide (slot < 2)
  | .fillTimeout c => decide (c < 512)
  | .mediumPromote c => decide (c < 512)
  | .creditStarve n => decide (n < 8)
  | .activityCounts ch _ counts => decide (ch < 32) && decide (counts.length ≤ 16)
  | .hintToken toks _ _ => toks.all (fun t => decide (t.1 < 32))
  | .hintPtrFault => true
  | .stepSwap a v => a.wfReg && wordHas STEP.CTRL_SWAP v 1
  | .stepSwapNow a v => a.wfReg && wordHas STEP.CTRL_SWAP_NOW v 1
  | .fcastStale => true
  | .fcastSwap a v => a.wfReg && wordHas FCAST.CTRL_SWAP v 1
  | .fcastLoadCheck _ => true
  | .fcastSwapDone => true
  | .fcastRearm a v => a.wfReg && wordHas FCAST.CTRL_REARM v 1
  | .fcastEnWrite a _ => a.wfReg
  | .thermRingFail k => decide (k < 4)
  | .thermExcluded n => decide (n < 256)
  | .thermReadmit n => decide (n < 256)
  | .thermZoneLost z => decide (z < 32)
  | .thermFastRelease => true
  | .thermRelease => true
  | .xtSample x _ _ => decide (x < 16)
  | .thermXtStale x => decide (x < 16)
  | .thermCoolant => true
  | .sqForce a v => a.wfReg && v.toNat == 0x5C01
  | .squallGate => true
  | .critRecordPresent => true
  | .critRecordResponse _ => true
  | .critWdataWrite a _ => a.wfReg
  | .critIdxDone a v => a.wfReg && wordHas THERM.CRIT_IDX_DONE v 1
  | .isobarApplyGo a v => a.wfReg && wordHas ISOBAR.APPLY_CTRL_GO v 1
  | .isobarApply => true
  | .isobarMessage _ _ => true
  | .isobarTimeout => true
  | .isobarResultApply => true
  | .isobarFbSend => true
  | .drizzleIdleSet c => decide (c < 512)
  | .drizzleWaitExpired c => decide (c < 512)
  | .prerampGo a v => a.wfReg && wordHas DRIZZLE.PRERAMP_CTRL_GO v 1
  | .prerampStart => true
  | .drizzlePrerampDone => true
  | .drizzlePrerampLapsed => true
  | .grantSubmit a _ => a.wfReg
  | .budgetExpired => true
  | .budgetAsk => true
  | .pmbPollStart => true
  | .pmbPollDone fail r0 r1 => decide (r0.length ≤ 6) && decide (r1.length ≤ 6) && fail.all (fun k => decide (k < 2))
  | .pmbAlert _ _ => true
  | .pmbTimeout k => decide (k < 2)
  | .ledgerClose a v => a.wfReg && wordHas LEDGER.CLOSE_GO v 1
  | .ledgerQuery a v => a.wfReg && wordHas LEDGER.QUERY_GO v 1
  | .ledgerQueryDone => true
  | .ledgerFlush a v => a.wfReg && wordHas LEDGER.CTRL_FLUSH v 1
  | .ledgerFlushDone => true
  | .memWinBaseWrite a _ => a.wfReg
  | .ledgerInitDone => true
  | .memReadData _ => true
  | .memWriteDone => true
  | .exportRecordEnter => true
  | .exportBatchClose => true
  | .exportSignature => true
  | .exportSignFail => true
  | .exportTransfer => true
  | .exportMark a v => a.wfReg && wordHas EXPORT.CMD_MARK v 1
  | .exportRewind a v => a.wfReg && wordHas EXPORT.CMD_REWIND v 1
  | .exportRelease a v => a.wfReg && wordHas EXPORT.CMD_RELEASE v 1
  | .exportIdle => true
  | .exportPtrFault => true
  | .exportEnWrite a _ => a.wfReg
  | .mboxDataWrite m a _ => a.wfReg && decide (m < 6)
  | .mboxTake m a v => a.wfReg && decide (m < 6) && wordHas MBOX.CTRL_TAKE v 1
  | .mboxRing m a _ => a.wfReg && decide (m < 6)
  | .mboxDbClear m a _ => a.wfReg && decide (m < 6)
  | .coreSleep _ => true
  | .coreWake _ => true
  | .grant => true
  | .policy => true
  | .telemCfg => true
  | .telemetry k => decide (k < 5)
  | .ask => true
  | .baro => true
  | .ping => true
  | .getVersion => true
  | .getCapabilities => true
  | .negotiateAlgorithms => true
  | .getDigests => true
  | .getCertificate => true
  | .challenge => true
  | .getMeasurements => true
  | .spdmUnsupported => true
  | .imageBegin => true
  | .imageChunk => true
  | .imageSwap => true
  | .imageCheckDone => true
  | .swapReady => true
  | .swapGraceEnd => true
  | .lcNonce _ => true
  | .lcTransition => true
  | .provWrite => true
  | .pubkey => true
  | .lcNonceExpire => true
  | .certRead => true
  | .baroNonce _ => true
  | .baroNonceExpire => true
  | .baroClear => true
  | .nvRead => true
  | .nvWrite => true
  | .secWrite => true
  | .spdmSign => true
  | .nvResponse _ _ => true
  | .stewardHalt a v => a.wfReg && v.toNat == 0x5E7D
  | .wardenRestart a v => a.wfReg && v.toNat == 0x3A5D
  | .heartbeat a _ => a.wfReg
  | .fwPolicyStale => true
  | .wardenBoot nv _ _ => Mem.wf nv
  | .idSecret _ => true
  | .secKeyFail => true
  | .loadPcc a v => a.wfReg && wordHas SEC.LOAD_PCC_GO v 1
  | .opsecTick => true
  | .lifeRecordHourly => true
  | .lockall a v => a.wfReg && v.toNat == 0x10CA
  | .measRecompute => true
  | .baroWindowClose => true
  | .baroFreezeHold a v => a.wfReg && wordHas BARO.FREEZE_HOLD v 1
  | .baroFreezeRelease a v => a.wfReg && wordHas BARO.FREEZE_RELEASE v 1
  | .baroFreezeTimeout => true
  | .baroSnap a v => a.wfReg && wordHas BARO.SNAP_GO v 1
  | .baroSnapDone => true
  | .baroMirrorNow a v => a.wfReg && wordHas BARO.MIRROR_NOW v 1
  | .baroMirrorPeriod => true
  | .baroMirrorDone => true
  | .baroRestoreDone a v => a.wfReg && wordHas BARO.RESTORE_DONE v 1
  | .baroNoRestore => true
  | .claim a v => a.wfReg && wordHas CLAIM.REQ_OP v 1
  | .release a v => a.wfReg && wordHas CLAIM.REQ_OP v 2
  | .claimBreak a v => a.wfReg && wordHas CLAIM.BREAK_GO v 1
  | .captureWipeDone => true
  | .tmrWrite k a _ => a.wfReg && decide (k < 16)
  | .claimTimer k => decide (k < 16)
  | .evtNext a v => a.wfReg && wordHas TOP.EVT_NEXT_POP v 1
  | .pageFaultClear page a _ => a.wfReg && decide (page < 32)
  | .aonWriteDone page => decide (page < 32)
  | .registerWrite a _ _ => a.wfReg
  | .tblWrite a _ _ _ => a.wfTbl
  | .dsClkEdge s _ => decide (s < 64)
  | .sitePowerUp droop s => if droop then decide (s < 64) else decide (s < 256)
  | .satelliteInUse m _ => decide (m < 32)
  | .prochotRelease => true
  | .smbalertRelease => true
  | .cdAckFall m _ => decide (m < 32)
  | .nvRequestAccept => true
  | .registerRead a _ => a.wfReg
  | .tblRead a _ => a.wfTbl
  | .testAccess x => decide (x < 4)

end Sys2Proof
end

