-- ==== Sys2Proof/Laws/PerInstr.lean ====
section
/-!
SUPPORT. Laws/PerInstr.lean: the access that a command carries, and what a well-formed command says of it, command by command.
-/
namespace Sys2Proof

/-- The access that a command carries, if it is one of a bus path (R106). -/
def Instr.access (i : Instr) : Option Acc :=
  match i with
  | .coldReset => none
  | .warmReset => none
  | .blockResetPin => none
  | .blockReset a _ => some a
  | .testDeselect _ => none
  | .lifeCycleReset => none
  | .pageWipeDone _ _ => none
  | .beat _ _ _ _ => none
  | .railTick _ => none
  | .thermTick _ _ => none
  | .isobarSlot => none
  | .budgetTick _ => none
  | .tickOverrun _ => none
  | .tickFixedOverrun _ => none
  | .gtValidFall => none
  | .forwardSlot _ _ => none
  | .railCycleStart _ _ => none
  | .returnFrame _ _ _ => none
  | .linkStepTimeout _ => none
  | .phaseEnWrite _ a _ => some a
  | .phaseRetrain _ a _ => some a
  | .phaseClear _ a _ => some a
  | .phaseForced _ a _ => some a
  | .railVsLost _ => none
  | .railVsSquall _ => none
  | .railRun _ a _ => some a
  | .railStop _ a _ => some a
  | .loopOpen _ a _ => some a
  | .loopClose _ a _ => some a
  | .railOpenTimeout _ => none
  | .coefEditWrite _ _ a _ => some a
  | .railSrcWrite _ a _ => some a
  | .railCmd _ a _ => some a
  | .avsResponse _ _ _ _ => none
  | .railAvsTimeout _ => none
  | .tuneArm a _ => some a
  | .tuneStop a _ => some a
  | .tuneDone => none
  | .dsEvtAccept _ _ _ => none
  | .servoStep _ => none
  | .gustReleaseWaitEnd _ => none
  | .gustLong _ => none
  | .droopStuck _ => none
  | .mapUseWrite _ a _ => some a
  | .calPeriodDue => none
  | .calGo a _ => some a
  | .calStart => none
  | .calGapEnd => none
  | .calPulseEnd => none
  | .waveArm a _ => some a
  | .waveStop a _ => some a
  | .droopWaveDone => none
  | .govEscLevel _ => none
  | .govEscPool _ => none
  | .govStepUp => none
  | .govSafePolicy => none
  | .prochot => none
  | .levelBankSwap a _ => some a
  | .levelTableCheck => none
  | .fitctlWrite a _ => some a
  | .cdPrepAck _ => none
  | .cdSwitchRaise _ => none
  | .cdSwitchAck _ => none
  | .cdUngate _ => none
  | .levelPrepTimeout _ => none
  | .levelSwitchTimeout _ => none
  | .creditRequest _ _ => none
  | .creditReturn _ _ => none
  | .creditGrant => none
  | .creditReclaim _ _ => none
  | .fillTimeout _ => none
  | .mediumPromote _ => none
  | .creditStarve _ => none
  | .activityCounts _ _ _ => none
  | .hintToken _ _ _ => none
  | .hintPtrFault => none
  | .stepSwap a _ => some a
  | .stepSwapNow a _ => some a
  | .fcastStale => none
  | .fcastSwap a _ => some a
  | .fcastLoadCheck _ => none
  | .fcastSwapDone => none
  | .fcastRearm a _ => some a
  | .fcastEnWrite a _ => some a
  | .thermRingFail _ => none
  | .thermExcluded _ => none
  | .thermReadmit _ => none
  | .thermZoneLost _ => none
  | .thermFastRelease => none
  | .thermRelease => none
  | .xtSample _ _ _ => none
  | .thermXtStale _ => none
  | .thermCoolant => none
  | .sqForce a _ => some a
  | .squallGate => none
  | .critRecordPresent => none
  | .critRecordResponse _ => none
  | .critWdataWrite a _ => some a
  | .critIdxDone a _ => some a
  | .isobarApplyGo a _ => some a
  | .isobarApply => none
  | .isobarMessage _ _ => none
  | .isobarTimeout => none
  | .isobarResultApply => none
  | .isobarFbSend => none
  | .drizzleIdleSet _ => none
  | .drizzleWaitExpired _ => none
  | .prerampGo a _ => some a
  | .prerampStart => none
  | .drizzlePrerampDone => none
  | .drizzlePrerampLapsed => none
  | .grantSubmit a _ => some a
  | .budgetExpired => none
  | .budgetAsk => none
  | .pmbPollStart => none
  | .pmbPollDone _ _ _ => none
  | .pmbAlert _ _ => none
  | .pmbTimeout _ => none
  | .ledgerClose a _ => some a
  | .ledgerQuery a _ => some a
  | .ledgerQueryDone => none
  | .ledgerFlush a _ => some a
  | .ledgerFlushDone => none
  | .memWinBaseWrite a _ => some a
  | .ledgerInitDone => none
  | .memReadData _ => none
  | .memWriteDone => none
  | .exportRecordEnter => none
  | .exportBatchClose => none
  | .exportSignature => none
  | .exportSignFail => none
  | .exportTransfer => none
  | .exportMark a _ => some a
  | .exportRewind a _ => some a
  | .exportRelease a _ => some a
  | .exportIdle => none
  | .exportPtrFault => none
  | .exportEnWrite a _ => some a
  | .mboxDataWrite _ a _ => some a
  | .mboxTake _ a _ => some a
  | .mboxRing _ a _ => some a
  | .mboxDbClear _ a _ => some a
  | .coreSleep _ => none
  | .coreWake _ => none
  | .grant => none
  | .policy => none
  | .telemCfg => none
  | .telemetry _ => none
  | .ask => none
  | .baro => none
  | .ping => none
  | .getVersion => none
  | .getCapabilities => none
  | .negotiateAlgorithms => none
  | .getDigests => none
  | .getCertificate => none
  | .challenge => none
  | .getMeasurements => none
  | .spdmUnsupported => none
  | .imageBegin => none
  | .imageChunk => none
  | .imageSwap => none
  | .imageCheckDone => none
  | .swapReady => none
  | .swapGraceEnd => none
  | .lcNonce _ => none
  | .lcTransition => none
  | .provWrite => none
  | .pubkey => none
  | .lcNonceExpire => none
  | .certRead => none
  | .baroNonce _ => none
  | .baroNonceExpire => none
  | .baroClear => none
  | .nvRead => none
  | .nvWrite => none
  | .secWrite => none
  | .spdmSign => none
  | .nvResponse _ _ => none
  | .stewardHalt a _ => some a
  | .wardenRestart a _ => some a
  | .heartbeat a _ => some a
  | .fwPolicyStale => none
  | .wardenBoot _ _ _ => none
  | .idSecret _ => none
  | .secKeyFail => none
  | .loadPcc a _ => some a
  | .opsecTick => none
  | .lifeRecordHourly => none
  | .lockall a _ => some a
  | .measRecompute => none
  | .baroWindowClose => none
  | .baroFreezeHold a _ => some a
  | .baroFreezeRelease a _ => some a
  | .baroFreezeTimeout => none
  | .baroSnap a _ => some a
  | .baroSnapDone => none
  | .baroMirrorNow a _ => some a
  | .baroMirrorPeriod => none
  | .baroMirrorDone => none
  | .baroRestoreDone a _ => some a
  | .baroNoRestore => none
  | .claim a _ => some a
  | .release a _ => some a
  | .claimBreak a _ => some a
  | .captureWipeDone => none
  | .tmrWrite _ a _ => some a
  | .claimTimer _ => none
  | .evtNext a _ => some a
  | .pageFaultClear _ a _ => some a
  | .aonWriteDone _ => none
  | .registerWrite a _ _ => some a
  | .tblWrite a _ _ _ => some a
  | .dsClkEdge _ _ => none
  | .sitePowerUp _ _ => none
  | .satelliteInUse _ _ => none
  | .prochotRelease => none
  | .smbalertRelease => none
  | .cdAckFall _ _ => none
  | .nvRequestAccept => none
  | .registerRead a _ => some a
  | .tblRead a _ => some a
  | .testAccess _ => none

end Sys2Proof

namespace Sys2Proof.Laws.Attributes

/-- R106: a well-formed command that carries an access of a control core carries the master ID and the attributes that the core
has; none carries the secure attribute from the Steward (R25). -/
def Statement (i : Instr) : Prop :=
  i.wf = true → ∀ a, i.access = some a → a.wf = true ∧ (a.path = .steward → a.sec = false)

theorem left {x y : Bool} (h : (x && y) = true) : x = true := (Bool.and_eq_true_iff.mp h).1

/-- What the attributes of a well-formed access are. -/
theorem of_wf (a : Acc) (h : a.wf = true) : a.wf = true ∧ (a.path = .steward → a.sec = false) := by
  refine ⟨h, fun hp => ?_⟩
  have e : a = accSteward := by simpa [Acc.wf, hp] using h
  rw [e]; rfl

theorem of_wfReg (a : Acc) (h : a.wfReg = true) : a.wf = true ∧ (a.path = .steward → a.sec = false) :=
  of_wf a (by simp only [Acc.wfReg, Bool.and_eq_true] at h; exact h.1)

theorem of_wfTbl (a : Acc) (h : a.wfTbl = true) : a.wf = true ∧ (a.path = .steward → a.sec = false) :=
  of_wf a (by simp only [Acc.wfTbl, Bool.and_eq_true] at h; exact h.1)

theorem coldReset : Statement .coldReset := fun _ _ h => nomatch h
theorem warmReset : Statement .warmReset := fun _ _ h => nomatch h
theorem blockResetPin : Statement .blockResetPin := fun _ _ h => nomatch h
theorem blockReset (a : Acc) (v : BitVec 32) : Statement (.blockReset a v) :=
  fun w _ h => Option.some.inj h ▸ of_wfReg a (left w)
theorem testDeselect (x : Nat) : Statement (.testDeselect x) := fun _ _ h => nomatch h
theorem lifeCycleReset : Statement .lifeCycleReset := fun _ _ h => nomatch h
theorem pageWipeDone (page : Nat) (ok : Bool) : Statement (.pageWipeDone page ok) := fun _ _ h => nomatch h
theorem beat (gt : BitVec 64) (valid : Bool) (corr : Nat) (uncorr : Option Nat) : Statement (.beat gt valid corr uncorr) := fun _ _ h => nomatch h
theorem railTick (vs : List (List Nat)) : Statement (.railTick vs) := fun _ _ h => nomatch h
theorem thermTick (ring : List (List (BitVec 24)) × List (Option (BitVec 14))) (cs : BitVec 14 × Bool) : Statement (.thermTick ring cs) := fun _ _ h => nomatch h
theorem isobarSlot : Statement .isobarSlot := fun _ _ h => nomatch h
theorem budgetTick (load : Nat) : Statement (.budgetTick load) := fun _ _ h => nomatch h
theorem tickOverrun (t : Nat) : Statement (.tickOverrun t) := fun _ _ h => nomatch h
theorem tickFixedOverrun (t : Nat) : Statement (.tickFixedOverrun t) := fun _ _ h => nomatch h
theorem gtValidFall : Statement .gtValidFall := fun _ _ h => nomatch h
theorem forwardSlot (p : Nat) (q : Nat) : Statement (.forwardSlot p q) := fun _ _ h => nomatch h
theorem railCycleStart (n : Nat) (c : Nat) : Statement (.railCycleStart n c) := fun _ _ h => nomatch h
theorem returnFrame (p : Nat) (m : Nat) (code : BitVec 50) : Statement (.returnFrame p m code) := fun _ _ h => nomatch h
theorem linkStepTimeout (p : Nat) : Statement (.linkStepTimeout p) := fun _ _ h => nomatch h
theorem phaseEnWrite (p : Nat) (a : Acc) (v : BitVec 32) : Statement (.phaseEnWrite p a v) :=
  fun w _ h => Option.some.inj h ▸ of_wfReg a (left w)
theorem phaseRetrain (p : Nat) (a : Acc) (v : BitVec 32) : Statement (.phaseRetrain p a v) :=
  fun w _ h => Option.some.inj h ▸ of_wfReg a (left (left w))
theorem phaseClear (p : Nat) (a : Acc) (v : BitVec 32) : Statement (.phaseClear p a v) :=
  fun w _ h => Option.some.inj h ▸ of_wfReg a (left (left w))
theorem phaseForced (n : Nat) (a : Acc) (v : BitVec 32) : Statement (.phaseForced n a v) :=
  fun w _ h => Option.some.inj h ▸ of_wfReg a (left (left w))
theorem railVsLost (n : Nat) : Statement (.railVsLost n) := fun _ _ h => nomatch h
theorem railVsSquall (n : Nat) : Statement (.railVsSquall n) := fun _ _ h => nomatch h
theorem railRun (n : Nat) (a : Acc) (v : BitVec 32) : Statement (.railRun n a v) :=
  fun w _ h => Option.some.inj h ▸ of_wfReg a (left (left w))
theorem railStop (n : Nat) (a : Acc) (v : BitVec 32) : Statement (.railStop n a v) :=
  fun w _ h => Option.some.inj h ▸ of_wfReg a (left (left w))
theorem loopOpen (n : Nat) (a : Acc) (v : BitVec 32) : Statement (.loopOpen n a v) :=
  fun w _ h => Option.some.inj h ▸ of_wfReg a (left (left w))
theorem loopClose (n : Nat) (a : Acc) (v : BitVec 32) : Statement (.loopClose n a v) :=
  fun w _ h => Option.some.inj h ▸ of_wfReg a (left (left w))
theorem railOpenTimeout (n : Nat) : Statement (.railOpenTimeout n) := fun _ _ h => nomatch h
theorem coefEditWrite (n : Nat) (k : Nat) (a : Acc) (v : BitVec 32) : Statement (.coefEditWrite n k a v) :=
  fun w _ h => Option.some.inj h ▸ of_wfReg a (left (left w))
theorem railSrcWrite (n : Nat) (a : Acc) (v : BitVec 32) : Statement (.railSrcWrite n a v) :=
  fun w _ h => Option.some.inj h ▸ of_wfReg a (left w)
theorem railCmd (n : Nat) (a : Acc) (v : BitVec 32) : Statement (.railCmd n a v) :=
  fun w _ h => Option.some.inj h ▸ of_wfReg a (left w)
theorem avsResponse (n : Nat) (ok : Bool) (status : BitVec 5) (w : BitVec 16) : Statement (.avsResponse n ok status w) := fun _ _ h => nomatch h
theorem railAvsTimeout (n : Nat) : Statement (.railAvsTimeout n) := fun _ _ h => nomatch h
theorem tuneArm (a : Acc) (v : BitVec 32) : Statement (.tuneArm a v) :=
  fun w _ h => Option.some.inj h ▸ of_wfReg a (left w)
theorem tuneStop (a : Acc) (v : BitVec 32) : Statement (.tuneStop a v) :=
  fun w _ h => Option.some.inj h ▸ of_wfReg a (left w)
theorem tuneDone : Statement .tuneDone := fun _ _ h => nomatch h
theorem dsEvtAccept (s : Nat) (evt : BitVec 4) (cyc : Nat) : Statement (.dsEvtAccept s evt cyc) := fun _ _ h => nomatch h
theorem servoStep (s : Nat) : Statement (.servoStep s) := fun _ _ h => nomatch h
theorem gustReleaseWaitEnd (m : Nat) : Statement (.gustReleaseWaitEnd m) := fun _ _ h => nomatch h
theorem gustLong (m : Nat) : Statement (.gustLong m) := fun _ _ h => nomatch h
theorem droopStuck (s : Nat) : Statement (.droopStuck s) := fun _ _ h => nomatch h
theorem mapUseWrite (s : Nat) (a : Acc) (v : BitVec 32) : Statement (.mapUseWrite s a v) :=
  fun w _ h => Option.some.inj h ▸ of_wfReg a (left (left w))
theorem calPeriodDue : Statement .calPeriodDue := fun _ _ h => nomatch h
theorem calGo (a : Acc) (v : BitVec 32) : Statement (.calGo a v) :=
  fun w _ h => Option.some.inj h ▸ of_wfReg a (left w)
theorem calStart : Statement .calStart := fun _ _ h => nomatch h
theorem calGapEnd : Statement .calGapEnd := fun _ _ h => nomatch h
theorem calPulseEnd : Statement .calPulseEnd := fun _ _ h => nomatch h
theorem waveArm (a : Acc) (v : BitVec 32) : Statement (.waveArm a v) :=
  fun w _ h => Option.some.inj h ▸ of_wfReg a (left w)
theorem waveStop (a : Acc) (v : BitVec 32) : Statement (.waveStop a v) :=
  fun w _ h => Option.some.inj h ▸ of_wfReg a (left w)
theorem droopWaveDone : Statement .droopWaveDone := fun _ _ h => nomatch h
theorem govEscLevel (sc : Nat) : Statement (.govEscLevel sc) := fun _ _ h => nomatch h
theorem govEscPool (sc : Nat) : Statement (.govEscPool sc) := fun _ _ h => nomatch h
theorem govStepUp : Statement .govStepUp := fun _ _ h => nomatch h
theorem govSafePolicy : Statement .govSafePolicy := fun _ _ h => nomatch h
theorem prochot : Statement .prochot := fun _ _ h => nomatch h
theorem levelBankSwap (a : Acc) (v : BitVec 32) : Statement (.levelBankSwap a v) :=
  fun w _ h => Option.some.inj h ▸ of_wfReg a (left w)
theorem levelTableCheck : Statement .levelTableCheck := fun _ _ h => nomatch h
theorem fitctlWrite (a : Acc) (v : BitVec 32) : Statement (.fitctlWrite a v) :=
  fun w _ h => Option.some.inj h ▸ of_wfReg a w
theorem cdPrepAck (m : Nat) : Statement (.cdPrepAck m) := fun _ _ h => nomatch h
theorem cdSwitchRaise (m : Nat) : Statement (.cdSwitchRaise m) := fun _ _ h => nomatch h
theorem cdSwitchAck (m : Nat) : Statement (.cdSwitchAck m) := fun _ _ h => nomatch h
theorem cdUngate (m : Nat) : Statement (.cdUngate m) := fun _ _ h => nomatch h
theorem levelPrepTimeout (m : Nat) : Statement (.levelPrepTimeout m) := fun _ _ h => nomatch h
theorem levelSwitchTimeout (m : Nat) : Statement (.levelSwitchTimeout m) := fun _ _ h => nomatch h
theorem creditRequest (reqs : List (Nat × BitVec 32)) (strobe : Bool) : Statement (.creditRequest reqs strobe) := fun _ _ h => nomatch h
theorem creditReturn (c : Nat) (w : BitVec 16) : Statement (.creditReturn c w) := fun _ _ h => nomatch h
theorem creditGrant : Statement .creditGrant := fun _ _ h => nomatch h
theorem creditReclaim (c : Nat) (slot : Nat) : Statement (.creditReclaim c slot) := fun _ _ h => nomatch h
theorem fillTimeout (c : Nat) : Statement (.fillTimeout c) := fun _ _ h => nomatch h
theorem mediumPromote (c : Nat) : Statement (.mediumPromote c) := fun _ _ h => nomatch h
theorem creditStarve (n : Nat) : Statement (.creditStarve n) := fun _ _ h => nomatch h
theorem activityCounts (ch : Nat) (late : Bool) (counts : List (BitVec 16)) : Statement (.activityCounts ch late counts) := fun _ _ h => nomatch h
theorem hintToken (toks : List (Nat × BitVec 64)) (transit : Nat) (cyc : Nat) : Statement (.hintToken toks transit cyc) := fun _ _ h => nomatch h
theorem hintPtrFault : Statement .hintPtrFault := fun _ _ h => nomatch h
theorem stepSwap (a : Acc) (v : BitVec 32) : Statement (.stepSwap a v) :=
  fun w _ h => Option.some.inj h ▸ of_wfReg a (left w)
theorem stepSwapNow (a : Acc) (v : BitVec 32) : Statement (.stepSwapNow a v) :=
  fun w _ h => Option.some.inj h ▸ of_wfReg a (left w)
theorem fcastStale : Statement .fcastStale := fun _ _ h => nomatch h
theorem fcastSwap (a : Acc) (v : BitVec 32) : Statement (.fcastSwap a v) :=
  fun w _ h => Option.some.inj h ▸ of_wfReg a (left w)
theorem fcastLoadCheck (ecc : Bool × Nat) : Statement (.fcastLoadCheck ecc) := fun _ _ h => nomatch h
theorem fcastSwapDone : Statement .fcastSwapDone := fun _ _ h => nomatch h
theorem fcastRearm (a : Acc) (v : BitVec 32) : Statement (.fcastRearm a v) :=
  fun w _ h => Option.some.inj h ▸ of_wfReg a (left w)
theorem fcastEnWrite (a : Acc) (v : BitVec 32) : Statement (.fcastEnWrite a v) :=
  fun w _ h => Option.some.inj h ▸ of_wfReg a w
theorem thermRingFail (k : Nat) : Statement (.thermRingFail k) := fun _ _ h => nomatch h
theorem thermExcluded (n : Nat) : Statement (.thermExcluded n) := fun _ _ h => nomatch h
theorem thermReadmit (n : Nat) : Statement (.thermReadmit n) := fun _ _ h => nomatch h
theorem thermZoneLost (z : Nat) : Statement (.thermZoneLost z) := fun _ _ h => nomatch h
theorem thermFastRelease : Statement .thermFastRelease := fun _ _ h => nomatch h
theorem thermRelease : Statement .thermRelease := fun _ _ h => nomatch h
theorem xtSample (x : Nat) (valid : Bool) (temp : Option (BitVec 16)) : Statement (.xtSample x valid temp) := fun _ _ h => nomatch h
theorem thermXtStale (x : Nat) : Statement (.thermXtStale x) := fun _ _ h => nomatch h
theorem thermCoolant : Statement .thermCoolant := fun _ _ h => nomatch h
theorem sqForce (a : Acc) (v : BitVec 32) : Statement (.sqForce a v) :=
  fun w _ h => Option.some.inj h ▸ of_wfReg a (left w)
theorem squallGate : Statement .squallGate := fun _ _ h => nomatch h
theorem critRecordPresent : Statement .critRecordPresent := fun _ _ h => nomatch h
theorem critRecordResponse (status : BitVec 2) : Statement (.critRecordResponse status) := fun _ _ h => nomatch h
theorem critWdataWrite (a : Acc) (v : BitVec 32) : Statement (.critWdataWrite a v) :=
  fun w _ h => Option.some.inj h ▸ of_wfReg a w
theorem critIdxDone (a : Acc) (v : BitVec 32) : Statement (.critIdxDone a v) :=
  fun w _ h => Option.some.inj h ▸ of_wfReg a (left w)
theorem isobarApplyGo (a : Acc) (v : BitVec 32) : Statement (.isobarApplyGo a v) :=
  fun w _ h => Option.some.inj h ▸ of_wfReg a (left w)
theorem isobarApply : Statement .isobarApply := fun _ _ h => nomatch h
theorem isobarMessage (src : BitVec 32) (w : BitVec 512) : Statement (.isobarMessage src w) := fun _ _ h => nomatch h
theorem isobarTimeout : Statement .isobarTimeout := fun _ _ h => nomatch h
theorem isobarResultApply : Statement .isobarResultApply := fun _ _ h => nomatch h
theorem isobarFbSend : Statement .isobarFbSend := fun _ _ h => nomatch h
theorem drizzleIdleSet (c : Nat) : Statement (.drizzleIdleSet c) := fun _ _ h => nomatch h
theorem drizzleWaitExpired (c : Nat) : Statement (.drizzleWaitExpired c) := fun _ _ h => nomatch h
theorem prerampGo (a : Acc) (v : BitVec 32) : Statement (.prerampGo a v) :=
  fun w _ h => Option.some.inj h ▸ of_wfReg a (left w)
theorem prerampStart : Statement .prerampStart := fun _ _ h => nomatch h
theorem drizzlePrerampDone : Statement .drizzlePrerampDone := fun _ _ h => nomatch h
theorem drizzlePrerampLapsed : Statement .drizzlePrerampLapsed := fun _ _ h => nomatch h
theorem grantSubmit (a : Acc) (v : BitVec 32) : Statement (.grantSubmit a v) :=
  fun w _ h => Option.some.inj h ▸ of_wfReg a w
theorem budgetExpired : Statement .budgetExpired := fun _ _ h => nomatch h
theorem budgetAsk : Statement .budgetAsk := fun _ _ h => nomatch h
theorem pmbPollStart : Statement .pmbPollStart := fun _ _ h => nomatch h
theorem pmbPollDone (fail : Option Nat) (r0 : List (List (BitVec 8))) (r1 : List (List (BitVec 8))) : Statement (.pmbPollDone fail r0 r1) := fun _ _ h => nomatch h
theorem pmbAlert (adr : BitVec 7) (status : BitVec 16 × BitVec 8) : Statement (.pmbAlert adr status) := fun _ _ h => nomatch h
theorem pmbTimeout (k : Nat) : Statement (.pmbTimeout k) := fun _ _ h => nomatch h
theorem ledgerClose (a : Acc) (v : BitVec 32) : Statement (.ledgerClose a v) :=
  fun w _ h => Option.some.inj h ▸ of_wfReg a (left w)
theorem ledgerQuery (a : Acc) (v : BitVec 32) : Statement (.ledgerQuery a v) :=
  fun w _ h => Option.some.inj h ▸ of_wfReg a (left w)
theorem ledgerQueryDone : Statement .ledgerQueryDone := fun _ _ h => nomatch h
theorem ledgerFlush (a : Acc) (v : BitVec 32) : Statement (.ledgerFlush a v) :=
  fun w _ h => Option.some.inj h ▸ of_wfReg a (left w)
theorem ledgerFlushDone : Statement .ledgerFlushDone := fun _ _ h => nomatch h
theorem memWinBaseWrite (a : Acc) (v : BitVec 32) : Statement (.memWinBaseWrite a v) :=
  fun w _ h => Option.some.inj h ▸ of_wfReg a w
theorem ledgerInitDone : Statement .ledgerInitDone := fun _ _ h => nomatch h
theorem memReadData (w : BitVec 512) : Statement (.memReadData w) := fun _ _ h => nomatch h
theorem memWriteDone : Statement .memWriteDone := fun _ _ h => nomatch h
theorem exportRecordEnter : Statement .exportRecordEnter := fun _ _ h => nomatch h
theorem exportBatchClose : Statement .exportBatchClose := fun _ _ h => nomatch h
theorem exportSignature : Statement .exportSignature := fun _ _ h => nomatch h
theorem exportSignFail : Statement .exportSignFail := fun _ _ h => nomatch h
theorem exportTransfer : Statement .exportTransfer := fun _ _ h => nomatch h
theorem exportMark (a : Acc) (v : BitVec 32) : Statement (.exportMark a v) :=
  fun w _ h => Option.some.inj h ▸ of_wfReg a (left w)
theorem exportRewind (a : Acc) (v : BitVec 32) : Statement (.exportRewind a v) :=
  fun w _ h => Option.some.inj h ▸ of_wfReg a (left w)
theorem exportRelease (a : Acc) (v : BitVec 32) : Statement (.exportRelease a v) :=
  fun w _ h => Option.some.inj h ▸ of_wfReg a (left w)
theorem exportIdle : Statement .exportIdle := fun _ _ h => nomatch h
theorem exportPtrFault : Statement .exportPtrFault := fun _ _ h => nomatch h
theorem exportEnWrite (a : Acc) (v : BitVec 32) : Statement (.exportEnWrite a v) :=
  fun w _ h => Option.some.inj h ▸ of_wfReg a w
theorem mboxDataWrite (m : Nat) (a : Acc) (v : BitVec 32) : Statement (.mboxDataWrite m a v) :=
  fun w _ h => Option.some.inj h ▸ of_wfReg a (left w)
theorem mboxTake (m : Nat) (a : Acc) (v : BitVec 32) : Statement (.mboxTake m a v) :=
  fun w _ h => Option.some.inj h ▸ of_wfReg a (left (left w))
theorem mboxRing (m : Nat) (a : Acc) (v : BitVec 32) : Statement (.mboxRing m a v) :=
  fun w _ h => Option.some.inj h ▸ of_wfReg a (left w)
theorem mboxDbClear (m : Nat) (a : Acc) (v : BitVec 32) : Statement (.mboxDbClear m a v) :=
  fun w _ h => Option.some.inj h ▸ of_wfReg a (left w)
theorem coreSleep (warden : Bool) : Statement (.coreSleep warden) := fun _ _ h => nomatch h
theorem coreWake (warden : Bool) : Statement (.coreWake warden) := fun _ _ h => nomatch h
theorem grant : Statement .grant := fun _ _ h => nomatch h
theorem policy : Statement .policy := fun _ _ h => nomatch h
theorem telemCfg : Statement .telemCfg := fun _ _ h => nomatch h
theorem telemetry (k : Nat) : Statement (.telemetry k) := fun _ _ h => nomatch h
theorem ask : Statement .ask := fun _ _ h => nomatch h
theorem baro : Statement .baro := fun _ _ h => nomatch h
theorem ping : Statement .ping := fun _ _ h => nomatch h
theorem getVersion : Statement .getVersion := fun _ _ h => nomatch h
theorem getCapabilities : Statement .getCapabilities := fun _ _ h => nomatch h
theorem negotiateAlgorithms : Statement .negotiateAlgorithms := fun _ _ h => nomatch h
theorem getDigests : Statement .getDigests := fun _ _ h => nomatch h
theorem getCertificate : Statement .getCertificate := fun _ _ h => nomatch h
theorem challenge : Statement .challenge := fun _ _ h => nomatch h
theorem getMeasurements : Statement .getMeasurements := fun _ _ h => nomatch h
theorem spdmUnsupported : Statement .spdmUnsupported := fun _ _ h => nomatch h
theorem imageBegin : Statement .imageBegin := fun _ _ h => nomatch h
theorem imageChunk : Statement .imageChunk := fun _ _ h => nomatch h
theorem imageSwap : Statement .imageSwap := fun _ _ h => nomatch h
theorem imageCheckDone : Statement .imageCheckDone := fun _ _ h => nomatch h
theorem swapReady : Statement .swapReady := fun _ _ h => nomatch h
theorem swapGraceEnd : Statement .swapGraceEnd := fun _ _ h => nomatch h
theorem lcNonce (gt : BitVec 64) : Statement (.lcNonce gt) := fun _ _ h => nomatch h
theorem lcTransition : Statement .lcTransition := fun _ _ h => nomatch h
theorem provWrite : Statement .provWrite := fun _ _ h => nomatch h
theorem pubkey : Statement .pubkey := fun _ _ h => nomatch h
theorem lcNonceExpire : Statement .lcNonceExpire := fun _ _ h => nomatch h
theorem certRead : Statement .certRead := fun _ _ h => nomatch h
theorem baroNonce (gt : BitVec 64) : Statement (.baroNonce gt) := fun _ _ h => nomatch h
theorem baroNonceExpire : Statement .baroNonceExpire := fun _ _ h => nomatch h
theorem baroClear : Statement .baroClear := fun _ _ h => nomatch h
theorem nvRead : Statement .nvRead := fun _ _ h => nomatch h
theorem nvWrite : Statement .nvWrite := fun _ _ h => nomatch h
theorem secWrite : Statement .secWrite := fun _ _ h => nomatch h
theorem spdmSign : Statement .spdmSign := fun _ _ h => nomatch h
theorem nvResponse (status : BitVec 2) (w : BitVec 512) : Statement (.nvResponse status w) := fun _ _ h => nomatch h
theorem stewardHalt (a : Acc) (v : BitVec 32) : Statement (.stewardHalt a v) :=
  fun w _ h => Option.some.inj h ▸ of_wfReg a (left w)
theorem wardenRestart (a : Acc) (v : BitVec 32) : Statement (.wardenRestart a v) :=
  fun w _ h => Option.some.inj h ▸ of_wfReg a (left w)
theorem heartbeat (a : Acc) (v : BitVec 32) : Statement (.heartbeat a v) :=
  fun w _ h => Option.some.inj h ▸ of_wfReg a w
theorem fwPolicyStale : Statement .fwPolicyStale := fun _ _ h => nomatch h
theorem wardenBoot (nv : List (Nat × BitVec 8)) (bad : List Nat) (patchOk : Bool) : Statement (.wardenBoot nv bad patchOk) := fun _ _ h => nomatch h
theorem idSecret (secret : BitVec 256) : Statement (.idSecret secret) := fun _ _ h => nomatch h
theorem secKeyFail : Statement .secKeyFail := fun _ _ h => nomatch h
theorem loadPcc (a : Acc) (v : BitVec 32) : Statement (.loadPcc a v) :=
  fun w _ h => Option.some.inj h ▸ of_wfReg a (left w)
theorem opsecTick : Statement .opsecTick := fun _ _ h => nomatch h
theorem lifeRecordHourly : Statement .lifeRecordHourly := fun _ _ h => nomatch h
theorem lockall (a : Acc) (v : BitVec 32) : Statement (.lockall a v) :=
  fun w _ h => Option.some.inj h ▸ of_wfReg a (left w)
theorem measRecompute : Statement .measRecompute := fun _ _ h => nomatch h
theorem baroWindowClose : Statement .baroWindowClose := fun _ _ h => nomatch h
theorem baroFreezeHold (a : Acc) (v : BitVec 32) : Statement (.baroFreezeHold a v) :=
  fun w _ h => Option.some.inj h ▸ of_wfReg a (left w)
theorem baroFreezeRelease (a : Acc) (v : BitVec 32) : Statement (.baroFreezeRelease a v) :=
  fun w _ h => Option.some.inj h ▸ of_wfReg a (left w)
theorem baroFreezeTimeout : Statement .baroFreezeTimeout := fun _ _ h => nomatch h
theorem baroSnap (a : Acc) (v : BitVec 32) : Statement (.baroSnap a v) :=
  fun w _ h => Option.some.inj h ▸ of_wfReg a (left w)
theorem baroSnapDone : Statement .baroSnapDone := fun _ _ h => nomatch h
theorem baroMirrorNow (a : Acc) (v : BitVec 32) : Statement (.baroMirrorNow a v) :=
  fun w _ h => Option.some.inj h ▸ of_wfReg a (left w)
theorem baroMirrorPeriod : Statement .baroMirrorPeriod := fun _ _ h => nomatch h
theorem baroMirrorDone : Statement .baroMirrorDone := fun _ _ h => nomatch h
theorem baroRestoreDone (a : Acc) (v : BitVec 32) : Statement (.baroRestoreDone a v) :=
  fun w _ h => Option.some.inj h ▸ of_wfReg a (left w)
theorem baroNoRestore : Statement .baroNoRestore := fun _ _ h => nomatch h
theorem claim (a : Acc) (v : BitVec 32) : Statement (.claim a v) :=
  fun w _ h => Option.some.inj h ▸ of_wfReg a (left w)
theorem release (a : Acc) (v : BitVec 32) : Statement (.release a v) :=
  fun w _ h => Option.some.inj h ▸ of_wfReg a (left w)
theorem claimBreak (a : Acc) (v : BitVec 32) : Statement (.claimBreak a v) :=
  fun w _ h => Option.some.inj h ▸ of_wfReg a (left w)
theorem captureWipeDone : Statement .captureWipeDone := fun _ _ h => nomatch h
theorem tmrWrite (k : Nat) (a : Acc) (v : BitVec 32) : Statement (.tmrWrite k a v) :=
  fun w _ h => Option.some.inj h ▸ of_wfReg a (left w)
theorem claimTimer (k : Nat) : Statement (.claimTimer k) := fun _ _ h => nomatch h
theorem evtNext (a : Acc) (v : BitVec 32) : Statement (.evtNext a v) :=
  fun w _ h => Option.some.inj h ▸ of_wfReg a (left w)
theorem pageFaultClear (page : Nat) (a : Acc) (v : BitVec 32) : Statement (.pageFaultClear page a v) :=
  fun w _ h => Option.some.inj h ▸ of_wfReg a (left w)
theorem aonWriteDone (page : Nat) : Statement (.aonWriteDone page) := fun _ _ h => nomatch h
theorem registerWrite (a : Acc) (adr : BitVec 15) (v : BitVec 32) : Statement (.registerWrite a adr v) :=
  fun w _ h => Option.some.inj h ▸ of_wfReg a w
theorem tblWrite (a : Acc) (adr : BitVec 17) (strb : BitVec 2) (v : BitVec 64) : Statement (.tblWrite a adr strb v) :=
  fun w _ h => Option.some.inj h ▸ of_wfTbl a w
theorem dsClkEdge (s : Nat) (code : BitVec 6) : Statement (.dsClkEdge s code) := fun _ _ h => nomatch h
theorem sitePowerUp (droop : Bool) (s : Nat) : Statement (.sitePowerUp droop s) := fun _ _ h => nomatch h
theorem satelliteInUse (m : Nat) (cyc : Nat) : Statement (.satelliteInUse m cyc) := fun _ _ h => nomatch h
theorem prochotRelease : Statement .prochotRelease := fun _ _ h => nomatch h
theorem smbalertRelease : Statement .smbalertRelease := fun _ _ h => nomatch h
theorem cdAckFall (m : Nat) (sw : Bool) : Statement (.cdAckFall m sw) := fun _ _ h => nomatch h
theorem nvRequestAccept : Statement .nvRequestAccept := fun _ _ h => nomatch h
theorem registerRead (a : Acc) (adr : BitVec 15) : Statement (.registerRead a adr) :=
  fun w _ h => Option.some.inj h ▸ of_wfReg a w
theorem tblRead (a : Acc) (adr : BitVec 17) : Statement (.tblRead a adr) :=
  fun w _ h => Option.some.inj h ▸ of_wfTbl a w
theorem testAccess (x : Nat) : Statement (.testAccess x) := fun _ _ h => nomatch h

end Sys2Proof.Laws.Attributes
end

