-- ==== Sys2Proof/Laws/Settle.lean ====
section
/-!
SUPPORT. Laws/Settle.lean: what the end of a command does, once: `act` and `actAll` on a quiet device.
-/
namespace Sys2Proof.Machine

theorem sortEv_nil : sortEv [] = [] := rfl

theorem sortEv_singleton (e : Event) : sortEv [e] = [e] := rfl

/-- A quiet device collects nothing. -/
theorem quiet_iff (d : Dev) : d.quiet = true ↔ d.evq = [] ∧ d.evd = [] ∧ d.sqReq = [] ∧ d.smp = [] := by
  simp [Dev.quiet, and_assoc]

theorem edge_of_nil (d : Dev) (h : d.evq = []) : d.edge = d := by
  cases d; simp only at h; subst h; simp [Dev.edge, sortEv]

/-- `samplesIn` leaves the collected events and triggers as they are. -/
theorem samplesIn_evq (d : Dev) : d.samplesIn.evq = d.evq := by
  unfold Dev.samplesIn; split
  · rfl
  · split <;> rfl

theorem samplesIn_evd (d : Dev) : d.samplesIn.evd = d.evd := by
  unfold Dev.samplesIn; split
  · rfl
  · split <;> rfl

theorem samplesIn_iso (d : Dev) : d.samplesIn.iso = d.iso := by
  unfold Dev.samplesIn; split
  · rfl
  · split <;> rfl

/-- Samples taken are handed over at the end of the command. -/
theorem samplesIn_smp (d : Dev) : d.samplesIn.smp = [] := by
  unfold Dev.samplesIn; split
  · next h => simpa using h
  · split <;> rfl

theorem wakeStw_evq (d : Dev) : d.wakeStw.evq = d.evq := by unfold Dev.wakeStw; split <;> rfl
theorem wakeStw_evd (d : Dev) : d.wakeStw.evd = d.evd := by unfold Dev.wakeStw; split <;> rfl
theorem wakeStw_smp (d : Dev) : d.wakeStw.smp = d.smp := by unfold Dev.wakeStw; split <;> rfl
theorem wakeWrd_evq (d : Dev) : d.wakeWrd.evq = d.evq := by unfold Dev.wakeWrd; split <;> rfl
theorem wakeWrd_evd (d : Dev) : d.wakeWrd.evd = d.evd := by unfold Dev.wakeWrd; split <;> rfl
theorem wakeWrd_smp (d : Dev) : d.wakeWrd.smp = d.smp := by unfold Dev.wakeWrd; split <;> rfl

theorem wakeScan_evq (d : Dev) (x y : Bool) : (d.wakeScan x y).evq = d.evq := by
  unfold Dev.wakeScan; split <;> dsimp only <;> split <;> simp only [wakeStw_evq, wakeWrd_evq]
theorem wakeScan_evd (d : Dev) (x y : Bool) : (d.wakeScan x y).evd = d.evd := by
  unfold Dev.wakeScan; split <;> dsimp only <;> split <;> simp only [wakeStw_evd, wakeWrd_evd]
theorem wakeScan_smp (d : Dev) (x y : Bool) : (d.wakeScan x y).smp = d.smp := by
  unfold Dev.wakeScan; split <;> dsimp only <;> split <;> simp only [wakeStw_smp, wakeWrd_smp]

theorem samplesIn_sqReq (d : Dev) : d.samplesIn.sqReq = d.sqReq := by
  unfold Dev.samplesIn; split
  · rfl
  · split <;> rfl

theorem wakeStw_sqReq (d : Dev) : d.wakeStw.sqReq = d.sqReq := by unfold Dev.wakeStw; split <;> rfl
theorem wakeWrd_sqReq (d : Dev) : d.wakeWrd.sqReq = d.sqReq := by unfold Dev.wakeWrd; split <;> rfl
theorem wakeScan_sqReq (d : Dev) (x y : Bool) : (d.wakeScan x y).sqReq = d.sqReq := by
  unfold Dev.wakeScan; split <;> dsimp only <;> split <;> simp only [wakeStw_sqReq, wakeWrd_sqReq]

/-- The events that wake the Steward (R34, R332). -/
theorem wakes_same (d : Dev) (he : d.evd.any Event.wakesStw = false) : d.wakes = d := by
  simp [Dev.wakes, he]

theorem samplesIn_setEvd (d : Dev) (x : List Event) :
    ({ d with evd := x } : Dev).samplesIn = { d.samplesIn with evd := x } := by
  cases h1 : d.smp.isEmpty <;> cases h2 : d.on BARO.CTRL_EN
  all_goals first
    | (rw [Dev.samplesIn, Dev.samplesIn, if_pos h1, if_pos h1])
    | (have n1 : ¬ (d.smp.isEmpty = true) := by simp [h1]
       have n2 : ¬ (d.on BARO.CTRL_EN = true) := by simp [h2]
       rw [Dev.samplesIn, Dev.samplesIn, if_neg n1, if_neg n1, if_neg n2, if_neg (show ¬ (({ d with evd := x } : Dev).on BARO.CTRL_EN = true) from n2)])
    | (have n1 : ¬ (d.smp.isEmpty = true) := by simp [h1]
       rw [Dev.samplesIn, Dev.samplesIn, if_neg n1, if_neg n1, if_pos h2, if_pos (show ({ d with evd := x } : Dev).on BARO.CTRL_EN = true from h2)]
       rfl)

theorem wakeStw_setEvd (d : Dev) (x : List Event) : ({ d with evd := x } : Dev).wakeStw = { d.wakeStw with evd := x } := by
  cases h : d.stw.st == .sleep
  · rw [Dev.wakeStw, Dev.wakeStw, if_neg (by simp [h]), if_neg (by simp [h])]
  · rw [Dev.wakeStw, Dev.wakeStw, if_pos h, if_pos h]

theorem wakeWrd_setEvd (d : Dev) (x : List Event) : ({ d with evd := x } : Dev).wakeWrd = { d.wakeWrd with evd := x } := by
  cases h : d.wrd.st == .sleep
  · rw [Dev.wakeWrd, Dev.wakeWrd, if_neg (by simp [h]), if_neg (by simp [h])]
  · rw [Dev.wakeWrd, Dev.wakeWrd, if_pos h, if_pos h]

/-- The conditions of `wakeScan` do not read the events. -/
theorem wakeScan_setEvd (d : Dev) (x : List Event) (p q : Bool) :
    ({ d with evd := x } : Dev).wakeScan p q = { d.wakeScan p q with evd := x } := by
  have e1 : ∀ m, ({ d with evd := x } : Dev).mbNotify m = d.mbNotify m := fun _ => rfl
  have e2 : ∀ m, ({ d with evd := x } : Dev).mbFull m = d.mbFull m := fun _ => rfl
  have e3 : ∀ m, ({ d with evd := x } : Dev).mbWord m = d.mbWord m := fun _ => rfl
  have w2 : ∀ m, ({ d.wakeStw with evd := x } : Dev).mbNotify m = d.wakeStw.mbNotify m := fun _ => rfl
  have w3 : ∀ m, ({ d.wakeStw with evd := x } : Dev).mbFull m = d.wakeStw.mbFull m := fun _ => rfl
  unfold Dev.wakeScan
  simp only [e1, e2, e3]
  split
  · simp only [wakeStw_setEvd, w2, w3]
    split
    · rw [wakeWrd_setEvd]
    · rfl
  · simp only [e1, e2]
    split
    · rw [wakeWrd_setEvd]
    · rfl

/-- What `settle` does to a state whose device asks for no Squall: the events of its one edge are sorted and entered. -/
theorem settle_ends (s : State) (hq : s.dev.sqReq = []) (hd : s.dev.evd = [])
    (hb : (sortEv s.dev.evq).any Event.wakesStw = false) :
    s.settle = s.ends (sortEv s.dev.evq) s.dev.out s.dev := by
  have h0 : s.dev.edge = { s.dev with evd := sortEv s.dev.evq, evq := [] } := by simp [Dev.edge, hd]
  have h1 : (s.dev.edge.samplesIn).wakes = s.dev.edge.samplesIn := by
    apply wakes_same
    rw [samplesIn_evd, h0]; exact hb
  have h2 : s.dev.edge = ({ ({ s.dev with out := s.dev.out, evq := [], evd := [], sqReq := [] } : Dev) with
      evd := sortEv s.dev.evq } : Dev) := by rw [h0]; cases hs : s.dev; simp_all
  have h3 : (s.dev.edge.samplesIn.wakeScan s.aon.wakeHS s.aon.wakeWS).evq = [] := by
    rw [wakeScan_evq, samplesIn_evq, h0]
  unfold State.settle
  simp only [hq, List.isEmpty_nil, if_true, h1]
  rw [edge_of_nil _ h3, h2, samplesIn_setEvd, wakeScan_setEvd]
  unfold State.ends
  congr 1
  generalize hy : ({ s.dev with out := s.dev.out, evq := [], evd := [], sqReq := [] } : Dev) = y
  have e1 : (y.samplesIn.wakeScan s.aon.wakeHS s.aon.wakeWS).evd = [] := by
    rw [wakeScan_evd, samplesIn_evd, ← hy]
  have e2 : (y.samplesIn.wakeScan s.aon.wakeHS s.aon.wakeWS).sqReq = [] := by
    rw [wakeScan_sqReq, samplesIn_sqReq, ← hy]
  cases hz : y.samplesIn.wakeScan s.aon.wakeHS s.aon.wakeWS
  simp_all

/-- A command of the core domain that raises `es`, sends `out` and leaves `d`, in one edge. -/
theorem act_ends (s : State) (f : Dev → Dev) (d : Dev)
    (hf : f { s.dev with out := [] } = d) (hq : d.sqReq = []) (hd : d.evd = [])
    (hb : (sortEv d.evq).any Event.wakesStw = false) :
    s.act f = s.ends (sortEv d.evq) d.out d := by
  unfold State.act
  rw [hf]
  exact settle_ends { s with dev := d } hq hd hb

end Sys2Proof.Machine
end

