-- ==== Sys2Proof/Laws/Ring.lean ====
section
/-!
SUPPORT. Laws/Ring.lean: the bound of the event ring, and what the end of every command leaves: nothing collected, and no
wake event that has not reached its control core.
-/
namespace Sys2Proof.Machine

/-- The ring never grows beyond its 32 entries (R110). -/
theorem Hdr.enter_ring_le (h : Hdr) (e : Event) (hl : h.ring.length ≤ 32) : (h.enter e).ring.length ≤ 32 := by
  have latch_ring : ∀ (x : Hdr) (p k : Nat), (x.latch p k).ring = x.ring := by
    intro x p k; unfold Hdr.latch; split <;> rfl
  unfold Hdr.enter
  dsimp only
  split
  · next hr =>
    rw [latch_ring] at hr
    simp only [latch_ring, List.length_append, List.length_singleton]
    omega
  · simp only [latch_ring]; exact hl

theorem Hdr.enterAll_ring_le (h : Hdr) (es : List Event) (hl : h.ring.length ≤ 32) : (h.enterAll es).ring.length ≤ 32 := by
  unfold Hdr.enterAll
  induction es generalizing h with
  | nil => exact hl
  | cons e r ih => exact ih (h.enter e) (Hdr.enter_ring_le h e hl)

/-- Only the wake flags of the two cores differ after a scan. -/
theorem wakeStw_frame (d : Dev) : d.wakeStw = { d with stw := d.wakeStw.stw } := by
  unfold Dev.wakeStw; split <;> rfl

theorem wakeWrd_frame (d : Dev) : d.wakeWrd = { d with wrd := d.wakeWrd.wrd } := by
  unfold Dev.wakeWrd; split <;> rfl

theorem wakeStw_regs (d : Dev) : d.wakeStw.regs = d.regs := by rw [wakeStw_frame]
theorem wakeWrd_regs (d : Dev) : d.wakeWrd.regs = d.regs := by rw [wakeWrd_frame]

theorem wakeStw_idem (d : Dev) : d.wakeStw.wakeStw = d.wakeStw := by
  by_cases h : d.stw.st == .sleep
  · simp [Dev.wakeStw, h]
  · simp [Dev.wakeStw, h]

theorem wakeWrd_idem (d : Dev) : d.wakeWrd.wakeWrd = d.wakeWrd := by
  by_cases h : d.wrd.st == .sleep
  · simp [Dev.wakeWrd, h]
  · simp [Dev.wakeWrd, h]

theorem wakeWrd_wakeStw_comm (d : Dev) : d.wakeWrd.wakeStw = d.wakeStw.wakeWrd := by
  by_cases h : d.stw.st == .sleep <;> by_cases g : d.wrd.st == .sleep <;> simp [Dev.wakeStw, Dev.wakeWrd, h, g]

/-- What the scan looks at is in the register file. -/
theorem mbNotify_regs {d e : Dev} (h : d.regs = e.regs) (m : Nat) : d.mbNotify m = e.mbNotify m := by
  simp only [Dev.mbNotify, Dev.rd, h]

theorem mbFull_regs {d e : Dev} (h : d.regs = e.regs) (m : Nat) : d.mbFull m = e.mbFull m := by
  simp only [Dev.mbFull, Dev.on, Dev.rd, h]

theorem mbWord_regs {d e : Dev} (h : d.regs = e.regs) (m : Nat) : d.mbWord m = e.mbWord m := by
  simp only [Dev.mbWord, Dev.rd, h]

/-- A scan by two conditions that depend on the register file alone. -/
def scanBy (p q : Bool) (d : Dev) : Dev := let d := if p then d.wakeStw else d; if q then d.wakeWrd else d

theorem scanBy_idem (p q : Bool) (d : Dev) : scanBy p q (scanBy p q d) = scanBy p q d := by
  cases p <;> cases q <;>
    simp [scanBy, wakeStw_idem, wakeWrd_idem, wakeWrd_wakeStw_comm]

theorem wakeScan_eq (d : Dev) (x y : Bool) :
    d.wakeScan x y = scanBy ((x && d.mbNotify 2) || (y && d.mbNotify 5) || (d.mbFull 2 && msgOP (d.mbWord 2) == 1))
      (d.mbFull 0 || d.mbFull 4 || d.mbNotify 0 || d.mbNotify 4 || d.ex.sign.isSome) d := by
  have hx : d.wakeStw.ex = d.ex := by rw [wakeStw_frame]
  have hn : ∀ m, d.wakeStw.mbNotify m = d.mbNotify m := mbNotify_regs (wakeStw_regs d)
  have hf : ∀ m, d.wakeStw.mbFull m = d.mbFull m := mbFull_regs (wakeStw_regs d)
  unfold Dev.wakeScan scanBy
  dsimp only
  split <;> simp only [hn, hf, hx]

theorem scanBy_ex (p q : Bool) (d : Dev) : (scanBy p q d).ex = d.ex := by
  have hs : ∀ d : Dev, d.wakeStw.ex = d.ex := fun d => by rw [wakeStw_frame]
  have hw : ∀ d : Dev, d.wakeWrd.ex = d.ex := fun d => by rw [wakeWrd_frame]
  cases p <;> cases q <;> simp [scanBy, hs, hw]

theorem scanBy_regs (p q : Bool) (d : Dev) : (scanBy p q d).regs = d.regs := by
  cases p <;> cases q <;> simp [scanBy, wakeStw_regs, wakeWrd_regs]

/-- A second scan finds nothing more (R34, R413). -/
theorem wakeScan_idem (d : Dev) (x y : Bool) : (d.wakeScan x y).wakeScan x y = d.wakeScan x y := by
  have hr : (d.wakeScan x y).regs = d.regs := by rw [wakeScan_eq, scanBy_regs]
  have hx : (d.wakeScan x y).ex = d.ex := by rw [wakeScan_eq, scanBy_ex]
  rw [wakeScan_eq (d.wakeScan x y)]
  simp only [mbNotify_regs hr, mbFull_regs hr, mbWord_regs hr, hx]
  rw [wakeScan_eq d, scanBy_idem]

/-- What a command raises, sends and leaves when it is one of the whole block, changes only the device and asks for no
Squall. -/
theorem actAll_ends (s : State) (f : State → State) (d : Dev)
    (hf : f { s with dev := { s.dev with out := [] } } = { s with dev := d })
    (hq : d.sqReq = []) (hd : d.evd = []) (hb : (sortEv d.evq).any Event.wakesStw = false) :
    s.actAll f = s.ends (sortEv d.evq) d.out d := by
  unfold State.actAll
  rw [hf]
  exact settle_ends { s with dev := d } hq hd hb

end Sys2Proof.Machine
end

