-- ==== Sys2Proof/Laws/Sparse.lean ====
section
/-!
SUPPORT. Laws/Sparse.lean: reads after writes of sparse lists, memories and the register file, and the canonical form, which
every memory operation keeps.
-/
namespace Sys2Proof.Machine

/-! ### Sparse lists -/

section
variable {α : Type} [DecidableEq α] (dflt : α)

omit [DecidableEq α] in
theorem sparseGet_sparseAbove_le (j k : Nat) (l : List (Nat × α)) (h : j ≤ k) : sparseGet dflt j (sparseAbove k l) = dflt := by
  induction l with
  | nil => rfl
  | cons x r ih =>
    obtain ⟨a, w⟩ := x
    by_cases hk : k < a
    · have h1 : (a == j) = false := by simp; omega
      have h2 : j < a := by omega
      simp [sparseAbove, hk, sparseGet, h1, h2]
    · simpa [sparseAbove, hk] using ih

omit [DecidableEq α] in
theorem sparseGet_sparseAbove_gt (j k : Nat) (l : List (Nat × α)) (h : k < j) :
    sparseGet dflt j (sparseAbove k l) = sparseGet dflt j l := by
  induction l with
  | nil => rfl
  | cons x r ih =>
    obtain ⟨a, w⟩ := x
    by_cases hk : k < a
    · simp [sparseAbove, hk]
    · have h1 : (a == j) = false := by simp; omega
      have h2 : ¬ j < a := by omega
      simpa [sparseAbove, hk, sparseGet, h1, h2] using ih

/-- What has been put under a key is read there. -/
@[simp] theorem sparseGet_sparseSet (k : Nat) (v : α) (l : List (Nat × α)) : sparseGet dflt k (sparseSet dflt k v l) = v := by
  induction l with
  | nil => by_cases hv : v = dflt <;> simp [sparseSet, hv, sparseGet]
  | cons x r ih =>
    obtain ⟨a, w⟩ := x
    by_cases hk : a = k
    · subst hk
      by_cases hv : v = dflt
      · simp [sparseSet, hv, sparseGet_sparseAbove_le]
      · simp [sparseSet, hv, sparseGet]
    · have hk' : (a == k) = false := by simpa using hk
      by_cases hl : k < a
      · by_cases hv : v = dflt <;> simp [sparseSet, hk', hl, hv, sparseGet]
      · simp [sparseSet, hk', hl, sparseGet, ih]

/-- Putting a value under a key leaves every other key. -/
theorem sparseGet_sparseSet_ne (j k : Nat) (v : α) (l : List (Nat × α)) (h : j ≠ k) :
    sparseGet dflt j (sparseSet dflt k v l) = sparseGet dflt j l := by
  induction l with
  | nil =>
    have h1 : (k == j) = false := by simp; omega
    by_cases hv : v = dflt <;> simp [sparseSet, hv, sparseGet, h1]
  | cons x r ih =>
    obtain ⟨a, w⟩ := x
    have h1 : (k == j) = false := by simp; omega
    by_cases hk : a = k
    · subst hk
      by_cases hj : j < a
      · by_cases hv : v = dflt
        · simp [sparseSet, hv, sparseGet_sparseAbove_le dflt j a r (by omega), sparseGet, h1, hj]
        · simp [sparseSet, hv, sparseGet, h1, hj]
      · by_cases hv : v = dflt
        · simp [sparseSet, hv, sparseGet_sparseAbove_gt dflt j a r (by omega), sparseGet, h1, hj]
        · simp [sparseSet, hv, sparseGet, h1, hj]
    · have hk' : (a == k) = false := by simpa using hk
      by_cases hl : k < a
      · by_cases hv : v = dflt
        · simp [sparseSet, hk', hl, hv]
        · by_cases hj : j < k
          · have h2 : (a == j) = false := by simp; omega
            have h3 : j < a := by omega
            simp [sparseSet, hk', hl, hv, sparseGet, h1, h2, h3, hj]
          · simp [sparseSet, hk', hl, hv, sparseGet, h1, hj]
      · simp [sparseSet, hk', hl, sparseGet, ih]

omit [DecidableEq α] in
theorem risingFrom_mono {lo lo' : Nat} (l : List (Nat × α)) (h : lo' ≤ lo) (hr : risingFrom lo l = true) :
    risingFrom lo' l = true := by
  cases l with
  | nil => rfl
  | cons x r =>
    simp only [risingFrom, Bool.and_eq_true, decide_eq_true_eq] at hr ⊢
    exact ⟨by omega, hr.2⟩

omit [DecidableEq α] in
theorem sparseAbove_of_rising (k : Nat) (l : List (Nat × α)) (h : risingFrom (k + 1) l = true) : sparseAbove k l = l := by
  cases l with
  | nil => rfl
  | cons x r =>
    simp only [risingFrom, Bool.and_eq_true, decide_eq_true_eq] at h
    have : k < x.1 := by omega
    simp [sparseAbove, this]

/-- The keys stay strictly rising. -/
theorem risingFrom_sparseSet (lo k : Nat) (v : α) (l : List (Nat × α)) (hk : lo ≤ k) (h : risingFrom lo l = true) :
    risingFrom lo (sparseSet dflt k v l) = true := by
  induction l generalizing lo with
  | nil => by_cases hv : v = dflt <;> simp [sparseSet, hv, risingFrom, hk]
  | cons x r ih =>
    obtain ⟨a, w⟩ := x
    simp only [risingFrom, Bool.and_eq_true, decide_eq_true_eq] at h
    by_cases he : a = k
    · subst he
      by_cases hv : v = dflt
      · simp only [sparseSet, beq_self_eq_true, if_true, hv, sparseAbove_of_rising _ _ h.2]
        exact risingFrom_mono r (by omega) h.2
      · simp [sparseSet, hv, risingFrom, hk, h.2]
    · have he' : (a == k) = false := by simpa using he
      by_cases hl : k < a
      · by_cases hv : v = dflt
        · simp [sparseSet, he', hl, hv, risingFrom, h.1, h.2]
        · simp [sparseSet, he', hl, hv, risingFrom, hk, h.2] <;> omega
      · simp only [sparseSet, he', hl, Bool.false_eq_true, if_false, risingFrom, Bool.and_eq_true, decide_eq_true_eq]
        exact ⟨h.1, ih (a + 1) (by omega) h.2⟩

end

/-! ### Memories -/

theorem allNonzero_sparseAbove (k : Nat) (m : Mem) (h : allNonzero m = true) : allNonzero (sparseAbove k m) = true := by
  induction m with
  | nil => rfl
  | cons x r ih =>
    obtain ⟨a, w⟩ := x
    by_cases hk : k < a
    · simpa [sparseAbove, hk] using h
    · simp only [allNonzero, Bool.and_eq_true] at h
      simpa [sparseAbove, hk] using ih h.2

theorem allNonzero_sparseSet (k : Nat) (v : Byte) (m : Mem) (h : allNonzero m = true) :
    allNonzero (sparseSet 0 k v m) = true := by
  induction m with
  | nil =>
    unfold sparseSet
    split
    · rfl
    · next hv => simp only [allNonzero, Bool.and_true, decide_eq_true_eq]; exact hv
  | cons x r ih =>
    obtain ⟨a, w⟩ := x
    have hs := h
    simp only [allNonzero, Bool.and_eq_true] at h
    unfold sparseSet
    split
    · split
      · exact allNonzero_sparseAbove k r h.2
      · next hv => simp only [allNonzero, Bool.and_eq_true, decide_eq_true_eq]; exact ⟨hv, h.2⟩
    · split
      · split
        · exact hs
        · next hv => simp only [allNonzero, Bool.and_eq_true] at hs ⊢; exact ⟨decide_eq_true hv, hs⟩
      · simp only [allNonzero, Bool.and_eq_true]; exact ⟨h.1, ih h.2⟩

/-- An empty memory has the canonical form. -/
@[simp] theorem Mem.wf_nil : Mem.wf [] = true := rfl

/-- The byte written is the byte read. -/
@[simp] theorem Mem.read_write (m : Mem) (a : Nat) (v : Byte) : (m.write a v).read a = v := sparseGet_sparseSet 0 a v m

/-- A write leaves every other byte. -/
theorem Mem.read_write_ne (m : Mem) (a b : Nat) (v : Byte) (h : b ≠ a) : (m.write a v).read b = m.read b :=
  sparseGet_sparseSet_ne 0 b a v m h

/-- A write keeps the canonical form. -/
theorem Mem.wf_write (m : Mem) (a : Nat) (v : Byte) (h : m.wf = true) : (m.write a v).wf = true := by
  simp only [Mem.wf, Bool.and_eq_true] at h ⊢
  exact ⟨risingFrom_sparseSet 0 0 a v m (Nat.zero_le a) h.1, allNonzero_sparseSet a v m h.2⟩

theorem Mem.wf_writeLE (m : Mem) (a n v : Nat) (h : m.wf = true) : (m.writeLE a n v).wf = true := by
  induction n generalizing m a v with
  | zero => exact h
  | succ n ih => exact ih _ _ _ (Mem.wf_write m a _ h)

theorem Mem.wf_writeBytes (m : Mem) (a : Nat) (l : List Nat) (h : m.wf = true) : (m.writeBytes a l).wf = true := by
  induction l generalizing m a with
  | nil => exact h
  | cons b r ih => exact ih _ _ (Mem.wf_write m a _ h)

theorem risingFrom_filter (lo : Nat) (p : Nat × Byte → Bool) (m : Mem) (h : risingFrom lo m = true) :
    risingFrom lo (m.filter p) = true := by
  induction m generalizing lo with
  | nil => rfl
  | cons x r ih =>
    simp only [risingFrom, Bool.and_eq_true, decide_eq_true_eq] at h
    rw [List.filter_cons]
    split
    · simp only [risingFrom, Bool.and_eq_true, decide_eq_true_eq]; exact ⟨h.1, ih _ h.2⟩
    · exact risingFrom_mono _ (by omega) (ih _ h.2)

theorem allNonzero_filter (p : Nat × Byte → Bool) (m : Mem) (h : allNonzero m = true) : allNonzero (m.filter p) = true := by
  induction m with
  | nil => rfl
  | cons x r ih =>
    simp only [allNonzero, Bool.and_eq_true] at h
    rw [List.filter_cons]
    split
    · simp only [allNonzero, Bool.and_eq_true]; exact ⟨h.1, ih h.2⟩
    · exact ih h.2

/-- Zeroing a range keeps the canonical form. -/
theorem Mem.wf_clear (m : Mem) (a n : Nat) (h : m.wf = true) : (m.clear a n).wf = true := by
  simp only [Mem.wf, Bool.and_eq_true] at h ⊢
  exact ⟨risingFrom_filter 0 _ m h.1, allNonzero_filter _ m h.2⟩

theorem sparseGet_lt_rising (b lo : Nat) (m : Mem) (hr : risingFrom lo m = true) (h : b < lo) : sparseGet 0 b m = 0 := by
  cases m with
  | nil => rfl
  | cons x r =>
    obtain ⟨k, w⟩ := x
    simp only [risingFrom, Bool.and_eq_true, decide_eq_true_eq] at hr
    have h1 : (k == b) = false := by simp; omega
    have h2 : b < k := by omega
    simp [sparseGet, h1, h2]

/-- Zeroing a range leaves every byte outside it, and zeros inside it. -/
theorem Mem.read_clear (m : Mem) (a n b : Nat) (h : m.wf = true) :
    (m.clear a n).read b = if a ≤ b ∧ b < a + n then 0 else m.read b := by
  simp only [Mem.wf, Bool.and_eq_true] at h
  have key : ∀ (lo : Nat) (l : Mem), risingFrom lo l = true →
      sparseGet 0 b (l.clear a n) = if a ≤ b ∧ b < a + n then 0 else sparseGet 0 b l := by
    intro lo l
    induction l generalizing lo with
    | nil => intro _; simp [Mem.clear, sparseGet]
    | cons x r ih =>
      intro hr
      obtain ⟨k, w⟩ := x
      simp only [risingFrom, Bool.and_eq_true, decide_eq_true_eq] at hr
      have ih := ih (k + 1) hr.2
      have below : b < k → sparseGet 0 b (Mem.clear r a n) = 0 := fun hb =>
        sparseGet_lt_rising b (k + 1) _ (risingFrom_filter _ _ r hr.2) (by omega)
      unfold Mem.clear at ih below ⊢
      rw [List.filter_cons]
      by_cases hk : k < a ∨ a + n ≤ k
      · have hp : (decide (k < a) || decide (a + n ≤ k)) = true := by simpa using hk
        simp only [hp, if_true, sparseGet]
        by_cases e : k = b
        · subst e
          have : ¬ (a ≤ k ∧ k < a + n) := by omega
          simp [this]
        · have e' : (k == b) = false := by simpa using e
          simp only [e', Bool.false_eq_true, if_false]
          by_cases hb : b < k
          · simp [hb]
          · simp only [hb, if_false]; exact ih
      · have hp : (decide (k < a) || decide (a + n ≤ k)) = false := by simpa using hk
        simp only [hp, Bool.false_eq_true, if_false, sparseGet]
        by_cases e : k = b
        · subst e
          have hin : a ≤ k ∧ k < a + n := by omega
          rw [ih]; simp [hin]
        · have e' : (k == b) = false := by simpa using e
          simp only [e', Bool.false_eq_true, if_false]
          by_cases hb : b < k
          · rw [below hb]; simp [hb]
          · simp only [hb, if_false]; exact ih
  exact key 0 m h.1

/-- A strobed write of the table aperture keeps the canonical form (R44, R112). -/
theorem wf_strobed (m : Mem) (o strb v : Nat) (live : Nat → Bool) (h : m.wf = true) : (strobed m o strb v live).wf = true := by
  unfold strobed
  generalize upto 8 = l
  induction l generalizing m with
  | nil => exact h
  | cons k r ih =>
    rw [List.foldl_cons]
    apply ih
    split
    · exact Mem.wf_write m _ _ h
    · exact h

theorem Mem.read_writeBytes_lt (m : Mem) (a b : Nat) (l : List Nat) (h : b < a) : (m.writeBytes a l).read b = m.read b := by
  induction l generalizing m a with
  | nil => rfl
  | cons x r ih => rw [Mem.writeBytes, ih _ _ (by omega), Mem.read_write_ne _ _ _ _ (by omega)]

/-- What a list of bytes written at `a` leaves at each address. -/
theorem Mem.read_writeBytes (m : Mem) (a b : Nat) (l : List Nat) :
    (m.writeBytes a l).read b = if a ≤ b ∧ b < a + l.length then BitVec.ofNat 8 (l.getD (b - a) 0) else m.read b := by
  induction l generalizing m a with
  | nil =>
    have h : ¬ (a ≤ b ∧ b < a + ([] : List Nat).length) := by simp only [List.length_nil]; omega
    rw [if_neg h]; rfl
  | cons x r ih =>
    rw [Mem.writeBytes, ih]
    by_cases h : b = a
    · subst h
      have h1 : ¬ (b + 1 ≤ b ∧ b < b + 1 + r.length) := by omega
      simp [h1]
    · by_cases h1 : a + 1 ≤ b ∧ b < a + 1 + r.length
      · have h2 : a ≤ b ∧ b < a + (x :: r).length := by simp; omega
        have h3 : b - a = (b - (a + 1)) + 1 := by omega
        rw [if_pos h1, if_pos h2, h3, List.getD_cons_succ]
      · have h2 : ¬ (a ≤ b ∧ b < a + (x :: r).length) := by simp; omega
        rw [if_neg h1, if_neg h2, Mem.read_write_ne _ _ _ _ h]

/-! ### The register file -/

/-- A field reads what was written to it, as far as its width takes it. -/
@[simp] theorem Dev.rd_wr (d : Dev) (f : Fld) (v i j : Nat) : (d.wr f v i j).rd f i j = v % 2 ^ f.wid :=
  sparseGet_sparseSet _ _ _ _

theorem sparseGet_dflt {α : Type} (x y : α) (k : Nat) (l : List (Nat × α)) (h : x = y) : sparseGet x k l = sparseGet y k l := by
  rw [h]

/-- A write of one field leaves the fields with another key. -/
theorem Dev.rd_wr_ne (d : Dev) (f g : Fld) (v i j i' j' : Nat) (h : g.key i' j' ≠ f.key i j) :
    (d.wr f v i j).rd g i' j' = d.rd g i' j' := by
  have key : ∀ (x y : Nat) (k k' v : Nat) (l : RegFile), k' ≠ k →
      sparseGet y k' (sparseSet x k v l) = sparseGet y k' l := by
    intro x y k k' v l hk
    induction l with
    | nil =>
      have h1 : (k == k') = false := by simp; omega
      by_cases hv : v = x <;> simp [sparseSet, hv, sparseGet, h1]
    | cons e r ih =>
      obtain ⟨a, w⟩ := e
      have h1 : (k == k') = false := by simp; omega
      by_cases he : a = k
      · subst he
        by_cases hj : k' < a
        · by_cases hv : v = x
          · simp [sparseSet, hv, sparseGet_sparseAbove_le y k' a r (by omega), sparseGet, h1, hj]
          · simp [sparseSet, hv, sparseGet, h1, hj]
        · by_cases hv : v = x
          · simp [sparseSet, hv, sparseGet_sparseAbove_gt y k' a r (by omega), sparseGet, h1, hj]
          · simp [sparseSet, hv, sparseGet, h1, hj]
      · have he' : (a == k) = false := by simpa using he
        by_cases hl : k < a
        · by_cases hv : v = x
          · simp [sparseSet, he', hl, hv]
          · by_cases hj : k' < k
            · have h2 : (a == k') = false := by simp; omega
              have h3 : k' < a := by omega
              simp [sparseSet, he', hl, hv, sparseGet, h1, h2, h3, hj]
            · simp [sparseSet, he', hl, hv, sparseGet, h1, hj]
        · simp [sparseSet, he', hl, sparseGet, ih]
  exact key _ _ _ _ _ _ h

end Sys2Proof.Machine
end

