-- ==== Sys2Proof/Laws/State.lean ====
section
/-!
SUPPORT. Laws/State.lean: what each named update of the device leaves of each field, true by definition, so that no proof
unfolds a record update.
-/
namespace Sys2Proof.Machine

/-! ### Dev.wr -/

@[simp] theorem Dev.wr_bld (d : Dev) (f : Fld) (v i j : Nat) : (d.wr f v i j).bld = d.bld := rfl
@[simp] theorem Dev.wr_tick (d : Dev) (f : Fld) (v i j : Nat) : (d.wr f v i j).tick = d.tick := rfl
@[simp] theorem Dev.wr_phases (d : Dev) (f : Fld) (v i j : Nat) : (d.wr f v i j).phases = d.phases := rfl
@[simp] theorem Dev.wr_rails (d : Dev) (f : Fld) (v i j : Nat) : (d.wr f v i j).rails = d.rails := rfl
@[simp] theorem Dev.wr_tune (d : Dev) (f : Fld) (v i j : Nat) : (d.wr f v i j).tune = d.tune := rfl
@[simp] theorem Dev.wr_sats (d : Dev) (f : Fld) (v i j : Nat) : (d.wr f v i j).sats = d.sats := rfl
@[simp] theorem Dev.wr_cal (d : Dev) (f : Fld) (v i j : Nat) : (d.wr f v i j).cal = d.cal := rfl
@[simp] theorem Dev.wr_wave (d : Dev) (f : Fld) (v i j : Nat) : (d.wr f v i j).wave = d.wave := rfl
@[simp] theorem Dev.wr_doms (d : Dev) (f : Fld) (v i j : Nat) : (d.wr f v i j).doms = d.doms := rfl
@[simp] theorem Dev.wr_gov (d : Dev) (f : Fld) (v i j : Nat) : (d.wr f v i j).gov = d.gov := rfl
@[simp] theorem Dev.wr_credit (d : Dev) (f : Fld) (v i j : Nat) : (d.wr f v i j).credit = d.credit := rfl
@[simp] theorem Dev.wr_claims (d : Dev) (f : Fld) (v i j : Nat) : (d.wr f v i j).claims = d.claims := rfl
@[simp] theorem Dev.wr_hint (d : Dev) (f : Fld) (v i j : Nat) : (d.wr f v i j).hint = d.hint := rfl
@[simp] theorem Dev.wr_step (d : Dev) (f : Fld) (v i j : Nat) : (d.wr f v i j).step = d.step := rfl
@[simp] theorem Dev.wr_fc (d : Dev) (f : Fld) (v i j : Nat) : (d.wr f v i j).fc = d.fc := rfl
@[simp] theorem Dev.wr_therm (d : Dev) (f : Fld) (v i j : Nat) : (d.wr f v i j).therm = d.therm := rfl
@[simp] theorem Dev.wr_iso (d : Dev) (f : Fld) (v i j : Nat) : (d.wr f v i j).iso = d.iso := rfl
@[simp] theorem Dev.wr_act (d : Dev) (f : Fld) (v i j : Nat) : (d.wr f v i j).act = d.act := rfl
@[simp] theorem Dev.wr_dz (d : Dev) (f : Fld) (v i j : Nat) : (d.wr f v i j).dz = d.dz := rfl
@[simp] theorem Dev.wr_bud (d : Dev) (f : Fld) (v i j : Nat) : (d.wr f v i j).bud = d.bud := rfl
@[simp] theorem Dev.wr_memPort (d : Dev) (f : Fld) (v i j : Nat) : (d.wr f v i j).memPort = d.memPort := rfl
@[simp] theorem Dev.wr_led (d : Dev) (f : Fld) (v i j : Nat) : (d.wr f v i j).led = d.led := rfl
@[simp] theorem Dev.wr_ex (d : Dev) (f : Fld) (v i j : Nat) : (d.wr f v i j).ex = d.ex := rfl
@[simp] theorem Dev.wr_mbox (d : Dev) (f : Fld) (v i j : Nat) : (d.wr f v i j).mbox = d.mbox := rfl
@[simp] theorem Dev.wr_stw (d : Dev) (f : Fld) (v i j : Nat) : (d.wr f v i j).stw = d.stw := rfl
@[simp] theorem Dev.wr_wrd (d : Dev) (f : Fld) (v i j : Nat) : (d.wr f v i j).wrd = d.wrd := rfl
@[simp] theorem Dev.wr_nv (d : Dev) (f : Fld) (v i j : Nat) : (d.wr f v i j).nv = d.nv := rfl
@[simp] theorem Dev.wr_baro (d : Dev) (f : Fld) (v i j : Nat) : (d.wr f v i j).baro = d.baro := rfl
@[simp] theorem Dev.wr_snaps (d : Dev) (f : Fld) (v i j : Nat) : (d.wr f v i j).snaps = d.snaps := rfl
@[simp] theorem Dev.wr_wiping (d : Dev) (f : Fld) (v i j : Nat) : (d.wr f v i j).wiping = d.wiping := rfl
@[simp] theorem Dev.wr_wipeBad (d : Dev) (f : Fld) (v i j : Nat) : (d.wr f v i j).wipeBad = d.wipeBad := rfl
@[simp] theorem Dev.wr_missSent (d : Dev) (f : Fld) (v i j : Nat) : (d.wr f v i j).missSent = d.missSent := rfl
@[simp] theorem Dev.wr_capRam (d : Dev) (f : Fld) (v i j : Nat) : (d.wr f v i j).capRam = d.capRam := rfl
@[simp] theorem Dev.wr_lvl0 (d : Dev) (f : Fld) (v i j : Nat) : (d.wr f v i j).lvl0 = d.lvl0 := rfl
@[simp] theorem Dev.wr_lvl1 (d : Dev) (f : Fld) (v i j : Nat) : (d.wr f v i j).lvl1 = d.lvl1 := rfl
@[simp] theorem Dev.wr_fit (d : Dev) (f : Fld) (v i j : Nat) : (d.wr f v i j).fit = d.fit := rfl
@[simp] theorem Dev.wr_fitUse (d : Dev) (f : Fld) (v i j : Nat) : (d.wr f v i j).fitUse = d.fitUse := rfl
@[simp] theorem Dev.wr_sqActive (d : Dev) (f : Fld) (v i j : Nat) : (d.wr f v i j).sqActive = d.sqActive := rfl
@[simp] theorem Dev.wr_sqGated (d : Dev) (f : Fld) (v i j : Nat) : (d.wr f v i j).sqGated = d.sqGated := rfl
@[simp] theorem Dev.wr_evq (d : Dev) (f : Fld) (v i j : Nat) : (d.wr f v i j).evq = d.evq := rfl
@[simp] theorem Dev.wr_evd (d : Dev) (f : Fld) (v i j : Nat) : (d.wr f v i j).evd = d.evd := rfl
@[simp] theorem Dev.wr_sqReq (d : Dev) (f : Fld) (v i j : Nat) : (d.wr f v i j).sqReq = d.sqReq := rfl
@[simp] theorem Dev.wr_smp (d : Dev) (f : Fld) (v i j : Nat) : (d.wr f v i j).smp = d.smp := rfl
@[simp] theorem Dev.wr_out (d : Dev) (f : Fld) (v i j : Nat) : (d.wr f v i j).out = d.out := rfl

/-! ### Dev.bump -/

@[simp] theorem Dev.bump_bld (d : Dev) (f : Fld) (i j k : Nat) : (d.bump f i j k).bld = d.bld := rfl
@[simp] theorem Dev.bump_tick (d : Dev) (f : Fld) (i j k : Nat) : (d.bump f i j k).tick = d.tick := rfl
@[simp] theorem Dev.bump_phases (d : Dev) (f : Fld) (i j k : Nat) : (d.bump f i j k).phases = d.phases := rfl
@[simp] theorem Dev.bump_rails (d : Dev) (f : Fld) (i j k : Nat) : (d.bump f i j k).rails = d.rails := rfl
@[simp] theorem Dev.bump_tune (d : Dev) (f : Fld) (i j k : Nat) : (d.bump f i j k).tune = d.tune := rfl
@[simp] theorem Dev.bump_sats (d : Dev) (f : Fld) (i j k : Nat) : (d.bump f i j k).sats = d.sats := rfl
@[simp] theorem Dev.bump_cal (d : Dev) (f : Fld) (i j k : Nat) : (d.bump f i j k).cal = d.cal := rfl
@[simp] theorem Dev.bump_wave (d : Dev) (f : Fld) (i j k : Nat) : (d.bump f i j k).wave = d.wave := rfl
@[simp] theorem Dev.bump_doms (d : Dev) (f : Fld) (i j k : Nat) : (d.bump f i j k).doms = d.doms := rfl
@[simp] theorem Dev.bump_gov (d : Dev) (f : Fld) (i j k : Nat) : (d.bump f i j k).gov = d.gov := rfl
@[simp] theorem Dev.bump_credit (d : Dev) (f : Fld) (i j k : Nat) : (d.bump f i j k).credit = d.credit := rfl
@[simp] theorem Dev.bump_claims (d : Dev) (f : Fld) (i j k : Nat) : (d.bump f i j k).claims = d.claims := rfl
@[simp] theorem Dev.bump_hint (d : Dev) (f : Fld) (i j k : Nat) : (d.bump f i j k).hint = d.hint := rfl
@[simp] theorem Dev.bump_step (d : Dev) (f : Fld) (i j k : Nat) : (d.bump f i j k).step = d.step := rfl
@[simp] theorem Dev.bump_fc (d : Dev) (f : Fld) (i j k : Nat) : (d.bump f i j k).fc = d.fc := rfl
@[simp] theorem Dev.bump_therm (d : Dev) (f : Fld) (i j k : Nat) : (d.bump f i j k).therm = d.therm := rfl
@[simp] theorem Dev.bump_iso (d : Dev) (f : Fld) (i j k : Nat) : (d.bump f i j k).iso = d.iso := rfl
@[simp] theorem Dev.bump_act (d : Dev) (f : Fld) (i j k : Nat) : (d.bump f i j k).act = d.act := rfl
@[simp] theorem Dev.bump_dz (d : Dev) (f : Fld) (i j k : Nat) : (d.bump f i j k).dz = d.dz := rfl
@[simp] theorem Dev.bump_bud (d : Dev) (f : Fld) (i j k : Nat) : (d.bump f i j k).bud = d.bud := rfl
@[simp] theorem Dev.bump_memPort (d : Dev) (f : Fld) (i j k : Nat) : (d.bump f i j k).memPort = d.memPort := rfl
@[simp] theorem Dev.bump_led (d : Dev) (f : Fld) (i j k : Nat) : (d.bump f i j k).led = d.led := rfl
@[simp] theorem Dev.bump_ex (d : Dev) (f : Fld) (i j k : Nat) : (d.bump f i j k).ex = d.ex := rfl
@[simp] theorem Dev.bump_mbox (d : Dev) (f : Fld) (i j k : Nat) : (d.bump f i j k).mbox = d.mbox := rfl
@[simp] theorem Dev.bump_stw (d : Dev) (f : Fld) (i j k : Nat) : (d.bump f i j k).stw = d.stw := rfl
@[simp] theorem Dev.bump_wrd (d : Dev) (f : Fld) (i j k : Nat) : (d.bump f i j k).wrd = d.wrd := rfl
@[simp] theorem Dev.bump_nv (d : Dev) (f : Fld) (i j k : Nat) : (d.bump f i j k).nv = d.nv := rfl
@[simp] theorem Dev.bump_baro (d : Dev) (f : Fld) (i j k : Nat) : (d.bump f i j k).baro = d.baro := rfl
@[simp] theorem Dev.bump_snaps (d : Dev) (f : Fld) (i j k : Nat) : (d.bump f i j k).snaps = d.snaps := rfl
@[simp] theorem Dev.bump_wiping (d : Dev) (f : Fld) (i j k : Nat) : (d.bump f i j k).wiping = d.wiping := rfl
@[simp] theorem Dev.bump_wipeBad (d : Dev) (f : Fld) (i j k : Nat) : (d.bump f i j k).wipeBad = d.wipeBad := rfl
@[simp] theorem Dev.bump_missSent (d : Dev) (f : Fld) (i j k : Nat) : (d.bump f i j k).missSent = d.missSent := rfl
@[simp] theorem Dev.bump_capRam (d : Dev) (f : Fld) (i j k : Nat) : (d.bump f i j k).capRam = d.capRam := rfl
@[simp] theorem Dev.bump_lvl0 (d : Dev) (f : Fld) (i j k : Nat) : (d.bump f i j k).lvl0 = d.lvl0 := rfl
@[simp] theorem Dev.bump_lvl1 (d : Dev) (f : Fld) (i j k : Nat) : (d.bump f i j k).lvl1 = d.lvl1 := rfl
@[simp] theorem Dev.bump_fit (d : Dev) (f : Fld) (i j k : Nat) : (d.bump f i j k).fit = d.fit := rfl
@[simp] theorem Dev.bump_fitUse (d : Dev) (f : Fld) (i j k : Nat) : (d.bump f i j k).fitUse = d.fitUse := rfl
@[simp] theorem Dev.bump_sqActive (d : Dev) (f : Fld) (i j k : Nat) : (d.bump f i j k).sqActive = d.sqActive := rfl
@[simp] theorem Dev.bump_sqGated (d : Dev) (f : Fld) (i j k : Nat) : (d.bump f i j k).sqGated = d.sqGated := rfl
@[simp] theorem Dev.bump_evq (d : Dev) (f : Fld) (i j k : Nat) : (d.bump f i j k).evq = d.evq := rfl
@[simp] theorem Dev.bump_evd (d : Dev) (f : Fld) (i j k : Nat) : (d.bump f i j k).evd = d.evd := rfl
@[simp] theorem Dev.bump_sqReq (d : Dev) (f : Fld) (i j k : Nat) : (d.bump f i j k).sqReq = d.sqReq := rfl
@[simp] theorem Dev.bump_smp (d : Dev) (f : Fld) (i j k : Nat) : (d.bump f i j k).smp = d.smp := rfl
@[simp] theorem Dev.bump_out (d : Dev) (f : Fld) (i j k : Nat) : (d.bump f i j k).out = d.out := rfl

/-! ### Dev.ev -/

@[simp] theorem Dev.ev_bld (d : Dev) (c : Code) (p i : Nat) : (d.ev c p i).bld = d.bld := rfl
@[simp] theorem Dev.ev_regs (d : Dev) (c : Code) (p i : Nat) : (d.ev c p i).regs = d.regs := rfl
@[simp] theorem Dev.ev_tick (d : Dev) (c : Code) (p i : Nat) : (d.ev c p i).tick = d.tick := rfl
@[simp] theorem Dev.ev_phases (d : Dev) (c : Code) (p i : Nat) : (d.ev c p i).phases = d.phases := rfl
@[simp] theorem Dev.ev_rails (d : Dev) (c : Code) (p i : Nat) : (d.ev c p i).rails = d.rails := rfl
@[simp] theorem Dev.ev_tune (d : Dev) (c : Code) (p i : Nat) : (d.ev c p i).tune = d.tune := rfl
@[simp] theorem Dev.ev_sats (d : Dev) (c : Code) (p i : Nat) : (d.ev c p i).sats = d.sats := rfl
@[simp] theorem Dev.ev_cal (d : Dev) (c : Code) (p i : Nat) : (d.ev c p i).cal = d.cal := rfl
@[simp] theorem Dev.ev_wave (d : Dev) (c : Code) (p i : Nat) : (d.ev c p i).wave = d.wave := rfl
@[simp] theorem Dev.ev_doms (d : Dev) (c : Code) (p i : Nat) : (d.ev c p i).doms = d.doms := rfl
@[simp] theorem Dev.ev_gov (d : Dev) (c : Code) (p i : Nat) : (d.ev c p i).gov = d.gov := rfl
@[simp] theorem Dev.ev_credit (d : Dev) (c : Code) (p i : Nat) : (d.ev c p i).credit = d.credit := rfl
@[simp] theorem Dev.ev_claims (d : Dev) (c : Code) (p i : Nat) : (d.ev c p i).claims = d.claims := rfl
@[simp] theorem Dev.ev_hint (d : Dev) (c : Code) (p i : Nat) : (d.ev c p i).hint = d.hint := rfl
@[simp] theorem Dev.ev_step (d : Dev) (c : Code) (p i : Nat) : (d.ev c p i).step = d.step := rfl
@[simp] theorem Dev.ev_fc (d : Dev) (c : Code) (p i : Nat) : (d.ev c p i).fc = d.fc := rfl
@[simp] theorem Dev.ev_therm (d : Dev) (c : Code) (p i : Nat) : (d.ev c p i).therm = d.therm := rfl
@[simp] theorem Dev.ev_iso (d : Dev) (c : Code) (p i : Nat) : (d.ev c p i).iso = d.iso := rfl
@[simp] theorem Dev.ev_act (d : Dev) (c : Code) (p i : Nat) : (d.ev c p i).act = d.act := rfl
@[simp] theorem Dev.ev_dz (d : Dev) (c : Code) (p i : Nat) : (d.ev c p i).dz = d.dz := rfl
@[simp] theorem Dev.ev_bud (d : Dev) (c : Code) (p i : Nat) : (d.ev c p i).bud = d.bud := rfl
@[simp] theorem Dev.ev_memPort (d : Dev) (c : Code) (p i : Nat) : (d.ev c p i).memPort = d.memPort := rfl
@[simp] theorem Dev.ev_led (d : Dev) (c : Code) (p i : Nat) : (d.ev c p i).led = d.led := rfl
@[simp] theorem Dev.ev_ex (d : Dev) (c : Code) (p i : Nat) : (d.ev c p i).ex = d.ex := rfl
@[simp] theorem Dev.ev_mbox (d : Dev) (c : Code) (p i : Nat) : (d.ev c p i).mbox = d.mbox := rfl
@[simp] theorem Dev.ev_stw (d : Dev) (c : Code) (p i : Nat) : (d.ev c p i).stw = d.stw := rfl
@[simp] theorem Dev.ev_wrd (d : Dev) (c : Code) (p i : Nat) : (d.ev c p i).wrd = d.wrd := rfl
@[simp] theorem Dev.ev_nv (d : Dev) (c : Code) (p i : Nat) : (d.ev c p i).nv = d.nv := rfl
@[simp] theorem Dev.ev_baro (d : Dev) (c : Code) (p i : Nat) : (d.ev c p i).baro = d.baro := rfl
@[simp] theorem Dev.ev_snaps (d : Dev) (c : Code) (p i : Nat) : (d.ev c p i).snaps = d.snaps := rfl
@[simp] theorem Dev.ev_wiping (d : Dev) (c : Code) (p i : Nat) : (d.ev c p i).wiping = d.wiping := rfl
@[simp] theorem Dev.ev_wipeBad (d : Dev) (c : Code) (p i : Nat) : (d.ev c p i).wipeBad = d.wipeBad := rfl
@[simp] theorem Dev.ev_missSent (d : Dev) (c : Code) (p i : Nat) : (d.ev c p i).missSent = d.missSent := rfl
@[simp] theorem Dev.ev_capRam (d : Dev) (c : Code) (p i : Nat) : (d.ev c p i).capRam = d.capRam := rfl
@[simp] theorem Dev.ev_lvl0 (d : Dev) (c : Code) (p i : Nat) : (d.ev c p i).lvl0 = d.lvl0 := rfl
@[simp] theorem Dev.ev_lvl1 (d : Dev) (c : Code) (p i : Nat) : (d.ev c p i).lvl1 = d.lvl1 := rfl
@[simp] theorem Dev.ev_fit (d : Dev) (c : Code) (p i : Nat) : (d.ev c p i).fit = d.fit := rfl
@[simp] theorem Dev.ev_fitUse (d : Dev) (c : Code) (p i : Nat) : (d.ev c p i).fitUse = d.fitUse := rfl
@[simp] theorem Dev.ev_sqActive (d : Dev) (c : Code) (p i : Nat) : (d.ev c p i).sqActive = d.sqActive := rfl
@[simp] theorem Dev.ev_sqGated (d : Dev) (c : Code) (p i : Nat) : (d.ev c p i).sqGated = d.sqGated := rfl
@[simp] theorem Dev.ev_evd (d : Dev) (c : Code) (p i : Nat) : (d.ev c p i).evd = d.evd := rfl
@[simp] theorem Dev.ev_sqReq (d : Dev) (c : Code) (p i : Nat) : (d.ev c p i).sqReq = d.sqReq := rfl
@[simp] theorem Dev.ev_smp (d : Dev) (c : Code) (p i : Nat) : (d.ev c p i).smp = d.smp := rfl
@[simp] theorem Dev.ev_out (d : Dev) (c : Code) (p i : Nat) : (d.ev c p i).out = d.out := rfl

/-! ### Dev.send -/

@[simp] theorem Dev.send_bld (d : Dev) (o : Out) : (d.send o).bld = d.bld := rfl
@[simp] theorem Dev.send_regs (d : Dev) (o : Out) : (d.send o).regs = d.regs := rfl
@[simp] theorem Dev.send_tick (d : Dev) (o : Out) : (d.send o).tick = d.tick := rfl
@[simp] theorem Dev.send_phases (d : Dev) (o : Out) : (d.send o).phases = d.phases := rfl
@[simp] theorem Dev.send_rails (d : Dev) (o : Out) : (d.send o).rails = d.rails := rfl
@[simp] theorem Dev.send_tune (d : Dev) (o : Out) : (d.send o).tune = d.tune := rfl
@[simp] theorem Dev.send_sats (d : Dev) (o : Out) : (d.send o).sats = d.sats := rfl
@[simp] theorem Dev.send_cal (d : Dev) (o : Out) : (d.send o).cal = d.cal := rfl
@[simp] theorem Dev.send_wave (d : Dev) (o : Out) : (d.send o).wave = d.wave := rfl
@[simp] theorem Dev.send_doms (d : Dev) (o : Out) : (d.send o).doms = d.doms := rfl
@[simp] theorem Dev.send_gov (d : Dev) (o : Out) : (d.send o).gov = d.gov := rfl
@[simp] theorem Dev.send_credit (d : Dev) (o : Out) : (d.send o).credit = d.credit := rfl
@[simp] theorem Dev.send_claims (d : Dev) (o : Out) : (d.send o).claims = d.claims := rfl
@[simp] theorem Dev.send_hint (d : Dev) (o : Out) : (d.send o).hint = d.hint := rfl
@[simp] theorem Dev.send_step (d : Dev) (o : Out) : (d.send o).step = d.step := rfl
@[simp] theorem Dev.send_fc (d : Dev) (o : Out) : (d.send o).fc = d.fc := rfl
@[simp] theorem Dev.send_therm (d : Dev) (o : Out) : (d.send o).therm = d.therm := rfl
@[simp] theorem Dev.send_iso (d : Dev) (o : Out) : (d.send o).iso = d.iso := rfl
@[simp] theorem Dev.send_act (d : Dev) (o : Out) : (d.send o).act = d.act := rfl
@[simp] theorem Dev.send_dz (d : Dev) (o : Out) : (d.send o).dz = d.dz := rfl
@[simp] theorem Dev.send_bud (d : Dev) (o : Out) : (d.send o).bud = d.bud := rfl
@[simp] theorem Dev.send_memPort (d : Dev) (o : Out) : (d.send o).memPort = d.memPort := rfl
@[simp] theorem Dev.send_led (d : Dev) (o : Out) : (d.send o).led = d.led := rfl
@[simp] theorem Dev.send_ex (d : Dev) (o : Out) : (d.send o).ex = d.ex := rfl
@[simp] theorem Dev.send_mbox (d : Dev) (o : Out) : (d.send o).mbox = d.mbox := rfl
@[simp] theorem Dev.send_stw (d : Dev) (o : Out) : (d.send o).stw = d.stw := rfl
@[simp] theorem Dev.send_wrd (d : Dev) (o : Out) : (d.send o).wrd = d.wrd := rfl
@[simp] theorem Dev.send_nv (d : Dev) (o : Out) : (d.send o).nv = d.nv := rfl
@[simp] theorem Dev.send_baro (d : Dev) (o : Out) : (d.send o).baro = d.baro := rfl
@[simp] theorem Dev.send_snaps (d : Dev) (o : Out) : (d.send o).snaps = d.snaps := rfl
@[simp] theorem Dev.send_wiping (d : Dev) (o : Out) : (d.send o).wiping = d.wiping := rfl
@[simp] theorem Dev.send_wipeBad (d : Dev) (o : Out) : (d.send o).wipeBad = d.wipeBad := rfl
@[simp] theorem Dev.send_missSent (d : Dev) (o : Out) : (d.send o).missSent = d.missSent := rfl
@[simp] theorem Dev.send_capRam (d : Dev) (o : Out) : (d.send o).capRam = d.capRam := rfl
@[simp] theorem Dev.send_lvl0 (d : Dev) (o : Out) : (d.send o).lvl0 = d.lvl0 := rfl
@[simp] theorem Dev.send_lvl1 (d : Dev) (o : Out) : (d.send o).lvl1 = d.lvl1 := rfl
@[simp] theorem Dev.send_fit (d : Dev) (o : Out) : (d.send o).fit = d.fit := rfl
@[simp] theorem Dev.send_fitUse (d : Dev) (o : Out) : (d.send o).fitUse = d.fitUse := rfl
@[simp] theorem Dev.send_sqActive (d : Dev) (o : Out) : (d.send o).sqActive = d.sqActive := rfl
@[simp] theorem Dev.send_sqGated (d : Dev) (o : Out) : (d.send o).sqGated = d.sqGated := rfl
@[simp] theorem Dev.send_evq (d : Dev) (o : Out) : (d.send o).evq = d.evq := rfl
@[simp] theorem Dev.send_evd (d : Dev) (o : Out) : (d.send o).evd = d.evd := rfl
@[simp] theorem Dev.send_sqReq (d : Dev) (o : Out) : (d.send o).sqReq = d.sqReq := rfl
@[simp] theorem Dev.send_smp (d : Dev) (o : Out) : (d.send o).smp = d.smp := rfl

/-! ### Dev.sample -/

@[simp] theorem Dev.sample_bld (d : Dev) (x i : Nat) (v : Int) : (d.sample x i v).bld = d.bld := rfl
@[simp] theorem Dev.sample_regs (d : Dev) (x i : Nat) (v : Int) : (d.sample x i v).regs = d.regs := rfl
@[simp] theorem Dev.sample_tick (d : Dev) (x i : Nat) (v : Int) : (d.sample x i v).tick = d.tick := rfl
@[simp] theorem Dev.sample_phases (d : Dev) (x i : Nat) (v : Int) : (d.sample x i v).phases = d.phases := rfl
@[simp] theorem Dev.sample_rails (d : Dev) (x i : Nat) (v : Int) : (d.sample x i v).rails = d.rails := rfl
@[simp] theorem Dev.sample_tune (d : Dev) (x i : Nat) (v : Int) : (d.sample x i v).tune = d.tune := rfl
@[simp] theorem Dev.sample_sats (d : Dev) (x i : Nat) (v : Int) : (d.sample x i v).sats = d.sats := rfl
@[simp] theorem Dev.sample_cal (d : Dev) (x i : Nat) (v : Int) : (d.sample x i v).cal = d.cal := rfl
@[simp] theorem Dev.sample_wave (d : Dev) (x i : Nat) (v : Int) : (d.sample x i v).wave = d.wave := rfl
@[simp] theorem Dev.sample_doms (d : Dev) (x i : Nat) (v : Int) : (d.sample x i v).doms = d.doms := rfl
@[simp] theorem Dev.sample_gov (d : Dev) (x i : Nat) (v : Int) : (d.sample x i v).gov = d.gov := rfl
@[simp] theorem Dev.sample_credit (d : Dev) (x i : Nat) (v : Int) : (d.sample x i v).credit = d.credit := rfl
@[simp] theorem Dev.sample_claims (d : Dev) (x i : Nat) (v : Int) : (d.sample x i v).claims = d.claims := rfl
@[simp] theorem Dev.sample_hint (d : Dev) (x i : Nat) (v : Int) : (d.sample x i v).hint = d.hint := rfl
@[simp] theorem Dev.sample_step (d : Dev) (x i : Nat) (v : Int) : (d.sample x i v).step = d.step := rfl
@[simp] theorem Dev.sample_fc (d : Dev) (x i : Nat) (v : Int) : (d.sample x i v).fc = d.fc := rfl
@[simp] theorem Dev.sample_therm (d : Dev) (x i : Nat) (v : Int) : (d.sample x i v).therm = d.therm := rfl
@[simp] theorem Dev.sample_iso (d : Dev) (x i : Nat) (v : Int) : (d.sample x i v).iso = d.iso := rfl
@[simp] theorem Dev.sample_act (d : Dev) (x i : Nat) (v : Int) : (d.sample x i v).act = d.act := rfl
@[simp] theorem Dev.sample_dz (d : Dev) (x i : Nat) (v : Int) : (d.sample x i v).dz = d.dz := rfl
@[simp] theorem Dev.sample_bud (d : Dev) (x i : Nat) (v : Int) : (d.sample x i v).bud = d.bud := rfl
@[simp] theorem Dev.sample_memPort (d : Dev) (x i : Nat) (v : Int) : (d.sample x i v).memPort = d.memPort := rfl
@[simp] theorem Dev.sample_led (d : Dev) (x i : Nat) (v : Int) : (d.sample x i v).led = d.led := rfl
@[simp] theorem Dev.sample_ex (d : Dev) (x i : Nat) (v : Int) : (d.sample x i v).ex = d.ex := rfl
@[simp] theorem Dev.sample_mbox (d : Dev) (x i : Nat) (v : Int) : (d.sample x i v).mbox = d.mbox := rfl
@[simp] theorem Dev.sample_stw (d : Dev) (x i : Nat) (v : Int) : (d.sample x i v).stw = d.stw := rfl
@[simp] theorem Dev.sample_wrd (d : Dev) (x i : Nat) (v : Int) : (d.sample x i v).wrd = d.wrd := rfl
@[simp] theorem Dev.sample_nv (d : Dev) (x i : Nat) (v : Int) : (d.sample x i v).nv = d.nv := rfl
@[simp] theorem Dev.sample_baro (d : Dev) (x i : Nat) (v : Int) : (d.sample x i v).baro = d.baro := rfl
@[simp] theorem Dev.sample_snaps (d : Dev) (x i : Nat) (v : Int) : (d.sample x i v).snaps = d.snaps := rfl
@[simp] theorem Dev.sample_wiping (d : Dev) (x i : Nat) (v : Int) : (d.sample x i v).wiping = d.wiping := rfl
@[simp] theorem Dev.sample_wipeBad (d : Dev) (x i : Nat) (v : Int) : (d.sample x i v).wipeBad = d.wipeBad := rfl
@[simp] theorem Dev.sample_missSent (d : Dev) (x i : Nat) (v : Int) : (d.sample x i v).missSent = d.missSent := rfl
@[simp] theorem Dev.sample_capRam (d : Dev) (x i : Nat) (v : Int) : (d.sample x i v).capRam = d.capRam := rfl
@[simp] theorem Dev.sample_lvl0 (d : Dev) (x i : Nat) (v : Int) : (d.sample x i v).lvl0 = d.lvl0 := rfl
@[simp] theorem Dev.sample_lvl1 (d : Dev) (x i : Nat) (v : Int) : (d.sample x i v).lvl1 = d.lvl1 := rfl
@[simp] theorem Dev.sample_fit (d : Dev) (x i : Nat) (v : Int) : (d.sample x i v).fit = d.fit := rfl
@[simp] theorem Dev.sample_fitUse (d : Dev) (x i : Nat) (v : Int) : (d.sample x i v).fitUse = d.fitUse := rfl
@[simp] theorem Dev.sample_sqActive (d : Dev) (x i : Nat) (v : Int) : (d.sample x i v).sqActive = d.sqActive := rfl
@[simp] theorem Dev.sample_sqGated (d : Dev) (x i : Nat) (v : Int) : (d.sample x i v).sqGated = d.sqGated := rfl
@[simp] theorem Dev.sample_evq (d : Dev) (x i : Nat) (v : Int) : (d.sample x i v).evq = d.evq := rfl
@[simp] theorem Dev.sample_evd (d : Dev) (x i : Nat) (v : Int) : (d.sample x i v).evd = d.evd := rfl
@[simp] theorem Dev.sample_sqReq (d : Dev) (x i : Nat) (v : Int) : (d.sample x i v).sqReq = d.sqReq := rfl
@[simp] theorem Dev.sample_out (d : Dev) (x i : Nat) (v : Int) : (d.sample x i v).out = d.out := rfl

/-! ### Dev.squallReq -/

@[simp] theorem Dev.squallReq_bld (d : Dev) (c p : Nat) : (d.squallReq c p).bld = d.bld := rfl
@[simp] theorem Dev.squallReq_regs (d : Dev) (c p : Nat) : (d.squallReq c p).regs = d.regs := rfl
@[simp] theorem Dev.squallReq_tick (d : Dev) (c p : Nat) : (d.squallReq c p).tick = d.tick := rfl
@[simp] theorem Dev.squallReq_phases (d : Dev) (c p : Nat) : (d.squallReq c p).phases = d.phases := rfl
@[simp] theorem Dev.squallReq_rails (d : Dev) (c p : Nat) : (d.squallReq c p).rails = d.rails := rfl
@[simp] theorem Dev.squallReq_tune (d : Dev) (c p : Nat) : (d.squallReq c p).tune = d.tune := rfl
@[simp] theorem Dev.squallReq_sats (d : Dev) (c p : Nat) : (d.squallReq c p).sats = d.sats := rfl
@[simp] theorem Dev.squallReq_cal (d : Dev) (c p : Nat) : (d.squallReq c p).cal = d.cal := rfl
@[simp] theorem Dev.squallReq_wave (d : Dev) (c p : Nat) : (d.squallReq c p).wave = d.wave := rfl
@[simp] theorem Dev.squallReq_doms (d : Dev) (c p : Nat) : (d.squallReq c p).doms = d.doms := rfl
@[simp] theorem Dev.squallReq_gov (d : Dev) (c p : Nat) : (d.squallReq c p).gov = d.gov := rfl
@[simp] theorem Dev.squallReq_credit (d : Dev) (c p : Nat) : (d.squallReq c p).credit = d.credit := rfl
@[simp] theorem Dev.squallReq_claims (d : Dev) (c p : Nat) : (d.squallReq c p).claims = d.claims := rfl
@[simp] theorem Dev.squallReq_hint (d : Dev) (c p : Nat) : (d.squallReq c p).hint = d.hint := rfl
@[simp] theorem Dev.squallReq_step (d : Dev) (c p : Nat) : (d.squallReq c p).step = d.step := rfl
@[simp] theorem Dev.squallReq_fc (d : Dev) (c p : Nat) : (d.squallReq c p).fc = d.fc := rfl
@[simp] theorem Dev.squallReq_therm (d : Dev) (c p : Nat) : (d.squallReq c p).therm = d.therm := rfl
@[simp] theorem Dev.squallReq_iso (d : Dev) (c p : Nat) : (d.squallReq c p).iso = d.iso := rfl
@[simp] theorem Dev.squallReq_act (d : Dev) (c p : Nat) : (d.squallReq c p).act = d.act := rfl
@[simp] theorem Dev.squallReq_dz (d : Dev) (c p : Nat) : (d.squallReq c p).dz = d.dz := rfl
@[simp] theorem Dev.squallReq_bud (d : Dev) (c p : Nat) : (d.squallReq c p).bud = d.bud := rfl
@[simp] theorem Dev.squallReq_memPort (d : Dev) (c p : Nat) : (d.squallReq c p).memPort = d.memPort := rfl
@[simp] theorem Dev.squallReq_led (d : Dev) (c p : Nat) : (d.squallReq c p).led = d.led := rfl
@[simp] theorem Dev.squallReq_ex (d : Dev) (c p : Nat) : (d.squallReq c p).ex = d.ex := rfl
@[simp] theorem Dev.squallReq_mbox (d : Dev) (c p : Nat) : (d.squallReq c p).mbox = d.mbox := rfl
@[simp] theorem Dev.squallReq_stw (d : Dev) (c p : Nat) : (d.squallReq c p).stw = d.stw := rfl
@[simp] theorem Dev.squallReq_wrd (d : Dev) (c p : Nat) : (d.squallReq c p).wrd = d.wrd := rfl
@[simp] theorem Dev.squallReq_nv (d : Dev) (c p : Nat) : (d.squallReq c p).nv = d.nv := rfl
@[simp] theorem Dev.squallReq_baro (d : Dev) (c p : Nat) : (d.squallReq c p).baro = d.baro := rfl
@[simp] theorem Dev.squallReq_snaps (d : Dev) (c p : Nat) : (d.squallReq c p).snaps = d.snaps := rfl
@[simp] theorem Dev.squallReq_wiping (d : Dev) (c p : Nat) : (d.squallReq c p).wiping = d.wiping := rfl
@[simp] theorem Dev.squallReq_wipeBad (d : Dev) (c p : Nat) : (d.squallReq c p).wipeBad = d.wipeBad := rfl
@[simp] theorem Dev.squallReq_missSent (d : Dev) (c p : Nat) : (d.squallReq c p).missSent = d.missSent := rfl
@[simp] theorem Dev.squallReq_capRam (d : Dev) (c p : Nat) : (d.squallReq c p).capRam = d.capRam := rfl
@[simp] theorem Dev.squallReq_lvl0 (d : Dev) (c p : Nat) : (d.squallReq c p).lvl0 = d.lvl0 := rfl
@[simp] theorem Dev.squallReq_lvl1 (d : Dev) (c p : Nat) : (d.squallReq c p).lvl1 = d.lvl1 := rfl
@[simp] theorem Dev.squallReq_fit (d : Dev) (c p : Nat) : (d.squallReq c p).fit = d.fit := rfl
@[simp] theorem Dev.squallReq_fitUse (d : Dev) (c p : Nat) : (d.squallReq c p).fitUse = d.fitUse := rfl
@[simp] theorem Dev.squallReq_sqActive (d : Dev) (c p : Nat) : (d.squallReq c p).sqActive = d.sqActive := rfl
@[simp] theorem Dev.squallReq_sqGated (d : Dev) (c p : Nat) : (d.squallReq c p).sqGated = d.sqGated := rfl
@[simp] theorem Dev.squallReq_evq (d : Dev) (c p : Nat) : (d.squallReq c p).evq = d.evq := rfl
@[simp] theorem Dev.squallReq_evd (d : Dev) (c p : Nat) : (d.squallReq c p).evd = d.evd := rfl
@[simp] theorem Dev.squallReq_smp (d : Dev) (c p : Nat) : (d.squallReq c p).smp = d.smp := rfl
@[simp] theorem Dev.squallReq_out (d : Dev) (c p : Nat) : (d.squallReq c p).out = d.out := rfl

/-! ### Dev.updRail -/

@[simp] theorem Dev.updRail_bld (d : Dev) (n : Nat) (f : Rail → Rail) : (d.updRail n f).bld = d.bld := rfl
@[simp] theorem Dev.updRail_regs (d : Dev) (n : Nat) (f : Rail → Rail) : (d.updRail n f).regs = d.regs := rfl
@[simp] theorem Dev.updRail_tick (d : Dev) (n : Nat) (f : Rail → Rail) : (d.updRail n f).tick = d.tick := rfl
@[simp] theorem Dev.updRail_phases (d : Dev) (n : Nat) (f : Rail → Rail) : (d.updRail n f).phases = d.phases := rfl
@[simp] theorem Dev.updRail_tune (d : Dev) (n : Nat) (f : Rail → Rail) : (d.updRail n f).tune = d.tune := rfl
@[simp] theorem Dev.updRail_sats (d : Dev) (n : Nat) (f : Rail → Rail) : (d.updRail n f).sats = d.sats := rfl
@[simp] theorem Dev.updRail_cal (d : Dev) (n : Nat) (f : Rail → Rail) : (d.updRail n f).cal = d.cal := rfl
@[simp] theorem Dev.updRail_wave (d : Dev) (n : Nat) (f : Rail → Rail) : (d.updRail n f).wave = d.wave := rfl
@[simp] theorem Dev.updRail_doms (d : Dev) (n : Nat) (f : Rail → Rail) : (d.updRail n f).doms = d.doms := rfl
@[simp] theorem Dev.updRail_gov (d : Dev) (n : Nat) (f : Rail → Rail) : (d.updRail n f).gov = d.gov := rfl
@[simp] theorem Dev.updRail_credit (d : Dev) (n : Nat) (f : Rail → Rail) : (d.updRail n f).credit = d.credit := rfl
@[simp] theorem Dev.updRail_claims (d : Dev) (n : Nat) (f : Rail → Rail) : (d.updRail n f).claims = d.claims := rfl
@[simp] theorem Dev.updRail_hint (d : Dev) (n : Nat) (f : Rail → Rail) : (d.updRail n f).hint = d.hint := rfl
@[simp] theorem Dev.updRail_step (d : Dev) (n : Nat) (f : Rail → Rail) : (d.updRail n f).step = d.step := rfl
@[simp] theorem Dev.updRail_fc (d : Dev) (n : Nat) (f : Rail → Rail) : (d.updRail n f).fc = d.fc := rfl
@[simp] theorem Dev.updRail_therm (d : Dev) (n : Nat) (f : Rail → Rail) : (d.updRail n f).therm = d.therm := rfl
@[simp] theorem Dev.updRail_iso (d : Dev) (n : Nat) (f : Rail → Rail) : (d.updRail n f).iso = d.iso := rfl
@[simp] theorem Dev.updRail_act (d : Dev) (n : Nat) (f : Rail → Rail) : (d.updRail n f).act = d.act := rfl
@[simp] theorem Dev.updRail_dz (d : Dev) (n : Nat) (f : Rail → Rail) : (d.updRail n f).dz = d.dz := rfl
@[simp] theorem Dev.updRail_bud (d : Dev) (n : Nat) (f : Rail → Rail) : (d.updRail n f).bud = d.bud := rfl
@[simp] theorem Dev.updRail_memPort (d : Dev) (n : Nat) (f : Rail → Rail) : (d.updRail n f).memPort = d.memPort := rfl
@[simp] theorem Dev.updRail_led (d : Dev) (n : Nat) (f : Rail → Rail) : (d.updRail n f).led = d.led := rfl
@[simp] theorem Dev.updRail_ex (d : Dev) (n : Nat) (f : Rail → Rail) : (d.updRail n f).ex = d.ex := rfl
@[simp] theorem Dev.updRail_mbox (d : Dev) (n : Nat) (f : Rail → Rail) : (d.updRail n f).mbox = d.mbox := rfl
@[simp] theorem Dev.updRail_stw (d : Dev) (n : Nat) (f : Rail → Rail) : (d.updRail n f).stw = d.stw := rfl
@[simp] theorem Dev.updRail_wrd (d : Dev) (n : Nat) (f : Rail → Rail) : (d.updRail n f).wrd = d.wrd := rfl
@[simp] theorem Dev.updRail_nv (d : Dev) (n : Nat) (f : Rail → Rail) : (d.updRail n f).nv = d.nv := rfl
@[simp] theorem Dev.updRail_baro (d : Dev) (n : Nat) (f : Rail → Rail) : (d.updRail n f).baro = d.baro := rfl
@[simp] theorem Dev.updRail_snaps (d : Dev) (n : Nat) (f : Rail → Rail) : (d.updRail n f).snaps = d.snaps := rfl
@[simp] theorem Dev.updRail_wiping (d : Dev) (n : Nat) (f : Rail → Rail) : (d.updRail n f).wiping = d.wiping := rfl
@[simp] theorem Dev.updRail_wipeBad (d : Dev) (n : Nat) (f : Rail → Rail) : (d.updRail n f).wipeBad = d.wipeBad := rfl
@[simp] theorem Dev.updRail_missSent (d : Dev) (n : Nat) (f : Rail → Rail) : (d.updRail n f).missSent = d.missSent := rfl
@[simp] theorem Dev.updRail_capRam (d : Dev) (n : Nat) (f : Rail → Rail) : (d.updRail n f).capRam = d.capRam := rfl
@[simp] theorem Dev.updRail_lvl0 (d : Dev) (n : Nat) (f : Rail → Rail) : (d.updRail n f).lvl0 = d.lvl0 := rfl
@[simp] theorem Dev.updRail_lvl1 (d : Dev) (n : Nat) (f : Rail → Rail) : (d.updRail n f).lvl1 = d.lvl1 := rfl
@[simp] theorem Dev.updRail_fit (d : Dev) (n : Nat) (f : Rail → Rail) : (d.updRail n f).fit = d.fit := rfl
@[simp] theorem Dev.updRail_fitUse (d : Dev) (n : Nat) (f : Rail → Rail) : (d.updRail n f).fitUse = d.fitUse := rfl
@[simp] theorem Dev.updRail_sqActive (d : Dev) (n : Nat) (f : Rail → Rail) : (d.updRail n f).sqActive = d.sqActive := rfl
@[simp] theorem Dev.updRail_sqGated (d : Dev) (n : Nat) (f : Rail → Rail) : (d.updRail n f).sqGated = d.sqGated := rfl
@[simp] theorem Dev.updRail_evq (d : Dev) (n : Nat) (f : Rail → Rail) : (d.updRail n f).evq = d.evq := rfl
@[simp] theorem Dev.updRail_evd (d : Dev) (n : Nat) (f : Rail → Rail) : (d.updRail n f).evd = d.evd := rfl
@[simp] theorem Dev.updRail_sqReq (d : Dev) (n : Nat) (f : Rail → Rail) : (d.updRail n f).sqReq = d.sqReq := rfl
@[simp] theorem Dev.updRail_smp (d : Dev) (n : Nat) (f : Rail → Rail) : (d.updRail n f).smp = d.smp := rfl
@[simp] theorem Dev.updRail_out (d : Dev) (n : Nat) (f : Rail → Rail) : (d.updRail n f).out = d.out := rfl

/-! ### Dev.updPhase -/

@[simp] theorem Dev.updPhase_bld (d : Dev) (n : Nat) (f : Phase → Phase) : (d.updPhase n f).bld = d.bld := rfl
@[simp] theorem Dev.updPhase_regs (d : Dev) (n : Nat) (f : Phase → Phase) : (d.updPhase n f).regs = d.regs := rfl
@[simp] theorem Dev.updPhase_tick (d : Dev) (n : Nat) (f : Phase → Phase) : (d.updPhase n f).tick = d.tick := rfl
@[simp] theorem Dev.updPhase_rails (d : Dev) (n : Nat) (f : Phase → Phase) : (d.updPhase n f).rails = d.rails := rfl
@[simp] theorem Dev.updPhase_tune (d : Dev) (n : Nat) (f : Phase → Phase) : (d.updPhase n f).tune = d.tune := rfl
@[simp] theorem Dev.updPhase_sats (d : Dev) (n : Nat) (f : Phase → Phase) : (d.updPhase n f).sats = d.sats := rfl
@[simp] theorem Dev.updPhase_cal (d : Dev) (n : Nat) (f : Phase → Phase) : (d.updPhase n f).cal = d.cal := rfl
@[simp] theorem Dev.updPhase_wave (d : Dev) (n : Nat) (f : Phase → Phase) : (d.updPhase n f).wave = d.wave := rfl
@[simp] theorem Dev.updPhase_doms (d : Dev) (n : Nat) (f : Phase → Phase) : (d.updPhase n f).doms = d.doms := rfl
@[simp] theorem Dev.updPhase_gov (d : Dev) (n : Nat) (f : Phase → Phase) : (d.updPhase n f).gov = d.gov := rfl
@[simp] theorem Dev.updPhase_credit (d : Dev) (n : Nat) (f : Phase → Phase) : (d.updPhase n f).credit = d.credit := rfl
@[simp] theorem Dev.updPhase_claims (d : Dev) (n : Nat) (f : Phase → Phase) : (d.updPhase n f).claims = d.claims := rfl
@[simp] theorem Dev.updPhase_hint (d : Dev) (n : Nat) (f : Phase → Phase) : (d.updPhase n f).hint = d.hint := rfl
@[simp] theorem Dev.updPhase_step (d : Dev) (n : Nat) (f : Phase → Phase) : (d.updPhase n f).step = d.step := rfl
@[simp] theorem Dev.updPhase_fc (d : Dev) (n : Nat) (f : Phase → Phase) : (d.updPhase n f).fc = d.fc := rfl
@[simp] theorem Dev.updPhase_therm (d : Dev) (n : Nat) (f : Phase → Phase) : (d.updPhase n f).therm = d.therm := rfl
@[simp] theorem Dev.updPhase_iso (d : Dev) (n : Nat) (f : Phase → Phase) : (d.updPhase n f).iso = d.iso := rfl
@[simp] theorem Dev.updPhase_act (d : Dev) (n : Nat) (f : Phase → Phase) : (d.updPhase n f).act = d.act := rfl
@[simp] theorem Dev.updPhase_dz (d : Dev) (n : Nat) (f : Phase → Phase) : (d.updPhase n f).dz = d.dz := rfl
@[simp] theorem Dev.updPhase_bud (d : Dev) (n : Nat) (f : Phase → Phase) : (d.updPhase n f).bud = d.bud := rfl
@[simp] theorem Dev.updPhase_memPort (d : Dev) (n : Nat) (f : Phase → Phase) : (d.updPhase n f).memPort = d.memPort := rfl
@[simp] theorem Dev.updPhase_led (d : Dev) (n : Nat) (f : Phase → Phase) : (d.updPhase n f).led = d.led := rfl
@[simp] theorem Dev.updPhase_ex (d : Dev) (n : Nat) (f : Phase → Phase) : (d.updPhase n f).ex = d.ex := rfl
@[simp] theorem Dev.updPhase_mbox (d : Dev) (n : Nat) (f : Phase → Phase) : (d.updPhase n f).mbox = d.mbox := rfl
@[simp] theorem Dev.updPhase_stw (d : Dev) (n : Nat) (f : Phase → Phase) : (d.updPhase n f).stw = d.stw := rfl
@[simp] theorem Dev.updPhase_wrd (d : Dev) (n : Nat) (f : Phase → Phase) : (d.updPhase n f).wrd = d.wrd := rfl
@[simp] theorem Dev.updPhase_nv (d : Dev) (n : Nat) (f : Phase → Phase) : (d.updPhase n f).nv = d.nv := rfl
@[simp] theorem Dev.updPhase_baro (d : Dev) (n : Nat) (f : Phase → Phase) : (d.updPhase n f).baro = d.baro := rfl
@[simp] theorem Dev.updPhase_snaps (d : Dev) (n : Nat) (f : Phase → Phase) : (d.updPhase n f).snaps = d.snaps := rfl
@[simp] theorem Dev.updPhase_wiping (d : Dev) (n : Nat) (f : Phase → Phase) : (d.updPhase n f).wiping = d.wiping := rfl
@[simp] theorem Dev.updPhase_wipeBad (d : Dev) (n : Nat) (f : Phase → Phase) : (d.updPhase n f).wipeBad = d.wipeBad := rfl
@[simp] theorem Dev.updPhase_missSent (d : Dev) (n : Nat) (f : Phase → Phase) : (d.updPhase n f).missSent = d.missSent := rfl
@[simp] theorem Dev.updPhase_capRam (d : Dev) (n : Nat) (f : Phase → Phase) : (d.updPhase n f).capRam = d.capRam := rfl
@[simp] theorem Dev.updPhase_lvl0 (d : Dev) (n : Nat) (f : Phase → Phase) : (d.updPhase n f).lvl0 = d.lvl0 := rfl
@[simp] theorem Dev.updPhase_lvl1 (d : Dev) (n : Nat) (f : Phase → Phase) : (d.updPhase n f).lvl1 = d.lvl1 := rfl
@[simp] theorem Dev.updPhase_fit (d : Dev) (n : Nat) (f : Phase → Phase) : (d.updPhase n f).fit = d.fit := rfl
@[simp] theorem Dev.updPhase_fitUse (d : Dev) (n : Nat) (f : Phase → Phase) : (d.updPhase n f).fitUse = d.fitUse := rfl
@[simp] theorem Dev.updPhase_sqActive (d : Dev) (n : Nat) (f : Phase → Phase) : (d.updPhase n f).sqActive = d.sqActive := rfl
@[simp] theorem Dev.updPhase_sqGated (d : Dev) (n : Nat) (f : Phase → Phase) : (d.updPhase n f).sqGated = d.sqGated := rfl
@[simp] theorem Dev.updPhase_evq (d : Dev) (n : Nat) (f : Phase → Phase) : (d.updPhase n f).evq = d.evq := rfl
@[simp] theorem Dev.updPhase_evd (d : Dev) (n : Nat) (f : Phase → Phase) : (d.updPhase n f).evd = d.evd := rfl
@[simp] theorem Dev.updPhase_sqReq (d : Dev) (n : Nat) (f : Phase → Phase) : (d.updPhase n f).sqReq = d.sqReq := rfl
@[simp] theorem Dev.updPhase_smp (d : Dev) (n : Nat) (f : Phase → Phase) : (d.updPhase n f).smp = d.smp := rfl
@[simp] theorem Dev.updPhase_out (d : Dev) (n : Nat) (f : Phase → Phase) : (d.updPhase n f).out = d.out := rfl

/-! ### Dev.updDom -/

@[simp] theorem Dev.updDom_bld (d : Dev) (n : Nat) (f : Dom → Dom) : (d.updDom n f).bld = d.bld := rfl
@[simp] theorem Dev.updDom_regs (d : Dev) (n : Nat) (f : Dom → Dom) : (d.updDom n f).regs = d.regs := rfl
@[simp] theorem Dev.updDom_tick (d : Dev) (n : Nat) (f : Dom → Dom) : (d.updDom n f).tick = d.tick := rfl
@[simp] theorem Dev.updDom_phases (d : Dev) (n : Nat) (f : Dom → Dom) : (d.updDom n f).phases = d.phases := rfl
@[simp] theorem Dev.updDom_rails (d : Dev) (n : Nat) (f : Dom → Dom) : (d.updDom n f).rails = d.rails := rfl
@[simp] theorem Dev.updDom_tune (d : Dev) (n : Nat) (f : Dom → Dom) : (d.updDom n f).tune = d.tune := rfl
@[simp] theorem Dev.updDom_sats (d : Dev) (n : Nat) (f : Dom → Dom) : (d.updDom n f).sats = d.sats := rfl
@[simp] theorem Dev.updDom_cal (d : Dev) (n : Nat) (f : Dom → Dom) : (d.updDom n f).cal = d.cal := rfl
@[simp] theorem Dev.updDom_wave (d : Dev) (n : Nat) (f : Dom → Dom) : (d.updDom n f).wave = d.wave := rfl
@[simp] theorem Dev.updDom_gov (d : Dev) (n : Nat) (f : Dom → Dom) : (d.updDom n f).gov = d.gov := rfl
@[simp] theorem Dev.updDom_credit (d : Dev) (n : Nat) (f : Dom → Dom) : (d.updDom n f).credit = d.credit := rfl
@[simp] theorem Dev.updDom_claims (d : Dev) (n : Nat) (f : Dom → Dom) : (d.updDom n f).claims = d.claims := rfl
@[simp] theorem Dev.updDom_hint (d : Dev) (n : Nat) (f : Dom → Dom) : (d.updDom n f).hint = d.hint := rfl
@[simp] theorem Dev.updDom_step (d : Dev) (n : Nat) (f : Dom → Dom) : (d.updDom n f).step = d.step := rfl
@[simp] theorem Dev.updDom_fc (d : Dev) (n : Nat) (f : Dom → Dom) : (d.updDom n f).fc = d.fc := rfl
@[simp] theorem Dev.updDom_therm (d : Dev) (n : Nat) (f : Dom → Dom) : (d.updDom n f).therm = d.therm := rfl
@[simp] theorem Dev.updDom_iso (d : Dev) (n : Nat) (f : Dom → Dom) : (d.updDom n f).iso = d.iso := rfl
@[simp] theorem Dev.updDom_act (d : Dev) (n : Nat) (f : Dom → Dom) : (d.updDom n f).act = d.act := rfl
@[simp] theorem Dev.updDom_dz (d : Dev) (n : Nat) (f : Dom → Dom) : (d.updDom n f).dz = d.dz := rfl
@[simp] theorem Dev.updDom_bud (d : Dev) (n : Nat) (f : Dom → Dom) : (d.updDom n f).bud = d.bud := rfl
@[simp] theorem Dev.updDom_memPort (d : Dev) (n : Nat) (f : Dom → Dom) : (d.updDom n f).memPort = d.memPort := rfl
@[simp] theorem Dev.updDom_led (d : Dev) (n : Nat) (f : Dom → Dom) : (d.updDom n f).led = d.led := rfl
@[simp] theorem Dev.updDom_ex (d : Dev) (n : Nat) (f : Dom → Dom) : (d.updDom n f).ex = d.ex := rfl
@[simp] theorem Dev.updDom_mbox (d : Dev) (n : Nat) (f : Dom → Dom) : (d.updDom n f).mbox = d.mbox := rfl
@[simp] theorem Dev.updDom_stw (d : Dev) (n : Nat) (f : Dom → Dom) : (d.updDom n f).stw = d.stw := rfl
@[simp] theorem Dev.updDom_wrd (d : Dev) (n : Nat) (f : Dom → Dom) : (d.updDom n f).wrd = d.wrd := rfl
@[simp] theorem Dev.updDom_nv (d : Dev) (n : Nat) (f : Dom → Dom) : (d.updDom n f).nv = d.nv := rfl
@[simp] theorem Dev.updDom_baro (d : Dev) (n : Nat) (f : Dom → Dom) : (d.updDom n f).baro = d.baro := rfl
@[simp] theorem Dev.updDom_snaps (d : Dev) (n : Nat) (f : Dom → Dom) : (d.updDom n f).snaps = d.snaps := rfl
@[simp] theorem Dev.updDom_wiping (d : Dev) (n : Nat) (f : Dom → Dom) : (d.updDom n f).wiping = d.wiping := rfl
@[simp] theorem Dev.updDom_wipeBad (d : Dev) (n : Nat) (f : Dom → Dom) : (d.updDom n f).wipeBad = d.wipeBad := rfl
@[simp] theorem Dev.updDom_missSent (d : Dev) (n : Nat) (f : Dom → Dom) : (d.updDom n f).missSent = d.missSent := rfl
@[simp] theorem Dev.updDom_capRam (d : Dev) (n : Nat) (f : Dom → Dom) : (d.updDom n f).capRam = d.capRam := rfl
@[simp] theorem Dev.updDom_lvl0 (d : Dev) (n : Nat) (f : Dom → Dom) : (d.updDom n f).lvl0 = d.lvl0 := rfl
@[simp] theorem Dev.updDom_lvl1 (d : Dev) (n : Nat) (f : Dom → Dom) : (d.updDom n f).lvl1 = d.lvl1 := rfl
@[simp] theorem Dev.updDom_fit (d : Dev) (n : Nat) (f : Dom → Dom) : (d.updDom n f).fit = d.fit := rfl
@[simp] theorem Dev.updDom_fitUse (d : Dev) (n : Nat) (f : Dom → Dom) : (d.updDom n f).fitUse = d.fitUse := rfl
@[simp] theorem Dev.updDom_sqActive (d : Dev) (n : Nat) (f : Dom → Dom) : (d.updDom n f).sqActive = d.sqActive := rfl
@[simp] theorem Dev.updDom_sqGated (d : Dev) (n : Nat) (f : Dom → Dom) : (d.updDom n f).sqGated = d.sqGated := rfl
@[simp] theorem Dev.updDom_evq (d : Dev) (n : Nat) (f : Dom → Dom) : (d.updDom n f).evq = d.evq := rfl
@[simp] theorem Dev.updDom_evd (d : Dev) (n : Nat) (f : Dom → Dom) : (d.updDom n f).evd = d.evd := rfl
@[simp] theorem Dev.updDom_sqReq (d : Dev) (n : Nat) (f : Dom → Dom) : (d.updDom n f).sqReq = d.sqReq := rfl
@[simp] theorem Dev.updDom_smp (d : Dev) (n : Nat) (f : Dom → Dom) : (d.updDom n f).smp = d.smp := rfl
@[simp] theorem Dev.updDom_out (d : Dev) (n : Nat) (f : Dom → Dom) : (d.updDom n f).out = d.out := rfl

/-! ### Dev.updSat -/

@[simp] theorem Dev.updSat_bld (d : Dev) (n : Nat) (f : Sat → Sat) : (d.updSat n f).bld = d.bld := rfl
@[simp] theorem Dev.updSat_regs (d : Dev) (n : Nat) (f : Sat → Sat) : (d.updSat n f).regs = d.regs := rfl
@[simp] theorem Dev.updSat_tick (d : Dev) (n : Nat) (f : Sat → Sat) : (d.updSat n f).tick = d.tick := rfl
@[simp] theorem Dev.updSat_phases (d : Dev) (n : Nat) (f : Sat → Sat) : (d.updSat n f).phases = d.phases := rfl
@[simp] theorem Dev.updSat_rails (d : Dev) (n : Nat) (f : Sat → Sat) : (d.updSat n f).rails = d.rails := rfl
@[simp] theorem Dev.updSat_tune (d : Dev) (n : Nat) (f : Sat → Sat) : (d.updSat n f).tune = d.tune := rfl
@[simp] theorem Dev.updSat_cal (d : Dev) (n : Nat) (f : Sat → Sat) : (d.updSat n f).cal = d.cal := rfl
@[simp] theorem Dev.updSat_wave (d : Dev) (n : Nat) (f : Sat → Sat) : (d.updSat n f).wave = d.wave := rfl
@[simp] theorem Dev.updSat_doms (d : Dev) (n : Nat) (f : Sat → Sat) : (d.updSat n f).doms = d.doms := rfl
@[simp] theorem Dev.updSat_gov (d : Dev) (n : Nat) (f : Sat → Sat) : (d.updSat n f).gov = d.gov := rfl
@[simp] theorem Dev.updSat_credit (d : Dev) (n : Nat) (f : Sat → Sat) : (d.updSat n f).credit = d.credit := rfl
@[simp] theorem Dev.updSat_claims (d : Dev) (n : Nat) (f : Sat → Sat) : (d.updSat n f).claims = d.claims := rfl
@[simp] theorem Dev.updSat_hint (d : Dev) (n : Nat) (f : Sat → Sat) : (d.updSat n f).hint = d.hint := rfl
@[simp] theorem Dev.updSat_step (d : Dev) (n : Nat) (f : Sat → Sat) : (d.updSat n f).step = d.step := rfl
@[simp] theorem Dev.updSat_fc (d : Dev) (n : Nat) (f : Sat → Sat) : (d.updSat n f).fc = d.fc := rfl
@[simp] theorem Dev.updSat_therm (d : Dev) (n : Nat) (f : Sat → Sat) : (d.updSat n f).therm = d.therm := rfl
@[simp] theorem Dev.updSat_iso (d : Dev) (n : Nat) (f : Sat → Sat) : (d.updSat n f).iso = d.iso := rfl
@[simp] theorem Dev.updSat_act (d : Dev) (n : Nat) (f : Sat → Sat) : (d.updSat n f).act = d.act := rfl
@[simp] theorem Dev.updSat_dz (d : Dev) (n : Nat) (f : Sat → Sat) : (d.updSat n f).dz = d.dz := rfl
@[simp] theorem Dev.updSat_bud (d : Dev) (n : Nat) (f : Sat → Sat) : (d.updSat n f).bud = d.bud := rfl
@[simp] theorem Dev.updSat_memPort (d : Dev) (n : Nat) (f : Sat → Sat) : (d.updSat n f).memPort = d.memPort := rfl
@[simp] theorem Dev.updSat_led (d : Dev) (n : Nat) (f : Sat → Sat) : (d.updSat n f).led = d.led := rfl
@[simp] theorem Dev.updSat_ex (d : Dev) (n : Nat) (f : Sat → Sat) : (d.updSat n f).ex = d.ex := rfl
@[simp] theorem Dev.updSat_mbox (d : Dev) (n : Nat) (f : Sat → Sat) : (d.updSat n f).mbox = d.mbox := rfl
@[simp] theorem Dev.updSat_stw (d : Dev) (n : Nat) (f : Sat → Sat) : (d.updSat n f).stw = d.stw := rfl
@[simp] theorem Dev.updSat_wrd (d : Dev) (n : Nat) (f : Sat → Sat) : (d.updSat n f).wrd = d.wrd := rfl
@[simp] theorem Dev.updSat_nv (d : Dev) (n : Nat) (f : Sat → Sat) : (d.updSat n f).nv = d.nv := rfl
@[simp] theorem Dev.updSat_baro (d : Dev) (n : Nat) (f : Sat → Sat) : (d.updSat n f).baro = d.baro := rfl
@[simp] theorem Dev.updSat_snaps (d : Dev) (n : Nat) (f : Sat → Sat) : (d.updSat n f).snaps = d.snaps := rfl
@[simp] theorem Dev.updSat_wiping (d : Dev) (n : Nat) (f : Sat → Sat) : (d.updSat n f).wiping = d.wiping := rfl
@[simp] theorem Dev.updSat_wipeBad (d : Dev) (n : Nat) (f : Sat → Sat) : (d.updSat n f).wipeBad = d.wipeBad := rfl
@[simp] theorem Dev.updSat_missSent (d : Dev) (n : Nat) (f : Sat → Sat) : (d.updSat n f).missSent = d.missSent := rfl
@[simp] theorem Dev.updSat_capRam (d : Dev) (n : Nat) (f : Sat → Sat) : (d.updSat n f).capRam = d.capRam := rfl
@[simp] theorem Dev.updSat_lvl0 (d : Dev) (n : Nat) (f : Sat → Sat) : (d.updSat n f).lvl0 = d.lvl0 := rfl
@[simp] theorem Dev.updSat_lvl1 (d : Dev) (n : Nat) (f : Sat → Sat) : (d.updSat n f).lvl1 = d.lvl1 := rfl
@[simp] theorem Dev.updSat_fit (d : Dev) (n : Nat) (f : Sat → Sat) : (d.updSat n f).fit = d.fit := rfl
@[simp] theorem Dev.updSat_fitUse (d : Dev) (n : Nat) (f : Sat → Sat) : (d.updSat n f).fitUse = d.fitUse := rfl
@[simp] theorem Dev.updSat_sqActive (d : Dev) (n : Nat) (f : Sat → Sat) : (d.updSat n f).sqActive = d.sqActive := rfl
@[simp] theorem Dev.updSat_sqGated (d : Dev) (n : Nat) (f : Sat → Sat) : (d.updSat n f).sqGated = d.sqGated := rfl
@[simp] theorem Dev.updSat_evq (d : Dev) (n : Nat) (f : Sat → Sat) : (d.updSat n f).evq = d.evq := rfl
@[simp] theorem Dev.updSat_evd (d : Dev) (n : Nat) (f : Sat → Sat) : (d.updSat n f).evd = d.evd := rfl
@[simp] theorem Dev.updSat_sqReq (d : Dev) (n : Nat) (f : Sat → Sat) : (d.updSat n f).sqReq = d.sqReq := rfl
@[simp] theorem Dev.updSat_smp (d : Dev) (n : Nat) (f : Sat → Sat) : (d.updSat n f).smp = d.smp := rfl
@[simp] theorem Dev.updSat_out (d : Dev) (n : Nat) (f : Sat → Sat) : (d.updSat n f).out = d.out := rfl

/-! ### Dev.updPool -/

@[simp] theorem Dev.updPool_bld (d : Dev) (n : Nat) (f : CPool → CPool) : (d.updPool n f).bld = d.bld := rfl
@[simp] theorem Dev.updPool_regs (d : Dev) (n : Nat) (f : CPool → CPool) : (d.updPool n f).regs = d.regs := rfl
@[simp] theorem Dev.updPool_tick (d : Dev) (n : Nat) (f : CPool → CPool) : (d.updPool n f).tick = d.tick := rfl
@[simp] theorem Dev.updPool_phases (d : Dev) (n : Nat) (f : CPool → CPool) : (d.updPool n f).phases = d.phases := rfl
@[simp] theorem Dev.updPool_rails (d : Dev) (n : Nat) (f : CPool → CPool) : (d.updPool n f).rails = d.rails := rfl
@[simp] theorem Dev.updPool_tune (d : Dev) (n : Nat) (f : CPool → CPool) : (d.updPool n f).tune = d.tune := rfl
@[simp] theorem Dev.updPool_sats (d : Dev) (n : Nat) (f : CPool → CPool) : (d.updPool n f).sats = d.sats := rfl
@[simp] theorem Dev.updPool_cal (d : Dev) (n : Nat) (f : CPool → CPool) : (d.updPool n f).cal = d.cal := rfl
@[simp] theorem Dev.updPool_wave (d : Dev) (n : Nat) (f : CPool → CPool) : (d.updPool n f).wave = d.wave := rfl
@[simp] theorem Dev.updPool_doms (d : Dev) (n : Nat) (f : CPool → CPool) : (d.updPool n f).doms = d.doms := rfl
@[simp] theorem Dev.updPool_gov (d : Dev) (n : Nat) (f : CPool → CPool) : (d.updPool n f).gov = d.gov := rfl
@[simp] theorem Dev.updPool_claims (d : Dev) (n : Nat) (f : CPool → CPool) : (d.updPool n f).claims = d.claims := rfl
@[simp] theorem Dev.updPool_hint (d : Dev) (n : Nat) (f : CPool → CPool) : (d.updPool n f).hint = d.hint := rfl
@[simp] theorem Dev.updPool_step (d : Dev) (n : Nat) (f : CPool → CPool) : (d.updPool n f).step = d.step := rfl
@[simp] theorem Dev.updPool_fc (d : Dev) (n : Nat) (f : CPool → CPool) : (d.updPool n f).fc = d.fc := rfl
@[simp] theorem Dev.updPool_therm (d : Dev) (n : Nat) (f : CPool → CPool) : (d.updPool n f).therm = d.therm := rfl
@[simp] theorem Dev.updPool_iso (d : Dev) (n : Nat) (f : CPool → CPool) : (d.updPool n f).iso = d.iso := rfl
@[simp] theorem Dev.updPool_act (d : Dev) (n : Nat) (f : CPool → CPool) : (d.updPool n f).act = d.act := rfl
@[simp] theorem Dev.updPool_dz (d : Dev) (n : Nat) (f : CPool → CPool) : (d.updPool n f).dz = d.dz := rfl
@[simp] theorem Dev.updPool_bud (d : Dev) (n : Nat) (f : CPool → CPool) : (d.updPool n f).bud = d.bud := rfl
@[simp] theorem Dev.updPool_memPort (d : Dev) (n : Nat) (f : CPool → CPool) : (d.updPool n f).memPort = d.memPort := rfl
@[simp] theorem Dev.updPool_led (d : Dev) (n : Nat) (f : CPool → CPool) : (d.updPool n f).led = d.led := rfl
@[simp] theorem Dev.updPool_ex (d : Dev) (n : Nat) (f : CPool → CPool) : (d.updPool n f).ex = d.ex := rfl
@[simp] theorem Dev.updPool_mbox (d : Dev) (n : Nat) (f : CPool → CPool) : (d.updPool n f).mbox = d.mbox := rfl
@[simp] theorem Dev.updPool_stw (d : Dev) (n : Nat) (f : CPool → CPool) : (d.updPool n f).stw = d.stw := rfl
@[simp] theorem Dev.updPool_wrd (d : Dev) (n : Nat) (f : CPool → CPool) : (d.updPool n f).wrd = d.wrd := rfl
@[simp] theorem Dev.updPool_nv (d : Dev) (n : Nat) (f : CPool → CPool) : (d.updPool n f).nv = d.nv := rfl
@[simp] theorem Dev.updPool_baro (d : Dev) (n : Nat) (f : CPool → CPool) : (d.updPool n f).baro = d.baro := rfl
@[simp] theorem Dev.updPool_snaps (d : Dev) (n : Nat) (f : CPool → CPool) : (d.updPool n f).snaps = d.snaps := rfl
@[simp] theorem Dev.updPool_wiping (d : Dev) (n : Nat) (f : CPool → CPool) : (d.updPool n f).wiping = d.wiping := rfl
@[simp] theorem Dev.updPool_wipeBad (d : Dev) (n : Nat) (f : CPool → CPool) : (d.updPool n f).wipeBad = d.wipeBad := rfl
@[simp] theorem Dev.updPool_missSent (d : Dev) (n : Nat) (f : CPool → CPool) : (d.updPool n f).missSent = d.missSent := rfl
@[simp] theorem Dev.updPool_capRam (d : Dev) (n : Nat) (f : CPool → CPool) : (d.updPool n f).capRam = d.capRam := rfl
@[simp] theorem Dev.updPool_lvl0 (d : Dev) (n : Nat) (f : CPool → CPool) : (d.updPool n f).lvl0 = d.lvl0 := rfl
@[simp] theorem Dev.updPool_lvl1 (d : Dev) (n : Nat) (f : CPool → CPool) : (d.updPool n f).lvl1 = d.lvl1 := rfl
@[simp] theorem Dev.updPool_fit (d : Dev) (n : Nat) (f : CPool → CPool) : (d.updPool n f).fit = d.fit := rfl
@[simp] theorem Dev.updPool_fitUse (d : Dev) (n : Nat) (f : CPool → CPool) : (d.updPool n f).fitUse = d.fitUse := rfl
@[simp] theorem Dev.updPool_sqActive (d : Dev) (n : Nat) (f : CPool → CPool) : (d.updPool n f).sqActive = d.sqActive := rfl
@[simp] theorem Dev.updPool_sqGated (d : Dev) (n : Nat) (f : CPool → CPool) : (d.updPool n f).sqGated = d.sqGated := rfl
@[simp] theorem Dev.updPool_evq (d : Dev) (n : Nat) (f : CPool → CPool) : (d.updPool n f).evq = d.evq := rfl
@[simp] theorem Dev.updPool_evd (d : Dev) (n : Nat) (f : CPool → CPool) : (d.updPool n f).evd = d.evd := rfl
@[simp] theorem Dev.updPool_sqReq (d : Dev) (n : Nat) (f : CPool → CPool) : (d.updPool n f).sqReq = d.sqReq := rfl
@[simp] theorem Dev.updPool_smp (d : Dev) (n : Nat) (f : CPool → CPool) : (d.updPool n f).smp = d.smp := rfl
@[simp] theorem Dev.updPool_out (d : Dev) (n : Nat) (f : CPool → CPool) : (d.updPool n f).out = d.out := rfl

/-! ### Dev.setQueue -/

@[simp] theorem Dev.setQueue_bld (d : Dev) (l : List CReq) : (d.setQueue l).bld = d.bld := rfl
@[simp] theorem Dev.setQueue_regs (d : Dev) (l : List CReq) : (d.setQueue l).regs = d.regs := rfl
@[simp] theorem Dev.setQueue_tick (d : Dev) (l : List CReq) : (d.setQueue l).tick = d.tick := rfl
@[simp] theorem Dev.setQueue_phases (d : Dev) (l : List CReq) : (d.setQueue l).phases = d.phases := rfl
@[simp] theorem Dev.setQueue_rails (d : Dev) (l : List CReq) : (d.setQueue l).rails = d.rails := rfl
@[simp] theorem Dev.setQueue_tune (d : Dev) (l : List CReq) : (d.setQueue l).tune = d.tune := rfl
@[simp] theorem Dev.setQueue_sats (d : Dev) (l : List CReq) : (d.setQueue l).sats = d.sats := rfl
@[simp] theorem Dev.setQueue_cal (d : Dev) (l : List CReq) : (d.setQueue l).cal = d.cal := rfl
@[simp] theorem Dev.setQueue_wave (d : Dev) (l : List CReq) : (d.setQueue l).wave = d.wave := rfl
@[simp] theorem Dev.setQueue_doms (d : Dev) (l : List CReq) : (d.setQueue l).doms = d.doms := rfl
@[simp] theorem Dev.setQueue_gov (d : Dev) (l : List CReq) : (d.setQueue l).gov = d.gov := rfl
@[simp] theorem Dev.setQueue_claims (d : Dev) (l : List CReq) : (d.setQueue l).claims = d.claims := rfl
@[simp] theorem Dev.setQueue_hint (d : Dev) (l : List CReq) : (d.setQueue l).hint = d.hint := rfl
@[simp] theorem Dev.setQueue_step (d : Dev) (l : List CReq) : (d.setQueue l).step = d.step := rfl
@[simp] theorem Dev.setQueue_fc (d : Dev) (l : List CReq) : (d.setQueue l).fc = d.fc := rfl
@[simp] theorem Dev.setQueue_therm (d : Dev) (l : List CReq) : (d.setQueue l).therm = d.therm := rfl
@[simp] theorem Dev.setQueue_iso (d : Dev) (l : List CReq) : (d.setQueue l).iso = d.iso := rfl
@[simp] theorem Dev.setQueue_act (d : Dev) (l : List CReq) : (d.setQueue l).act = d.act := rfl
@[simp] theorem Dev.setQueue_dz (d : Dev) (l : List CReq) : (d.setQueue l).dz = d.dz := rfl
@[simp] theorem Dev.setQueue_bud (d : Dev) (l : List CReq) : (d.setQueue l).bud = d.bud := rfl
@[simp] theorem Dev.setQueue_memPort (d : Dev) (l : List CReq) : (d.setQueue l).memPort = d.memPort := rfl
@[simp] theorem Dev.setQueue_led (d : Dev) (l : List CReq) : (d.setQueue l).led = d.led := rfl
@[simp] theorem Dev.setQueue_ex (d : Dev) (l : List CReq) : (d.setQueue l).ex = d.ex := rfl
@[simp] theorem Dev.setQueue_mbox (d : Dev) (l : List CReq) : (d.setQueue l).mbox = d.mbox := rfl
@[simp] theorem Dev.setQueue_stw (d : Dev) (l : List CReq) : (d.setQueue l).stw = d.stw := rfl
@[simp] theorem Dev.setQueue_wrd (d : Dev) (l : List CReq) : (d.setQueue l).wrd = d.wrd := rfl
@[simp] theorem Dev.setQueue_nv (d : Dev) (l : List CReq) : (d.setQueue l).nv = d.nv := rfl
@[simp] theorem Dev.setQueue_baro (d : Dev) (l : List CReq) : (d.setQueue l).baro = d.baro := rfl
@[simp] theorem Dev.setQueue_snaps (d : Dev) (l : List CReq) : (d.setQueue l).snaps = d.snaps := rfl
@[simp] theorem Dev.setQueue_wiping (d : Dev) (l : List CReq) : (d.setQueue l).wiping = d.wiping := rfl
@[simp] theorem Dev.setQueue_wipeBad (d : Dev) (l : List CReq) : (d.setQueue l).wipeBad = d.wipeBad := rfl
@[simp] theorem Dev.setQueue_missSent (d : Dev) (l : List CReq) : (d.setQueue l).missSent = d.missSent := rfl
@[simp] theorem Dev.setQueue_capRam (d : Dev) (l : List CReq) : (d.setQueue l).capRam = d.capRam := rfl
@[simp] theorem Dev.setQueue_lvl0 (d : Dev) (l : List CReq) : (d.setQueue l).lvl0 = d.lvl0 := rfl
@[simp] theorem Dev.setQueue_lvl1 (d : Dev) (l : List CReq) : (d.setQueue l).lvl1 = d.lvl1 := rfl
@[simp] theorem Dev.setQueue_fit (d : Dev) (l : List CReq) : (d.setQueue l).fit = d.fit := rfl
@[simp] theorem Dev.setQueue_fitUse (d : Dev) (l : List CReq) : (d.setQueue l).fitUse = d.fitUse := rfl
@[simp] theorem Dev.setQueue_sqActive (d : Dev) (l : List CReq) : (d.setQueue l).sqActive = d.sqActive := rfl
@[simp] theorem Dev.setQueue_sqGated (d : Dev) (l : List CReq) : (d.setQueue l).sqGated = d.sqGated := rfl
@[simp] theorem Dev.setQueue_evq (d : Dev) (l : List CReq) : (d.setQueue l).evq = d.evq := rfl
@[simp] theorem Dev.setQueue_evd (d : Dev) (l : List CReq) : (d.setQueue l).evd = d.evd := rfl
@[simp] theorem Dev.setQueue_sqReq (d : Dev) (l : List CReq) : (d.setQueue l).sqReq = d.sqReq := rfl
@[simp] theorem Dev.setQueue_smp (d : Dev) (l : List CReq) : (d.setQueue l).smp = d.smp := rfl
@[simp] theorem Dev.setQueue_out (d : Dev) (l : List CReq) : (d.setQueue l).out = d.out := rfl

/-! ### Dev.setLeases -/

@[simp] theorem Dev.setLeases_bld (d : Dev) (l : List Lease) : (d.setLeases l).bld = d.bld := rfl
@[simp] theorem Dev.setLeases_regs (d : Dev) (l : List Lease) : (d.setLeases l).regs = d.regs := rfl
@[simp] theorem Dev.setLeases_tick (d : Dev) (l : List Lease) : (d.setLeases l).tick = d.tick := rfl
@[simp] theorem Dev.setLeases_phases (d : Dev) (l : List Lease) : (d.setLeases l).phases = d.phases := rfl
@[simp] theorem Dev.setLeases_rails (d : Dev) (l : List Lease) : (d.setLeases l).rails = d.rails := rfl
@[simp] theorem Dev.setLeases_tune (d : Dev) (l : List Lease) : (d.setLeases l).tune = d.tune := rfl
@[simp] theorem Dev.setLeases_sats (d : Dev) (l : List Lease) : (d.setLeases l).sats = d.sats := rfl
@[simp] theorem Dev.setLeases_cal (d : Dev) (l : List Lease) : (d.setLeases l).cal = d.cal := rfl
@[simp] theorem Dev.setLeases_wave (d : Dev) (l : List Lease) : (d.setLeases l).wave = d.wave := rfl
@[simp] theorem Dev.setLeases_doms (d : Dev) (l : List Lease) : (d.setLeases l).doms = d.doms := rfl
@[simp] theorem Dev.setLeases_gov (d : Dev) (l : List Lease) : (d.setLeases l).gov = d.gov := rfl
@[simp] theorem Dev.setLeases_claims (d : Dev) (l : List Lease) : (d.setLeases l).claims = d.claims := rfl
@[simp] theorem Dev.setLeases_hint (d : Dev) (l : List Lease) : (d.setLeases l).hint = d.hint := rfl
@[simp] theorem Dev.setLeases_step (d : Dev) (l : List Lease) : (d.setLeases l).step = d.step := rfl
@[simp] theorem Dev.setLeases_fc (d : Dev) (l : List Lease) : (d.setLeases l).fc = d.fc := rfl
@[simp] theorem Dev.setLeases_therm (d : Dev) (l : List Lease) : (d.setLeases l).therm = d.therm := rfl
@[simp] theorem Dev.setLeases_iso (d : Dev) (l : List Lease) : (d.setLeases l).iso = d.iso := rfl
@[simp] theorem Dev.setLeases_act (d : Dev) (l : List Lease) : (d.setLeases l).act = d.act := rfl
@[simp] theorem Dev.setLeases_dz (d : Dev) (l : List Lease) : (d.setLeases l).dz = d.dz := rfl
@[simp] theorem Dev.setLeases_bud (d : Dev) (l : List Lease) : (d.setLeases l).bud = d.bud := rfl
@[simp] theorem Dev.setLeases_memPort (d : Dev) (l : List Lease) : (d.setLeases l).memPort = d.memPort := rfl
@[simp] theorem Dev.setLeases_led (d : Dev) (l : List Lease) : (d.setLeases l).led = d.led := rfl
@[simp] theorem Dev.setLeases_ex (d : Dev) (l : List Lease) : (d.setLeases l).ex = d.ex := rfl
@[simp] theorem Dev.setLeases_mbox (d : Dev) (l : List Lease) : (d.setLeases l).mbox = d.mbox := rfl
@[simp] theorem Dev.setLeases_stw (d : Dev) (l : List Lease) : (d.setLeases l).stw = d.stw := rfl
@[simp] theorem Dev.setLeases_wrd (d : Dev) (l : List Lease) : (d.setLeases l).wrd = d.wrd := rfl
@[simp] theorem Dev.setLeases_nv (d : Dev) (l : List Lease) : (d.setLeases l).nv = d.nv := rfl
@[simp] theorem Dev.setLeases_baro (d : Dev) (l : List Lease) : (d.setLeases l).baro = d.baro := rfl
@[simp] theorem Dev.setLeases_snaps (d : Dev) (l : List Lease) : (d.setLeases l).snaps = d.snaps := rfl
@[simp] theorem Dev.setLeases_wiping (d : Dev) (l : List Lease) : (d.setLeases l).wiping = d.wiping := rfl
@[simp] theorem Dev.setLeases_wipeBad (d : Dev) (l : List Lease) : (d.setLeases l).wipeBad = d.wipeBad := rfl
@[simp] theorem Dev.setLeases_missSent (d : Dev) (l : List Lease) : (d.setLeases l).missSent = d.missSent := rfl
@[simp] theorem Dev.setLeases_capRam (d : Dev) (l : List Lease) : (d.setLeases l).capRam = d.capRam := rfl
@[simp] theorem Dev.setLeases_lvl0 (d : Dev) (l : List Lease) : (d.setLeases l).lvl0 = d.lvl0 := rfl
@[simp] theorem Dev.setLeases_lvl1 (d : Dev) (l : List Lease) : (d.setLeases l).lvl1 = d.lvl1 := rfl
@[simp] theorem Dev.setLeases_fit (d : Dev) (l : List Lease) : (d.setLeases l).fit = d.fit := rfl
@[simp] theorem Dev.setLeases_fitUse (d : Dev) (l : List Lease) : (d.setLeases l).fitUse = d.fitUse := rfl
@[simp] theorem Dev.setLeases_sqActive (d : Dev) (l : List Lease) : (d.setLeases l).sqActive = d.sqActive := rfl
@[simp] theorem Dev.setLeases_sqGated (d : Dev) (l : List Lease) : (d.setLeases l).sqGated = d.sqGated := rfl
@[simp] theorem Dev.setLeases_evq (d : Dev) (l : List Lease) : (d.setLeases l).evq = d.evq := rfl
@[simp] theorem Dev.setLeases_evd (d : Dev) (l : List Lease) : (d.setLeases l).evd = d.evd := rfl
@[simp] theorem Dev.setLeases_sqReq (d : Dev) (l : List Lease) : (d.setLeases l).sqReq = d.sqReq := rfl
@[simp] theorem Dev.setLeases_smp (d : Dev) (l : List Lease) : (d.setLeases l).smp = d.smp := rfl
@[simp] theorem Dev.setLeases_out (d : Dev) (l : List Lease) : (d.setLeases l).out = d.out := rfl

/-! ### Dev.setOwner -/

@[simp] theorem Dev.setOwner_bld (d : Dev) (r : Nat) (c : Claim) : (d.setOwner r c).bld = d.bld := rfl
@[simp] theorem Dev.setOwner_regs (d : Dev) (r : Nat) (c : Claim) : (d.setOwner r c).regs = d.regs := rfl
@[simp] theorem Dev.setOwner_tick (d : Dev) (r : Nat) (c : Claim) : (d.setOwner r c).tick = d.tick := rfl
@[simp] theorem Dev.setOwner_phases (d : Dev) (r : Nat) (c : Claim) : (d.setOwner r c).phases = d.phases := rfl
@[simp] theorem Dev.setOwner_rails (d : Dev) (r : Nat) (c : Claim) : (d.setOwner r c).rails = d.rails := rfl
@[simp] theorem Dev.setOwner_tune (d : Dev) (r : Nat) (c : Claim) : (d.setOwner r c).tune = d.tune := rfl
@[simp] theorem Dev.setOwner_sats (d : Dev) (r : Nat) (c : Claim) : (d.setOwner r c).sats = d.sats := rfl
@[simp] theorem Dev.setOwner_cal (d : Dev) (r : Nat) (c : Claim) : (d.setOwner r c).cal = d.cal := rfl
@[simp] theorem Dev.setOwner_wave (d : Dev) (r : Nat) (c : Claim) : (d.setOwner r c).wave = d.wave := rfl
@[simp] theorem Dev.setOwner_doms (d : Dev) (r : Nat) (c : Claim) : (d.setOwner r c).doms = d.doms := rfl
@[simp] theorem Dev.setOwner_gov (d : Dev) (r : Nat) (c : Claim) : (d.setOwner r c).gov = d.gov := rfl
@[simp] theorem Dev.setOwner_credit (d : Dev) (r : Nat) (c : Claim) : (d.setOwner r c).credit = d.credit := rfl
@[simp] theorem Dev.setOwner_hint (d : Dev) (r : Nat) (c : Claim) : (d.setOwner r c).hint = d.hint := rfl
@[simp] theorem Dev.setOwner_step (d : Dev) (r : Nat) (c : Claim) : (d.setOwner r c).step = d.step := rfl
@[simp] theorem Dev.setOwner_fc (d : Dev) (r : Nat) (c : Claim) : (d.setOwner r c).fc = d.fc := rfl
@[simp] theorem Dev.setOwner_therm (d : Dev) (r : Nat) (c : Claim) : (d.setOwner r c).therm = d.therm := rfl
@[simp] theorem Dev.setOwner_iso (d : Dev) (r : Nat) (c : Claim) : (d.setOwner r c).iso = d.iso := rfl
@[simp] theorem Dev.setOwner_act (d : Dev) (r : Nat) (c : Claim) : (d.setOwner r c).act = d.act := rfl
@[simp] theorem Dev.setOwner_dz (d : Dev) (r : Nat) (c : Claim) : (d.setOwner r c).dz = d.dz := rfl
@[simp] theorem Dev.setOwner_bud (d : Dev) (r : Nat) (c : Claim) : (d.setOwner r c).bud = d.bud := rfl
@[simp] theorem Dev.setOwner_memPort (d : Dev) (r : Nat) (c : Claim) : (d.setOwner r c).memPort = d.memPort := rfl
@[simp] theorem Dev.setOwner_led (d : Dev) (r : Nat) (c : Claim) : (d.setOwner r c).led = d.led := rfl
@[simp] theorem Dev.setOwner_ex (d : Dev) (r : Nat) (c : Claim) : (d.setOwner r c).ex = d.ex := rfl
@[simp] theorem Dev.setOwner_mbox (d : Dev) (r : Nat) (c : Claim) : (d.setOwner r c).mbox = d.mbox := rfl
@[simp] theorem Dev.setOwner_stw (d : Dev) (r : Nat) (c : Claim) : (d.setOwner r c).stw = d.stw := rfl
@[simp] theorem Dev.setOwner_wrd (d : Dev) (r : Nat) (c : Claim) : (d.setOwner r c).wrd = d.wrd := rfl
@[simp] theorem Dev.setOwner_nv (d : Dev) (r : Nat) (c : Claim) : (d.setOwner r c).nv = d.nv := rfl
@[simp] theorem Dev.setOwner_baro (d : Dev) (r : Nat) (c : Claim) : (d.setOwner r c).baro = d.baro := rfl
@[simp] theorem Dev.setOwner_snaps (d : Dev) (r : Nat) (c : Claim) : (d.setOwner r c).snaps = d.snaps := rfl
@[simp] theorem Dev.setOwner_wiping (d : Dev) (r : Nat) (c : Claim) : (d.setOwner r c).wiping = d.wiping := rfl
@[simp] theorem Dev.setOwner_wipeBad (d : Dev) (r : Nat) (c : Claim) : (d.setOwner r c).wipeBad = d.wipeBad := rfl
@[simp] theorem Dev.setOwner_missSent (d : Dev) (r : Nat) (c : Claim) : (d.setOwner r c).missSent = d.missSent := rfl
@[simp] theorem Dev.setOwner_capRam (d : Dev) (r : Nat) (c : Claim) : (d.setOwner r c).capRam = d.capRam := rfl
@[simp] theorem Dev.setOwner_lvl0 (d : Dev) (r : Nat) (c : Claim) : (d.setOwner r c).lvl0 = d.lvl0 := rfl
@[simp] theorem Dev.setOwner_lvl1 (d : Dev) (r : Nat) (c : Claim) : (d.setOwner r c).lvl1 = d.lvl1 := rfl
@[simp] theorem Dev.setOwner_fit (d : Dev) (r : Nat) (c : Claim) : (d.setOwner r c).fit = d.fit := rfl
@[simp] theorem Dev.setOwner_fitUse (d : Dev) (r : Nat) (c : Claim) : (d.setOwner r c).fitUse = d.fitUse := rfl
@[simp] theorem Dev.setOwner_sqActive (d : Dev) (r : Nat) (c : Claim) : (d.setOwner r c).sqActive = d.sqActive := rfl
@[simp] theorem Dev.setOwner_sqGated (d : Dev) (r : Nat) (c : Claim) : (d.setOwner r c).sqGated = d.sqGated := rfl
@[simp] theorem Dev.setOwner_evq (d : Dev) (r : Nat) (c : Claim) : (d.setOwner r c).evq = d.evq := rfl
@[simp] theorem Dev.setOwner_evd (d : Dev) (r : Nat) (c : Claim) : (d.setOwner r c).evd = d.evd := rfl
@[simp] theorem Dev.setOwner_sqReq (d : Dev) (r : Nat) (c : Claim) : (d.setOwner r c).sqReq = d.sqReq := rfl
@[simp] theorem Dev.setOwner_smp (d : Dev) (r : Nat) (c : Claim) : (d.setOwner r c).smp = d.smp := rfl
@[simp] theorem Dev.setOwner_out (d : Dev) (r : Nat) (c : Claim) : (d.setOwner r c).out = d.out := rfl

/-! ### Dev.updTherm -/

@[simp] theorem Dev.updTherm_bld (d : Dev) (f : Therm → Therm) : (d.updTherm f).bld = d.bld := rfl
@[simp] theorem Dev.updTherm_regs (d : Dev) (f : Therm → Therm) : (d.updTherm f).regs = d.regs := rfl
@[simp] theorem Dev.updTherm_tick (d : Dev) (f : Therm → Therm) : (d.updTherm f).tick = d.tick := rfl
@[simp] theorem Dev.updTherm_phases (d : Dev) (f : Therm → Therm) : (d.updTherm f).phases = d.phases := rfl
@[simp] theorem Dev.updTherm_rails (d : Dev) (f : Therm → Therm) : (d.updTherm f).rails = d.rails := rfl
@[simp] theorem Dev.updTherm_tune (d : Dev) (f : Therm → Therm) : (d.updTherm f).tune = d.tune := rfl
@[simp] theorem Dev.updTherm_sats (d : Dev) (f : Therm → Therm) : (d.updTherm f).sats = d.sats := rfl
@[simp] theorem Dev.updTherm_cal (d : Dev) (f : Therm → Therm) : (d.updTherm f).cal = d.cal := rfl
@[simp] theorem Dev.updTherm_wave (d : Dev) (f : Therm → Therm) : (d.updTherm f).wave = d.wave := rfl
@[simp] theorem Dev.updTherm_doms (d : Dev) (f : Therm → Therm) : (d.updTherm f).doms = d.doms := rfl
@[simp] theorem Dev.updTherm_gov (d : Dev) (f : Therm → Therm) : (d.updTherm f).gov = d.gov := rfl
@[simp] theorem Dev.updTherm_credit (d : Dev) (f : Therm → Therm) : (d.updTherm f).credit = d.credit := rfl
@[simp] theorem Dev.updTherm_claims (d : Dev) (f : Therm → Therm) : (d.updTherm f).claims = d.claims := rfl
@[simp] theorem Dev.updTherm_hint (d : Dev) (f : Therm → Therm) : (d.updTherm f).hint = d.hint := rfl
@[simp] theorem Dev.updTherm_step (d : Dev) (f : Therm → Therm) : (d.updTherm f).step = d.step := rfl
@[simp] theorem Dev.updTherm_fc (d : Dev) (f : Therm → Therm) : (d.updTherm f).fc = d.fc := rfl
@[simp] theorem Dev.updTherm_iso (d : Dev) (f : Therm → Therm) : (d.updTherm f).iso = d.iso := rfl
@[simp] theorem Dev.updTherm_act (d : Dev) (f : Therm → Therm) : (d.updTherm f).act = d.act := rfl
@[simp] theorem Dev.updTherm_dz (d : Dev) (f : Therm → Therm) : (d.updTherm f).dz = d.dz := rfl
@[simp] theorem Dev.updTherm_bud (d : Dev) (f : Therm → Therm) : (d.updTherm f).bud = d.bud := rfl
@[simp] theorem Dev.updTherm_memPort (d : Dev) (f : Therm → Therm) : (d.updTherm f).memPort = d.memPort := rfl
@[simp] theorem Dev.updTherm_led (d : Dev) (f : Therm → Therm) : (d.updTherm f).led = d.led := rfl
@[simp] theorem Dev.updTherm_ex (d : Dev) (f : Therm → Therm) : (d.updTherm f).ex = d.ex := rfl
@[simp] theorem Dev.updTherm_mbox (d : Dev) (f : Therm → Therm) : (d.updTherm f).mbox = d.mbox := rfl
@[simp] theorem Dev.updTherm_stw (d : Dev) (f : Therm → Therm) : (d.updTherm f).stw = d.stw := rfl
@[simp] theorem Dev.updTherm_wrd (d : Dev) (f : Therm → Therm) : (d.updTherm f).wrd = d.wrd := rfl
@[simp] theorem Dev.updTherm_nv (d : Dev) (f : Therm → Therm) : (d.updTherm f).nv = d.nv := rfl
@[simp] theorem Dev.updTherm_baro (d : Dev) (f : Therm → Therm) : (d.updTherm f).baro = d.baro := rfl
@[simp] theorem Dev.updTherm_snaps (d : Dev) (f : Therm → Therm) : (d.updTherm f).snaps = d.snaps := rfl
@[simp] theorem Dev.updTherm_wiping (d : Dev) (f : Therm → Therm) : (d.updTherm f).wiping = d.wiping := rfl
@[simp] theorem Dev.updTherm_wipeBad (d : Dev) (f : Therm → Therm) : (d.updTherm f).wipeBad = d.wipeBad := rfl
@[simp] theorem Dev.updTherm_missSent (d : Dev) (f : Therm → Therm) : (d.updTherm f).missSent = d.missSent := rfl
@[simp] theorem Dev.updTherm_capRam (d : Dev) (f : Therm → Therm) : (d.updTherm f).capRam = d.capRam := rfl
@[simp] theorem Dev.updTherm_lvl0 (d : Dev) (f : Therm → Therm) : (d.updTherm f).lvl0 = d.lvl0 := rfl
@[simp] theorem Dev.updTherm_lvl1 (d : Dev) (f : Therm → Therm) : (d.updTherm f).lvl1 = d.lvl1 := rfl
@[simp] theorem Dev.updTherm_fit (d : Dev) (f : Therm → Therm) : (d.updTherm f).fit = d.fit := rfl
@[simp] theorem Dev.updTherm_fitUse (d : Dev) (f : Therm → Therm) : (d.updTherm f).fitUse = d.fitUse := rfl
@[simp] theorem Dev.updTherm_sqActive (d : Dev) (f : Therm → Therm) : (d.updTherm f).sqActive = d.sqActive := rfl
@[simp] theorem Dev.updTherm_sqGated (d : Dev) (f : Therm → Therm) : (d.updTherm f).sqGated = d.sqGated := rfl
@[simp] theorem Dev.updTherm_evq (d : Dev) (f : Therm → Therm) : (d.updTherm f).evq = d.evq := rfl
@[simp] theorem Dev.updTherm_evd (d : Dev) (f : Therm → Therm) : (d.updTherm f).evd = d.evd := rfl
@[simp] theorem Dev.updTherm_sqReq (d : Dev) (f : Therm → Therm) : (d.updTherm f).sqReq = d.sqReq := rfl
@[simp] theorem Dev.updTherm_smp (d : Dev) (f : Therm → Therm) : (d.updTherm f).smp = d.smp := rfl
@[simp] theorem Dev.updTherm_out (d : Dev) (f : Therm → Therm) : (d.updTherm f).out = d.out := rfl

/-! ### Dev.updIso -/

@[simp] theorem Dev.updIso_bld (d : Dev) (f : Iso → Iso) : (d.updIso f).bld = d.bld := rfl
@[simp] theorem Dev.updIso_regs (d : Dev) (f : Iso → Iso) : (d.updIso f).regs = d.regs := rfl
@[simp] theorem Dev.updIso_tick (d : Dev) (f : Iso → Iso) : (d.updIso f).tick = d.tick := rfl
@[simp] theorem Dev.updIso_phases (d : Dev) (f : Iso → Iso) : (d.updIso f).phases = d.phases := rfl
@[simp] theorem Dev.updIso_rails (d : Dev) (f : Iso → Iso) : (d.updIso f).rails = d.rails := rfl
@[simp] theorem Dev.updIso_tune (d : Dev) (f : Iso → Iso) : (d.updIso f).tune = d.tune := rfl
@[simp] theorem Dev.updIso_sats (d : Dev) (f : Iso → Iso) : (d.updIso f).sats = d.sats := rfl
@[simp] theorem Dev.updIso_cal (d : Dev) (f : Iso → Iso) : (d.updIso f).cal = d.cal := rfl
@[simp] theorem Dev.updIso_wave (d : Dev) (f : Iso → Iso) : (d.updIso f).wave = d.wave := rfl
@[simp] theorem Dev.updIso_doms (d : Dev) (f : Iso → Iso) : (d.updIso f).doms = d.doms := rfl
@[simp] theorem Dev.updIso_gov (d : Dev) (f : Iso → Iso) : (d.updIso f).gov = d.gov := rfl
@[simp] theorem Dev.updIso_credit (d : Dev) (f : Iso → Iso) : (d.updIso f).credit = d.credit := rfl
@[simp] theorem Dev.updIso_claims (d : Dev) (f : Iso → Iso) : (d.updIso f).claims = d.claims := rfl
@[simp] theorem Dev.updIso_hint (d : Dev) (f : Iso → Iso) : (d.updIso f).hint = d.hint := rfl
@[simp] theorem Dev.updIso_step (d : Dev) (f : Iso → Iso) : (d.updIso f).step = d.step := rfl
@[simp] theorem Dev.updIso_fc (d : Dev) (f : Iso → Iso) : (d.updIso f).fc = d.fc := rfl
@[simp] theorem Dev.updIso_therm (d : Dev) (f : Iso → Iso) : (d.updIso f).therm = d.therm := rfl
@[simp] theorem Dev.updIso_act (d : Dev) (f : Iso → Iso) : (d.updIso f).act = d.act := rfl
@[simp] theorem Dev.updIso_dz (d : Dev) (f : Iso → Iso) : (d.updIso f).dz = d.dz := rfl
@[simp] theorem Dev.updIso_bud (d : Dev) (f : Iso → Iso) : (d.updIso f).bud = d.bud := rfl
@[simp] theorem Dev.updIso_memPort (d : Dev) (f : Iso → Iso) : (d.updIso f).memPort = d.memPort := rfl
@[simp] theorem Dev.updIso_led (d : Dev) (f : Iso → Iso) : (d.updIso f).led = d.led := rfl
@[simp] theorem Dev.updIso_ex (d : Dev) (f : Iso → Iso) : (d.updIso f).ex = d.ex := rfl
@[simp] theorem Dev.updIso_mbox (d : Dev) (f : Iso → Iso) : (d.updIso f).mbox = d.mbox := rfl
@[simp] theorem Dev.updIso_stw (d : Dev) (f : Iso → Iso) : (d.updIso f).stw = d.stw := rfl
@[simp] theorem Dev.updIso_wrd (d : Dev) (f : Iso → Iso) : (d.updIso f).wrd = d.wrd := rfl
@[simp] theorem Dev.updIso_nv (d : Dev) (f : Iso → Iso) : (d.updIso f).nv = d.nv := rfl
@[simp] theorem Dev.updIso_baro (d : Dev) (f : Iso → Iso) : (d.updIso f).baro = d.baro := rfl
@[simp] theorem Dev.updIso_snaps (d : Dev) (f : Iso → Iso) : (d.updIso f).snaps = d.snaps := rfl
@[simp] theorem Dev.updIso_wiping (d : Dev) (f : Iso → Iso) : (d.updIso f).wiping = d.wiping := rfl
@[simp] theorem Dev.updIso_wipeBad (d : Dev) (f : Iso → Iso) : (d.updIso f).wipeBad = d.wipeBad := rfl
@[simp] theorem Dev.updIso_missSent (d : Dev) (f : Iso → Iso) : (d.updIso f).missSent = d.missSent := rfl
@[simp] theorem Dev.updIso_capRam (d : Dev) (f : Iso → Iso) : (d.updIso f).capRam = d.capRam := rfl
@[simp] theorem Dev.updIso_lvl0 (d : Dev) (f : Iso → Iso) : (d.updIso f).lvl0 = d.lvl0 := rfl
@[simp] theorem Dev.updIso_lvl1 (d : Dev) (f : Iso → Iso) : (d.updIso f).lvl1 = d.lvl1 := rfl
@[simp] theorem Dev.updIso_fit (d : Dev) (f : Iso → Iso) : (d.updIso f).fit = d.fit := rfl
@[simp] theorem Dev.updIso_fitUse (d : Dev) (f : Iso → Iso) : (d.updIso f).fitUse = d.fitUse := rfl
@[simp] theorem Dev.updIso_sqActive (d : Dev) (f : Iso → Iso) : (d.updIso f).sqActive = d.sqActive := rfl
@[simp] theorem Dev.updIso_sqGated (d : Dev) (f : Iso → Iso) : (d.updIso f).sqGated = d.sqGated := rfl
@[simp] theorem Dev.updIso_evq (d : Dev) (f : Iso → Iso) : (d.updIso f).evq = d.evq := rfl
@[simp] theorem Dev.updIso_evd (d : Dev) (f : Iso → Iso) : (d.updIso f).evd = d.evd := rfl
@[simp] theorem Dev.updIso_sqReq (d : Dev) (f : Iso → Iso) : (d.updIso f).sqReq = d.sqReq := rfl
@[simp] theorem Dev.updIso_smp (d : Dev) (f : Iso → Iso) : (d.updIso f).smp = d.smp := rfl
@[simp] theorem Dev.updIso_out (d : Dev) (f : Iso → Iso) : (d.updIso f).out = d.out := rfl

/-! ### Dev.updCl -/

@[simp] theorem Dev.updCl_bld (d : Dev) (c : Nat) (f : DzCl → DzCl) : (d.updCl c f).bld = d.bld := rfl
@[simp] theorem Dev.updCl_regs (d : Dev) (c : Nat) (f : DzCl → DzCl) : (d.updCl c f).regs = d.regs := rfl
@[simp] theorem Dev.updCl_tick (d : Dev) (c : Nat) (f : DzCl → DzCl) : (d.updCl c f).tick = d.tick := rfl
@[simp] theorem Dev.updCl_phases (d : Dev) (c : Nat) (f : DzCl → DzCl) : (d.updCl c f).phases = d.phases := rfl
@[simp] theorem Dev.updCl_rails (d : Dev) (c : Nat) (f : DzCl → DzCl) : (d.updCl c f).rails = d.rails := rfl
@[simp] theorem Dev.updCl_tune (d : Dev) (c : Nat) (f : DzCl → DzCl) : (d.updCl c f).tune = d.tune := rfl
@[simp] theorem Dev.updCl_sats (d : Dev) (c : Nat) (f : DzCl → DzCl) : (d.updCl c f).sats = d.sats := rfl
@[simp] theorem Dev.updCl_cal (d : Dev) (c : Nat) (f : DzCl → DzCl) : (d.updCl c f).cal = d.cal := rfl
@[simp] theorem Dev.updCl_wave (d : Dev) (c : Nat) (f : DzCl → DzCl) : (d.updCl c f).wave = d.wave := rfl
@[simp] theorem Dev.updCl_doms (d : Dev) (c : Nat) (f : DzCl → DzCl) : (d.updCl c f).doms = d.doms := rfl
@[simp] theorem Dev.updCl_gov (d : Dev) (c : Nat) (f : DzCl → DzCl) : (d.updCl c f).gov = d.gov := rfl
@[simp] theorem Dev.updCl_credit (d : Dev) (c : Nat) (f : DzCl → DzCl) : (d.updCl c f).credit = d.credit := rfl
@[simp] theorem Dev.updCl_claims (d : Dev) (c : Nat) (f : DzCl → DzCl) : (d.updCl c f).claims = d.claims := rfl
@[simp] theorem Dev.updCl_hint (d : Dev) (c : Nat) (f : DzCl → DzCl) : (d.updCl c f).hint = d.hint := rfl
@[simp] theorem Dev.updCl_step (d : Dev) (c : Nat) (f : DzCl → DzCl) : (d.updCl c f).step = d.step := rfl
@[simp] theorem Dev.updCl_fc (d : Dev) (c : Nat) (f : DzCl → DzCl) : (d.updCl c f).fc = d.fc := rfl
@[simp] theorem Dev.updCl_therm (d : Dev) (c : Nat) (f : DzCl → DzCl) : (d.updCl c f).therm = d.therm := rfl
@[simp] theorem Dev.updCl_iso (d : Dev) (c : Nat) (f : DzCl → DzCl) : (d.updCl c f).iso = d.iso := rfl
@[simp] theorem Dev.updCl_act (d : Dev) (c : Nat) (f : DzCl → DzCl) : (d.updCl c f).act = d.act := rfl
@[simp] theorem Dev.updCl_bud (d : Dev) (c : Nat) (f : DzCl → DzCl) : (d.updCl c f).bud = d.bud := rfl
@[simp] theorem Dev.updCl_memPort (d : Dev) (c : Nat) (f : DzCl → DzCl) : (d.updCl c f).memPort = d.memPort := rfl
@[simp] theorem Dev.updCl_led (d : Dev) (c : Nat) (f : DzCl → DzCl) : (d.updCl c f).led = d.led := rfl
@[simp] theorem Dev.updCl_ex (d : Dev) (c : Nat) (f : DzCl → DzCl) : (d.updCl c f).ex = d.ex := rfl
@[simp] theorem Dev.updCl_mbox (d : Dev) (c : Nat) (f : DzCl → DzCl) : (d.updCl c f).mbox = d.mbox := rfl
@[simp] theorem Dev.updCl_stw (d : Dev) (c : Nat) (f : DzCl → DzCl) : (d.updCl c f).stw = d.stw := rfl
@[simp] theorem Dev.updCl_wrd (d : Dev) (c : Nat) (f : DzCl → DzCl) : (d.updCl c f).wrd = d.wrd := rfl
@[simp] theorem Dev.updCl_nv (d : Dev) (c : Nat) (f : DzCl → DzCl) : (d.updCl c f).nv = d.nv := rfl
@[simp] theorem Dev.updCl_baro (d : Dev) (c : Nat) (f : DzCl → DzCl) : (d.updCl c f).baro = d.baro := rfl
@[simp] theorem Dev.updCl_snaps (d : Dev) (c : Nat) (f : DzCl → DzCl) : (d.updCl c f).snaps = d.snaps := rfl
@[simp] theorem Dev.updCl_wiping (d : Dev) (c : Nat) (f : DzCl → DzCl) : (d.updCl c f).wiping = d.wiping := rfl
@[simp] theorem Dev.updCl_wipeBad (d : Dev) (c : Nat) (f : DzCl → DzCl) : (d.updCl c f).wipeBad = d.wipeBad := rfl
@[simp] theorem Dev.updCl_missSent (d : Dev) (c : Nat) (f : DzCl → DzCl) : (d.updCl c f).missSent = d.missSent := rfl
@[simp] theorem Dev.updCl_capRam (d : Dev) (c : Nat) (f : DzCl → DzCl) : (d.updCl c f).capRam = d.capRam := rfl
@[simp] theorem Dev.updCl_lvl0 (d : Dev) (c : Nat) (f : DzCl → DzCl) : (d.updCl c f).lvl0 = d.lvl0 := rfl
@[simp] theorem Dev.updCl_lvl1 (d : Dev) (c : Nat) (f : DzCl → DzCl) : (d.updCl c f).lvl1 = d.lvl1 := rfl
@[simp] theorem Dev.updCl_fit (d : Dev) (c : Nat) (f : DzCl → DzCl) : (d.updCl c f).fit = d.fit := rfl
@[simp] theorem Dev.updCl_fitUse (d : Dev) (c : Nat) (f : DzCl → DzCl) : (d.updCl c f).fitUse = d.fitUse := rfl
@[simp] theorem Dev.updCl_sqActive (d : Dev) (c : Nat) (f : DzCl → DzCl) : (d.updCl c f).sqActive = d.sqActive := rfl
@[simp] theorem Dev.updCl_sqGated (d : Dev) (c : Nat) (f : DzCl → DzCl) : (d.updCl c f).sqGated = d.sqGated := rfl
@[simp] theorem Dev.updCl_evq (d : Dev) (c : Nat) (f : DzCl → DzCl) : (d.updCl c f).evq = d.evq := rfl
@[simp] theorem Dev.updCl_evd (d : Dev) (c : Nat) (f : DzCl → DzCl) : (d.updCl c f).evd = d.evd := rfl
@[simp] theorem Dev.updCl_sqReq (d : Dev) (c : Nat) (f : DzCl → DzCl) : (d.updCl c f).sqReq = d.sqReq := rfl
@[simp] theorem Dev.updCl_smp (d : Dev) (c : Nat) (f : DzCl → DzCl) : (d.updCl c f).smp = d.smp := rfl
@[simp] theorem Dev.updCl_out (d : Dev) (c : Nat) (f : DzCl → DzCl) : (d.updCl c f).out = d.out := rfl

/-! ### Dev.updBud -/

@[simp] theorem Dev.updBud_bld (d : Dev) (f : Budget → Budget) : (d.updBud f).bld = d.bld := rfl
@[simp] theorem Dev.updBud_regs (d : Dev) (f : Budget → Budget) : (d.updBud f).regs = d.regs := rfl
@[simp] theorem Dev.updBud_tick (d : Dev) (f : Budget → Budget) : (d.updBud f).tick = d.tick := rfl
@[simp] theorem Dev.updBud_phases (d : Dev) (f : Budget → Budget) : (d.updBud f).phases = d.phases := rfl
@[simp] theorem Dev.updBud_rails (d : Dev) (f : Budget → Budget) : (d.updBud f).rails = d.rails := rfl
@[simp] theorem Dev.updBud_tune (d : Dev) (f : Budget → Budget) : (d.updBud f).tune = d.tune := rfl
@[simp] theorem Dev.updBud_sats (d : Dev) (f : Budget → Budget) : (d.updBud f).sats = d.sats := rfl
@[simp] theorem Dev.updBud_cal (d : Dev) (f : Budget → Budget) : (d.updBud f).cal = d.cal := rfl
@[simp] theorem Dev.updBud_wave (d : Dev) (f : Budget → Budget) : (d.updBud f).wave = d.wave := rfl
@[simp] theorem Dev.updBud_doms (d : Dev) (f : Budget → Budget) : (d.updBud f).doms = d.doms := rfl
@[simp] theorem Dev.updBud_gov (d : Dev) (f : Budget → Budget) : (d.updBud f).gov = d.gov := rfl
@[simp] theorem Dev.updBud_credit (d : Dev) (f : Budget → Budget) : (d.updBud f).credit = d.credit := rfl
@[simp] theorem Dev.updBud_claims (d : Dev) (f : Budget → Budget) : (d.updBud f).claims = d.claims := rfl
@[simp] theorem Dev.updBud_hint (d : Dev) (f : Budget → Budget) : (d.updBud f).hint = d.hint := rfl
@[simp] theorem Dev.updBud_step (d : Dev) (f : Budget → Budget) : (d.updBud f).step = d.step := rfl
@[simp] theorem Dev.updBud_fc (d : Dev) (f : Budget → Budget) : (d.updBud f).fc = d.fc := rfl
@[simp] theorem Dev.updBud_therm (d : Dev) (f : Budget → Budget) : (d.updBud f).therm = d.therm := rfl
@[simp] theorem Dev.updBud_iso (d : Dev) (f : Budget → Budget) : (d.updBud f).iso = d.iso := rfl
@[simp] theorem Dev.updBud_act (d : Dev) (f : Budget → Budget) : (d.updBud f).act = d.act := rfl
@[simp] theorem Dev.updBud_dz (d : Dev) (f : Budget → Budget) : (d.updBud f).dz = d.dz := rfl
@[simp] theorem Dev.updBud_memPort (d : Dev) (f : Budget → Budget) : (d.updBud f).memPort = d.memPort := rfl
@[simp] theorem Dev.updBud_led (d : Dev) (f : Budget → Budget) : (d.updBud f).led = d.led := rfl
@[simp] theorem Dev.updBud_ex (d : Dev) (f : Budget → Budget) : (d.updBud f).ex = d.ex := rfl
@[simp] theorem Dev.updBud_mbox (d : Dev) (f : Budget → Budget) : (d.updBud f).mbox = d.mbox := rfl
@[simp] theorem Dev.updBud_stw (d : Dev) (f : Budget → Budget) : (d.updBud f).stw = d.stw := rfl
@[simp] theorem Dev.updBud_wrd (d : Dev) (f : Budget → Budget) : (d.updBud f).wrd = d.wrd := rfl
@[simp] theorem Dev.updBud_nv (d : Dev) (f : Budget → Budget) : (d.updBud f).nv = d.nv := rfl
@[simp] theorem Dev.updBud_baro (d : Dev) (f : Budget → Budget) : (d.updBud f).baro = d.baro := rfl
@[simp] theorem Dev.updBud_snaps (d : Dev) (f : Budget → Budget) : (d.updBud f).snaps = d.snaps := rfl
@[simp] theorem Dev.updBud_wiping (d : Dev) (f : Budget → Budget) : (d.updBud f).wiping = d.wiping := rfl
@[simp] theorem Dev.updBud_wipeBad (d : Dev) (f : Budget → Budget) : (d.updBud f).wipeBad = d.wipeBad := rfl
@[simp] theorem Dev.updBud_missSent (d : Dev) (f : Budget → Budget) : (d.updBud f).missSent = d.missSent := rfl
@[simp] theorem Dev.updBud_capRam (d : Dev) (f : Budget → Budget) : (d.updBud f).capRam = d.capRam := rfl
@[simp] theorem Dev.updBud_lvl0 (d : Dev) (f : Budget → Budget) : (d.updBud f).lvl0 = d.lvl0 := rfl
@[simp] theorem Dev.updBud_lvl1 (d : Dev) (f : Budget → Budget) : (d.updBud f).lvl1 = d.lvl1 := rfl
@[simp] theorem Dev.updBud_fit (d : Dev) (f : Budget → Budget) : (d.updBud f).fit = d.fit := rfl
@[simp] theorem Dev.updBud_fitUse (d : Dev) (f : Budget → Budget) : (d.updBud f).fitUse = d.fitUse := rfl
@[simp] theorem Dev.updBud_sqActive (d : Dev) (f : Budget → Budget) : (d.updBud f).sqActive = d.sqActive := rfl
@[simp] theorem Dev.updBud_sqGated (d : Dev) (f : Budget → Budget) : (d.updBud f).sqGated = d.sqGated := rfl
@[simp] theorem Dev.updBud_evq (d : Dev) (f : Budget → Budget) : (d.updBud f).evq = d.evq := rfl
@[simp] theorem Dev.updBud_evd (d : Dev) (f : Budget → Budget) : (d.updBud f).evd = d.evd := rfl
@[simp] theorem Dev.updBud_sqReq (d : Dev) (f : Budget → Budget) : (d.updBud f).sqReq = d.sqReq := rfl
@[simp] theorem Dev.updBud_smp (d : Dev) (f : Budget → Budget) : (d.updBud f).smp = d.smp := rfl
@[simp] theorem Dev.updBud_out (d : Dev) (f : Budget → Budget) : (d.updBud f).out = d.out := rfl

/-! ### Dev.updLed -/

@[simp] theorem Dev.updLed_bld (d : Dev) (f : Ledger → Ledger) : (d.updLed f).bld = d.bld := rfl
@[simp] theorem Dev.updLed_regs (d : Dev) (f : Ledger → Ledger) : (d.updLed f).regs = d.regs := rfl
@[simp] theorem Dev.updLed_tick (d : Dev) (f : Ledger → Ledger) : (d.updLed f).tick = d.tick := rfl
@[simp] theorem Dev.updLed_phases (d : Dev) (f : Ledger → Ledger) : (d.updLed f).phases = d.phases := rfl
@[simp] theorem Dev.updLed_rails (d : Dev) (f : Ledger → Ledger) : (d.updLed f).rails = d.rails := rfl
@[simp] theorem Dev.updLed_tune (d : Dev) (f : Ledger → Ledger) : (d.updLed f).tune = d.tune := rfl
@[simp] theorem Dev.updLed_sats (d : Dev) (f : Ledger → Ledger) : (d.updLed f).sats = d.sats := rfl
@[simp] theorem Dev.updLed_cal (d : Dev) (f : Ledger → Ledger) : (d.updLed f).cal = d.cal := rfl
@[simp] theorem Dev.updLed_wave (d : Dev) (f : Ledger → Ledger) : (d.updLed f).wave = d.wave := rfl
@[simp] theorem Dev.updLed_doms (d : Dev) (f : Ledger → Ledger) : (d.updLed f).doms = d.doms := rfl
@[simp] theorem Dev.updLed_gov (d : Dev) (f : Ledger → Ledger) : (d.updLed f).gov = d.gov := rfl
@[simp] theorem Dev.updLed_credit (d : Dev) (f : Ledger → Ledger) : (d.updLed f).credit = d.credit := rfl
@[simp] theorem Dev.updLed_claims (d : Dev) (f : Ledger → Ledger) : (d.updLed f).claims = d.claims := rfl
@[simp] theorem Dev.updLed_hint (d : Dev) (f : Ledger → Ledger) : (d.updLed f).hint = d.hint := rfl
@[simp] theorem Dev.updLed_step (d : Dev) (f : Ledger → Ledger) : (d.updLed f).step = d.step := rfl
@[simp] theorem Dev.updLed_fc (d : Dev) (f : Ledger → Ledger) : (d.updLed f).fc = d.fc := rfl
@[simp] theorem Dev.updLed_therm (d : Dev) (f : Ledger → Ledger) : (d.updLed f).therm = d.therm := rfl
@[simp] theorem Dev.updLed_iso (d : Dev) (f : Ledger → Ledger) : (d.updLed f).iso = d.iso := rfl
@[simp] theorem Dev.updLed_act (d : Dev) (f : Ledger → Ledger) : (d.updLed f).act = d.act := rfl
@[simp] theorem Dev.updLed_dz (d : Dev) (f : Ledger → Ledger) : (d.updLed f).dz = d.dz := rfl
@[simp] theorem Dev.updLed_bud (d : Dev) (f : Ledger → Ledger) : (d.updLed f).bud = d.bud := rfl
@[simp] theorem Dev.updLed_memPort (d : Dev) (f : Ledger → Ledger) : (d.updLed f).memPort = d.memPort := rfl
@[simp] theorem Dev.updLed_ex (d : Dev) (f : Ledger → Ledger) : (d.updLed f).ex = d.ex := rfl
@[simp] theorem Dev.updLed_mbox (d : Dev) (f : Ledger → Ledger) : (d.updLed f).mbox = d.mbox := rfl
@[simp] theorem Dev.updLed_stw (d : Dev) (f : Ledger → Ledger) : (d.updLed f).stw = d.stw := rfl
@[simp] theorem Dev.updLed_wrd (d : Dev) (f : Ledger → Ledger) : (d.updLed f).wrd = d.wrd := rfl
@[simp] theorem Dev.updLed_nv (d : Dev) (f : Ledger → Ledger) : (d.updLed f).nv = d.nv := rfl
@[simp] theorem Dev.updLed_baro (d : Dev) (f : Ledger → Ledger) : (d.updLed f).baro = d.baro := rfl
@[simp] theorem Dev.updLed_snaps (d : Dev) (f : Ledger → Ledger) : (d.updLed f).snaps = d.snaps := rfl
@[simp] theorem Dev.updLed_wiping (d : Dev) (f : Ledger → Ledger) : (d.updLed f).wiping = d.wiping := rfl
@[simp] theorem Dev.updLed_wipeBad (d : Dev) (f : Ledger → Ledger) : (d.updLed f).wipeBad = d.wipeBad := rfl
@[simp] theorem Dev.updLed_missSent (d : Dev) (f : Ledger → Ledger) : (d.updLed f).missSent = d.missSent := rfl
@[simp] theorem Dev.updLed_capRam (d : Dev) (f : Ledger → Ledger) : (d.updLed f).capRam = d.capRam := rfl
@[simp] theorem Dev.updLed_lvl0 (d : Dev) (f : Ledger → Ledger) : (d.updLed f).lvl0 = d.lvl0 := rfl
@[simp] theorem Dev.updLed_lvl1 (d : Dev) (f : Ledger → Ledger) : (d.updLed f).lvl1 = d.lvl1 := rfl
@[simp] theorem Dev.updLed_fit (d : Dev) (f : Ledger → Ledger) : (d.updLed f).fit = d.fit := rfl
@[simp] theorem Dev.updLed_fitUse (d : Dev) (f : Ledger → Ledger) : (d.updLed f).fitUse = d.fitUse := rfl
@[simp] theorem Dev.updLed_sqActive (d : Dev) (f : Ledger → Ledger) : (d.updLed f).sqActive = d.sqActive := rfl
@[simp] theorem Dev.updLed_sqGated (d : Dev) (f : Ledger → Ledger) : (d.updLed f).sqGated = d.sqGated := rfl
@[simp] theorem Dev.updLed_evq (d : Dev) (f : Ledger → Ledger) : (d.updLed f).evq = d.evq := rfl
@[simp] theorem Dev.updLed_evd (d : Dev) (f : Ledger → Ledger) : (d.updLed f).evd = d.evd := rfl
@[simp] theorem Dev.updLed_sqReq (d : Dev) (f : Ledger → Ledger) : (d.updLed f).sqReq = d.sqReq := rfl
@[simp] theorem Dev.updLed_smp (d : Dev) (f : Ledger → Ledger) : (d.updLed f).smp = d.smp := rfl
@[simp] theorem Dev.updLed_out (d : Dev) (f : Ledger → Ledger) : (d.updLed f).out = d.out := rfl

/-! ### Dev.updEx -/

@[simp] theorem Dev.updEx_bld (d : Dev) (f : Export → Export) : (d.updEx f).bld = d.bld := rfl
@[simp] theorem Dev.updEx_regs (d : Dev) (f : Export → Export) : (d.updEx f).regs = d.regs := rfl
@[simp] theorem Dev.updEx_tick (d : Dev) (f : Export → Export) : (d.updEx f).tick = d.tick := rfl
@[simp] theorem Dev.updEx_phases (d : Dev) (f : Export → Export) : (d.updEx f).phases = d.phases := rfl
@[simp] theorem Dev.updEx_rails (d : Dev) (f : Export → Export) : (d.updEx f).rails = d.rails := rfl
@[simp] theorem Dev.updEx_tune (d : Dev) (f : Export → Export) : (d.updEx f).tune = d.tune := rfl
@[simp] theorem Dev.updEx_sats (d : Dev) (f : Export → Export) : (d.updEx f).sats = d.sats := rfl
@[simp] theorem Dev.updEx_cal (d : Dev) (f : Export → Export) : (d.updEx f).cal = d.cal := rfl
@[simp] theorem Dev.updEx_wave (d : Dev) (f : Export → Export) : (d.updEx f).wave = d.wave := rfl
@[simp] theorem Dev.updEx_doms (d : Dev) (f : Export → Export) : (d.updEx f).doms = d.doms := rfl
@[simp] theorem Dev.updEx_gov (d : Dev) (f : Export → Export) : (d.updEx f).gov = d.gov := rfl
@[simp] theorem Dev.updEx_credit (d : Dev) (f : Export → Export) : (d.updEx f).credit = d.credit := rfl
@[simp] theorem Dev.updEx_claims (d : Dev) (f : Export → Export) : (d.updEx f).claims = d.claims := rfl
@[simp] theorem Dev.updEx_hint (d : Dev) (f : Export → Export) : (d.updEx f).hint = d.hint := rfl
@[simp] theorem Dev.updEx_step (d : Dev) (f : Export → Export) : (d.updEx f).step = d.step := rfl
@[simp] theorem Dev.updEx_fc (d : Dev) (f : Export → Export) : (d.updEx f).fc = d.fc := rfl
@[simp] theorem Dev.updEx_therm (d : Dev) (f : Export → Export) : (d.updEx f).therm = d.therm := rfl
@[simp] theorem Dev.updEx_iso (d : Dev) (f : Export → Export) : (d.updEx f).iso = d.iso := rfl
@[simp] theorem Dev.updEx_act (d : Dev) (f : Export → Export) : (d.updEx f).act = d.act := rfl
@[simp] theorem Dev.updEx_dz (d : Dev) (f : Export → Export) : (d.updEx f).dz = d.dz := rfl
@[simp] theorem Dev.updEx_bud (d : Dev) (f : Export → Export) : (d.updEx f).bud = d.bud := rfl
@[simp] theorem Dev.updEx_memPort (d : Dev) (f : Export → Export) : (d.updEx f).memPort = d.memPort := rfl
@[simp] theorem Dev.updEx_led (d : Dev) (f : Export → Export) : (d.updEx f).led = d.led := rfl
@[simp] theorem Dev.updEx_mbox (d : Dev) (f : Export → Export) : (d.updEx f).mbox = d.mbox := rfl
@[simp] theorem Dev.updEx_stw (d : Dev) (f : Export → Export) : (d.updEx f).stw = d.stw := rfl
@[simp] theorem Dev.updEx_wrd (d : Dev) (f : Export → Export) : (d.updEx f).wrd = d.wrd := rfl
@[simp] theorem Dev.updEx_nv (d : Dev) (f : Export → Export) : (d.updEx f).nv = d.nv := rfl
@[simp] theorem Dev.updEx_baro (d : Dev) (f : Export → Export) : (d.updEx f).baro = d.baro := rfl
@[simp] theorem Dev.updEx_snaps (d : Dev) (f : Export → Export) : (d.updEx f).snaps = d.snaps := rfl
@[simp] theorem Dev.updEx_wiping (d : Dev) (f : Export → Export) : (d.updEx f).wiping = d.wiping := rfl
@[simp] theorem Dev.updEx_wipeBad (d : Dev) (f : Export → Export) : (d.updEx f).wipeBad = d.wipeBad := rfl
@[simp] theorem Dev.updEx_missSent (d : Dev) (f : Export → Export) : (d.updEx f).missSent = d.missSent := rfl
@[simp] theorem Dev.updEx_capRam (d : Dev) (f : Export → Export) : (d.updEx f).capRam = d.capRam := rfl
@[simp] theorem Dev.updEx_lvl0 (d : Dev) (f : Export → Export) : (d.updEx f).lvl0 = d.lvl0 := rfl
@[simp] theorem Dev.updEx_lvl1 (d : Dev) (f : Export → Export) : (d.updEx f).lvl1 = d.lvl1 := rfl
@[simp] theorem Dev.updEx_fit (d : Dev) (f : Export → Export) : (d.updEx f).fit = d.fit := rfl
@[simp] theorem Dev.updEx_fitUse (d : Dev) (f : Export → Export) : (d.updEx f).fitUse = d.fitUse := rfl
@[simp] theorem Dev.updEx_sqActive (d : Dev) (f : Export → Export) : (d.updEx f).sqActive = d.sqActive := rfl
@[simp] theorem Dev.updEx_sqGated (d : Dev) (f : Export → Export) : (d.updEx f).sqGated = d.sqGated := rfl
@[simp] theorem Dev.updEx_evq (d : Dev) (f : Export → Export) : (d.updEx f).evq = d.evq := rfl
@[simp] theorem Dev.updEx_evd (d : Dev) (f : Export → Export) : (d.updEx f).evd = d.evd := rfl
@[simp] theorem Dev.updEx_sqReq (d : Dev) (f : Export → Export) : (d.updEx f).sqReq = d.sqReq := rfl
@[simp] theorem Dev.updEx_smp (d : Dev) (f : Export → Export) : (d.updEx f).smp = d.smp := rfl
@[simp] theorem Dev.updEx_out (d : Dev) (f : Export → Export) : (d.updEx f).out = d.out := rfl

/-! ### Dev.updBaro -/

@[simp] theorem Dev.updBaro_bld (d : Dev) (f : Baro → Baro) : (d.updBaro f).bld = d.bld := rfl
@[simp] theorem Dev.updBaro_regs (d : Dev) (f : Baro → Baro) : (d.updBaro f).regs = d.regs := rfl
@[simp] theorem Dev.updBaro_tick (d : Dev) (f : Baro → Baro) : (d.updBaro f).tick = d.tick := rfl
@[simp] theorem Dev.updBaro_phases (d : Dev) (f : Baro → Baro) : (d.updBaro f).phases = d.phases := rfl
@[simp] theorem Dev.updBaro_rails (d : Dev) (f : Baro → Baro) : (d.updBaro f).rails = d.rails := rfl
@[simp] theorem Dev.updBaro_tune (d : Dev) (f : Baro → Baro) : (d.updBaro f).tune = d.tune := rfl
@[simp] theorem Dev.updBaro_sats (d : Dev) (f : Baro → Baro) : (d.updBaro f).sats = d.sats := rfl
@[simp] theorem Dev.updBaro_cal (d : Dev) (f : Baro → Baro) : (d.updBaro f).cal = d.cal := rfl
@[simp] theorem Dev.updBaro_wave (d : Dev) (f : Baro → Baro) : (d.updBaro f).wave = d.wave := rfl
@[simp] theorem Dev.updBaro_doms (d : Dev) (f : Baro → Baro) : (d.updBaro f).doms = d.doms := rfl
@[simp] theorem Dev.updBaro_gov (d : Dev) (f : Baro → Baro) : (d.updBaro f).gov = d.gov := rfl
@[simp] theorem Dev.updBaro_credit (d : Dev) (f : Baro → Baro) : (d.updBaro f).credit = d.credit := rfl
@[simp] theorem Dev.updBaro_claims (d : Dev) (f : Baro → Baro) : (d.updBaro f).claims = d.claims := rfl
@[simp] theorem Dev.updBaro_hint (d : Dev) (f : Baro → Baro) : (d.updBaro f).hint = d.hint := rfl
@[simp] theorem Dev.updBaro_step (d : Dev) (f : Baro → Baro) : (d.updBaro f).step = d.step := rfl
@[simp] theorem Dev.updBaro_fc (d : Dev) (f : Baro → Baro) : (d.updBaro f).fc = d.fc := rfl
@[simp] theorem Dev.updBaro_therm (d : Dev) (f : Baro → Baro) : (d.updBaro f).therm = d.therm := rfl
@[simp] theorem Dev.updBaro_iso (d : Dev) (f : Baro → Baro) : (d.updBaro f).iso = d.iso := rfl
@[simp] theorem Dev.updBaro_act (d : Dev) (f : Baro → Baro) : (d.updBaro f).act = d.act := rfl
@[simp] theorem Dev.updBaro_dz (d : Dev) (f : Baro → Baro) : (d.updBaro f).dz = d.dz := rfl
@[simp] theorem Dev.updBaro_bud (d : Dev) (f : Baro → Baro) : (d.updBaro f).bud = d.bud := rfl
@[simp] theorem Dev.updBaro_memPort (d : Dev) (f : Baro → Baro) : (d.updBaro f).memPort = d.memPort := rfl
@[simp] theorem Dev.updBaro_led (d : Dev) (f : Baro → Baro) : (d.updBaro f).led = d.led := rfl
@[simp] theorem Dev.updBaro_ex (d : Dev) (f : Baro → Baro) : (d.updBaro f).ex = d.ex := rfl
@[simp] theorem Dev.updBaro_mbox (d : Dev) (f : Baro → Baro) : (d.updBaro f).mbox = d.mbox := rfl
@[simp] theorem Dev.updBaro_stw (d : Dev) (f : Baro → Baro) : (d.updBaro f).stw = d.stw := rfl
@[simp] theorem Dev.updBaro_wrd (d : Dev) (f : Baro → Baro) : (d.updBaro f).wrd = d.wrd := rfl
@[simp] theorem Dev.updBaro_nv (d : Dev) (f : Baro → Baro) : (d.updBaro f).nv = d.nv := rfl
@[simp] theorem Dev.updBaro_snaps (d : Dev) (f : Baro → Baro) : (d.updBaro f).snaps = d.snaps := rfl
@[simp] theorem Dev.updBaro_wiping (d : Dev) (f : Baro → Baro) : (d.updBaro f).wiping = d.wiping := rfl
@[simp] theorem Dev.updBaro_wipeBad (d : Dev) (f : Baro → Baro) : (d.updBaro f).wipeBad = d.wipeBad := rfl
@[simp] theorem Dev.updBaro_missSent (d : Dev) (f : Baro → Baro) : (d.updBaro f).missSent = d.missSent := rfl
@[simp] theorem Dev.updBaro_capRam (d : Dev) (f : Baro → Baro) : (d.updBaro f).capRam = d.capRam := rfl
@[simp] theorem Dev.updBaro_lvl0 (d : Dev) (f : Baro → Baro) : (d.updBaro f).lvl0 = d.lvl0 := rfl
@[simp] theorem Dev.updBaro_lvl1 (d : Dev) (f : Baro → Baro) : (d.updBaro f).lvl1 = d.lvl1 := rfl
@[simp] theorem Dev.updBaro_fit (d : Dev) (f : Baro → Baro) : (d.updBaro f).fit = d.fit := rfl
@[simp] theorem Dev.updBaro_fitUse (d : Dev) (f : Baro → Baro) : (d.updBaro f).fitUse = d.fitUse := rfl
@[simp] theorem Dev.updBaro_sqActive (d : Dev) (f : Baro → Baro) : (d.updBaro f).sqActive = d.sqActive := rfl
@[simp] theorem Dev.updBaro_sqGated (d : Dev) (f : Baro → Baro) : (d.updBaro f).sqGated = d.sqGated := rfl
@[simp] theorem Dev.updBaro_evq (d : Dev) (f : Baro → Baro) : (d.updBaro f).evq = d.evq := rfl
@[simp] theorem Dev.updBaro_evd (d : Dev) (f : Baro → Baro) : (d.updBaro f).evd = d.evd := rfl
@[simp] theorem Dev.updBaro_sqReq (d : Dev) (f : Baro → Baro) : (d.updBaro f).sqReq = d.sqReq := rfl
@[simp] theorem Dev.updBaro_smp (d : Dev) (f : Baro → Baro) : (d.updBaro f).smp = d.smp := rfl
@[simp] theorem Dev.updBaro_out (d : Dev) (f : Baro → Baro) : (d.updBaro f).out = d.out := rfl

/-! ### Dev.updTick -/

@[simp] theorem Dev.updTick_bld (d : Dev) (f : Tick → Tick) : (d.updTick f).bld = d.bld := rfl
@[simp] theorem Dev.updTick_regs (d : Dev) (f : Tick → Tick) : (d.updTick f).regs = d.regs := rfl
@[simp] theorem Dev.updTick_phases (d : Dev) (f : Tick → Tick) : (d.updTick f).phases = d.phases := rfl
@[simp] theorem Dev.updTick_rails (d : Dev) (f : Tick → Tick) : (d.updTick f).rails = d.rails := rfl
@[simp] theorem Dev.updTick_tune (d : Dev) (f : Tick → Tick) : (d.updTick f).tune = d.tune := rfl
@[simp] theorem Dev.updTick_sats (d : Dev) (f : Tick → Tick) : (d.updTick f).sats = d.sats := rfl
@[simp] theorem Dev.updTick_cal (d : Dev) (f : Tick → Tick) : (d.updTick f).cal = d.cal := rfl
@[simp] theorem Dev.updTick_wave (d : Dev) (f : Tick → Tick) : (d.updTick f).wave = d.wave := rfl
@[simp] theorem Dev.updTick_doms (d : Dev) (f : Tick → Tick) : (d.updTick f).doms = d.doms := rfl
@[simp] theorem Dev.updTick_gov (d : Dev) (f : Tick → Tick) : (d.updTick f).gov = d.gov := rfl
@[simp] theorem Dev.updTick_credit (d : Dev) (f : Tick → Tick) : (d.updTick f).credit = d.credit := rfl
@[simp] theorem Dev.updTick_claims (d : Dev) (f : Tick → Tick) : (d.updTick f).claims = d.claims := rfl
@[simp] theorem Dev.updTick_hint (d : Dev) (f : Tick → Tick) : (d.updTick f).hint = d.hint := rfl
@[simp] theorem Dev.updTick_step (d : Dev) (f : Tick → Tick) : (d.updTick f).step = d.step := rfl
@[simp] theorem Dev.updTick_fc (d : Dev) (f : Tick → Tick) : (d.updTick f).fc = d.fc := rfl
@[simp] theorem Dev.updTick_therm (d : Dev) (f : Tick → Tick) : (d.updTick f).therm = d.therm := rfl
@[simp] theorem Dev.updTick_iso (d : Dev) (f : Tick → Tick) : (d.updTick f).iso = d.iso := rfl
@[simp] theorem Dev.updTick_act (d : Dev) (f : Tick → Tick) : (d.updTick f).act = d.act := rfl
@[simp] theorem Dev.updTick_dz (d : Dev) (f : Tick → Tick) : (d.updTick f).dz = d.dz := rfl
@[simp] theorem Dev.updTick_bud (d : Dev) (f : Tick → Tick) : (d.updTick f).bud = d.bud := rfl
@[simp] theorem Dev.updTick_memPort (d : Dev) (f : Tick → Tick) : (d.updTick f).memPort = d.memPort := rfl
@[simp] theorem Dev.updTick_led (d : Dev) (f : Tick → Tick) : (d.updTick f).led = d.led := rfl
@[simp] theorem Dev.updTick_ex (d : Dev) (f : Tick → Tick) : (d.updTick f).ex = d.ex := rfl
@[simp] theorem Dev.updTick_mbox (d : Dev) (f : Tick → Tick) : (d.updTick f).mbox = d.mbox := rfl
@[simp] theorem Dev.updTick_stw (d : Dev) (f : Tick → Tick) : (d.updTick f).stw = d.stw := rfl
@[simp] theorem Dev.updTick_wrd (d : Dev) (f : Tick → Tick) : (d.updTick f).wrd = d.wrd := rfl
@[simp] theorem Dev.updTick_nv (d : Dev) (f : Tick → Tick) : (d.updTick f).nv = d.nv := rfl
@[simp] theorem Dev.updTick_baro (d : Dev) (f : Tick → Tick) : (d.updTick f).baro = d.baro := rfl
@[simp] theorem Dev.updTick_snaps (d : Dev) (f : Tick → Tick) : (d.updTick f).snaps = d.snaps := rfl
@[simp] theorem Dev.updTick_wiping (d : Dev) (f : Tick → Tick) : (d.updTick f).wiping = d.wiping := rfl
@[simp] theorem Dev.updTick_wipeBad (d : Dev) (f : Tick → Tick) : (d.updTick f).wipeBad = d.wipeBad := rfl
@[simp] theorem Dev.updTick_missSent (d : Dev) (f : Tick → Tick) : (d.updTick f).missSent = d.missSent := rfl
@[simp] theorem Dev.updTick_capRam (d : Dev) (f : Tick → Tick) : (d.updTick f).capRam = d.capRam := rfl
@[simp] theorem Dev.updTick_lvl0 (d : Dev) (f : Tick → Tick) : (d.updTick f).lvl0 = d.lvl0 := rfl
@[simp] theorem Dev.updTick_lvl1 (d : Dev) (f : Tick → Tick) : (d.updTick f).lvl1 = d.lvl1 := rfl
@[simp] theorem Dev.updTick_fit (d : Dev) (f : Tick → Tick) : (d.updTick f).fit = d.fit := rfl
@[simp] theorem Dev.updTick_fitUse (d : Dev) (f : Tick → Tick) : (d.updTick f).fitUse = d.fitUse := rfl
@[simp] theorem Dev.updTick_sqActive (d : Dev) (f : Tick → Tick) : (d.updTick f).sqActive = d.sqActive := rfl
@[simp] theorem Dev.updTick_sqGated (d : Dev) (f : Tick → Tick) : (d.updTick f).sqGated = d.sqGated := rfl
@[simp] theorem Dev.updTick_evq (d : Dev) (f : Tick → Tick) : (d.updTick f).evq = d.evq := rfl
@[simp] theorem Dev.updTick_evd (d : Dev) (f : Tick → Tick) : (d.updTick f).evd = d.evd := rfl
@[simp] theorem Dev.updTick_sqReq (d : Dev) (f : Tick → Tick) : (d.updTick f).sqReq = d.sqReq := rfl
@[simp] theorem Dev.updTick_smp (d : Dev) (f : Tick → Tick) : (d.updTick f).smp = d.smp := rfl
@[simp] theorem Dev.updTick_out (d : Dev) (f : Tick → Tick) : (d.updTick f).out = d.out := rfl

/-! ### States -/

@[simp] theorem State.onDev_pending (s : State) (g : Dev → Dev) : (s.onDev g).pending = s.pending := rfl
@[simp] theorem State.updWrd_pending (s : State) (g : Warden → Warden) : (s.updWrd g).pending = s.pending := rfl
@[simp] theorem State.updStw_pending (s : State) (g : Steward → Steward) : (s.updStw g).pending = s.pending := rfl
@[simp] theorem State.onDev_aon (s : State) (g : Dev → Dev) : (s.onDev g).aon = s.aon := rfl
@[simp] theorem State.updWrd_aon (s : State) (g : Warden → Warden) : (s.updWrd g).aon = s.aon := rfl
@[simp] theorem State.updStw_aon (s : State) (g : Steward → Steward) : (s.updStw g).aon = s.aon := rfl
@[simp] theorem State.onDev_hdr (s : State) (g : Dev → Dev) : (s.onDev g).hdr = s.hdr := rfl
@[simp] theorem State.updWrd_hdr (s : State) (g : Warden → Warden) : (s.updWrd g).hdr = s.hdr := rfl
@[simp] theorem State.updStw_hdr (s : State) (g : Steward → Steward) : (s.updStw g).hdr = s.hdr := rfl
@[simp] theorem State.onDev_test (s : State) (g : Dev → Dev) : (s.onDev g).test = s.test := rfl
@[simp] theorem State.updWrd_test (s : State) (g : Warden → Warden) : (s.updWrd g).test = s.test := rfl
@[simp] theorem State.updStw_test (s : State) (g : Steward → Steward) : (s.updStw g).test = s.test := rfl
@[simp] theorem State.onDev_testUse (s : State) (g : Dev → Dev) : (s.onDev g).testUse = s.testUse := rfl
@[simp] theorem State.updWrd_testUse (s : State) (g : Warden → Warden) : (s.updWrd g).testUse = s.testUse := rfl
@[simp] theorem State.updStw_testUse (s : State) (g : Steward → Steward) : (s.updStw g).testUse = s.testUse := rfl
@[simp] theorem State.onDev_dev (s : State) (g : Dev → Dev) : (s.onDev g).dev = g s.dev := rfl
@[simp] theorem State.ends_pending (s : State) (es : List Event) (o : List Out) (d : Dev) : (s.ends es o d).pending = s.pending := rfl
@[simp] theorem State.ends_aon (s : State) (es : List Event) (o : List Out) (d : Dev) : (s.ends es o d).aon = s.aon := rfl
@[simp] theorem State.ends_test (s : State) (es : List Event) (o : List Out) (d : Dev) : (s.ends es o d).test = s.test := rfl
@[simp] theorem State.ends_testUse (s : State) (es : List Event) (o : List Out) (d : Dev) : (s.ends es o d).testUse = s.testUse := rfl
@[simp] theorem State.ends_hdr (s : State) (es : List Event) (o : List Out) (d : Dev) :
    (s.ends es o d).hdr = s.hdr.enterAll es := rfl

end Sys2Proof.Machine
end

