-- ==== Sys2Proof/Laws/Write.lean ====
section
/-!
SUPPORT. Laws/Write.lean: what a write to the register aperture does, once.
-/
namespace Sys2Proof.Machine

/-- A write to a present register of a page that is READY, that no rule refuses as a whole and that meets no field without
its guard, stores its fields and has the effects of its register (R92, R95, R100, R105). -/
theorem busWrite_takes (s : State) (a : Acc) (adr v : Nat) (r : Reg) (j : Nat)
    (hp : s.dev.pagePresent (adr / 1024) = true) (ho : ¬ adr % 1024 * 4 < 0x40)
    (hr : regAt (adr / 1024) (adr % 1024 * 4) = some (r, j))
    (hi : s.dev.regPresent (pageBase (adr / 1024)) (pageInst (adr / 1024)) r.off j = true)
    (hy : s.dev.ready (adr / 1024) = true)
    (hm : r.flds.any (fun f => s.meets a f (pageInst (adr / 1024)) j v) = false)
    (ht : s.dev.tmrForeign a (pageBase (adr / 1024)) r.off j = false)
    (hw : s.dev.wordRefused (pageBase (adr / 1024)) (pageInst (adr / 1024)) r.off j v = false) :
    s.busWrite a adr v =
      { s.writeReg a r (pageBase (adr / 1024)) (pageInst (adr / 1024)) j v with
        dev := { (s.writeReg a r (pageBase (adr / 1024)) (pageInst (adr / 1024)) j v).dev with
          evq := s.dev.evq ++ onceBad
            ((s.writeReg a r (pageBase (adr / 1024)) (pageInst (adr / 1024)) j v).dev.evq.drop s.dev.evq.length) } } := by
  unfold State.busWrite
  simp only [hp, hr, hi, hy, hm, Bool.not_true, Bool.false_eq_true, if_false, if_neg ho]
  simp only [ht, hw, Bool.false_and, Bool.false_eq_true, if_false]

end Sys2Proof.Machine
end

