-- ==== Sys2Proof/Tests/Slice0.lean ====
section
/-!
SUPPORT. Tests/Slice0.lean: ill-formed commands that `Instr.wf` refuses, a few single steps with results worked out by hand
from the spec, and for each statement of Certificates/Slice0/Obligations.lean that has hypotheses, states and operands that
meet them.
-/
open Sys2Proof Sys2Proof.Machine

section Slice0Tests

set_option linter.unusedVariables false
set_option Elab.async false

/-- A small build for tests: four cores, four phases, two rails, two domains, two satellites. -/
def tinyBuild : Build :=
  { cores := 4, phases := 4, rails := 2, domains := 2, creditCh := 2, hintPorts := 2, vsPresent := 3,
    dsMap := [(0, 0), (1, 1)], segs := [2, 1], xts := 2 }

/-- The small build right after its wipes are done. -/
def tiny : State := { dev := { Dev.fresh tinyBuild with wiping := [] } }

/-- A secure access of a host agent at the register port, and at the table port. -/
def accReg : Acc := ⟨.regPort, 5, true, true⟩
def accTbl : Acc := ⟨.tblPort, 5, true, true⟩

/-- The device after a command on the small build; the small build itself where the command gives no next state. -/
def devAfter (s : State) (c : Instr) : Dev :=
  match exec c s with
  | .next t => t.dev
  | .fault _ => tiny.dev
  | .refused _ => tiny.dev

/-! ## Ill-formed commands are refused -/

/-- R106: the control cores' accesses carry their own master ID and attributes. -/
theorem test_wf_path_attributes :
    Instr.wf (.registerRead ⟨.steward, 0xF1, true, true⟩ 0) = false ∧
    Instr.wf (.registerRead ⟨.steward, 5, false, true⟩ 0) = false ∧
    Instr.wf (.registerRead ⟨.warden, 0xF0, false, true⟩ 0) = false ∧
    Instr.wf (.registerRead accSteward 0) = true ∧ Instr.wf (.registerRead accWarden 0) = true := by decide

/-- R44: the register port does not reach the tables, nor the table port the registers. -/
theorem test_wf_apertures :
    Instr.wf (.registerRead accTbl 0) = false ∧ Instr.wf (.tblRead accReg 0) = false ∧
    Instr.wf (.registerWrite accTbl 0 0) = false ∧ Instr.wf (.heartbeat accTbl 0) = false ∧
    Instr.wf (.registerRead accReg 0) = true ∧ Instr.wf (.tblRead accTbl 0) = true := by decide

/-- R116, R322, R418, R473: the key of a key row is the written word. -/
theorem test_wf_keys :
    Instr.wf (.blockReset accReg 0xB10D) = false ∧ Instr.wf (.sqForce accReg 0x5C02) = false ∧
    Instr.wf (.stewardHalt accReg 0x5E7C) = false ∧ Instr.wf (.wardenRestart accReg 0) = false ∧
    Instr.wf (.lockall accReg 0x10CB) = false ∧ Instr.wf (.blockReset accReg 0xB10C) = true := by decide

/-- A row that writes one value of a field has that value in its word. -/
theorem test_wf_field_values :
    Instr.wf (.phaseRetrain 0 accReg 0) = false ∧ Instr.wf (.phaseClear 0 accReg 0) = false ∧
    Instr.wf (.phaseForced 0 accReg 0) = false ∧ Instr.wf (.railRun 0 accReg 0) = false ∧
    Instr.wf (.railStop 0 accReg 0xFFFFFFFF) = false ∧ Instr.wf (.loopOpen 0 accReg 0xFFFFFFFF) = false ∧
    Instr.wf (.loopClose 0 accReg 0) = false ∧ Instr.wf (.tuneArm accReg 0) = false ∧
    Instr.wf (.tuneStop accReg 0) = false ∧ Instr.wf (.mapUseWrite 0 accReg 0) = false ∧
    Instr.wf (.calGo accReg 0) = false ∧ Instr.wf (.waveArm accReg 0) = false ∧
    Instr.wf (.waveStop accReg 0) = false ∧ Instr.wf (.levelBankSwap accReg 0) = false ∧
    Instr.wf (.stepSwap accReg 0) = false ∧ Instr.wf (.stepSwapNow accReg 0) = false ∧
    Instr.wf (.fcastSwap accReg 0) = false ∧ Instr.wf (.fcastRearm accReg 0) = false ∧
    Instr.wf (.critIdxDone accReg 0) = false ∧ Instr.wf (.isobarApplyGo accReg 0) = false := by decide

/-- The same for the rest of these rows. -/
theorem test_wf_field_values_rest :
    Instr.wf (.prerampGo accReg 0) = false ∧ Instr.wf (.ledgerClose accReg 0) = false ∧
    Instr.wf (.ledgerQuery accReg 0) = false ∧ Instr.wf (.ledgerFlush accReg 0) = false ∧
    Instr.wf (.exportMark accReg 0) = false ∧ Instr.wf (.exportRewind accReg 0) = false ∧
    Instr.wf (.exportRelease accReg 0) = false ∧ Instr.wf (.mboxTake 0 accReg 0) = false ∧
    Instr.wf (.loadPcc accReg 0) = false ∧ Instr.wf (.baroFreezeHold accReg 0) = false ∧
    Instr.wf (.baroFreezeRelease accReg 0) = false ∧ Instr.wf (.baroSnap accReg 0) = false ∧
    Instr.wf (.baroMirrorNow accReg 0) = false ∧ Instr.wf (.baroRestoreDone accReg 0) = false ∧
    Instr.wf (.claim accReg 2) = false ∧ Instr.wf (.release accReg 1) = false ∧
    Instr.wf (.claimBreak accReg 0) = false ∧ Instr.wf (.evtNext accReg 0) = false := by decide

/-- The instances of the largest build bound the operands. -/
theorem test_wf_instances :
    Instr.wf (.forwardSlot 80 0) = false ∧ Instr.wf (.returnFrame 80 0 0) = false ∧ Instr.wf (.returnFrame 0 6 0) = false ∧
    Instr.wf (.linkStepTimeout 80) = false ∧ Instr.wf (.phaseEnWrite 80 accReg 1) = false ∧
    Instr.wf (.phaseRetrain 80 accReg 0xFFFFFFFF) = false ∧ Instr.wf (.phaseClear 80 accReg 0xFFFFFFFF) = false ∧
    Instr.wf (.phaseForced 8 accReg 0xFFFFFFFF) = false ∧ Instr.wf (.railCycleStart 8 0) = false ∧
    Instr.wf (.railVsLost 8) = false ∧ Instr.wf (.railVsSquall 8) = false ∧
    Instr.wf (.railRun 8 accReg 0xFFFFFFFF) = false ∧ Instr.wf (.railStop 8 accReg 0) = false ∧
    Instr.wf (.loopOpen 8 accReg 0) = false ∧ Instr.wf (.loopClose 8 accReg 0xFFFFFFFF) = false ∧
    Instr.wf (.railOpenTimeout 8) = false ∧ Instr.wf (.coefEditWrite 8 0 accReg 0) = false ∧
    Instr.wf (.coefEditWrite 0 8 accReg 0) = false ∧ Instr.wf (.railSrcWrite 8 accReg 0) = false ∧
    Instr.wf (.railCmd 8 accReg 0) = false ∧ Instr.wf (.avsResponse 8 true 0 0) = false ∧
    Instr.wf (.railAvsTimeout 8) = false ∧ Instr.wf (.creditStarve 8) = false := by decide

/-- The same for satellites, domains, scopes, cores and ports. -/
theorem test_wf_instances_rest :
    Instr.wf (.dsEvtAccept 64 0 0) = false ∧ Instr.wf (.servoStep 64) = false ∧ Instr.wf (.droopStuck 64) = false ∧
    Instr.wf (.mapUseWrite 64 accReg 0xFFFFFFFF) = false ∧ Instr.wf (.dsClkEdge 64 0) = false ∧
    Instr.wf (.sitePowerUp true 64) = false ∧ Instr.wf (.sitePowerUp false 256) = false ∧
    Instr.wf (.gustReleaseWaitEnd 32) = false ∧ Instr.wf (.gustLong 32) = false ∧
    Instr.wf (.satelliteInUse 32 0) = false ∧ Instr.wf (.cdAckFall 32 true) = false ∧
    Instr.wf (.cdPrepAck 32) = false ∧ Instr.wf (.cdSwitchRaise 32) = false ∧ Instr.wf (.cdSwitchAck 32) = false ∧
    Instr.wf (.cdUngate 32) = false ∧ Instr.wf (.levelPrepTimeout 32) = false ∧
    Instr.wf (.levelSwitchTimeout 32) = false ∧ Instr.wf (.govEscLevel 9) = false ∧ Instr.wf (.govEscPool 9) = false ∧
    Instr.wf (.creditRequest [(512, 0)] false) = false ∧ Instr.wf (.creditReturn 512 0) = false ∧
    Instr.wf (.creditReclaim 512 0) = false ∧ Instr.wf (.creditReclaim 0 2) = false ∧
    Instr.wf (.fillTimeout 512) = false ∧ Instr.wf (.mediumPromote 512) = false ∧
    Instr.wf (.activityCounts 32 false []) = false ∧ Instr.wf (.hintToken [(32, 0)] 0 0) = false ∧
    Instr.wf (.drizzleIdleSet 512) = false ∧ Instr.wf (.drizzleWaitExpired 512) = false := by decide

/-- The same for sensors, zones, mailboxes, timers, pages and test instruments. -/
theorem test_wf_instances_units :
    Instr.wf (.thermRingFail 4) = false ∧ Instr.wf (.thermExcluded 256) = false ∧ Instr.wf (.thermReadmit 256) = false ∧
    Instr.wf (.thermZoneLost 32) = false ∧ Instr.wf (.xtSample 16 true (some 0)) = false ∧ Instr.wf (.thermXtStale 16) = false ∧
    Instr.wf (.pmbTimeout 2) = false ∧ Instr.wf (.telemetry 5) = false ∧ Instr.wf (.mboxDataWrite 6 accReg 0) = false ∧
    Instr.wf (.mboxTake 6 accReg 0xFFFFFFFF) = false ∧ Instr.wf (.mboxRing 6 accReg 0) = false ∧
    Instr.wf (.mboxDbClear 6 accReg 0) = false ∧ Instr.wf (.tmrWrite 16 accReg 0) = false ∧
    Instr.wf (.claimTimer 16) = false ∧ Instr.wf (.pageFaultClear 32 accReg 0) = false ∧
    Instr.wf (.aonWriteDone 32) = false ∧ Instr.wf (.pageWipeDone 0x01 true) = false ∧
    Instr.wf (.testDeselect 4) = false ∧ Instr.wf (.testAccess 4) = false := by decide

/-- R83, R84: the tasks with an overrun result, and the fixed tasks. -/
theorem test_wf_tasks : Instr.wf (.tickOverrun 0x01) = false ∧ Instr.wf (.tickFixedOverrun 0x05) = false := by decide

/-- What arrives fits the port it arrives at. -/
theorem test_wf_arrivals :
    Instr.wf (.railTick [[], [], [], [], [], [], [], [], []]) = false ∧ Instr.wf (.railTick [[16384]]) = false ∧
    Instr.wf (.thermTick ([[], [], [], [], []], []) (0, false)) = false ∧
    Instr.wf (.activityCounts 0 false [0, 0, 0, 0, 0, 0, 0, 0, 0, 0, 0, 0, 0, 0, 0, 0, 0]) = false ∧
    Instr.wf (.pmbPollDone (some 2) [] []) = false ∧ Instr.wf (.pmbPollDone none [[], [], [], [], [], [], []] []) = false ∧
    Instr.wf (.pmbPollDone none [] [[], [], [], [], [], [], []]) = false ∧
    Instr.wf (.wardenBoot [(3, 1), (2, 1)] [] true) = false := by decide

/-! ## Worked examples of the spec -/

/-- R9, the example of spec/00_scope.md. -/
theorem test_fixed_point : mulCoef (-3) 1 1 = -1 ∧ mulCoef 0x40000000 2 0 = 0x7FFFFFFF := by decide

/-- R291: the three values of the exponential table that the spec gives. -/
theorem test_lut : lut 0 = 65536 ∧ lut 128 = 46341 ∧ lut 255 = 32857 := by decide +kernel

/-- R291, row A of the example. -/
theorem test_softmax_row_a :
    softmax [some 0x300, some 0x280, some 0x100, some 0x300, none] = ([11082, 7835, 2770, 11081, 0], false) := by
  decide +kernel

/-- R291, rows B and C of the example: saturated logits share the weight, and an empty window is a null row. -/
theorem test_softmax_rows_b_c :
    softmax [none, some 0x7FFF, some 0x300, some 0x7FFF, some 0x7FFF] = ([0, 10924, 0, 10922, 10922], false) ∧
    softmax [none, none] = ([0, 0], true) := by decide +kernel

/-- R380, the example of spec/16_budget_ledger.md: the beat's energy and its shares. -/
theorem test_shares :
    roundDivN (3000 * 1681) 16 = 315188 ∧
    shares [(3, 960, 0), (0x4A21, 2160, 0), (0x51F0, 1440, 0), (1, 480, 0), (2, 560, 0)] 315188
      = [(0, 2, 0), (3, 54032, 0), (0x4A21, 121572, 0), (0x51F0, 81048, 0), (1, 27016, 0), (2, 31518, 0)] := by decide

/-- R334, the example of four members in spec/14_isobar.md: the reduced key, CONTRIB and IDXSUM, and no mismatch. -/
theorem test_reduction :
    let c : IsoCfg := { group := 7, count := 4 }
    let m (key idx : Nat) : Nat := isoMsg c 1 0 0 (minPayload key 1 1 0xFFFF 1 idx)
    let r := combine (combine (m 0x1DB000000000008F 0) (m 0x1C20000100000086 1))
      (combine (m 0x1DB000020000008F 2) (m 0x1C20000300000080 3))
    msgKey r = 0x1C20000100000086 ∧ msgNum r 0x20 4 = 4 ∧ msgNum r 0x24 4 = 6 ∧ msgFlag r 2 = false := by decide +kernel

/-! ## Single steps -/

/-- Log entry 1: with no command waiting the block idles. -/
theorem test_idle : step tiny = .next tiny := by rfl

/-- R103: a read answers what an earlier write of the register left. -/
theorem test_write_then_read :
    (match exec (.registerWrite accReg (BitVec.ofNat 15 (GOV.RLIM_EDC.adr 0 1)) 0x123) tiny with
     | .next t => (devAfter t (.registerRead accReg (BitVec.ofNat 15 (GOV.RLIM_EDC.adr 0 1)))).out
     | _ => []) = [.rdata 0x123] := by decide +kernel

/-- R104: a write without a privilege that the register asks for changes nothing. -/
theorem test_guard :
    (devAfter tiny (.registerWrite ⟨.regPort, 5, false, false⟩ (BitVec.ofNat 15 (GOV.RLIM_EDC.adr 0 1)) 0x123)).rd
      GOV.RLIM_EDC 0 1 = tiny.dev.rd GOV.RLIM_EDC 0 1 := by decide +kernel

/-- R6: read data that nothing asked for. -/
theorem test_unsolicited : exec (.memReadData 0) tiny = .fault (.unsolicited "MEM read") := by rfl

/-! ## The hypotheses of the statements are met -/

/-- The hypotheses of ResetsClearTheirDomains are met, clause by clause. -/
theorem test_hyps_ResetsClearTheirDomains :
    (∃ (s : State), s.settled = true) ∧
    (∃ (s : State), s.settled = true ∧ s.aon.squall.active = false) ∧
    (∃ (s : State), s.settled = true ∧ s.aon.squall.active = false) ∧
    (∃ (s : State) (a : Acc) (v : BitVec 32), s.settled = true ∧ s.aon.squall.active = false
      ∧ s.dev.ready 0x00 = true ∧ a.privOk = true ∧ v = 0x0000B10C#32) ∧
    (∃ (s : State) (x : Nat), s.settled = true ∧ s.aon.squall.active = false ∧ s.test.contains x = true ∧ x ≠ 0) ∧
    (∃ (s : State) (x : Nat), s.settled = true ∧ s.test.contains x = true ∧ x = 0) ∧
    (∃ (s : State), s.settled = true ∧ s.aon.squall.active = false ∧ s.dev.wrd.lcReset = true) :=
  ⟨⟨tiny, by decide +kernel⟩,
   ⟨tiny, by decide +kernel⟩,
   ⟨tiny, by decide +kernel⟩,
   ⟨tiny, ⟨.regPort, 5, false, true⟩, 0x0000B10C#32, by decide +kernel⟩,
   ⟨(fun s => { s with test := [0, 1] }) tiny, 1, by decide +kernel⟩,
   ⟨(fun s => { s with test := [0, 1] }) tiny, 0, by decide +kernel⟩,
   ⟨(fun s => { s with dev := { s.dev with wrd := { s.dev.wrd with lcReset := true } } }) tiny, by decide +kernel⟩⟩

/-- The hypotheses of ResetKeepsSquallLatch are met, clause by clause. -/
theorem test_hyps_ResetKeepsSquallLatch :
    (∃ (s : State), s.settled = true ∧ s.aon.squall.active = true) ∧
    (∃ (s : State), s.settled = true ∧ s.aon.squall.active = true) ∧
    (∃ (s : State) (a : Acc) (v : BitVec 32), s.settled = true ∧ s.aon.squall.active = true
      ∧ s.dev.ready 0x00 = true ∧ a.privOk = true ∧ v = 0x0000B10C#32) ∧
    (∃ (s : State) (x : Nat), s.settled = true ∧ s.aon.squall.active = true ∧ s.test.contains x = true ∧ x ≠ 0) ∧
    (∃ (s : State), s.settled = true ∧ s.aon.squall.active = true ∧ s.dev.wrd.lcReset = true) :=
  ⟨⟨(fun s => { s with aon := { s.aon with squall := { s.aon.squall with active := true } } }) tiny, by decide +kernel⟩,
   ⟨(fun s => { s with aon := { s.aon with squall := { s.aon.squall with active := true, recDone := true } } }) tiny,
     by decide +kernel⟩,
   ⟨(fun s => { s with aon := { s.aon with squall := { s.aon.squall with active := true } } }) tiny, ⟨.regPort, 5,
     false, true⟩, 0x0000B10C#32, by decide +kernel⟩,
   ⟨(fun s => { s with test := [0, 1], aon := { s.aon with squall := { s.aon.squall with active := true } } }) tiny,
     1, by decide +kernel⟩,
   ⟨(fun s => { s with
     aon := { s.aon with squall := { s.aon.squall with active := true } },
     dev := { s.dev with wrd := { s.dev.wrd with lcReset := true } } }) tiny, by decide +kernel⟩⟩

/-- The hypotheses of WipesEndAndInstrumentsRun are met, clause by clause. -/
theorem test_hyps_WipesEndAndInstrumentsRun :
    (∃ (s : State) (page : Nat), s.settled = true ∧ s.dev.wiping.contains page = true
      ∧ s.dev.wipeBad.contains page = false) ∧
    (∃ (s : State) (page : Nat), s.settled = true ∧ s.dev.wiping.contains page = true
      ∧ s.dev.wipeBad.contains page = false) ∧
    (∃ (s : State) (x : Nat), s.settled = true ∧ x = 0) ∧
    (∃ (s : State) (x : Nat), s.settled = true ∧ (x = 2 ∨ x = 3) ∧ s.dev.rd SEC.LC_VALID = 1
      ∧ s.dev.rd SEC.LC_STATE ≤ 2) ∧
    (∃ (s : State) (x : Nat), s.settled = true ∧ (x = 2 ∨ x = 3) ∧ s.dev.rd SEC.LC_VALID = 1
      ∧ s.dev.rd SEC.LC_STATE = 4 ∧ s.dev.rd SEC.LC_DEBUG_AUTH = 1) ∧
    (∃ (s : State) (x : Nat), s.settled = true ∧ x ≠ 0 ∧ (s.dev.rd SEC.LC_STATE = 3 ∨ s.dev.rd SEC.LC_STATE = 5)) ∧
    (∃ (s : State) (x : Nat), s.settled = true ∧ x = 1 ∧ s.dev.rd SEC.LC_VALID = 1 ∧ s.dev.rd SEC.LC_STATE ≤ 2) :=
  ⟨⟨(fun s => { s with dev := { s.dev with wiping := [3, 4] } }) tiny, 4, by decide +kernel⟩,
   ⟨(fun s => { s with dev := { s.dev with wiping := [3, 4] } }) tiny, 3, by decide +kernel⟩,
   ⟨tiny, 0, by decide +kernel⟩,
   ⟨(fun s => { s with dev := { s.dev with regs := (s.dev.regs.put SEC.LC_VALID 0 0 1).put SEC.LC_STATE 0 0 0 } })
     tiny, 2, by decide +kernel⟩,
   ⟨(fun s => { s with dev := (s.dev.wr SEC.LC_VALID 1 |>.wr SEC.LC_STATE 4 |>.wr SEC.LC_DEBUG_AUTH 1) }) tiny, 3, by
     decide +kernel⟩,
   ⟨(fun s => { s with dev := (s.dev.wr SEC.LC_VALID 1 |>.wr SEC.LC_STATE 3) }) tiny, 2, by decide +kernel⟩,
   ⟨(fun s => { s with dev := { s.dev with regs := (s.dev.regs.put SEC.LC_VALID 0 0 1).put SEC.LC_STATE 0 0 0 } })
     tiny, 1, by decide +kernel⟩⟩

/-- The hypotheses of AlwaysOnWritesAndOperatingTime are met, clause by clause. -/
theorem test_hyps_AlwaysOnWritesAndOperatingTime :
    (∃ (s : State) (a : Acc) (v : BitVec 32), s.settled = true ∧ s.dev.ready 0x02 = true ∧ a.sec = true
      ∧ bitsAt v.toNat 31 1 = 1) ∧
    (∃ (s : State) (page : Nat) (m : Nat) (v : Nat) (r : List (Nat × AonWrite)), s.settled = true
      ∧ s.aon.posted = (page, .wake m v) :: r ∧ (m = 2 ∨ m = 5)) ∧
    (∃ (s : State) (page : Nat) (secs : Nat) (pcc : Nat) (r : List (Nat × AonWrite)), s.settled = true
      ∧ s.aon.posted = (page, .load secs pcc) :: r) ∧
    (∃ (s : State) (page : Nat) (r : List (Nat × AonWrite)), s.settled = true ∧ s.aon.posted = (page, .nothing) :: r) ∧
    (∃ (s : State), s.settled = true) ∧
    (∃ (s : State), s.settled = true ∧ s.aon.hour = true ∧ s.dev.rd SEC.LC_VALID = 1 ∧ s.dev.rd SEC.LC_BROKEN = 0
      ∧ s.dev.wrd.lifeRun = none) :=
  ⟨⟨tiny, accWarden, 0x80000123#32, by decide +kernel⟩,
   ⟨(fun s => { s with aon := { s.aon with posted := [(3, AonWrite.wake 2 1)] } }) tiny, 3, 2, 1, [], by decide +kernel⟩,
   ⟨(fun s => { s with aon := { s.aon with posted := [(3, AonWrite.load 5 1)] } }) tiny, 3, 5, 1, [], by decide +kernel⟩,
   ⟨(fun s => { s with aon := { s.aon with posted := [(3, AonWrite.nothing)] } }) tiny, 3, [], by decide +kernel⟩,
   ⟨tiny, by decide +kernel⟩,
   ⟨(fun s => { s with
     aon := { s.aon with hour := true }, dev := { s.dev with
       regs := (s.dev.regs.put SEC.LC_VALID 0 0 1).put SEC.LC_BROKEN 0 0 0,
       wrd := { s.dev.wrd with lifeRun := none } } }) tiny, by decide +kernel⟩⟩

/-- The hypotheses of LockallAndWardenBoot are met, clause by clause. -/
theorem test_hyps_LockallAndWardenBoot :
    (∃ (s : State) (a : Acc) (v : BitVec 32), s.settled = true ∧ s.dev.ready 0x02 = true ∧ a.sec = true
      ∧ v = 0x000010CA#32 ∧ (s.dev.rd SEC.BOOT_PROFILE = 1 ∨ a.path = .warden)) ∧
    (∃ (s : State), s.settled = true ∧ s.dev.wrd.measBusy = true) ∧
    (∃ (s : State) (p : Bool), s.settled = true ∧ s.dev.wrd.wiped = true ∧ s.dev.wrd.st = .boot
      ∧ s.dev.wrd.waiting = none ∧ s.dev.wrd.got = none ∧ s.dev.wrd.restart = false
      ∧ s.aon.loaded = false ∧ s.dev.nvClosed = false) ∧
    (∃ (s : State) (nv : List (Nat × BitVec 8)) (bad : List Nat) (p : Bool), s.settled = true
      ∧ s.dev.wrd.wiped = true ∧ s.dev.wrd.st = .boot ∧ s.dev.wrd.waiting = none
      ∧ s.dev.wrd.restart = true ∧ s.dev.nvClosed = false) ∧
    (∃ (s : State) (nv : List (Nat × BitVec 8)) (bad : List Nat) (p : Bool), s.settled = true
      ∧ (s.dev.wrd.wiped = false ∨ s.dev.wrd.st ≠ .boot)) ∧
    (∃ (s : State) (nv : List (Nat × BitVec 8)) (bad : List Nat) (p : Bool), s.settled = true
      ∧ s.dev.wrd.wiped = true ∧ s.dev.wrd.st = .boot ∧ s.dev.wrd.waiting = none
      ∧ s.dev.wrd.restart = false ∧ s.dev.nvClosed = true) ∧
    (∃ (s : State) (nv : List (Nat × BitVec 8)) (bad : List Nat) (p : Bool) (x : BootIn), s.settled = true
      ∧ s.dev.wrd.wiped = true ∧ s.dev.wrd.st = .boot ∧ s.dev.wrd.waiting = some x
      ∧ s.dev.wrd.late = 7 ∧ s.dev.nvClosed = false ∧ s.dev.stillWiped 0x1D = false ∧ x.crit 17471 = none) ∧
    (∃ (s : State) (secret : BitVec 256) (x : BootIn), s.settled = true ∧ s.dev.wrd.waiting = some x
      ∧ s.dev.wrd.idReq = true ∧ (s.dev.wrd.late = 2 ∨ s.dev.wrd.late = 4) ∧ s.dev.wrd.got = none) ∧
    (∃ (s : State) (secret : BitVec 256) (x : BootIn), s.settled = true ∧ s.dev.wrd.waiting = some x
      ∧ s.dev.wrd.idReq = true ∧ s.dev.wrd.late = 0 ∧ s.dev.nvClosed = true) ∧
    (∃ (s : State) (secret : BitVec 256) (x : BootIn), s.settled = true ∧ s.dev.wrd.waiting = some x
      ∧ s.dev.wrd.idReq = true ∧ s.dev.wrd.late = 0 ∧ s.dev.nvClosed = false ∧ s.dev.stillWiped 0x1D = true
      ∧ x.crit 17471 = none) ∧
    (∃ (s : State) (secret : BitVec 256) (x : BootIn), s.settled = true ∧ s.dev.wrd.waiting = some x
      ∧ s.dev.wrd.idReq = true ∧ s.dev.wrd.late = 0 ∧ s.dev.nvClosed = false ∧ s.dev.stillWiped 0x1D = false
      ∧ x.crit 17471 = none ∧ secret.toNat ≠ 0 ∧ secret.toNat ≠ 2 ^ 256 - 1) ∧
    (∃ (s : State) (x : BootIn), s.settled = true ∧ s.dev.wrd.waiting = some x
      ∧ s.dev.wrd.idReq = true ∧ s.dev.wrd.late = 0 ∧ s.dev.wrd.got = none
      ∧ s.dev.nvClosed = false ∧ s.dev.stillWiped 0x1D = false ∧ x.crit 17471 = none) :=
  ⟨⟨tiny, accWarden, 0x10CA#32, by decide +kernel⟩,
   ⟨(fun s => { s with dev := { s.dev with wrd := { s.dev.wrd with measBusy := true } } }) tiny, by decide +kernel⟩,
   ⟨(fun s =>
     let s := (fun s => { s with
       dev := { s.dev with
         wiping := [], nv := {},
         wrd := { s.dev.wrd with wiped := true, st := .boot, got := none, waiting := none, restart := false } } }) s;
     { s with aon := { s.aon with loaded := false } }) tiny, false, by decide +kernel⟩,
   ⟨(fun s => { s with
     dev := { s.dev with
       wiping := [], nv := {},
       wrd := { s.dev.wrd with wiped := true, st := .boot, got := none, waiting := none, restart := true } } }) tiny,
     [], [], false, by decide +kernel⟩,
   ⟨(fun s => { s with dev := { (s.dev) with wrd := { s.dev.wrd with wiped := false } } }) tiny, [], [], false, by
     decide +kernel⟩,
   ⟨(fun s => { s with
     dev := { s.dev with
       wiping := [], nv := { block := true },
       wrd := { s.dev.wrd with wiped := true, st := .boot, got := none, waiting := none, restart := false } } }) tiny,
     [], [], false, by decide +kernel⟩,
   ⟨(fun s => { s with
     dev := { s.dev with
       wiping := [], nv := {}, wrd := { s.dev.wrd with
         wiped := true, st := .boot, got := none, waiting := some ⟨[], [], false⟩, late := 7 } } }) tiny, [], [],
     false, ⟨[], [], false⟩, by decide +kernel⟩,
   ⟨(fun s => { s with
     dev := { s.dev with
       wiping := [], nv := {}, wrd := { s.dev.wrd with
         wiped := true, st := .boot, got := none, waiting := some ⟨[], [], false⟩, idReq := true, late := 2 } } })
     tiny, 5#256, ⟨[], [], false⟩, by decide +kernel⟩,
   ⟨(fun s => { s with
     dev := { s.dev with
       wiping := [], nv := { block := true }, wrd := { s.dev.wrd with
         wiped := true, st := .boot, got := none, waiting := some ⟨[], [], false⟩, idReq := true, late := 0 } } })
     tiny, 5#256, ⟨[], [], false⟩, by decide +kernel⟩,
   ⟨(fun s => { s with
     dev := { s.dev with
       wiping := [0x1D], nv := {}, wrd := { s.dev.wrd with
         wiped := true, st := .boot, got := none, waiting := some ⟨[], [], false⟩, idReq := true, late := 0 } } })
     tiny, 5#256, ⟨[], [], false⟩, by decide +kernel⟩,
   ⟨(fun s => { s with
     dev := { s.dev with
       wiping := [], nv := {}, wrd := { s.dev.wrd with
         wiped := true, st := .boot, got := none, waiting := some ⟨[], [], false⟩, idReq := true, late := 0 } } })
     tiny, 5#256, ⟨[], [], false⟩, by decide +kernel⟩,
   ⟨(fun s => { s with
     dev := { s.dev with
       wiping := [], nv := {}, wrd := { s.dev.wrd with
         wiped := true, st := .boot, got := none, waiting := some ⟨[], [], false⟩, idReq := true, late := 0 } } })
     tiny, ⟨[], [], false⟩, by decide +kernel⟩⟩

/-- The hypotheses of MemWindowAndEventRing are met, clause by clause. -/
theorem test_hyps_MemWindowAndEventRing :
    (∃ (s : State) (a : Acc) (v : BitVec 32), s.settled = true ∧ s.dev.ready 0x00 = true ∧ a.privOk = true
      ∧ s.dev.rd TOP.MEM_WIN_BASE_VALID = 0 ∧ bitsAt v.toNat 31 1 = 1 ∧ s.dev.led.filled = false
      ∧ s.dev.memPort = {} ∧ s.dev.led.fillAt = 0) ∧
    (∃ (s : State) (a : Acc) (v : BitVec 32), s.settled = true ∧ s.dev.ready 0x00 = true ∧ a.privOk = true
      ∧ a.path = .regPort ∧ s.dev.rd TOP.EVT_CFG_CONSUMER = 0 ∧ bitsAt v.toNat 0 1 = 1) ∧
    (∃ (s : State) (a : Acc) (v : BitVec 32), s.settled = true ∧ s.dev.ready 0x00 = true
      ∧ a.path = .steward ∧ a.privOk = true ∧ s.dev.rd TOP.EVT_CFG_CONSUMER = 1 ∧ bitsAt v.toNat 0 1 = 1) ∧
    (∃ (s : State) (page : Nat) (a : Acc) (v : BitVec 32), s.settled = true ∧ page < 0x1F
      ∧ s.dev.pagePresent page = true ∧ a.sec = true) ∧
    (∃ (s : State) (page : Nat) (a : Acc) (v : BitVec 32), s.settled = true ∧ page < 0x1F
      ∧ page ≠ 0x02 ∧ s.dev.pagePresent page = true ∧ a.sec = false ∧ a.priv = true ∧ v.toNat &&& fatalMask page = 0) :=
  ⟨⟨tiny, ⟨.regPort, 5, false, true⟩, 0x80000010#32, by decide +kernel⟩,
   ⟨tiny, ⟨.regPort, 5, false, true⟩, 1#32, by decide +kernel⟩,
   ⟨(fun s => { s with dev := s.dev.wr TOP.EVT_CFG_CONSUMER 1 }) tiny, accSteward, 1#32, by decide +kernel⟩,
   ⟨(fun s => { s with hdr := { s.hdr with fault := [(1, 6)] } }) tiny, 1, accWarden, 0xFF#32, by decide +kernel⟩,
   ⟨(fun s => { s with hdr := { s.hdr with fault := [(1, 6)] } }) tiny, 1, accSteward, 2#32, by decide +kernel⟩⟩

/-- The hypotheses of RegisterWritesStoreClampAndRefuse are met, clause by clause. -/
theorem test_hyps_RegisterWritesStoreClampAndRefuse :
    (∃ (s : State) (a : Acc) (adr : BitVec 15) (v : BitVec 32), s.settled = true
      ∧ adr.toNat = FCAST.CFG_FGAIN.adr 0 0 ∧ s.dev.ready 0x15 = true ∧ a.privOk = true ∧ bitsAt v.toNat 16 8 ≤ 64
      ∧ bitsAt v.toNat 8 4 ≤ bitsAt v.toNat 12 4) ∧
    (∃ (s : State) (a : Acc) (adr : BitVec 15) (v : BitVec 32), s.settled = true
      ∧ adr.toNat = FCAST.CFG_FGAIN.adr 0 0 ∧ s.dev.ready 0x15 = true ∧ a.privOk = true ∧ 64 < bitsAt v.toNat 16 8
      ∧ bitsAt v.toNat 8 4 ≤ bitsAt v.toNat 12 4) ∧
    (∃ (s : State) (a : Acc) (adr : BitVec 15) (v : BitVec 32), s.settled = true
      ∧ adr.toNat = BUDGET.FLOOR_FLOOR.adr 0 0 ∧ s.dev.ready 0x1A = true ∧ a.privOk = true
      ∧ s.dev.rd BUDGET.FLOOR_FLOOR ≤ s.dev.rd BUDGET.HARD_GRANT_HARD_GRANT
      ∧ s.dev.rd BUDGET.HARD_GRANT_HARD_GRANT < bitsAt v.toNat 0 16) ∧
    (∃ (s : State) (a : Acc) (adr : BitVec 15) (v : BitVec 32) (r : Reg) (j : Nat), s.settled = true
      ∧ s.dev.pagePresent (adr.toNat / 1024) = true ∧ 0x40 ≤ adr.toNat % 1024 * 4
      ∧ regAt (adr.toNat / 1024) (adr.toNat % 1024 * 4) = some (r, j)
      ∧ s.dev.regPresent (pageBase (adr.toNat / 1024)) (pageInst (adr.toNat / 1024)) r.off j = true
      ∧ s.dev.ready (adr.toNat / 1024) = false) ∧
    (∃ (s : State) (a : Acc) (adr : BitVec 15) (v : BitVec 32), s.settled = true
      ∧ adr.toNat = FCAST.CFG_FGAIN.adr 0 0 ∧ s.dev.ready 0x15 = true ∧ a.privOk = false ∧ bitsAt v.toNat 16 8 ≠
      s.dev.rd FCAST.CFG_FGAIN ∧ s.dev.missSent = false) ∧
    (∃ (s : State) (a : Acc) (adr : BitVec 15) (v : BitVec 32) (p : Nat) (r : Reg) (j : Nat), s.settled = true
      ∧ s.dev.reaches adr.toNat p r j = true ∧ s.dev.ready p = true ∧ commandReg (pageBase p) r.off = false
      ∧ s.wordOk a r (pageInst p) j v.toNat = true) ∧
    (∃ (s : State) (a : Acc) (adr : BitVec 15) (v : BitVec 32) (p : Nat) (r : Reg) (j : Nat), s.settled = true
      ∧ s.dev.reaches adr.toNat p r j = true ∧ s.dev.ready p = true ∧ commandReg (pageBase p) r.off = false
      ∧ clampReg (pageBase p) r.off = false ∧ p ≠ 0x18 ∧ r.flds.all (fun (f : Fld) => f.acc == .ro || (f.acc == .rw &&
      f.grd.okWrite j a)) = true ∧ r.flds.any (fun (f : Fld) => f.acc == .rw && s.fldRefused a f (pageInst p) j
      v.toNat) = true) ∧
    (∃ (s : State) (a : Acc) (adr : BitVec 15) (v : BitVec 32) (p : Nat) (r : Reg) (j : Nat), s.settled = true
      ∧ s.dev.reaches adr.toNat p r j = true ∧ s.dev.ready p = true ∧ commandReg (pageBase p) r.off = false
      ∧ r.flds.all (fun (f : Fld) => f.acc == .ro || (f.acc == .rw && !f.grd.okWrite j a)) = true
      ∧ s.dev.missSent = true) ∧
    (∃ (s : State) (a : Acc) (adr : BitVec 15) (v : BitVec 32) (p : Nat), s.settled = true ∧ adr.toNat / 1024 = p
      ∧ s.dev.pagePresent p = true ∧ adr.toNat % 1024 * 4 = 0x14 ∧ (headerGuard p).okWrite 0 a = true) ∧
    (∃ (s : State) (a : Acc) (adr : BitVec 15) (v : BitVec 32), s.settled = true
      ∧ s.dev.pagePresent (adr.toNat / 1024) = false) :=
  ⟨⟨tiny, ⟨.regPort, 5, false, true⟩, BitVec.ofNat 15 (FCAST.CFG_FGAIN.adr 0 0), 0x8010F040#32, by decide +kernel⟩,
   ⟨tiny, ⟨.regPort, 5, false, true⟩, BitVec.ofNat 15 (FCAST.CFG_FGAIN.adr 0 0), 0x80FFF040#32, by decide +kernel⟩,
   ⟨tiny, ⟨.regPort, 5, false, true⟩, BitVec.ofNat 15 (BUDGET.FLOOR_FLOOR.adr 0 0), 0xFFFF#32, by decide +kernel⟩,
   ⟨(fun s => { s with dev := { s.dev with wiping := [0x15] } }) tiny, ⟨.regPort, 5, false, true⟩, BitVec.ofNat 15
     (FCAST.CFG_FGAIN.adr 0 0), 0#32, ((regAt 0x15 0x44).getD (⟨0,0,0,[]⟩,0)).1, 0, by decide +kernel⟩,
   ⟨tiny, ⟨.regPort, 5, false, false⟩, BitVec.ofNat 15 (FCAST.CFG_FGAIN.adr 0 0), 0x80FFF040#32, by decide +kernel⟩,
   ⟨(fun s => { s with dev := ({ s.dev with wiping := [] }).wr SEC.BOOT_PROFILE 1 }) tiny, accWarden, BitVec.ofNat 15
     (0x1A * 1024 + 0x50 / 4), 0x10#32, 0x1A, ((regAt 0x1A 0x50).getD (⟨0,0,0,[]⟩,0)).1, ((regAt 0x1A 0x50).getD
     (⟨0,0,0,[]⟩,0)).2, by decide +kernel⟩,
   ⟨tiny, ⟨.regPort, 5, false, true⟩, BitVec.ofNat 15 (0x15 * 1024 + 0x44 / 4), 0x80FFF040#32, 0x15, ((regAt 0x15
     0x44).getD (⟨0,0,0,[]⟩,0)).1, ((regAt 0x15 0x44).getD (⟨0,0,0,[]⟩,0)).2, by decide +kernel⟩,
   ⟨(fun s => { s with dev := { s.dev with missSent := true } }) tiny, ⟨.regPort, 5, false, false⟩, BitVec.ofNat 15
     (0x15 * 1024 + 0x44 / 4), 0x80FFF040#32, 0x15, ((regAt 0x15 0x44).getD (⟨0,0,0,[]⟩,0)).1, ((regAt 0x15 0x44).getD
     (⟨0,0,0,[]⟩,0)).2, by decide +kernel⟩,
   ⟨tiny, ⟨.regPort, 5, false, true⟩, BitVec.ofNat 15 (0x15 * 1024 + 5), 3#32, 0x15, by decide +kernel⟩,
   ⟨tiny, accWarden, BitVec.ofNat 15 (0x1F * 1024), 0#32, by decide +kernel⟩⟩

/-- The hypotheses of RegisterReadsAndSnapshots are met, clause by clause. -/
theorem test_hyps_RegisterReadsAndSnapshots :
    (∃ (s : State) (a : Acc) (adr : BitVec 15), s.settled = true ∧ adr.toNat = FCAST.CFG_FGAIN.adr 0 0
      ∧ s.dev.ready 0x15 = true ∧ a.privOk = true) ∧
    (∃ (s : State) (a : Acc) (adr : BitVec 15), s.settled = true ∧ adr.toNat = TICK.BEAT_LO_BEAT.adr 0 0
      ∧ s.dev.ready 0x01 = true) ∧
    (∃ (s : State) (a : Acc) (adr : BitVec 15), s.settled = true ∧ adr.toNat = TICK.BEAT_HI_BEAT.adr 0 0
      ∧ s.dev.ready 0x01 = true) ∧
    (∃ (s : State) (a : Acc) (adr : BitVec 15) (r : Reg) (j : Nat), s.settled = true
      ∧ s.dev.pagePresent (adr.toNat / 1024) = true ∧ 0x40 ≤ adr.toNat % 1024 * 4
      ∧ regAt (adr.toNat / 1024) (adr.toNat % 1024 * 4) = some (r, j)
      ∧ s.dev.regPresent (pageBase (adr.toNat / 1024)) (pageInst (adr.toNat / 1024)) r.off j = true
      ∧ s.dev.ready (adr.toNat / 1024) = false) ∧
    (∃ (s : State) (a : Acc) (adr : BitVec 15) (p : Nat) (r : Reg) (j : Nat), s.settled = true
      ∧ s.dev.reaches adr.toNat p r j = true ∧ s.dev.ready p = true ∧ loRegs.contains (pageBase p, r.off) = false
      ∧ loRegs.contains (pageBase p, adr.toNat % 1024 * 4 - 4) = false ∧ r.flds.any (fun (f : Fld) => f.grd.okRead j
      a) = true) ∧
    (∃ (s : State) (a : Acc) (adr : BitVec 15) (p : Nat) (r : Reg) (j : Nat), s.settled = true
      ∧ s.dev.reaches adr.toNat p r j = true ∧ s.dev.ready p = true ∧ r.flds.all (fun (f : Fld) => !f.grd.okRead j a)
      = true ∧ s.dev.missSent = true) ∧
    (∃ (s : State) (a : Acc) (adr : BitVec 15), s.settled = true ∧ s.dev.pagePresent (adr.toNat / 1024) = false) :=
  ⟨⟨tiny, ⟨.regPort, 5, false, true⟩, BitVec.ofNat 15 (FCAST.CFG_FGAIN.adr 0 0), by decide +kernel⟩,
   ⟨tiny, ⟨.regPort, 5, false, false⟩, BitVec.ofNat 15 (TICK.BEAT_LO_BEAT.adr 0 0), by decide +kernel⟩,
   ⟨tiny, ⟨.regPort, 5, false, false⟩, BitVec.ofNat 15 (TICK.BEAT_HI_BEAT.adr 0 0), by decide +kernel⟩,
   ⟨(fun s => { s with dev := { s.dev with wiping := [0x15] } }) tiny, ⟨.regPort, 5, false, true⟩, BitVec.ofNat 15
     (FCAST.CFG_FGAIN.adr 0 0), ((regAt 0x15 0x44).getD (⟨0,0,0,[]⟩,0)).1, 0, by decide +kernel⟩,
   ⟨tiny, ⟨.regPort, 5, false, true⟩, BitVec.ofNat 15 (0x15 * 1024 + 0x44 / 4), 0x15, ((regAt 0x15 0x44).getD
     (⟨0,0,0,[]⟩,0)).1, ((regAt 0x15 0x44).getD (⟨0,0,0,[]⟩,0)).2, by decide +kernel⟩,
   ⟨(fun s => { s with dev := { s.dev with missSent := true } }) tiny, ⟨.regPort, 5, false, false⟩, BitVec.ofNat 15
     (0x05 * 1024 + 0x40 / 4), 0x05, ((regAt 0x05 0x40).getD (⟨0,0,0,[]⟩,0)).1, ((regAt 0x05 0x40).getD
     (⟨0,0,0,[]⟩,0)).2, by decide +kernel⟩,
   ⟨tiny, accWarden, BitVec.ofNat 15 (0x1F * 1024), by decide +kernel⟩⟩

/-- The hypotheses of TableWindowWritesAndReads are met, clause by clause. -/
theorem test_hyps_TableWindowWritesAndReads :
    (∃ (s : State) (a : Acc) (adr : BitVec 17) (strb : BitVec 2) (v : BitVec 64), s.settled = true
      ∧ 8 * adr.toNat < 0x40000 ∧ s.dev.ready 0x15 = true ∧ a.privOk = true ∧ strb ≠ 0#2) ∧
    (∃ (s : State) (a : Acc) (adr : BitVec 17), s.settled = true ∧ 8 * adr.toNat < 0x40000
      ∧ s.dev.ready 0x15 = true ∧ a.privOk = true) ∧
    (∃ (s : State) (a : Acc) (adr : BitVec 17), s.settled = true ∧ 8 * adr.toNat < 0x40000
      ∧ s.dev.ready 0x15 = true ∧ a.privOk = false ∧ s.dev.missSent = true) ∧
    (∃ (s : State) (a : Acc) (adr : BitVec 17) (strb : BitVec 2) (v : BitVec 64) (w : Win) (b : Nat), s.settled = true
      ∧ s.dev.winAt (8 * adr.toNat) = some (w, b) ∧ s.dev.ready w.page = true ∧ Dev.winWriteOk w a (8 * adr.toNat - b)
      = true ∧ strb ≠ 0#2 ∧ s.dev.winTakes a w (8 * adr.toNat - b) = true) ∧
    (∃ (s : State) (a : Acc) (adr : BitVec 17) (strb : BitVec 2) (v : BitVec 64) (w : Win) (b : Nat), s.settled = true
      ∧ s.dev.winAt (8 * adr.toNat) = some (w, b) ∧ s.dev.ready w.page = true ∧ Dev.winWriteOk w a (8 * adr.toNat - b)
      = true ∧ strb ≠ 0#2 ∧ s.dev.winTakes a w (8 * adr.toNat - b) = false ∧ w ≠ .mbox) ∧
    (∃ (s : State) (a : Acc) (adr : BitVec 17) (strb : BitVec 2) (v : BitVec 64) (w : Win) (b : Nat), s.settled = true
      ∧ s.dev.winAt (8 * adr.toNat) = some (w, b) ∧ s.dev.ready w.page = false) ∧
    (∃ (s : State) (a : Acc) (adr : BitVec 17) (strb : BitVec 2) (v : BitVec 64) (w : Win) (b : Nat), s.settled = true
      ∧ s.dev.winAt (8 * adr.toNat) = some (w, b) ∧ s.dev.ready w.page = true ∧ Dev.winWriteOk w a (8 * adr.toNat - b)
      = false ∧ strb ≠ 0#2 ∧ s.dev.missSent = true) ∧
    (∃ (s : State) (a : Acc) (adr : BitVec 17) (strb : BitVec 2) (v : BitVec 64), s.settled = true
      ∧ s.dev.winAt (8 * adr.toNat) = none) ∧
    (∃ (s : State) (a : Acc) (adr : BitVec 17) (w : Win) (b : Nat), s.settled = true ∧ s.dev.winAt (8 * adr.toNat) =
      some (w, b) ∧ s.dev.ready w.page = true ∧ s.dev.winReadOk a w (8 * adr.toNat - b) = true) ∧
    (∃ (s : State) (a : Acc) (adr : BitVec 17) (w : Win) (b : Nat), s.settled = true ∧ s.dev.winAt (8 * adr.toNat) =
      some (w, b) ∧ s.dev.ready w.page = true ∧ s.dev.winReadOk a w (8 * adr.toNat - b) = false
      ∧ s.dev.missSent = true) ∧
    (∃ (s : State) (a : Acc) (adr : BitVec 17), s.settled = true ∧ (s.dev.winAt (8 * adr.toNat) = none
      ∨ (s.dev.winAt (8 * adr.toNat)).any (fun (x : Win × Nat) => !s.dev.ready x.1.page) = true)) :=
  ⟨⟨tiny, ⟨.regPort, 5, false, true⟩, 5#17, 1#2, 0x0102030405060708#64, by decide +kernel⟩,
   ⟨tiny, ⟨.regPort, 5, false, true⟩, 5#17, by decide +kernel⟩,
   ⟨(fun s => { s with dev := { s.dev with missSent := true } }) tiny, ⟨.regPort, 5, false, false⟩, 5#17, by decide +kernel⟩,
   ⟨tiny, ⟨.regPort, 5, false, true⟩, BitVec.ofNat 17 (0x90000 / 8), 1#2, 0x0102030405060708#64, Win.step, 0x90000, by
     decide +kernel⟩,
   ⟨tiny, ⟨.regPort, 5, false, true⟩, BitVec.ofNat 17 (0xA0000 / 8), 1#2, 0#64, Win.fit, 0xA0000, by decide +kernel⟩,
   ⟨(fun s => { s with dev := { s.dev with wiping := [0x12] } }) tiny, ⟨.regPort, 5, false, true⟩, BitVec.ofNat 17
     (0xA0000 / 8), 0#2, 0#64, Win.fit, 0xA0000, by decide +kernel⟩,
   ⟨(fun s => { s with dev := { s.dev with missSent := true } }) tiny, ⟨.regPort, 5, false, false⟩, BitVec.ofNat 17
     (0xA0000 / 8), 1#2, 0#64, Win.fit, 0xA0000, by decide +kernel⟩,
   ⟨tiny, ⟨.regPort, 5, false, true⟩, BitVec.ofNat 17 (0xAA000 / 8), 0#2, 0#64, by decide +kernel⟩,
   ⟨tiny, ⟨.regPort, 5, false, true⟩, BitVec.ofNat 17 (0xA9000 / 8), Win.levelAct, 0xA9000, by decide +kernel⟩,
   ⟨(fun s => { s with dev := { s.dev with missSent := true } }) tiny, ⟨.regPort, 5, false, false⟩, BitVec.ofNat 17
     (0xA9000 / 8), Win.levelAct, 0xA9000, by decide +kernel⟩,
   ⟨tiny, ⟨.regPort, 5, false, true⟩, BitVec.ofNat 17 (0xAA000 / 8), by decide +kernel⟩⟩

/-- The hypotheses of BeatMovesTime are met, clause by clause. -/
theorem test_hyps_BeatMovesTime :
    (∃ (s : State) (gt : BitVec 64) (valid : Bool) (corr : Nat) (uncorr : Option Nat), s.settled = true
      ∧ valid = false ∧ s.dev.tick.started = true ∧ s.dev.tick.gtValid = false ∧ s.dev.tick.align = .free) ∧
    (∃ (s : State) (gt : BitVec 64) (valid : Bool) (corr : Nat) (uncorr : Option Nat), s.settled = true
      ∧ valid = true ∧ s.dev.tick.started = true ∧ s.dev.tick.gtWhole = true ∧ s.dev.tick.align ≠ .aligned
      ∧ gt.toNat % 1000 < 10) ∧
    (∃ (s : State) (gt : BitVec 64) (valid : Bool) (corr : Nat) (uncorr : Option Nat), s.settled = true
      ∧ valid = true ∧ s.dev.tick.started = true ∧ s.dev.tick.gtWhole = true ∧ s.dev.tick.align ≠ .aligned
      ∧ 10 ≤ gt.toNat % 1000) ∧
    (∃ (s : State) (gt : BitVec 64) (valid : Bool) (corr : Nat) (uncorr : Option Nat), s.settled = true
      ∧ s.dev.tick.started = false ∧ valid = false ∧ s.dev.tick.gtValid = false ∧ s.dev.tick.align = .free) ∧
    (∃ (s : State) (gt : BitVec 64) (valid : Bool) (corr : Nat) (uncorr : Option Nat), s.settled = true
      ∧ valid = false ∧ s.dev.tick.started = true ∧ s.dev.tick.gtValid = false
      ∧ s.dev.tick.align = .free ∧ (s.dev.tick.b + 1) % 2 ^ 64 % 1000 = 0 ∧ s.dev.tick.lastBud = none) ∧
    (∃ (s : State) (gt : BitVec 64) (valid : Bool) (corr : Nat) (uncorr : Option Nat), s.settled = true
      ∧ (match s.dev.wrd.swap with | .held _ => false | .turned _ => false | _ => true) = true) :=
  ⟨⟨(fun s => { s with
     dev := { s.dev with tick := { s.dev.tick with started := true, gtValid := false, align := .free } } }) tiny,
     0#64, false, 0, none, by decide +kernel⟩,
   ⟨(fun s => { s with
     dev := { s.dev with
       tick := { s.dev.tick with started := true, gtWhole := true, gtValid := true, align := .free } } }) tiny,
     64005#64, true, 0, none, by decide +kernel⟩,
   ⟨(fun s => { s with
     dev := { s.dev with
       tick := { s.dev.tick with started := true, gtWhole := true, gtValid := true, align := .free } } }) tiny,
     64700#64, true, 0, none, by decide +kernel⟩,
   ⟨(fun s => { s with
     dev := { s.dev with tick := { s.dev.tick with started := false, gtValid := false, align := .free } } }) tiny,
     0#64, false, 0, none, by decide +kernel⟩,
   ⟨(fun s => { s with
     dev := { s.dev with
       missSent := true,
       tick := { s.dev.tick with started := true, gtValid := false, align := .free, b := 999, lastBud := none } } })
     tiny, 0#64, false, 0, none, by decide +kernel⟩,
   ⟨tiny, 0#64, false, 0, none, by decide +kernel⟩⟩

/-- The hypotheses of TicksRunOnce are met, clause by clause. -/
theorem test_hyps_TicksRunOnce :
    (∃ (s : State) (vs : List (List Nat)), s.settled = true) ∧
    (∃ (s : State) (ring : List (List (BitVec 24)) × List (Option (BitVec 14))) (cs : BitVec 14 × Bool), s.settled =
      true ∧ cs.2 = false ∧ s.dev.tick.thermDue = 2 ∧ s.dev.tick.missed.contains 0x11 = true
      ∧ s.dev.tick.missed.contains 0x10 = true) ∧
    (∃ (s : State) (ring : List (List (BitVec 24)) × List (Option (BitVec 14))) (cs : BitVec 14 × Bool), s.settled =
      true ∧ cs.2 = false ∧ s.dev.tick.thermDue = 2 ∧ s.dev.tick.missed = [0x11]) ∧
    (∃ (s : State) (ring : List (List (BitVec 24)) × List (Option (BitVec 14))) (cs : BitVec 14 × Bool), s.settled =
      true ∧ cs.2 = false ∧ s.dev.tick.thermDue = 2 ∧ s.dev.tick.missed = [0x10]) ∧
    (∃ (s : State) (ring : List (List (BitVec 24)) × List (Option (BitVec 14))) (cs : BitVec 14 × Bool), s.settled =
      true ∧ cs.2 = false ∧ s.dev.tick.thermDue = 2 ∧ s.dev.tick.missed = []) ∧
    (∃ (s : State), s.settled = true ∧ s.dev.tick.isoDue = true ∧ s.dev.iso.st = .off
      ∧ s.dev.iso.combPend = false ∧ s.dev.iso.comb = false) ∧
    (∃ (s : State), s.settled = true ∧ s.dev.tick.isoDue = true ∧ s.dev.tick.missed.contains 0x20 = false
      ∧ s.dev.iso.st = .run ∧ s.dev.iso.comb = false ∧ s.dev.iso.combPend = false ∧ s.dev.iso.sumDue = false) ∧
    (∃ (s : State) (load : Nat), s.settled = true ∧ s.dev.tick.budDue = true) ∧
    (∃ (s : State) (load : Nat), s.settled = true ∧ s.dev.tick.budDue = true) ∧
    (∃ (s : State) (vs : List (List Nat)), s.settled = true) ∧
    (∃ (s : State) (ring : List (List (BitVec 24)) × List (Option (BitVec 14))) (cs : BitVec 14 × Bool), s.settled =
      true ∧ cs.2 = false ∧ s.dev.tick.thermDue = 2 ∧ s.dev.tick.missed = []) :=
  ⟨⟨tiny, [[3000, 3010], []], by decide +kernel⟩,
   ⟨(fun s => { s with
     dev := { s.dev with tick := { s.dev.tick with thermDue := 2, missed := [0x09, 0x10, 0x11] } } }) tiny, ([[0, 0,
     0], [0]], [some 5, none]), (5, false), by decide +kernel⟩,
   ⟨(fun s => { s with dev := { s.dev with tick := { s.dev.tick with thermDue := 2, missed := [0x11] } } }) tiny,
     ([[0, 0, 0], [0]], [some 5, none]), (5, false), by decide +kernel⟩,
   ⟨(fun s => { s with dev := { s.dev with tick := { s.dev.tick with thermDue := 2, missed := [0x10] } } }) tiny,
     ([[0, 0, 0], [0]], [some 5, none]), (5, false), by decide +kernel⟩,
   ⟨(fun s => { s with dev := { s.dev with tick := { s.dev.tick with thermDue := 2, missed := [] } } }) tiny, ([[0, 0,
     0], [0]], [some 5, none]), (5, false), by decide +kernel⟩,
   ⟨(fun s => { s with dev := { s.dev with tick := { s.dev.tick with isoDue := true } } }) tiny, by decide +kernel⟩,
   ⟨(fun s => { s with
     dev := { s.dev with
       iso := { s.dev.iso with st := .run, sumDue := false, comb := false, combPend := false },
       tick := { s.dev.tick with isoDue := true } } }) tiny, by decide +kernel⟩,
   ⟨(fun s => { s with dev := { s.dev with missSent := true, tick := { s.dev.tick with budDue := true } } }) tiny, 20,
     by decide +kernel⟩,
   ⟨(fun s => { s with dev := { s.dev with tick := { s.dev.tick with budDue := true } } }) tiny, 20, by decide +kernel⟩,
   ⟨tiny, [[3000, 3010], []], by decide +kernel⟩,
   ⟨(fun s => { s with dev := { s.dev with tick := { s.dev.tick with thermDue := 2, missed := [] } } }) tiny, ([[0, 0,
     0], [0]], [some 5, none]), (5, false), by decide +kernel⟩⟩

/-- The hypotheses of OverrunsCountAndHold are met, clause by clause. -/
theorem test_hyps_OverrunsCountAndHold :
    (∃ (s : State) (k : Nat), s.settled = true ∧ k ∈ fixedTasks) ∧
    (∃ (s : State) (k : Nat), s.settled = true ∧ k = 0x07) ∧
    (∃ (s : State) (k : Nat), s.settled = true ∧ k = 0x31) ∧
    (∃ (s : State) (k : Nat), s.settled = true ∧ k = 0x21 ∧ s.dev.iso.comb = false) ∧
    (∃ (s : State) (k : Nat), s.settled = true ∧ k = 0x08) ∧
    (∃ (s : State) (k : Nat), s.settled = true ∧ k = 0x05 ∧ s.dev.fc.late = true) ∧
    (∃ (s : State), s.settled = true ∧ (s.dev.iso.st = .off ∨ s.dev.iso.st = .wait ∨ s.dev.iso.st = .departed)) ∧
    (∃ (s : State), s.settled = true ∧ s.dev.iso.st = .run) :=
  ⟨⟨tiny, 3, by decide +kernel⟩,
   ⟨(fun s => { s with
     dev := { (s.dev) with
       led := { s.dev.led with
         lines := [{ tag := 16, st := .open_ }, { tag := 17, fetch := true }, { tag := 18, fetch := true,
                                                                                endReq := some true }],
         away := [(20, false), (18, false)] } } }) tiny, 7, by decide +kernel⟩,
   ⟨tiny, 0x31, by decide +kernel⟩,
   ⟨tiny, 0x21, by decide +kernel⟩,
   ⟨tiny, 8, by decide +kernel⟩,
   ⟨(fun s => { s with dev := { s.dev with fc := { s.dev.fc with late := true } } }) tiny, 5, by decide +kernel⟩,
   ⟨tiny, by decide +kernel⟩,
   ⟨(fun s => { s with dev := { s.dev with iso := { s.dev.iso with st := .run } } }) tiny, by decide +kernel⟩⟩

/-- The hypotheses of ForwardSlotsSendTheDueFrame are met, clause by clause. -/
theorem test_hyps_ForwardSlotsSendTheDueFrame :
    (∃ (s : State) (p : Nat) (q : Nat), s.settled = true ∧ p < s.dev.phases.length ∧ s.dev.slotOpen p q = true
      ∧ (s.dev.phase p).imm = some 2) ∧
    (∃ (s : State) (p : Nat) (q : Nat), s.settled = true ∧ p < s.dev.phases.length ∧ s.dev.slotOpen p q = true
      ∧ (s.dev.phase p).imm = none ∧ (s.dev.phase p).link = .train) ∧
    (∃ (s : State) (p : Nat) (q : Nat) (f : Nat) (r : List Nat), s.settled = true
      ∧ p < s.dev.phases.length ∧ s.dev.slotOpen p q = true ∧ (s.dev.phase p).imm = none
      ∧ (s.dev.phase p).link = .config ∧ (s.dev.phase p).tx = f :: r) ∧
    (∃ (s : State) (p : Nat) (q : Nat), s.settled = true ∧ p < s.dev.phases.length ∧ s.dev.slotOpen p q = true
      ∧ (s.dev.phase p).imm = none ∧ (s.dev.phase p).link = .down ∧ s.dev.phEn p = false) ∧
    (∃ (s : State) (p : Nat) (q : Nat), s.settled = true ∧ p < s.dev.phases.length ∧ s.dev.slotOpen p q = true
      ∧ (s.dev.phase p).imm = none ∧ (s.dev.phase p).link = .up ∧ (s.dev.phase p).st = .off
      ∧ (s.dev.phase p).tx = []) ∧
    (∃ (s : State) (p : Nat) (q : Nat), s.settled = true ∧ s.dev.slotOpen p q = false) :=
  ⟨⟨(fun s => { s with
     dev := { s.dev with
       tick := { s.dev.tick with railIdx := 1, ref := 100 },
       phases := s.dev.phases.map (fun (q : Phase) => { q with imm := some 2 }) } }) tiny, 1, 32, by decide +kernel⟩,
   ⟨(fun s => { s with
     dev := { s.dev with
       tick := { s.dev.tick with railIdx := 1, ref := 100 },
       phases := s.dev.phases.map (fun (q : Phase) => { q with imm := none, link := .train }) } }) tiny, 1, 32, by
     decide +kernel⟩,
   ⟨(fun s => { s with
     dev := { s.dev with
       tick := { s.dev.tick with railIdx := 1, ref := 100 },
       phases := s.dev.phases.map (fun (q : Phase) => { q with imm := none, link := .config, tx := [7, 8] }) } })
     tiny, 1, 32, 7, [8], by decide +kernel⟩,
   ⟨(fun s => { s with
     dev := { s.dev with
       tick := { s.dev.tick with railIdx := 1, ref := 100 },
       phases := s.dev.phases.map (fun (q : Phase) => { q with imm := none, link := .down }) } }) tiny, 1, 32, by
     decide +kernel⟩,
   ⟨(fun s => { s with
     dev := { s.dev with
       tick := { s.dev.tick with railIdx := 1, ref := 100 },
       phases := s.dev.phases.map (fun (q : Phase) => { q with imm := none, link := .up, tx := [] }) } }) tiny, 1, 32,
     by decide +kernel⟩,
   ⟨(fun s => { s with
     dev := { s.dev with
       tick := { s.dev.tick with railIdx := 1, ref := 100 },
       phases := s.dev.phases.map (fun (q : Phase) => { q with fwd := none }) } }) tiny, 1, 9999, by decide +kernel⟩⟩

/-- The hypotheses of ReturnSlotsAreTakenWhole are met, clause by clause. -/
theorem test_hyps_ReturnSlotsAreTakenWhole :
    (∃ (s : State) (p : Nat) (m : Nat) (code : BitVec 50) (w : Nat) (rd : Bool), s.settled = true
      ∧ p < s.dev.phases.length ∧ (s.dev.phase p).link = .up ∧ decSlot (s.dev.phase p).rxRd code.toNat = (some w, rd)
      ∧ bitsAt w 28 3 = 1 ∧ bitsAt w 31 1 = 0) ∧
    (∃ (s : State) (p : Nat) (m : Nat) (code : BitVec 50) (rd : Bool), s.settled = true
      ∧ p < s.dev.phases.length ∧ (s.dev.phase p).link = .up ∧ decSlot (s.dev.phase p).rxRd code.toNat = (none, rd)
      ∧ (s.dev.phase p).rxErrSent = false ∧ ((false :: (s.dev.phase p).hist).take 8).countP (fun v => !v) < 4) ∧
    (∃ (s : State) (p : Nat) (m : Nat) (code : BitVec 50) (w : Nat) (rd : Bool), s.settled = true
      ∧ p < s.dev.phases.length ∧ (s.dev.phase p).link = .train ∧ decSlot (s.dev.phase p).rxRd code.toNat = (some w,
      rd) ∧ bitsAt w 28 3 = 7 ∧ (s.dev.phase p).trainRun = 63) ∧
    (∃ (s : State) (p : Nat), s.settled = true ∧ p < s.dev.phases.length ∧ (s.dev.phase p).limitPassed = false) ∧
    (∃ (s : State) (p : Nat), s.settled = true ∧ p < s.dev.phases.length ∧ (s.dev.phase p).limitPassed = true
      ∧ (s.dev.phase p).attempts < 2) ∧
    (∃ (s : State) (p : Nat), s.settled = true ∧ p < s.dev.phases.length ∧ (s.dev.phase p).limitPassed = true
      ∧ (s.dev.phase p).attempts = 2 ∧ s.dev.tune.st = .idle ∧ s.dev.cal.st = .idle) :=
  ⟨⟨(fun s => { s with
     dev := { s.dev with phases := s.dev.phases.map (fun (q : Phase) => { q with link := .up, rxRd := false }) } })
     tiny, 1, 1, BitVec.ofNat 50 (encSlot false (frame 0x123456)).1, frame 0x123456, (encSlot false (frame
     0x123456)).2, by decide +kernel⟩,
   ⟨(fun s => { s with
     dev := { s.dev with phases := s.dev.phases.map (fun (q : Phase) => { q with link := .up, rxRd := false }) } })
     tiny, 1, 1, 0#50, (decSlot false 0).2, by decide +kernel⟩,
   ⟨(fun s => { s with
     dev := { s.dev with
       phases := s.dev.phases.map (fun (q : Phase) => { q with link := .train, trainRun := 63, rxRd := false }) } })
     tiny, 1, 1, BitVec.ofNat 50 (encSlot false (frame 0x723456)).1, frame 0x723456, (encSlot false (frame
     0x723456)).2, by decide +kernel⟩,
   ⟨(fun s => { s with
     dev := { s.dev with phases := s.dev.phases.map (fun (q : Phase) => { q with link := .down }) } }) tiny, 1, by
     decide +kernel⟩,
   ⟨(fun s => { s with
     dev := { s.dev with
       phases := s.dev.phases.map (fun (q : Phase) => { q with
         link := .train, attempts := 1, sentAt := some 3, fwd := some 700 }) } }) tiny, 1, by decide +kernel⟩,
   ⟨(fun s => { s with
     dev := { s.dev with
       tune := { s.dev.tune with st := .idle }, cal := { s.dev.cal with st := .idle }, phases := s.dev.phases.map (fun
         (q : Phase) => { q with link := .train, attempts := 2, sentAt := some 3, fwd := some 700 }) } }) tiny, 1, by
     decide +kernel⟩⟩

/-- The hypotheses of PhaseControlWrites are met, clause by clause. -/
theorem test_hyps_PhaseControlWrites :
    (∃ (s : State) (p : Nat) (a : Acc) (v : BitVec 32), s.settled = true ∧ p < 80
      ∧ p < s.dev.phases.length ∧ s.dev.ready (0x06 + p / 40) = true ∧ a.privOk = true ∧ (s.dev.phase p).st = .off
      ∧ s.dev.phEn p = false ∧ bitsAt v.toNat 0 3 = 1 ∧ s.dev.avs (bitsAt v.toNat 16 3) = false) ∧
    (∃ (s : State) (p : Nat) (a : Acc) (v : BitVec 32), s.settled = true ∧ p < 80
      ∧ p < s.dev.phases.length ∧ s.dev.ready (0x06 + p / 40) = true ∧ a.privOk = true ∧ (s.dev.phase p).st = .off
      ∧ s.dev.phEn p = true ∧ bitsAt v.toNat 0 3 = 0 ∧ bitsAt v.toNat 16 3 = s.dev.phRail p) ∧
    (∃ (s : State) (p : Nat) (a : Acc) (v : BitVec 32), s.settled = true ∧ p < 80
      ∧ p < s.dev.phases.length ∧ s.dev.ready (0x06 + p / 40) = true ∧ a.privOk = true ∧ (s.dev.phase p).st = .off
      ∧ s.dev.phEn p = true ∧ bitsAt v.toNat 0 3 = 5 ∧ bitsAt v.toNat 16 3 = s.dev.phRail p
      ∧ s.dev.avs (s.dev.phRail p) = false) ∧
    (∃ (s : State) (p : Nat) (a : Acc) (v : BitVec 32), s.settled = true ∧ p < 80
      ∧ p < s.dev.phases.length ∧ s.dev.ready (0x06 + p / 40) = true ∧ a.privOk = true
      ∧ (s.dev.phase p).st = .faulted ∧ s.dev.railSwitching (s.dev.phRail p) = false ∧ s.dev.phEn p = false
      ∧ bitsAt v.toNat 0 3 = 2 ∧ bitsAt v.toNat 16 3 = s.dev.phRail p) ∧
    (∃ (s : State) (p : Nat) (a : Acc) (v : BitVec 32), s.settled = true ∧ p < 80
      ∧ p < s.dev.phases.length ∧ s.dev.ready (0x06 + p / 40) = true ∧ a.privOk = true
      ∧ (s.dev.phase p).st = .faulted ∧ s.dev.railSwitching (s.dev.phRail p) = false ∧ s.dev.phEn p = true
      ∧ bitsAt v.toNat 0 3 = 3 ∧ bitsAt v.toNat 16 3 = s.dev.phRail p ∧ s.dev.avs (s.dev.phRail p) = false) ∧
    (∃ (s : State) (n : Nat) (a : Acc) (v : BitVec 32), s.settled = true ∧ n < 8
      ∧ n < s.dev.rails.length ∧ s.dev.ready (0x08 + n) = true ∧ a.privOk = true ∧ bitsAt v.toNat 31 1 = 1
      ∧ bitsAt v.toNat 0 7 < s.dev.phases.length ∧ s.dev.phRail (bitsAt v.toNat 0 7) = n
      ∧ (s.dev.phase (bitsAt v.toNat 0 7)).st.switching = true) ∧
    (∃ (s : State) (n : Nat) (c : Nat) (p : Nat) (b : Nat) (f : Bool), s.settled = true
      ∧ n < s.dev.rails.length ∧ ((c : Int) - ((3 * n : Nat) : Int)) % ((max (s.dev.rd RAIL.PWM_PERIOD n) 1 : Nat) :
      Int) = 0 ∧ (s.dev.rail n).sw.chg = [⟨p, true, b, f⟩] ∧ ((s.dev.rail n).sw.braking = false ∨ f = true)
      ∧ b ≤ c ∧ (s.dev.phase p).st = .shed) ∧
    (∃ (d : Dev) (p : Nat) (k : Nat), 0 < k) ∧
    (∃ (d : Dev) (n : Nat) (p : Nat) (set : List Nat), p < d.phases.length ∧ d.phRail p = n ∧ d.activeSet n = set
      ∧ set.contains p = true ∧ 4 ≤ (d.phase p).accCnt) ∧
    (∃ (d : Dev) (n : Nat) (p : Nat), p < d.phases.length ∧ d.phRail p = n ∧ ((d.activeSet n).contains p = false
      ∨ (d.phase p).accCnt < 4)) ∧
    (∃ (d : Dev) (n : Nat), n < d.rails.length) ∧
    (∃ (d : Dev) (n : Nat) (p : Nat),
      let set : List Nat := (d.activeSet n).filter (fun q => (d.phase q).ok);
      let m : Int := (2 * sumI (set.map (fun q => (d.phase q).avg)) + set.length) / (2 * set.length);
      n < d.rails.length ∧ (d.rail n).sw.grid.Nodup ∧ d.anyPh n .softstart = false ∧ d.anyPh n .brake = false
        ∧ 1 < (d.rail n).sw.sinceBurst ∧ (d.rail n).sw.nPause = false ∧ (d.rail n).loop.opened = false
        ∧ d.on RAIL.BAL_EN n = true ∧ 2 ≤ set.length ∧ 32 ≤ m ∧ p ∈ set) ∧
    (∃ (d : Dev) (n : Nat), (d.anyPh n .softstart = true ∨ d.anyPh n .brake = true ∨ (d.rail n).sw.sinceBurst ≤ 1
      ∨ (d.rail n).sw.nPause = true ∨ (d.rail n).loop.opened = true ∨ d.on RAIL.BAL_EN n = false)) ∧
    (∃ (d : Dev) (n : Nat),
      let sw : RailSw := (d.rail n).sw;
      let want : Nat := ceilDiv (d.rail n).loop.isum.toNat (d.rd RAIL.ADDSHED_ADD_I n);
      let least : Nat := sw.gridEnd.length;
      n < d.rails.length ∧ d.anyPh n .softstart = false ∧ d.anyPh n .brake = false ∧ (d.rail n).loop.opened = false
        ∧ (d.rail n).cmd.st ≠ .starting ∧ (d.rail n).flt.vsLost = false ∧ least < want) ∧
    (∃ (d : Dev) (n : Nat) (p : Nat),
      let sw : RailSw := (d.rail n).sw;
      let want : Nat := ceilDiv (d.rail n).loop.isum.toNat (d.rd RAIL.ADDSHED_ADD_I n);
      let least : Nat := sw.gridEnd.length;
      n < d.rails.length ∧ d.anyPh n .softstart = false ∧ d.anyPh n .brake = false ∧ (d.rail n).loop.opened = false
        ∧ (d.rail n).cmd.st ≠ .starting ∧ (d.rail n).flt.vsLost = false ∧ want ≤ least
        ∧ d.rd RAIL.PHCOUNT_MIN_ACTIVE n < least ∧ (d.rail n).loop.isum < ((d.rd RAIL.ADDSHED_SHED_I n * (least - 1) :
        Nat) : Int) ∧ d.rd RAIL.PHCOUNT_SHED_HOLD n ≤ sw.shedCnt + 1 ∧ ((d.phasesOf n).filter (fun p => (d.phase p).st
        == .active && !(sw.chg.any (fun c => c.ph == p)))).getLast? = some p) ∧
    (∃ (d : Dev) (n : Nat),
      let sw : RailSw := (d.rail n).sw;
      let want : Nat := ceilDiv (d.rail n).loop.isum.toNat (d.rd RAIL.ADDSHED_ADD_I n);
      let least : Nat := sw.gridEnd.length;
      n < d.rails.length ∧ d.anyPh n .softstart = false ∧ d.anyPh n .brake = false ∧ (d.rail n).loop.opened = false
        ∧ (d.rail n).cmd.st ≠ .starting ∧ (d.rail n).flt.vsLost = false ∧ want ≤ least
        ∧ d.rd RAIL.PHCOUNT_MIN_ACTIVE n < least ∧ (d.rail n).loop.isum < ((d.rd RAIL.ADDSHED_SHED_I n * (least - 1) :
        Nat) : Int) ∧ sw.shedCnt + 1 < d.rd RAIL.PHCOUNT_SHED_HOLD n) ∧
    (∃ (d : Dev) (n : Nat), (d.anyPh n .softstart = true ∨ d.anyPh n .brake = true ∨ (d.rail n).loop.opened = true
      ∨ (d.rail n).cmd.st = .starting ∨ (d.rail n).flt.vsLost = true)) ∧
    (∃ (d : Dev) (n : Nat) (p : Nat), n < d.rails.length ∧ p < d.phases.length ∧ d.phRail p = n
      ∧ (d.phase p).st = .active ∧ d.avs n = false ∧ (d.rail n).loop.opened = false ∧ ((d.rail n).cmd.st = .settled
      ∨ (d.rail n).cmd.st = .slewing ∨ (d.rail n).cmd.st = .waitFreq) ∧ (d.rail n).flt.vsLost = false
      ∧ d.on RAIL.BRAKE_BRAKE_EN n = true ∧ (d.rail n).sw.braking = false ∧ 4 ≤ (d.rail n).sw.sinceBrake
      ∧ (d.rail n).loop.r + 16 * ((d.rd RAIL.BRAKE_BRAKE_VH n : Nat) : Int) < (d.rail n).loop.vLast) ∧
    (∃ (d : Dev) (n : Nat), (d.on RAIL.BRAKE_BRAKE_EN n = false ∨ (d.rail n).sw.sinceBrake < 4
      ∨ (d.rail n).loop.vLast ≤ (d.rail n).loop.r + 16 * ((d.rd RAIL.BRAKE_BRAKE_VH n : Nat) : Int)
      ∨ d.avs n = true ∨ (d.rail n).loop.opened = true ∨ (d.rail n).cmd.st = .retention
      ∨ (d.rail n).cmd.st = .starting ∨ (d.rail n).cmd.st = .stopped)) ∧
    (∃ (d : Dev) (n : Nat) (p : Nat), n < d.rails.length ∧ p < d.phases.length ∧ d.phRail p = n
      ∧ (d.phase p).st = .brake ∧ (d.rail n).sw.braking = true ∧ ((d.rail n).loop.vLast ≤ (d.rail n).loop.r + 16 *
      ((d.rd RAIL.BRAKE_BRAKE_VL n : Nat) : Int) ∨ (d.rail n).loop.isum ≤ 4 * (((d.rail n).loop.icmd + d.rd
      RAIL.IBAND_IBAND n : Nat) : Int) ∨ 7 ≤ (d.rail n).sw.brakeT)) ∧
    (∃ (d : Dev) (n : Nat), (d.rail n).sw.braking = true ∧ (d.rail n).loop.r + 16 * ((d.rd RAIL.BRAKE_BRAKE_VL n :
      Nat) : Int) < (d.rail n).loop.vLast ∧ 4 * (((d.rail n).loop.icmd + d.rd RAIL.IBAND_IBAND n : Nat) : Int) <
      (d.rail n).loop.isum ∧ (d.rail n).sw.brakeT < 7) ∧
    (∃ (d : Dev) (n : Nat) (p : Nat), n < d.rails.length ∧ p < d.phases.length ∧ d.phRail p = n
      ∧ (d.phase p).st = .active ∧ d.avs n = false ∧ (d.rail n).loop.opened = false ∧ ((d.rail n).cmd.st = .settled
      ∨ (d.rail n).cmd.st = .slewing ∨ (d.rail n).cmd.st = .waitFreq) ∧ (d.rail n).flt.vsLost = false
      ∧ d.on RAIL.BRAKE_BURST_EN n = true ∧ 4 ≤ (d.rail n).sw.sinceBurst ∧ (d.rail n).loop.vLast < (d.rail n).loop.r -
      16 * ((d.rd RAIL.BRAKE_BURST_V n : Nat) : Int)) ∧
    (∃ (d : Dev) (n : Nat), (d.on RAIL.BRAKE_BURST_EN n = false ∨ (d.rail n).sw.sinceBurst < 4
      ∨ (d.rail n).loop.r - 16 * ((d.rd RAIL.BRAKE_BURST_V n : Nat) : Int) ≤ (d.rail n).loop.vLast ∨ d.avs n = true
      ∨ (d.rail n).loop.opened = true ∨ (d.rail n).cmd.st = .retention ∨ (d.rail n).cmd.st = .starting
      ∨ (d.rail n).cmd.st = .stopped)) :=
  ⟨⟨(fun s => { s with
     dev := { ((s.dev.wr PHASE.CTRL_EN 0 0 1).wr PHASE.CTRL_RAIL 0 0 1) with
       wiping := [], phases := s.dev.phases.map (fun (q : Phase) => { q with st := .off }) } }) tiny, 1, ⟨.regPort, 5,
     false, true⟩, 1#32, by decide +kernel⟩,
   ⟨(fun s => { s with
     dev := { ((s.dev.wr PHASE.CTRL_EN 1 0 1).wr PHASE.CTRL_RAIL 0 0 1) with
       wiping := [], phases := s.dev.phases.map (fun (q : Phase) => { q with st := .off }) } }) tiny, 1, ⟨.regPort, 5,
     false, true⟩, 0#32, by decide +kernel⟩,
   ⟨(fun s => { s with
     dev := { ((s.dev.wr PHASE.CTRL_EN 1 0 1).wr PHASE.CTRL_RAIL 0 0 1) with
       wiping := [], phases := s.dev.phases.map (fun (q : Phase) => { q with st := .off }) } }) tiny, 1, ⟨.regPort, 5,
     false, true⟩, 5#32, by decide +kernel⟩,
   ⟨(fun s => { s with
     dev := { ((s.dev.wr PHASE.CTRL_EN 0 0 1).wr PHASE.CTRL_RAIL 0 0 1) with
       wiping := [], phases := s.dev.phases.map (fun (q : Phase) => { q with st := .faulted }) } }) tiny, 1,
     ⟨.regPort, 5, false, true⟩, 2#32, by decide +kernel⟩,
   ⟨(fun s => { s with
     dev := { ((s.dev.wr PHASE.CTRL_EN 1 0 1).wr PHASE.CTRL_RAIL 0 0 1) with
       wiping := [], phases := s.dev.phases.map (fun (q : Phase) => { q with st := .faulted }) } }) tiny, 1,
     ⟨.regPort, 5, false, true⟩, 3#32, by decide +kernel⟩,
   ⟨(fun s => { s with
     dev := { ((s.dev.wr PHASE.CTRL_EN 1 0 1).wr PHASE.CTRL_RAIL 0 0 1) with
       wiping := [], phases := s.dev.phases.map (fun (q : Phase) => { q with st := .active }) } }) tiny, 0, ⟨.regPort,
     5, false, true⟩, 0x80000001#32, by decide +kernel⟩,
   ⟨(fun s => { s with
     dev := { s.dev with
       phases := s.dev.phases.map (fun (q : Phase) => { q with st := .shed }), rails := s.dev.rails.map (fun (r :
         Rail) => { r with sw := { r.sw with braking := false, chg := [⟨1, true, 0, false⟩] } }) } }) tiny, 0, 0, 1,
     0, false, by decide +kernel⟩,
   ⟨(tiny).dev, 1, 1, by decide +kernel⟩,
   ⟨((fun (s : State) => { s with
     dev := { (s.dev) with
       rails := s.dev.rails.map (fun (r : Rail) => { r with sw := { r.sw with grid := [0, 1] } }),
       phases := s.dev.phases.map (fun (q : Phase) => { q with st := .active, accCnt := 5, accSum := 33 }) } })
     tiny).dev, 0, 0, [(0 : Nat), 1], by decide +kernel⟩,
   ⟨(tiny).dev, 0, 1, by decide +kernel⟩,
   ⟨(tiny).dev, 0, by decide +kernel⟩,
   ⟨((fun (s : State) => { s with
     dev := { (s.dev.wr RAIL.BAL_EN 1 0) with
       rails := s.dev.rails.map (fun (r : Rail) => { r with sw := { r.sw with grid := [0, 1], sinceBurst := 4 } }),
       phases := s.dev.phases.map (fun (q : Phase) => { q with st := .active, ok := true, avg := 100 }) } })
     tiny).dev, 0, 0, by decide +kernel⟩,
   ⟨((fun (s : State) => { s with
     dev := { (s.dev) with
       rails := s.dev.rails.map (fun (r : Rail) => { r with sw := { r.sw with nPause := true } }) } }) tiny).dev, 0,
     by decide +kernel⟩,
   ⟨((fun (s : State) => { s with
     dev := { (s.dev.wr RAIL.ADDSHED_ADD_I 100 0) with
       rails := s.dev.rails.map (fun (r : Rail) => { r with
         cmd := { r.cmd with st := .settled }, loop := { r.loop with isum := 10000 } }),
       phases := s.dev.phases.map (fun (q : Phase) => { q with st := .shed }) } }) tiny).dev, 0, by decide +kernel⟩,
   ⟨((fun (s : State) => { s with
     dev := { (s.dev.wr RAIL.PHCOUNT_MIN_ACTIVE 1 0 |>.wr RAIL.PHCOUNT_SHED_HOLD 1 0 |>.wr RAIL.ADDSHED_SHED_I 100 0
       |>.wr RAIL.ADDSHED_ADD_I 100 0) with
       rails := s.dev.rails.map (fun (r : Rail) => { r with
         cmd := { r.cmd with st := .settled }, sw := { r.sw with grid := [0, 1, 2, 3], shedCnt := 90 } }),
       phases := s.dev.phases.map (fun (q : Phase) => { q with st := .active }) } }) tiny).dev, 0, 3, by decide +kernel⟩,
   ⟨((fun (s : State) => { s with
     dev := { (s.dev.wr RAIL.PHCOUNT_MIN_ACTIVE 1 0 |>.wr RAIL.PHCOUNT_SHED_HOLD 9 0 |>.wr RAIL.ADDSHED_SHED_I 100 0
       |>.wr RAIL.ADDSHED_ADD_I 100 0) with
       rails := s.dev.rails.map (fun (r : Rail) => { r with
         cmd := { r.cmd with st := .settled }, sw := { r.sw with grid := [0, 1, 2, 3] } }),
       phases := s.dev.phases.map (fun (q : Phase) => { q with st := .active }) } }) tiny).dev, 0, by decide +kernel⟩,
   ⟨((fun (s : State) => { s with
     dev := { (s.dev) with
       rails := s.dev.rails.map (fun (r : Rail) => { r with loop := { r.loop with opened := true } }) } }) tiny).dev,
     0, by decide +kernel⟩,
   ⟨((fun (s : State) => { s with
     dev := { (s.dev.wr RAIL.BRAKE_BRAKE_EN 1 0) with
       rails := s.dev.rails.map (fun (r : Rail) => { r with
         cmd := { r.cmd with st := .settled }, sw := { r.sw with sinceBrake := 4 },
         loop := { r.loop with vLast := 100000 } }),
       phases := s.dev.phases.map (fun (q : Phase) => { q with st := .active }) } }) tiny).dev, 0, 0, by decide +kernel⟩,
   ⟨(tiny).dev, 0, by decide +kernel⟩,
   ⟨((fun (s : State) => { s with
     dev := { (s.dev) with
       rails := s.dev.rails.map (fun (r : Rail) => { r with
         cmd := { r.cmd with st := .settled }, sw := { r.sw with braking := true } }),
       phases := s.dev.phases.map (fun (q : Phase) => { q with st := .brake }) } }) tiny).dev, 0, 0, by decide +kernel⟩,
   ⟨((fun (s : State) => { s with
     dev := { (s.dev) with
       rails := s.dev.rails.map (fun (r : Rail) => { r with
         cmd := { r.cmd with st := .settled }, sw := { r.sw with braking := true },
         loop := { r.loop with vLast := 100000, isum := 100000 } }) } }) tiny).dev, 0, by decide +kernel⟩,
   ⟨((fun (s : State) => { s with
     dev := { (s.dev.wr RAIL.BRAKE_BURST_EN 1 0) with
       rails := s.dev.rails.map (fun (r : Rail) => { r with
         cmd := { r.cmd with st := .settled }, sw := { r.sw with sinceBurst := 4 },
         loop := { r.loop with r := 100000 } }),
       phases := s.dev.phases.map (fun (q : Phase) => { q with st := .active }) } }) tiny).dev, 0, 0, by decide +kernel⟩,
   ⟨(tiny).dev, 0, by decide +kernel⟩⟩

/-- The hypotheses of RailStartAndStop are met, clause by clause. -/
theorem test_hyps_RailStartAndStop :
    (∃ (s : State) (n : Nat) (a : Acc) (v : BitVec 32), s.settled = true ∧ n < 8
      ∧ n < s.dev.rails.length ∧ s.dev.ready (0x08 + n) = true ∧ a.privOk = true ∧ bitsAt v.toNat 0 1 = 1
      ∧ bitsAt v.toNat 2 1 = 1 ∧ s.dev.rd RAIL.CTRL_RUN n = 0 ∧ bitsAt v.toNat 4 1 = s.dev.rd RAIL.CTRL_SRC n
      ∧ bitsAt v.toNat 1 1 = s.dev.rd RAIL.CTRL_MODE n ∧ s.dev.avs n = true
      ∧ s.dev.runRefused n s.aon.squall.active (s.dev.on SEC.BOOT_PROFILE) = false) ∧
    (∃ (s : State) (n : Nat) (a : Acc) (v : BitVec 32), s.settled = true ∧ n < 8
      ∧ n < s.dev.rails.length ∧ s.dev.ready (0x08 + n) = true ∧ a.privOk = true ∧ bitsAt v.toNat 0 1 = 1
      ∧ bitsAt v.toNat 2 1 = 1 ∧ s.dev.rd RAIL.CTRL_RUN n = 0 ∧ bitsAt v.toNat 4 1 = s.dev.rd RAIL.CTRL_SRC n
      ∧ bitsAt v.toNat 1 1 = s.dev.rd RAIL.CTRL_MODE n ∧ s.dev.avs n = false
      ∧ s.dev.runRefused n s.aon.squall.active (s.dev.on SEC.BOOT_PROFILE) = false
      ∧ s.dev.rd RAIL.PHCOUNT_MIN_ACTIVE n ≤ (s.dev.readyPhases n).length ∧ s.dev.minPhases n ≤ s.dev.healthy n) ∧
    (∃ (s : State) (n : Nat) (a : Acc) (v : BitVec 32), s.settled = true ∧ n < 8
      ∧ n < s.dev.rails.length ∧ s.dev.ready (0x08 + n) = true ∧ a.privOk = true ∧ bitsAt v.toNat 0 1 = 1
      ∧ bitsAt v.toNat 2 1 = 1 ∧ s.dev.rd RAIL.CTRL_RUN n = 0 ∧ bitsAt v.toNat 4 1 = s.dev.rd RAIL.CTRL_SRC n
      ∧ bitsAt v.toNat 1 1 = s.dev.rd RAIL.CTRL_MODE n ∧ s.dev.avs n = false
      ∧ s.dev.runRefused n s.aon.squall.active (s.dev.on SEC.BOOT_PROFILE) = false
      ∧ ((s.dev.readyPhases n).length < s.dev.rd RAIL.PHCOUNT_MIN_ACTIVE n ∨ s.dev.healthy n < s.dev.minPhases n)) ∧
    (∃ (s : State) (n : Nat) (a : Acc) (v : BitVec 32), s.settled = true ∧ n < 8
      ∧ n < s.dev.rails.length ∧ s.dev.ready (0x08 + n) = true ∧ a.privOk = true ∧ bitsAt v.toNat 0 1 = 1
      ∧ bitsAt v.toNat 2 1 = 1 ∧ s.dev.rd RAIL.CTRL_RUN n = 0 ∧ bitsAt v.toNat 4 1 = s.dev.rd RAIL.CTRL_SRC n
      ∧ bitsAt v.toNat 1 1 = s.dev.rd RAIL.CTRL_MODE n
      ∧ s.dev.runRefused n s.aon.squall.active (s.dev.on SEC.BOOT_PROFILE) = true) ∧
    (∃ (s : State) (n : Nat) (a : Acc) (v : BitVec 32), s.settled = true ∧ n < 8
      ∧ n < s.dev.rails.length ∧ s.dev.ready (0x08 + n) = true ∧ a.privOk = true ∧ bitsAt v.toNat 0 1 = 0
      ∧ s.dev.on RAIL.CTRL_RUN n = true ∧ bitsAt v.toNat 2 1 = 1 ∧ bitsAt v.toNat 4 1 = s.dev.rd RAIL.CTRL_SRC n
      ∧ bitsAt v.toNat 1 1 = s.dev.rd RAIL.CTRL_MODE n ∧ (s.dev.rail n).cmd.pend = none
      ∧ (s.dev.rail n).cmd.held = none ∧ (s.dev.tune.running = false ∨ s.dev.tune.rail ≠ n)
      ∧ (s.dev.cal.running = false ∨ s.dev.cal.rail ≠ n) ∧ s.dev.credit.leases.filter (fun (l : Lease) => l.rail ==
      some n) = [] ∧ s.dev.credit.queue.filter (fun (r : CReq) => r.rail == n) = []) ∧
    (∃ (s : State) (n : Nat) (a : Acc) (v : BitVec 32) (c : RCmd), s.settled = true ∧ n < 8
      ∧ n < s.dev.rails.length ∧ s.dev.ready (0x08 + n) = true ∧ a.privOk = true ∧ bitsAt v.toNat 0 1 = 0
      ∧ s.dev.on RAIL.CTRL_RUN n = true ∧ bitsAt v.toNat 2 1 = 1 ∧ bitsAt v.toNat 4 1 = s.dev.rd RAIL.CTRL_SRC n
      ∧ bitsAt v.toNat 1 1 = s.dev.rd RAIL.CTRL_MODE n ∧ (s.dev.rail n).cmd.pend = some c
      ∧ (s.dev.rail n).cmd.held = none ∧ (s.dev.tune.running = false ∨ s.dev.tune.rail ≠ n)
      ∧ (s.dev.cal.running = false ∨ s.dev.cal.rail ≠ n) ∧ s.dev.credit.leases.filter (fun (l : Lease) => l.rail ==
      some n) = [] ∧ s.dev.credit.queue.filter (fun (r : CReq) => r.rail == n) = []) ∧
    (∃ (s : State) (n : Nat) (a : Acc) (v : BitVec 32), s.settled = true ∧ n < 8
      ∧ n < s.dev.rails.length ∧ s.dev.ready (0x08 + n) = true ∧ a.privOk = true ∧ bitsAt v.toNat 0 1 = 0
      ∧ s.dev.on RAIL.CTRL_RUN n = true ∧ bitsAt v.toNat 2 1 = 1 ∧ bitsAt v.toNat 4 1 = s.dev.rd RAIL.CTRL_SRC n
      ∧ bitsAt v.toNat 1 1 = s.dev.rd RAIL.CTRL_MODE n) :=
  ⟨⟨(fun s => { s with
     dev := { (s.dev.wr SEC.BOOT_PROFILE 1 |>.wr RAIL.CTRL_MODE 1 0 |>.wr RAIL.CTRL_SRC 1 0 |>.wr RAIL.CTRL_RUN 0 0)
       with
       wiping := [], rails := s.dev.rails.map (fun (r : Rail) => { r with loop := { r.loop with opened := false } }) }
       }) tiny, 0, ⟨.regPort, 5, false, true⟩, 0x17#32, by decide +kernel⟩,
   ⟨(fun s => { s with
     dev := { (s.dev.wr SEC.BOOT_PROFILE 1 |>.wr RAIL.CTRL_MODE 0 0 |>.wr RAIL.CTRL_SRC 0 0 |>.wr RAIL.CTRL_RUN 0 0
       |>.wr PHASE.CTRL_EN 1 0 1 |>.wr PHASE.CTRL_EN 1 0 2 |>.wr PHASE.CTRL_EN 1 0 0 |>.wr RAIL.DERATE_MIN_PHASES 1 0
       |>.wr RAIL.HARD_FDET_HARD_MINPH 1 0 |>.wr RAIL.PHCOUNT_MIN_ACTIVE 1 0) with
       wiping := [], rails := s.dev.rails.map (fun (r : Rail) => { r with loop := { r.loop with opened := false } }),
       phases := s.dev.phases.map (fun (q : Phase) => { q with st := .off, link := .up, removal := none }) } }) tiny,
     0, ⟨.regPort, 5, false, true⟩, 0x5#32, by decide +kernel⟩,
   ⟨(fun s => { s with
     dev := { (s.dev.wr SEC.BOOT_PROFILE 1 |>.wr RAIL.CTRL_MODE 0 0 |>.wr RAIL.CTRL_SRC 0 0 |>.wr RAIL.CTRL_RUN 0 0
       |>.wr RAIL.PHCOUNT_MIN_ACTIVE 9 0) with
       wiping := [], rails := s.dev.rails.map (fun (r : Rail) => { r with loop := { r.loop with opened := false } }) }
       }) tiny, 0, ⟨.regPort, 5, false, true⟩, 0x5#32, by decide +kernel⟩,
   ⟨(fun s => { s with
     dev := { (s.dev.wr SEC.BOOT_PROFILE 0 |>.wr RAIL.CTRL_MODE 0 0 |>.wr RAIL.CTRL_SRC 0 0 |>.wr RAIL.CTRL_RUN 0 0)
       with
       wiping := [], rails := s.dev.rails.map (fun (r : Rail) => { r with loop := { r.loop with opened := false } }) }
       }) tiny, 0, ⟨.regPort, 5, false, true⟩, 0x5#32, by decide +kernel⟩,
   ⟨(fun s => { s with
     dev := { (s.dev.wr RAIL.CTRL_RUN 1 0 |>.wr RAIL.CTRL_SRC 0 0) with
       wiping := [], tune := { s.dev.tune with st := .idle }, cal := { s.dev.cal with st := .idle },
       phases := s.dev.phases.map (fun (q : Phase) => { q with st := .active }), rails := s.dev.rails.map (fun (r :
         Rail) => { r with
         cmd := { r.cmd with st := .settled, held := none, pend := none }, loop := { r.loop with icmd := 7 } }) } })
     tiny, 0, ⟨.regPort, 5, false, true⟩, 0x4#32, by decide +kernel⟩,
   ⟨(fun s => { s with
     dev := { (s.dev.wr RAIL.CTRL_RUN 1 0 |>.wr RAIL.CTRL_SRC 0 0) with
       wiping := [], tune := { s.dev.tune with st := .idle }, cal := { s.dev.cal with st := .idle },
       phases := s.dev.phases.map (fun (q : Phase) => { q with st := .active }), rails := s.dev.rails.map (fun (r :
         Rail) => { r with
         cmd := { r.cmd with st := .settled, held := none, pend := some ⟨3, 48000, 8, true, false, false⟩ },
         loop := { r.loop with icmd := 7 } }) } }) tiny, 0, ⟨.regPort, 5, false, true⟩, 0x4#32, ⟨3, 48000, 8, true,
     false, false⟩, by decide +kernel⟩,
   ⟨(fun s => { s with
     dev := { (s.dev.wr RAIL.CTRL_RUN 1 0 |>.wr RAIL.CTRL_SRC 0 0) with
       wiping := [], tune := { s.dev.tune with st := .idle }, cal := { s.dev.cal with st := .idle },
       phases := s.dev.phases.map (fun (q : Phase) => { q with st := .active }), rails := s.dev.rails.map (fun (r :
         Rail) => { r with
         cmd := { r.cmd with st := .settled, held := none, pend := none }, loop := { r.loop with icmd := 7 } }),
       credit := { s.dev.credit with leases := [⟨1, 2, 3, 5, some 0, false, false, 1⟩] } } }) tiny, 0, ⟨.regPort, 5,
     false, true⟩, 0x4#32, by decide +kernel⟩⟩

/-- The hypotheses of RailLoopAndCoefficients are met, clause by clause. -/
theorem test_hyps_RailLoopAndCoefficients :
    (∃ (s : State) (n : Nat) (a : Acc) (v : BitVec 32), s.settled = true ∧ n < 8
      ∧ n < s.dev.rails.length ∧ s.dev.ready (0x08 + n) = true ∧ a.privOk = true ∧ bitsAt v.toNat 2 1 = 0
      ∧ s.dev.openRefused n = false ∧ (s.dev.rail n).loop.opened = false ∧ bitsAt v.toNat 4 1 = s.dev.rd RAIL.CTRL_SRC
      n ∧ bitsAt v.toNat 1 1 = s.dev.rd RAIL.CTRL_MODE n ∧ bitsAt v.toNat 0 1 = s.dev.rd RAIL.CTRL_RUN n) ∧
    (∃ (s : State) (n : Nat) (a : Acc) (v : BitVec 32), s.settled = true ∧ n < 8
      ∧ n < s.dev.rails.length ∧ s.dev.ready (0x08 + n) = true ∧ a.privOk = true ∧ bitsAt v.toNat 2 1 = 1
      ∧ (s.dev.rail n).loop.opened = true ∧ bitsAt v.toNat 4 1 = s.dev.rd RAIL.CTRL_SRC n ∧ bitsAt v.toNat 1 1 =
      s.dev.rd RAIL.CTRL_MODE n ∧ bitsAt v.toNat 0 1 = s.dev.rd RAIL.CTRL_RUN n) ∧
    (∃ (s : State) (n : Nat), s.settled = true ∧ n < s.dev.rails.length ∧ (s.dev.rail n).loop.openDue = true
      ∧ (s.dev.rail n).loop.opened = true ∧ (s.dev.rail n).loop.closeReq = false) ∧
    (∃ (s : State) (n : Nat), s.settled = true ∧ n < s.dev.rails.length ∧ (s.dev.rail n).loop.openDue = true
      ∧ (s.dev.rail n).loop.opened = true ∧ (s.dev.rail n).loop.closeReq = true) ∧
    (∃ (s : State) (n : Nat) (k : Nat) (a : Acc) (v : BitVec 32), s.settled = true ∧ n < 8
      ∧ n < s.dev.rails.length ∧ s.dev.ready (0x08 + n) = true ∧ a.privOk = true ∧ k < 6
      ∧ (s.dev.rail n).loop.opened = true) ∧
    (∃ (s : State) (n : Nat) (k : Nat) (a : Acc) (v : BitVec 32), s.settled = true ∧ n < 8
      ∧ n < s.dev.rails.length ∧ s.dev.ready (0x08 + n) = true ∧ a.privOk = true ∧ k < 8
      ∧ (s.dev.rail n).loop.opened = false) ∧
    (∃ (s : State) (n : Nat) (a : Acc) (v : BitVec 32), s.settled = true ∧ n < 8
      ∧ n < s.dev.rails.length ∧ s.dev.ready (0x08 + n) = true ∧ a.privOk = true ∧ bitsAt v.toNat 4 1 = 0
      ∧ s.dev.on RAIL.CTRL_SRC n = true ∧ bitsAt v.toNat 2 1 = 1 ∧ (s.dev.rail n).loop.opened = false
      ∧ bitsAt v.toNat 1 1 = s.dev.rd RAIL.CTRL_MODE n ∧ bitsAt v.toNat 0 1 = s.dev.rd RAIL.CTRL_RUN n) ∧
    (∃ (s : State) (n : Nat) (a : Acc) (v : BitVec 32), s.settled = true ∧ n < 8
      ∧ n < s.dev.rails.length ∧ s.dev.ready (0x08 + n) = true ∧ a.privOk = true ∧ bitsAt v.toNat 4 1 = 1
      ∧ s.dev.on RAIL.CTRL_SRC n = false ∧ bitsAt v.toNat 2 1 = 1 ∧ (s.dev.rail n).loop.opened = false
      ∧ bitsAt v.toNat 1 1 = s.dev.rd RAIL.CTRL_MODE n ∧ bitsAt v.toNat 0 1 = s.dev.rd RAIL.CTRL_RUN n) ∧
    (∃ (s : State) (n : Nat) (a : Acc) (v : BitVec 32), s.settled = true ∧ n < 8
      ∧ n < s.dev.rails.length ∧ s.dev.ready (0x08 + n) = true ∧ a.privOk = true ∧ s.dev.on RAIL.CTRL_SRC n = true
      ∧ 1 ≤ bitsAt v.toNat 24 8 ∧ bitsAt v.toNat 24 8 ≤ 200) ∧
    (∃ (s : State) (n : Nat) (a : Acc) (v : BitVec 32), s.settled = true ∧ n < 8
      ∧ n < s.dev.rails.length ∧ s.dev.ready (0x08 + n) = true ∧ a.privOk = true ∧ (s.dev.on RAIL.CTRL_SRC n = false
      ∨ bitsAt v.toNat 24 8 = 0 ∨ 200 < bitsAt v.toNat 24 8)) ∧
    (∃ (d : Dev) (n : Nat) (xs : List Int), xs ≠ [] ∧ n < d.rails.length) ∧
    (∃ (d : Dev) (n : Nat) (base : Int), n < d.rails.length ∧ d.avs n = false) ∧
    (∃ (d : Dev) (n : Nat), n < d.rails.length ∧ d.avs n = false) ∧
    (∃ (l : RailLoop) (imax : Nat), l.icmd ≤ imax ∧ imax ≤ 65535) ∧
    (∃ (d : Dev) (n : Nat) (teff : Int), n < d.rails.length ∧ (d.rail n).cmd.pend = none) ∧
    (∃ (d : Dev) (n : Nat) (teff : Int) (p : RCmd), n < d.rails.length ∧ (d.rail n).cmd.pend = some p
      ∧ (d.rail n).cmd.t < 16 * ((d.rail n).cmd.vreq : Int) ∧ p.posted = false) ∧
    (∃ (d : Dev) (n : Nat) (teff : Int) (p : RCmd), n < d.rails.length ∧ (d.rail n).cmd.pend = some p
      ∧ d.avs n = false ∧ 16 * ((d.rail n).cmd.vreq : Int) ≤ (d.rail n).cmd.t ∧ (d.rail n).cmd.ramp = teff
      ∧ (p.rising = false ∨ (d.rail n).loop.r - 16 * ((d.rd RAIL.CMD_CFG_SETTLE_BAND n : Nat) : Int) ≤ (d.rail
      n).loop.v)) ∧
    (∃ (d : Dev) (n : Nat) (teff : Int) (p : RCmd), n < d.rails.length ∧ (d.rail n).cmd.pend = some p
      ∧ 16 * ((d.rail n).cmd.vreq : Int) ≤ (d.rail n).cmd.t ∧ (d.rail n).cmd.ramp ≠ teff) ∧
    (∃ (d : Dev) (n : Nat) (sampled : Bool), n < d.rails.length ∧ d.avs n = false ∧ (d.rail n).flt.vsLost = false
      ∧ (d.rail n).loop.opened = false) ∧
    (∃ (d : Dev) (n : Nat) (sampled : Bool), n < d.rails.length ∧ d.avs n = false ∧ (d.rail n).flt.vsLost = false
      ∧ (d.rail n).loop.opened = true ∧ (d.rail n).loop.closeReq = false ∧ (d.rail n).loop.openReq = false) ∧
    (∃ (d : Dev) (n : Nat) (sampled : Bool), n < d.rails.length ∧ d.avs n = false ∧ (d.rail n).cmd.held = none
      ∧ (d.rail n).cmd.arr = []) ∧
    (∃ (d : Dev) (n : Nat) (raw : List Nat), n < d.rails.length ∧ d.avs n = false ∧ d.sqGated = false
      ∧ (d.rail n).loop.openReq = false ∧ (d.rail n).loop.openDue = false ∧ ((d.rail n).cmd.st = .settled
      ∨ (d.rail n).cmd.st = .slewing ∨ (d.rail n).cmd.st = .waitFreq)) :=
  ⟨⟨(fun s => { s with
     dev := { (s.dev.wr RAIL.CTRL_RUN 1 0 |>.wr RAIL.CTRL_SRC 0 0 |>.wr RAIL.CTRL_MODE 0 0) with
       wiping := [], rails := s.dev.rails.map (fun (r : Rail) => { r with
         cmd := { r.cmd with st := .settled }, loop := { r.loop with opened := false } }) } }) tiny, 0, ⟨.regPort, 5,
     false, true⟩, 0x1#32, by decide +kernel⟩,
   ⟨(fun s => { s with
     dev := { (s.dev.wr RAIL.CTRL_RUN 1 0 |>.wr RAIL.CTRL_SRC 0 0 |>.wr RAIL.CTRL_MODE 0 0) with
       wiping := [], rails := s.dev.rails.map (fun (r : Rail) => { r with
         cmd := { r.cmd with st := .settled }, loop := { r.loop with opened := true } }) } }) tiny, 0, ⟨.regPort, 5,
     false, true⟩, 0x5#32, by decide +kernel⟩,
   ⟨(fun s => { s with
     dev := { (s.dev) with
       rails := s.dev.rails.map (fun (r : Rail) => { r with
         loop := { r.loop with openDue := true, opened := true, closeReq := false } }) } }) tiny, 1, by decide +kernel⟩,
   ⟨(fun s => { s with
     dev := { (s.dev) with
       rails := s.dev.rails.map (fun (r : Rail) => { r with
         loop := { r.loop with openDue := true, opened := true, closeReq := true } }) } }) tiny, 1, by decide +kernel⟩,
   ⟨(fun s => { s with
     dev := { (s.dev) with
       wiping := [], rails := s.dev.rails.map (fun (r : Rail) => { r with loop := { r.loop with opened := true } }) }
       }) tiny, 0, 3, ⟨.regPort, 5, false, true⟩, 0#32, by decide +kernel⟩,
   ⟨(fun s => { s with
     dev := { (s.dev) with
       wiping := [], rails := s.dev.rails.map (fun (r : Rail) => { r with loop := { r.loop with opened := false } }) }
       }) tiny, 0, 3, ⟨.regPort, 5, false, true⟩, 0#32, by decide +kernel⟩,
   ⟨(fun s => { s with
     dev := { (s.dev.wr RAIL.CTRL_SRC 1 0 |>.wr RAIL.CTRL_MODE 0 0 |>.wr RAIL.CTRL_RUN 0 0) with
       wiping := [], rails := s.dev.rails.map (fun (r : Rail) => { r with
         cmd := { r.cmd with govLast := some (3100, 9) }, loop := { r.loop with opened := false } }) } }) tiny, 0,
     ⟨.regPort, 5, false, true⟩, 0x4#32, by decide +kernel⟩,
   ⟨(fun s => { s with
     dev := { (s.dev.wr RAIL.CTRL_SRC 0 0 |>.wr RAIL.CTRL_MODE 0 0 |>.wr RAIL.CTRL_RUN 0 0) with
       wiping := [], rails := s.dev.rails.map (fun (r : Rail) => { r with loop := { r.loop with opened := false } }) }
       }) tiny, 0, ⟨.regPort, 5, false, true⟩, 0x14#32, by decide +kernel⟩,
   ⟨(fun s => { s with dev := { (s.dev.wr RAIL.CTRL_SRC 1 0) with wiping := [] } }) tiny, 0, ⟨.regPort, 5, false,
     true⟩, 0x08000C00#32, by decide +kernel⟩,
   ⟨(fun s => { s with dev := { (s.dev.wr RAIL.CTRL_SRC 0 0) with wiping := [] } }) tiny, 0, ⟨.regPort, 5, false,
     true⟩, 0x08000C00#32, by decide +kernel⟩,
   ⟨(tiny).dev, 0, [5, 6], by decide +kernel⟩,
   ⟨(tiny).dev, 0, default, by decide +kernel⟩,
   ⟨(tiny).dev, 0, by decide +kernel⟩,
   ⟨default, 1, by decide +kernel⟩,
   ⟨(tiny).dev, 0, default, by decide +kernel⟩,
   ⟨((fun (s : State) => { s with
     dev := { (s.dev) with
       rails := s.dev.rails.map (fun (r : Rail) => { r with
         cmd := { r.cmd with pend := some ⟨5, 160, 1, false, false, false⟩, t := 160, vreq := 100 } }) } }) tiny).dev,
     0, default, ⟨5, 160, 1, false, false, false⟩, by decide +kernel⟩,
   ⟨((fun (s : State) => { s with
     dev := { (s.dev) with
       rails := s.dev.rails.map (fun (r : Rail) => { r with
         cmd := { r.cmd with pend := some ⟨5, 160, 1, true, false, false⟩, t := 160, ramp := 160 } }) } }) tiny).dev,
     0, 160, ⟨5, 160, 1, true, false, false⟩, by decide +kernel⟩,
   ⟨((fun (s : State) => { s with
     dev := { (s.dev) with
       rails := s.dev.rails.map (fun (r : Rail) => { r with
         cmd := { r.cmd with pend := some ⟨5, 160, 1, true, false, false⟩, t := 160, ramp := 160 } }) } }) tiny).dev,
     0, 170, ⟨5, 160, 1, true, false, false⟩, by decide +kernel⟩,
   ⟨(tiny).dev, 0, true, by decide +kernel⟩,
   ⟨((fun (s : State) => { s with
     dev := { (s.dev) with
       rails := s.dev.rails.map (fun (r : Rail) => { r with loop := { r.loop with opened := true } }) } }) tiny).dev,
     0, true, by decide +kernel⟩,
   ⟨(tiny).dev, 0, true, by decide +kernel⟩,
   ⟨((fun (s : State) => { s with
     dev := { (s.dev) with
       rails := s.dev.rails.map (fun (r : Rail) => { r with cmd := { r.cmd with st := .settled } }) } }) tiny).dev, 0,
     default, by decide +kernel⟩⟩

/-- The hypotheses of AvsTransactionsEnd are met, clause by clause. -/
theorem test_hyps_AvsTransactionsEnd :
    (∃ (s : State) (n : Nat) (ok : Bool) (st : BitVec 5) (w : BitVec 16) (x : AvsTx) (r : List AvsTx), s.settled =
      true ∧ n < s.dev.rails.length ∧ ok = true ∧ st = 0#5 ∧ (s.dev.rail n).avs.q = x :: r
      ∧ s.dev.railGust n = false ∧ x.wr = true ∧ x.code = 0) ∧
    (∃ (s : State) (n : Nat) (ok : Bool) (st : BitVec 5) (w : BitVec 16) (x : AvsTx) (r : List AvsTx), s.settled =
      true ∧ n < s.dev.rails.length ∧ ok = true ∧ st = 0#5 ∧ (s.dev.rail n).avs.q = x :: r
      ∧ s.dev.railGust n = false ∧ x.wr = true ∧ x.code ≠ 0) ∧
    (∃ (s : State) (n : Nat) (ok : Bool) (st : BitVec 5) (w : BitVec 16) (x : AvsTx) (r : List AvsTx), s.settled =
      true ∧ n < s.dev.rails.length ∧ ok = true ∧ st = 0#5 ∧ (s.dev.rail n).avs.q = x :: r
      ∧ s.dev.railGust n = false ∧ x.wr = false ∧ x.code = 0) ∧
    (∃ (s : State) (n : Nat) (ok : Bool) (st : BitVec 5) (w : BitVec 16) (x : AvsTx) (r : List AvsTx), s.settled =
      true ∧ n < s.dev.rails.length ∧ ok = true ∧ st = 0#5 ∧ (s.dev.rail n).avs.q = x :: r
      ∧ s.dev.railGust n = false ∧ x.wr = false ∧ x.code = 2) ∧
    (∃ (s : State) (n : Nat) (ok : Bool) (st : BitVec 5) (w : BitVec 16) (x : AvsTx) (r : List AvsTx), s.settled =
      true ∧ n < s.dev.rails.length ∧ ok = true ∧ st = 0#5 ∧ (s.dev.rail n).avs.q = x :: r
      ∧ s.dev.railGust n = false ∧ x.wr = false ∧ x.code = 3) ∧
    (∃ (s : State) (n : Nat) (ok : Bool) (st : BitVec 5) (w : BitVec 16) (x : AvsTx) (r : List AvsTx), s.settled =
      true ∧ n < s.dev.rails.length ∧ ok = true ∧ st = 0#5 ∧ (s.dev.rail n).avs.q = x :: r
      ∧ s.dev.railGust n = false ∧ x.wr = false ∧ x.code = 0xF) ∧
    (∃ (s : State) (n : Nat) (ok : Bool) (st : BitVec 5) (w : BitVec 16) (x : AvsTx) (r : List AvsTx), s.settled =
      true ∧ n < s.dev.rails.length ∧ ok = true ∧ (s.dev.rail n).avs.q = x :: r ∧ s.dev.railGust n = false
      ∧ x.wr = false ∧ x.code = 0xE) ∧
    (∃ (s : State) (n : Nat) (ok : Bool) (st : BitVec 5) (w : BitVec 16) (x : AvsTx) (r : List AvsTx), s.settled =
      true ∧ n < s.dev.rails.length ∧ ok = true ∧ st ≠ 0#5 ∧ (s.dev.rail n).avs.q = x :: r
      ∧ s.dev.railGust n = false ∧ x.wr = true ∧ x.code = 0xE) ∧
    (∃ (s : State) (n : Nat) (ok : Bool) (st : BitVec 5) (w : BitVec 16) (x : AvsTx) (r : List AvsTx), s.settled =
      true ∧ n < s.dev.rails.length ∧ ok = false ∧ st = 0#5 ∧ (s.dev.rail n).avs.q = x :: r
      ∧ s.dev.railGust n = false ∧ (s.dev.rail n).avs.tries < 2) ∧
    (∃ (s : State) (n : Nat) (ok : Bool) (st : BitVec 5) (w : BitVec 16) (x : AvsTx) (r : List AvsTx), s.settled =
      true ∧ n < s.dev.rails.length ∧ ok = true ∧ st ≠ 0#5 ∧ (s.dev.rail n).avs.q = x :: r
      ∧ s.dev.railGust n = false ∧ x.code ≠ 0xE ∧ (s.dev.rail n).avs.tries < 2) ∧
    (∃ (s : State) (n : Nat) (ok : Bool) (st : BitVec 5) (w : BitVec 16) (x : AvsTx) (r : List AvsTx), s.settled =
      true ∧ n < s.dev.rails.length ∧ ok = false ∧ st = 0#5 ∧ (s.dev.rail n).avs.q = x :: r
      ∧ s.dev.railGust n = false ∧ (s.dev.rail n).cmd.pend = none ∧ 2 ≤ (s.dev.rail n).avs.tries) ∧
    (∃ (s : State) (n : Nat) (ok : Bool) (st : BitVec 5) (w : BitVec 16) (x : AvsTx) (r : List AvsTx), s.settled =
      true ∧ n < s.dev.rails.length ∧ ok = true ∧ st ≠ 0#5 ∧ (s.dev.rail n).avs.q = x :: r
      ∧ s.dev.railGust n = false ∧ (s.dev.rail n).cmd.pend = none ∧ x.code ≠ 0xE ∧ 2 ≤ (s.dev.rail n).avs.tries) ∧
    (∃ (s : State) (n : Nat) (ok : Bool) (st : BitVec 5) (w : BitVec 16) (x : AvsTx) (r : List AvsTx) (c : RCmd),
      s.settled = true ∧ n < s.dev.rails.length ∧ ok = false ∧ st = 0#5 ∧ (s.dev.rail n).avs.q = x :: r
      ∧ s.dev.railGust n = false ∧ 2 ≤ (s.dev.rail n).avs.tries ∧ (s.dev.rail n).cmd.pend = some c) ∧
    (∃ (s : State) (n : Nat) (ok : Bool) (st : BitVec 5) (w : BitVec 16) (low : Nat) (k : Nat), s.settled = true
      ∧ n < s.dev.rails.length ∧ ok = true ∧ st = 0#5 ∧ (s.dev.rail n).avs.q = [⟨2, 0, false⟩, ⟨0, low, true⟩]
      ∧ s.dev.railGust n = true ∧ ((s.dev.rail n).cmd.st = .settled ∨ (s.dev.rail n).cmd.st = .slewing
      ∨ (s.dev.rail n).cmd.st = .waitFreq) ∧ (s.dev.rail n).avs.voltAck = some k ∧ low < k) ∧
    (∃ (s : State) (n : Nat) (ok : Bool) (st : BitVec 5) (w : BitVec 16) (low : Nat) (k : Nat), s.settled = true
      ∧ n < s.dev.rails.length ∧ ok = false ∧ st = 0#5 ∧ (s.dev.rail n).avs.q = [⟨0, low, true⟩]
      ∧ (s.dev.rail n).avs.tries < 2 ∧ s.dev.railGust n = true ∧ ((s.dev.rail n).cmd.st = .settled
      ∨ (s.dev.rail n).cmd.st = .slewing ∨ (s.dev.rail n).cmd.st = .waitFreq) ∧ (s.dev.rail n).avs.voltAck = some k
      ∧ low < k) ∧
    (∃ (s : State) (n : Nat) (k : Nat) (c : RCmd), s.settled = true ∧ n < s.dev.rails.length
      ∧ (s.dev.rail n).avs.timer = some k ∧ 4 * s.dev.rd RAIL.AVS_TIMEOUT n ≤ k ∧ (s.dev.rail n).cmd.pend = some c) :=
  ⟨⟨(fun s => { s with
     dev := { (s.dev) with
       rails := s.dev.rails.map (fun (r : Rail) => { r with
         avs := { r.avs with q := [⟨0, 700, true⟩], tries := 0 } }) } }) tiny, 0, true, 0#5, 0#16, ⟨0, 700, true⟩, [],
     by decide +kernel⟩,
   ⟨(fun s => { s with
     dev := { (s.dev) with
       rails := s.dev.rails.map (fun (r : Rail) => { r with avs := { r.avs with q := [⟨1, 70, true⟩], tries := 0 } })
         } }) tiny, 0, true, 0#5, 0#16, ⟨1, 70, true⟩, [], by decide +kernel⟩,
   ⟨(fun s => { s with
     dev := { (s.dev) with
       rails := s.dev.rails.map (fun (r : Rail) => { r with avs := { r.avs with q := [⟨0, 0, false⟩], tries := 0 } })
         } }) tiny, 0, true, 0#5, 0#16, ⟨0, 0, false⟩, [], by decide +kernel⟩,
   ⟨(fun s => { s with
     dev := { (s.dev) with
       rails := s.dev.rails.map (fun (r : Rail) => { r with avs := { r.avs with q := [⟨2, 0, false⟩], tries := 0 } })
         } }) tiny, 0, true, 0#5, 0#16, ⟨2, 0, false⟩, [], by decide +kernel⟩,
   ⟨(fun s => { s with
     dev := { (s.dev) with
       rails := s.dev.rails.map (fun (r : Rail) => { r with avs := { r.avs with q := [⟨3, 0, false⟩], tries := 0 } })
         } }) tiny, 0, true, 0#5, 0#16, ⟨3, 0, false⟩, [], by decide +kernel⟩,
   ⟨(fun s => { s with
     dev := { (s.dev) with
       rails := s.dev.rails.map (fun (r : Rail) => { r with
         avs := { r.avs with q := [⟨0xF, 0, false⟩], tries := 0 } }) } }) tiny, 0, true, 0#5, 0#16, ⟨0xF, 0, false⟩,
     [], by decide +kernel⟩,
   ⟨(fun s => { s with
     dev := { (s.dev) with
       rails := s.dev.rails.map (fun (r : Rail) => { r with
         avs := { r.avs with q := [⟨0xE, 0, false⟩], tries := 0 } }) } }) tiny, 0, true, 3#5, 0#16, ⟨0xE, 0, false⟩,
     [], by decide +kernel⟩,
   ⟨(fun s => { s with
     dev := { (s.dev) with
       rails := s.dev.rails.map (fun (r : Rail) => { r with
         avs := { r.avs with q := [⟨0xE, 9, true⟩], tries := 0 } }) } }) tiny, 0, true, 3#5, 0#16, ⟨0xE, 9, true⟩, [],
     by decide +kernel⟩,
   ⟨(fun s => { s with
     dev := { (s.dev) with
       rails := s.dev.rails.map (fun (r : Rail) => { r with
         avs := { r.avs with q := [⟨0, 700, true⟩], tries := 0 } }) } }) tiny, 0, false, 0#5, 0#16, ⟨0, 700, true⟩,
     [], by decide +kernel⟩,
   ⟨(fun s => { s with
     dev := { (s.dev) with
       rails := s.dev.rails.map (fun (r : Rail) => { r with
         avs := { r.avs with q := [⟨0, 700, true⟩], tries := 0 } }) } }) tiny, 0, true, 2#5, 0#16, ⟨0, 700, true⟩, [],
     by decide +kernel⟩,
   ⟨(fun s => { s with
     dev := { (s.dev) with
       rails := s.dev.rails.map (fun (r : Rail) => { r with
         avs := { r.avs with q := [⟨0, 700, true⟩], tries := 2 } }) } }) tiny, 0, false, 0#5, 0#16, ⟨0, 700, true⟩,
     [], by decide +kernel⟩,
   ⟨(fun s => { s with
     dev := { (s.dev) with
       rails := s.dev.rails.map (fun (r : Rail) => { r with
         avs := { r.avs with q := [⟨0, 700, true⟩], tries := 2 } }) } }) tiny, 0, true, 2#5, 0#16, ⟨0, 700, true⟩, [],
     by decide +kernel⟩,
   ⟨(fun s => { s with
     dev := { (s.dev) with
       rails := s.dev.rails.map (fun (r : Rail) => { r with
         avs := { r.avs with q := [⟨0, 700, true⟩], tries := 2 },
         cmd := { r.cmd with pend := some ⟨3, 48000, 8, true, false, false⟩ } }) } }) tiny, 0, false, 0#5, 0#16, ⟨0,
     700, true⟩, [], ⟨3, 48000, 8, true, false, false⟩, by decide +kernel⟩,
   ⟨(fun s => { s with
     dev := { (s.dev.wr DROOP.MAP_USE 1 0 0 |>.wr DROOP.MAP_USE 1 0 1) with
       rails := s.dev.rails.map (fun (r : Rail) => { r with
         cmd := { r.cmd with st := .settled },
         avs := { r.avs with q := [⟨2, 0, false⟩, ⟨0, 700, true⟩], voltAck := some 800, tries := 0 } }),
       sats := s.dev.sats.map (fun (x : Sat) => { x with acc := 12, open100 := true, stuck := false }) } }) tiny, 0,
     true, 0#5, 0#16, 700, 800, by decide +kernel⟩,
   ⟨(fun s => { s with
     dev := { (s.dev.wr DROOP.MAP_USE 1 0 0 |>.wr DROOP.MAP_USE 1 0 1) with
       rails := s.dev.rails.map (fun (r : Rail) => { r with
         cmd := { r.cmd with st := .settled },
         avs := { r.avs with q := [⟨0, 700, true⟩], voltAck := some 800, tries := 0 } }),
       sats := s.dev.sats.map (fun (x : Sat) => { x with acc := 12, open100 := true, stuck := false }) } }) tiny, 0,
     false, 0#5, 0#16, 700, 800, by decide +kernel⟩,
   ⟨(fun s => { s with
     dev := { (s.dev) with
       rails := s.dev.rails.map (fun (r : Rail) => { r with
         avs := { r.avs with timer := some 999999 },
         cmd := { r.cmd with pend := some ⟨3, 48000, 8, true, false, false⟩ } }) } }) tiny, 1, 999999, ⟨3, 48000, 8,
     true, false, false⟩, by decide +kernel⟩⟩

/-- The hypotheses of VoltageSenseLoss are met, clause by clause. -/
theorem test_hyps_VoltageSenseLoss :
    (∃ (s : State) (n : Nat), s.settled = true ∧ n < s.dev.rails.length ∧ 4 ≤ (s.dev.rail n).flt.vsMiss
      ∧ (s.dev.rail n).flt.vsLost = false ∧ (s.dev.rail n).cmd.st ≠ .stopped
      ∧ (s.dev.cal.running = false ∨ s.dev.cal.rail ≠ n)) ∧
    (∃ (s : State) (n : Nat) (k : Nat), s.settled = true ∧ n < s.dev.rails.length ∧ 4 ≤ (s.dev.rail n).flt.vsMiss
      ∧ (s.dev.rail n).flt.vsLost = false ∧ (s.dev.rail n).cmd.st ≠ .stopped
      ∧ (s.dev.tune.running = false ∨ s.dev.tune.rail ≠ n) ∧ s.dev.cal.running = true
      ∧ s.dev.cal.rail = n ∧ s.dev.owner (1 + n) = ⟨k, 0, 0, 4⟩) ∧
    (∃ (s : State) (n : Nat), s.settled = true ∧ n < s.dev.rails.length ∧ 64 ≤ (s.dev.rail n).flt.vsMiss
      ∧ (s.dev.rail n).flt.sqReq = false ∧ (s.dev.rail n).cmd.st ≠ .stopped ∧ (s.dev.rail n).cmd.st ≠ .retention
      ∧ s.aon.squall.active = true) ∧
    (∃ (s : State) (n : Nat), s.settled = true ∧ n < s.dev.rails.length ∧ 64 ≤ (s.dev.rail n).flt.vsMiss
      ∧ (s.dev.rail n).flt.sqReq = false ∧ (s.dev.rail n).cmd.st ≠ .stopped ∧ (s.dev.rail n).cmd.st ≠ .retention
      ∧ s.aon.squall.active = false) ∧
    (∃ (d : Dev) (n : Nat) (p : Nat), p < d.phases.length ∧ (d.phase p).removal = none) ∧
    (∃ (d : Dev) (n : Nat) (p : Nat),
      let others : List Nat := (d.phasesOf n).filter (fun q => q != p && (d.phase q).ok);
      p < d.phases.length ∧ (d.phase p).ok = true ∧ 2 ≤ others.length ∧ d.rd RAIL.OPENDET_OPEN_I n ≤ (d.phase
        p).avg.natAbs ∧ (d.phase p).removal = none) ∧
    (∃ (d : Dev) (n : Nat) (p : Nat), ((d.phase p).ok = false ∨ ((d.phasesOf n).filter (fun q => q != p && (d.phase
      q).ok)).length < 2 ∨ (d.phase p).avg.natAbs < d.rd RAIL.OPENDET_OPEN_I n)) ∧
    (∃ (d : Dev) (n : Nat), n < d.rails.length ∧ d.avs n = false ∧ d.healthy n < (d.rail n).flt.h
      ∧ d.healthy n < d.h0 n ∧ d.minPhases n ≤ d.healthy n ∧ (d.cal.st = .idle ∨ d.cal.rail ≠ n)) ∧
    (∃ (d : Dev) (n : Nat), n < d.rails.length ∧ d.avs n = false ∧ d.healthy n < (d.rail n).flt.h
      ∧ d.healthy n < d.minPhases n ∧ (d.rail n).cmd.st ≠ .stopped ∧ (d.rail n).cmd.st ≠ .retention
      ∧ (d.rail n).flt.sqReq = false) ∧
    (∃ (d : Dev) (n : Nat), n < d.rails.length ∧ (d.rail n).flt.h ≤ d.healthy n ∧ (d.rail n).flt.startTick = false) ∧
    (∃ (d : Dev) (n : Nat) (e : Nat),
      let a : BeatAcc := (d.rail n).flt.accB2;
      let volt : Nat := (2 * a.sv + a.n) / (2 * a.n);
      n < d.rails.length ∧ d.on RAIL.PLAUS_CFG_EN n = true ∧ (d.rail n).flt.pest = some e
        ∧ (d.rail n).flt.pestLate = false ∧ a.n ≠ 0 ∧ a.lost = false ∧ a.ran = true ∧ volt ≠ 0) ∧
    (∃ (d : Dev) (n : Nat), ((d.rail n).flt.pest = none ∨ d.on RAIL.PLAUS_CFG_EN n = false
      ∨ (d.rail n).flt.accB2.n = 0 ∨ (d.rail n).flt.accB2.lost = true ∨ (d.rail n).flt.pestLate = true
      ∨ (d.rail n).flt.accB2.ran = false)) ∧
    (∃ (d : Dev) (n : Nat) (f : Dev → Nat → Dev), ((d.phasesOf n).filter (fun p => (d.phase p).st == .active &&
      (d.phase p).removal.isNone)) = []) :=
  ⟨⟨(fun s => { s with
     dev := { (s.dev) with
       tune := { s.dev.tune with st := .capturing, rail := 1 }, cal := { s.dev.cal with st := .idle }, rails :=
         s.dev.rails.map (fun (r : Rail) => { r with
         cmd := { r.cmd with st := .settled }, flt := { r.flt with vsMiss := 4, vsLost := false } }) } }) tiny, 1, by
     decide +kernel⟩,
   ⟨(fun s => { s with
     dev := { (s.dev) with
       tune := { s.dev.tune with st := .idle }, cal := { s.dev.cal with st := .pulse, rail := 1, delta := 9 },
       claims := { s.dev.claims with res := List.replicate 26 { kind := 2, path := 0, mid := 0, feat := 4 } }, rails
         := s.dev.rails.map (fun (r : Rail) => { r with
         cmd := { r.cmd with st := .settled }, flt := { r.flt with vsMiss := 4, vsLost := false } }) } }) tiny, 1, 2,
     by decide +kernel⟩,
   ⟨(fun s => { s with
     aon := { s.aon with squall := { s.aon.squall with active := true } }, dev := { s.dev with
       rails := s.dev.rails.map (fun (r : Rail) => { r with
         cmd := { r.cmd with st := .settled }, flt := { r.flt with vsMiss := 64, sqReq := false } }) } }) tiny, 1, by
     decide +kernel⟩,
   ⟨(fun s => { s with
     dev := { (s.dev) with
       rails := s.dev.rails.map (fun (r : Rail) => { r with
         cmd := { r.cmd with st := .settled }, flt := { r.flt with vsMiss := 64, sqReq := false } }) } }) tiny, 1, by
     decide +kernel⟩,
   ⟨(tiny).dev, 0, 0, by decide +kernel⟩,
   ⟨((fun (s : State) => { s with
     dev := { (s.dev) with
       phases := s.dev.phases.map (fun (q : Phase) => { q with
         st := .active, ok := true, avg := 400, ripBad := true, senseCnt := 7 }) } }) tiny).dev, 0, 0, by decide +kernel⟩,
   ⟨(tiny).dev, 0, 0, by decide +kernel⟩,
   ⟨((fun (s : State) => { s with
     dev := { (s.dev.wr RAIL.DERATE_MIN_PHASES 0 0 |>.wr RAIL.HARD_FDET_HARD_MINPH 0 0) with
       rails := s.dev.rails.map (fun (r : Rail) => { r with flt := { r.flt with h := 9, hStart := some 9 } }),
       phases := s.dev.phases.map (fun (q : Phase) => { q with st := .shed }) } }) tiny).dev, 0, by decide +kernel⟩,
   ⟨((fun (s : State) => { s with
     dev := { (s.dev.wr RAIL.DERATE_MIN_PHASES 3 0) with
       rails := s.dev.rails.map (fun (r : Rail) => { r with
         cmd := { r.cmd with st := .settled }, flt := { r.flt with h := 9 } }) } }) tiny).dev, 0, by decide +kernel⟩,
   ⟨(tiny).dev, 0, by decide +kernel⟩,
   ⟨((fun (s : State) => { s with
     dev := { (s.dev.wr RAIL.PLAUS_CFG_EN 1 0) with
       rails := s.dev.rails.map (fun (r : Rail) => { r with
         flt := { r.flt with pest := some 5, accB2 := { r.flt.accB2 with n := 4, sv := 12000, si := 900 } } }) } })
     tiny).dev, 0, 5, by decide +kernel⟩,
   ⟨(tiny).dev, 0, by decide +kernel⟩,
   ⟨(tiny).dev, 0, fun d _ => d, by decide +kernel⟩⟩

/-- The hypotheses of TuneRuns are met, clause by clause. -/
theorem test_hyps_TuneRuns :
    (∃ (s : State) (a : Acc) (v : BitVec 32), s.settled = true ∧ s.dev.ready 0x1E = true ∧ a.privOk = true
      ∧ bitsAt v.toNat 31 1 = 1 ∧ bitsAt v.toNat 30 1 = 0 ∧ s.dev.tune.running = false ∧ bitsAt v.toNat 0 3 <
      s.dev.rails.length ∧ (bitsAt v.toNat 10 2 = 0 ∨ s.dev.closedDirect (bitsAt v.toNat 0 3) = true)
      ∧ s.dev.owns a 0 = true ∧ (s.dev.owner 0).feat = 1 ∧ (bitsAt v.toNat 10 2 = 0 ∨ s.dev.owns a (1 + bitsAt v.toNat
      0 3) = true)) ∧
    (∃ (s : State) (a : Acc) (v : BitVec 32), s.settled = true ∧ s.dev.ready 0x1E = true ∧ a.privOk = true
      ∧ bitsAt v.toNat 31 1 = 1 ∧ bitsAt v.toNat 30 1 = 0 ∧ s.dev.tune.running = false ∧ bitsAt v.toNat 0 3 <
      s.dev.rails.length ∧ (bitsAt v.toNat 10 2 = 0 ∨ s.dev.closedDirect (bitsAt v.toNat 0 3) = true)
      ∧ s.dev.owns a 0 = false) ∧
    (∃ (s : State) (a : Acc) (v : BitVec 32), s.settled = true ∧ s.dev.ready 0x1E = true ∧ a.privOk = true
      ∧ bitsAt v.toNat 31 1 = 1 ∧ bitsAt v.toNat 30 1 = 0 ∧ s.dev.tune.running = true ∧ bitsAt v.toNat 10 2 = s.dev.rd
      TUNE.CTRL_WAVE ∧ bitsAt v.toNat 8 1 = s.dev.rd TUNE.CTRL_POINT ∧ bitsAt v.toNat 0 3 = s.dev.rd TUNE.CTRL_RAIL) ∧
    (∃ (s : State) (a : Acc) (v : BitVec 32), s.settled = true ∧ s.dev.ready 0x1E = true ∧ a.privOk = true
      ∧ bitsAt v.toNat 30 1 = 1 ∧ bitsAt v.toNat 31 1 = 0 ∧ s.dev.tune.running = true ∧ bitsAt v.toNat 10 2 = s.dev.rd
      TUNE.CTRL_WAVE ∧ bitsAt v.toNat 8 1 = s.dev.rd TUNE.CTRL_POINT ∧ bitsAt v.toNat 0 3 = s.dev.rd TUNE.CTRL_RAIL) ∧
    (∃ (s : State), s.settled = true ∧ s.dev.tune.st = .capturing ∧ s.dev.rd TUNE.CAP_CFG_LEN + 1 ≤ s.dev.tune.count) :=
  ⟨⟨(fun s => { s with
     dev := { (s.dev) with
       wiping := [], tune := { s.dev.tune with st := .idle }, rails := s.dev.rails.map (fun (r : Rail) => { r with
         cmd := { r.cmd with st := .settled }, loop := { r.loop with opened := false } }),
       claims := { s.dev.claims with res := [⟨1, 0, 5, 1⟩, ⟨1, 0, 5, 1⟩, ⟨1, 0, 5, 1⟩] } } }) tiny, ⟨.regPort, 5,
     false, true⟩, 0x80000401#32, by decide +kernel⟩,
   ⟨(fun s => { s with dev := { (s.dev) with wiping := [], tune := { s.dev.tune with st := .idle } } }) tiny,
     ⟨.regPort, 5, false, true⟩, 0x80000001#32, by decide +kernel⟩,
   ⟨(fun s => { s with dev := { (s.dev) with wiping := [], tune := { s.dev.tune with st := .capturing } } }) tiny,
     ⟨.regPort, 5, false, true⟩, 0x80000000#32, by decide +kernel⟩,
   ⟨(fun s => { s with dev := { (s.dev) with wiping := [], tune := { s.dev.tune with st := .capturing } } }) tiny,
     ⟨.regPort, 5, false, true⟩, 0x40000000#32, by decide +kernel⟩,
   ⟨(fun s => { s with dev := { (s.dev) with tune := { s.dev.tune with st := .capturing, count := 70000 } } }) tiny,
     by decide +kernel⟩⟩

/-- The hypotheses of SatelliteSensesAndStretches are met, clause by clause. -/
theorem test_hyps_SatelliteSensesAndStretches :
    (∃ (s : State) (k : Nat) (c : BitVec 6), s.settled = true ∧ k < s.dev.sats.length
      ∧ (s.dev.sat k).servoDue = false) ∧
    (∃ (s : State) (k : Nat), s.settled = true ∧ k < s.dev.sats.length ∧ (s.dev.sat k).servoDue = true
      ∧ (s.dev.sat k).stretch = 0 ∧ 4096 ≤ (s.dev.sat k).sinceRel ∧ (s.dev.sat k).last256 < 38 * 256
      ∧ 0 < (s.dev.sat k).coarse) ∧
    (∃ (s : State) (k : Nat), s.settled = true ∧ k < s.dev.sats.length ∧ (s.dev.sat k).servoDue = true
      ∧ (s.dev.sat k).stretch = 0 ∧ 4096 ≤ (s.dev.sat k).sinceRel ∧ 42 * 256 < (s.dev.sat k).last256
      ∧ (s.dev.sat k).coarse = 255) ∧
    (∃ (s : State) (k : Nat) (e : BitVec 4) (cyc : Nat), s.settled = true ∧ k < s.dev.sats.length
      ∧ bitsAt e.toNat 2 2 = 0 ∧ bitsAt e.toNat 0 1 = 0 ∧ (s.dev.sat k).gust = false
      ∧ s.dev.cal.st ≠ .pulse ∧ (s.dev.dom (s.dev.satDom k)).gust = false ∧ ((∀ o ∈ List.range s.dev.sats.length, o ≠
      k → s.dev.satGust o = false))) ∧
    (∃ (s : State) (k : Nat) (e : BitVec 4) (cyc : Nat), s.settled = true ∧ k < s.dev.sats.length
      ∧ 1 ≤ bitsAt e.toNat 2 2 ∧ bitsAt e.toNat 0 1 = 0 ∧ bitsAt e.toNat 1 1 = 0 ∧ (s.dev.sat k).gust = true
      ∧ (s.dev.sat k).persisted = false ∧ s.dev.satInUse k = true ∧ s.dev.cal.st ≠ .pulse
      ∧ (s.dev.dom (s.dev.satDom k)).gust = true) ∧
    (∃ (s : State) (k : Nat) (e : BitVec 4) (cyc : Nat), s.settled = true ∧ k < s.dev.sats.length
      ∧ 1 ≤ bitsAt e.toNat 2 2 ∧ bitsAt e.toNat 0 1 = 0 ∧ bitsAt e.toNat 1 1 = 0 ∧ (s.dev.sat k).gust = false
      ∧ s.dev.satInUse k = true ∧ s.dev.cal.st ≠ .pulse ∧ s.dev.wave.st ≠ .armed
      ∧ s.dev.satDom k < s.dev.doms.length ∧ (s.dev.dom (s.dev.satDom k)).gust = false) :=
  ⟨⟨(fun s => { s with
     dev := { (s.dev) with
       sats := s.dev.sats.map (fun (q : Sat) => { q with
         lvs := [0, 2], servoDue := false, stretch := 1, cyc := 255 }) } }) tiny, 1, 12#6, by decide +kernel⟩,
   ⟨(fun s => { s with
     dev := { (s.dev) with
       sats := s.dev.sats.map (fun (q : Sat) => { q with
         servoDue := true, stretch := 0, sinceRel := 4096, last256 := 9000, coarse := 128 }) } }) tiny, 1, by decide +kernel⟩,
   ⟨(fun s => { s with
     dev := { (s.dev) with
       sats := s.dev.sats.map (fun (q : Sat) => { q with
         servoDue := true, stretch := 0, sinceRel := 4096, last256 := 12000, coarse := 255 }) } }) tiny, 1, by decide +kernel⟩,
   ⟨(fun s => { s with
     dev := { (s.dev) with
       sats := s.dev.sats.map (fun (q : Sat) => { q with gust := false, acc := 0 }),
       doms := s.dev.doms.map (fun (q : Dom) => { q with gust := false }) } }) tiny, 1, 2#4, 7, by decide +kernel⟩,
   ⟨(fun s => { s with
     dev := { (s.dev) with
       sats := s.dev.sats.map (fun (q : Sat) => { q with
         gust := true, persisted := false, acc := 4, open100 := true, stuck := false }),
       doms := s.dev.doms.map (fun (q : Dom) => { q with gust := true }) } }) tiny, 1, 12#4, 7, by decide +kernel⟩,
   ⟨(fun s => { s with
     dev := { (s.dev) with
       sats := s.dev.sats.map (fun (q : Sat) => { q with gust := false, acc := 0, open100 := true, stuck := false }),
       doms := s.dev.doms.map (fun (q : Dom) => { q with gust := false }) } }) tiny, 1, 12#4, 7, by decide +kernel⟩⟩

/-- The hypotheses of GustsEndAndSatellitesLeaveUse are met, clause by clause. -/
theorem test_hyps_GustsEndAndSatellitesLeaveUse :
    (∃ (s : State) (m : Nat), s.settled = true ∧ m < s.dev.doms.length ∧ (s.dev.dom m).wait = true
      ∧ (s.dev.dom m).prep = false) ∧
    (∃ (s : State) (m : Nat), s.settled = true ∧ m < s.dev.doms.length ∧ (s.dev.dom m).wait = true
      ∧ (s.dev.dom m).gust = false ∧ (s.dev.dom m).prep = true ∧ (s.dev.dom m).prepAck = true
      ∧ (s.dev.dom m).sw = false ∧ (s.dev.dom m).swAck = false ∧ s.dev.sqActive = false
      ∧ ((s.dev.dom m).freq ≤ (s.dev.dom m).conf ∨ s.dev.voltOk m = true)) ∧
    (∃ (s : State) (m : Nat) (c : Nat), s.settled = true ∧ m < s.dev.doms.length ∧ (s.dev.dom m).gate = true) ∧
    (∃ (s : State) (m : Nat) (c : Nat), s.settled = true ∧ m < s.dev.doms.length ∧ (s.dev.dom m).gate = false) ∧
    (∃ (s : State) (m : Nat) (c : Nat), s.settled = true ∧ m < s.dev.doms.length ∧ (s.dev.dom m).gate = false
      ∧ (s.dev.dom m).gust = false ∧ ((∀ k ∈ List.range s.dev.sats.length, s.dev.satDom k = m → (s.dev.sat k).level =
      0 ∧ (s.dev.sat k).gust = false))) ∧
    (∃ (s : State) (k : Nat) (o : Nat), s.settled = true ∧ k < s.dev.sats.length ∧ (s.dev.sat k).gust = true
      ∧ s.dev.rd DROOP.STUCK_LIMIT ≤ (s.dev.sat k).gustBeats ∧ s.dev.satDom k < s.dev.doms.length
      ∧ (s.dev.dom (s.dev.satDom k)).gust = true ∧ o < s.dev.sats.length ∧ o ≠ k ∧ s.dev.satDom o = s.dev.satDom k
      ∧ s.dev.satGust o = true) ∧
    (∃ (s : State) (k : Nat), s.settled = true ∧ k < s.dev.sats.length ∧ (s.dev.sat k).gust = true
      ∧ s.dev.rd DROOP.STUCK_LIMIT ≤ (s.dev.sat k).gustBeats ∧ s.dev.satDom k < s.dev.doms.length
      ∧ (s.dev.dom (s.dev.satDom k)).gust = true ∧ ((∀ o ∈ List.range s.dev.sats.length, o ≠ k → s.dev.satDom o =
      s.dev.satDom k → s.dev.satGust o = false))) ∧
    (∃ (s : State) (k : Nat) (a : Acc) (v : BitVec 32), s.settled = true ∧ k < 64 ∧ k < s.dev.sats.length
      ∧ a.privOk = true ∧ s.dev.ready 0x10 = true ∧ bitsAt v.toNat 31 1 = 1 ∧ (s.dev.sat k).gust = false
      ∧ (s.dev.sat k).level = 0 ∧ (s.dev.dom (s.dev.satDom k)).gust = false ∧ ((∀ o ∈ List.range s.dev.sats.length, o
      ≠ k → s.dev.satDom o = s.dev.satDom k → s.dev.satGust o = false))) ∧
    (∃ (s : State) (m : Nat), s.settled = true ∧ m < s.dev.doms.length ∧ (s.dev.dom m).gust = true
      ∧ (s.dev.dom m).long = false ∧ ((s.dev.dom m).prep = false ∨ (s.dev.dom m).sw = true)) ∧
    (∃ (s : State) (m : Nat), s.settled = true ∧ m < s.dev.doms.length ∧ (s.dev.dom m).gust = true
      ∧ (s.dev.dom m).long = false ∧ (s.dev.dom m).prep = true ∧ (s.dev.dom m).sw = false
      ∧ (s.dev.dom m).conf < (s.dev.dom m).freq ∧ (s.dev.dom m).cancelSent = false) ∧
    (∃ (s : State) (m : Nat), s.settled = true ∧ m < s.dev.doms.length ∧ (s.dev.dom m).gust = true
      ∧ (s.dev.dom m).long = false ∧ (s.dev.dom m).wait = false ∧ (s.dev.dom m).prep = true
      ∧ (s.dev.dom m).prepAck = true ∧ (s.dev.dom m).sw = false ∧ (s.dev.dom m).swAck = false
      ∧ s.dev.sqActive = false ∧ (s.dev.dom m).freq ≤ (s.dev.dom m).conf ∧ (s.dev.dom m).forcedSent = false) :=
  ⟨⟨(fun s => { s with
     dev := { (s.dev) with doms := s.dev.doms.map (fun (q : Dom) => { q with wait := true, prep := false }) } }) tiny,
     1, by decide +kernel⟩,
   ⟨(fun s => { s with
     dev := { (s.dev) with
       sqActive := false, doms := s.dev.doms.map (fun (q : Dom) => { q with
         wait := true, prep := true, prepAck := true, sw := false, swAck := false, gust := false, freq := 5000,
         conf := 5000 }) } }) tiny, 1, by decide +kernel⟩,
   ⟨(fun s => { s with dev := { (s.dev) with doms := s.dev.doms.map (fun (q : Dom) => { q with gate := true }) } })
     tiny, 1, 9, by decide +kernel⟩,
   ⟨(fun s => { s with dev := { (s.dev) with doms := s.dev.doms.map (fun (q : Dom) => { q with gate := false }) } })
     tiny, 1, 9, by decide +kernel⟩,
   ⟨(fun s => { s with
     dev := { (s.dev) with
       doms := s.dev.doms.map (fun (q : Dom) => { q with gate := false, gust := false }),
       sats := s.dev.sats.map (fun (q : Sat) => { q with acc := 0, gust := false }) } }) tiny, 1, 9, by decide +kernel⟩,
   ⟨(fun s => { s with
     dev := { (s.dev) with
       bld := { s.dev.bld with dsMap := [(0, 0), (0, 1)] }, sats := s.dev.sats.map (fun (q : Sat) => { q with
         gust := true, gustBeats := 70000, acc := 8, open100 := true, stuck := false }),
       doms := s.dev.doms.map (fun (q : Dom) => { q with gust := true }) } }) tiny, 1, 0, by decide +kernel⟩,
   ⟨(fun s => { s with
     dev := { (s.dev) with
       sats := s.dev.sats.map (fun (q : Sat) => { q with
         gust := true, gustBeats := 70000, acc := 8, open100 := true, stuck := false }),
       doms := s.dev.doms.map (fun (q : Dom) => { q with gust := true }) } }) tiny, 1, by decide +kernel⟩,
   ⟨(fun s => { s with
     dev := { (s.dev) with
       wiping := [], sats := s.dev.sats.map (fun (q : Sat) => { q with gust := false, stuck := true, acc := 0 }),
       doms := s.dev.doms.map (fun (q : Dom) => { q with gust := false }) } }) tiny, 1, ⟨.regPort, 5, false, true⟩,
     0x80000000#32, by decide +kernel⟩,
   ⟨(fun s => { s with
     dev := { (s.dev) with
       doms := s.dev.doms.map (fun (q : Dom) => { q with gust := true, long := false, prep := false }) } }) tiny, 1,
     by decide +kernel⟩,
   ⟨(fun s => { s with
     dev := { (s.dev) with
       doms := s.dev.doms.map (fun (q : Dom) => { q with
         gust := true, long := false, prep := true, sw := false, freq := 5000, conf := 4000, cancelSent := false }) }
       }) tiny, 1, by decide +kernel⟩,
   ⟨(fun s => { s with
     dev := { (s.dev) with
       sqActive := false, doms := s.dev.doms.map (fun (q : Dom) => { q with
         gust := true, long := false, wait := false, prep := true, prepAck := true, sw := false, swAck := false,
         freq := 4000, conf := 5000, forcedSent := false }) } }) tiny, 1, by decide +kernel⟩⟩

/-- The hypotheses of LiveCalibration are met, clause by clause. -/
theorem test_hyps_LiveCalibration :
    (∃ (s : State) (a : Acc) (v : BitVec 32), s.settled = true ∧ s.dev.ready 0x10 = true ∧ a.privOk = true
      ∧ bitsAt v.toNat 31 1 = 1 ∧ bitsAt v.toNat 0 3 < s.dev.rails.length) ∧
    (∃ (s : State), s.settled = true ∧ 0 < s.dev.rails.length ∧ s.dev.on DROOP.CAL_CFG_EN = true
      ∧ 1000 * s.dev.rd DROOP.CAL_CFG_PERIOD ≤ s.dev.cal.ms) ∧
    (∃ (s : State) (n : Nat), s.settled = true ∧ s.dev.cal.running = false ∧ s.dev.sqActive = false
      ∧ s.dev.calNext = some (n, false) ∧ (s.dev.owner (1 + n)).kind = 0
      ∧ s.dev.rd DROOP.CAL_STEP_START ≤ s.dev.calMax) ∧
    (∃ (s : State) (n : Nat), s.settled = true ∧ s.dev.cal.running = false ∧ s.dev.sqActive = false
      ∧ s.dev.calNext = some (n, true) ∧ (s.dev.owner (1 + n)).kind ≠ 1 ∧ s.dev.tuneUses (1 + n) = false
      ∧ s.dev.rd DROOP.CAL_STEP_START ≤ s.dev.calMax) ∧
    (∃ (s : State) (n : Nat) (p : Nat), s.settled = true ∧ s.dev.cal.running = false
      ∧ s.dev.sqActive = false ∧ s.dev.calNext = some (n, true) ∧ (s.dev.owner (1 + n)).kind = 1 ∧ 1 ≤ p
      ∧ p ≤ 3 ∧ (s.dev.owner (1 + n)).path = p ∧ s.dev.rd DROOP.CAL_STEP_START ≤ s.dev.calMax) ∧
    (∃ (s : State) (n : Nat), s.settled = true ∧ s.dev.cal.running = false ∧ s.dev.sqActive = false
      ∧ s.dev.cal.due = [n] ∧ s.dev.cal.dueF = [] ∧ s.dev.calReady n = true ∧ (s.dev.owner (1 + n)).kind ≠ 0
      ∧ s.dev.claims.busySent.contains (1 + n) = false) ∧
    (∃ (s : State), s.settled = true ∧ s.dev.cal.running = false ∧ s.dev.sqActive = false ∧ s.dev.calNext = none) ∧
    (∃ (s : State), s.settled = true ∧ s.dev.cal.st = .gap ∧ 4 * s.dev.rd DROOP.CAL_CFG_GAP ≤ s.dev.cal.ticks) ∧
    (∃ (s : State), s.settled = true ∧ s.dev.cal.st = .pulse ∧ 4 * s.dev.rd DROOP.CAL_CFG_PULSE ≤ s.dev.cal.ticks
      ∧ s.dev.cal.delta + s.dev.rd DROOP.CAL_STEP_STEP ≤ s.dev.calMax ∧ ((∃ k ∈ s.dev.calSats s.dev.cal.rail,
      ((s.dev.sat k).takeDrop (min 254 (s.dev.cal.v0 - s.dev.cal.vmean)) s.dev.cal.first).x3 = none))) ∧
    (∃ (s : State), s.settled = true ∧ s.dev.cal.st = .pulse ∧ 4 * s.dev.rd DROOP.CAL_CFG_PULSE ≤ s.dev.cal.ticks
      ∧ (s.dev.calMax < s.dev.cal.delta + s.dev.rd DROOP.CAL_STEP_STEP ∨ (∀ k ∈ s.dev.calSats s.dev.cal.rail,
      ((s.dev.sat k).takeDrop (min 254 (s.dev.cal.v0 - s.dev.cal.vmean)) s.dev.cal.first).x3 ≠ none))
      ∧ ((∀ k ∈ s.dev.calSats s.dev.cal.rail, ((s.dev.sat k).takeDrop (min 254 (s.dev.cal.v0 - s.dev.cal.vmean))
      s.dev.cal.first).x1 ≠ none ∧ ((s.dev.sat k).takeDrop (min 254 (s.dev.cal.v0 - s.dev.cal.vmean))
      s.dev.cal.first).x1first = false)) ∧ s.dev.on LEVEL.AGE_CFG_EN = false ∧ s.dev.owner (1 + s.dev.cal.rail) = ⟨2,
      0, 0, 4⟩ ∧ s.dev.cal.rail < 8 ∧ s.dev.claims.res.length = 26) :=
  ⟨⟨(fun s => { s with dev := { (s.dev) with wiping := [] } }) tiny, ⟨.regPort, 5, false, true⟩, 0x80000001#32, by
     decide +kernel⟩,
   ⟨(fun s => { s with
     dev := { (s.dev.wr DROOP.CAL_CFG_EN 1) with cal := { s.dev.cal with ms := 999999999, due := [1] } } }) tiny, by
     decide +kernel⟩,
   ⟨(fun s => { s with
     dev := { (s.dev.wr DROOP.CAL_QUIET_BEATS 2 |>.wr DROOP.CAL_STEP_START 4 |>.wr DROOP.CAL_STEP_MAX 40 |>.wr
       DROOP.HARD_CAL_HARD_CALMAX 40 |>.wr RAIL.CTRL_MODE 0 0) with
       sqActive := false, claims := { s.dev.claims with
         busySent := [], res := List.replicate 26 { kind := 0, path := 0, mid := 0, feat := 1 } },
       tune := { s.dev.tune with st := .idle },
       cal := { s.dev.cal with st := .wait, due := [0], dueF := [], hist := [[5, 5, 5], [5, 5, 5]] },
       phases := s.dev.phases.map (fun (q : Phase) => { q with st := .off }),
       sats := s.dev.sats.map (fun (q : Sat) => { q with acc := 0, gust := false }),
       doms := s.dev.doms.map (fun (q : Dom) => { q with prep := false }), rails := s.dev.rails.map (fun (r : Rail) =>
         { r with
         cmd := { r.cmd with st := .settled, pend := none, arr := [], held := none },
         loop := { r.loop with opened := false } }) } }) tiny, 0, by decide +kernel⟩,
   ⟨(fun s => { s with
     dev := { (s.dev.wr DROOP.CAL_QUIET_BEATS 2 |>.wr DROOP.CAL_STEP_START 4 |>.wr DROOP.CAL_STEP_MAX 40 |>.wr
       DROOP.HARD_CAL_HARD_CALMAX 40 |>.wr RAIL.CTRL_MODE 0 0) with
       sqActive := false, claims := { s.dev.claims with
         busySent := [], res := List.replicate 26 { kind := 0, path := 0, mid := 0, feat := 1 } },
       tune := { s.dev.tune with st := .idle },
       cal := { s.dev.cal with st := .wait, due := [], dueF := [0], hist := [[5, 5, 5], [5, 5, 5]] },
       phases := s.dev.phases.map (fun (q : Phase) => { q with st := .off }),
       sats := s.dev.sats.map (fun (q : Sat) => { q with acc := 0, gust := false }),
       doms := s.dev.doms.map (fun (q : Dom) => { q with prep := false }), rails := s.dev.rails.map (fun (r : Rail) =>
         { r with
         cmd := { r.cmd with st := .settled, pend := none, arr := [], held := none },
         loop := { r.loop with opened := false } }) } }) tiny, 0, by decide +kernel⟩,
   ⟨(fun s => { s with
     dev := { (s.dev.wr DROOP.CAL_QUIET_BEATS 2 |>.wr DROOP.CAL_STEP_START 4 |>.wr DROOP.CAL_STEP_MAX 40 |>.wr
       DROOP.HARD_CAL_HARD_CALMAX 40 |>.wr RAIL.CTRL_MODE 0 0 |>.wr TUNE.CTRL_WAVE 1) with
       sqActive := false, claims := { s.dev.claims with
         busySent := [], res := List.replicate 26 { kind := 1, path := 1, mid := 0, feat := 1 } },
       tune := { s.dev.tune with st := .capturing, rail := 0 },
       cal := { s.dev.cal with st := .wait, due := [], dueF := [0], hist := [[5, 5, 5], [5, 5, 5]] },
       phases := s.dev.phases.map (fun (q : Phase) => { q with st := .off }),
       sats := s.dev.sats.map (fun (q : Sat) => { q with acc := 0, gust := false }),
       doms := s.dev.doms.map (fun (q : Dom) => { q with prep := false }), rails := s.dev.rails.map (fun (r : Rail) =>
         { r with
         cmd := { r.cmd with st := .settled, pend := none, arr := [], held := none },
         loop := { r.loop with opened := false } }) } }) tiny, 0, 1, by decide +kernel⟩,
   ⟨(fun s => { s with
     dev := { (s.dev.wr DROOP.CAL_QUIET_BEATS 2 |>.wr DROOP.CAL_STEP_START 4 |>.wr DROOP.CAL_STEP_MAX 40 |>.wr
       DROOP.HARD_CAL_HARD_CALMAX 40 |>.wr RAIL.CTRL_MODE 0 0) with
       sqActive := false, claims := { s.dev.claims with
         busySent := [], res := List.replicate 26 { kind := 1, path := 0, mid := 0, feat := 1 } },
       tune := { s.dev.tune with st := .idle },
       cal := { s.dev.cal with st := .wait, due := [0], dueF := [], hist := [[5, 5, 5], [5, 5, 5]] },
       phases := s.dev.phases.map (fun (q : Phase) => { q with st := .off }),
       sats := s.dev.sats.map (fun (q : Sat) => { q with acc := 0, gust := false }),
       doms := s.dev.doms.map (fun (q : Dom) => { q with prep := false }), rails := s.dev.rails.map (fun (r : Rail) =>
         { r with
         cmd := { r.cmd with st := .settled, pend := none, arr := [], held := none },
         loop := { r.loop with opened := false } }) } }) tiny, 0, by decide +kernel⟩,
   ⟨(fun s => { s with
     dev := { (s.dev.wr DROOP.CAL_QUIET_BEATS 2 |>.wr DROOP.CAL_STEP_START 4 |>.wr DROOP.CAL_STEP_MAX 40 |>.wr
       DROOP.HARD_CAL_HARD_CALMAX 40 |>.wr RAIL.CTRL_MODE 0 0) with
       sqActive := false, claims := { s.dev.claims with
         busySent := [], res := List.replicate 26 { kind := 0, path := 0, mid := 0, feat := 1 } },
       tune := { s.dev.tune with st := .idle },
       cal := { s.dev.cal with st := .wait, due := [], dueF := [], hist := [[5, 5, 5], [5, 5, 5]] },
       phases := s.dev.phases.map (fun (q : Phase) => { q with st := .off }),
       sats := s.dev.sats.map (fun (q : Sat) => { q with acc := 0, gust := false }),
       doms := s.dev.doms.map (fun (q : Dom) => { q with prep := false }), rails := s.dev.rails.map (fun (r : Rail) =>
         { r with
         cmd := { r.cmd with st := .settled, pend := none, arr := [], held := none },
         loop := { r.loop with opened := false } }) } }) tiny, by decide +kernel⟩,
   ⟨(fun s => { s with dev := { (s.dev) with cal := { s.dev.cal with st := .gap, ticks := 9999, vh := [4, 5] } } })
     tiny, by decide +kernel⟩,
   ⟨(fun s => { s with
     dev := { (s.dev.wr DROOP.CAL_STEP_STEP 2 |>.wr DROOP.CAL_STEP_MAX 40 |>.wr DROOP.HARD_CAL_HARD_CALMAX 40) with
       cal := { s.dev.cal with
         st := .pulse, rail := 1, ticks := 9999, vh := [4, 5], delta := 6, v0 := 40, first := false, due := [],
         dueF := [] },
       claims := { s.dev.claims with res := List.replicate 26 { kind := 2, path := 0, mid := 0, feat := 4 } }, sats :=
         s.dev.sats.map (fun (q : Sat) => { q with open100 := true, stuck := false, x3 := none, pulseMax := 2 }) } })
     tiny, by decide +kernel⟩,
   ⟨(fun s => { s with
     dev := { (s.dev.wr DROOP.CAL_STEP_STEP 2 |>.wr DROOP.CAL_STEP_MAX 40 |>.wr DROOP.HARD_CAL_HARD_CALMAX 40 |>.wr
       LEVEL.AGE_CFG_EN 0) with
       cal := { s.dev.cal with
         st := .pulse, rail := 1, ticks := 9999, vh := [4, 5], delta := 6, v0 := 40, first := false, due := [],
         dueF := [] },
       claims := { s.dev.claims with res := List.replicate 26 { kind := 2, path := 0, mid := 0, feat := 4 } }, sats :=
         s.dev.sats.map (fun (q : Sat) => { q with
         open100 := true, stuck := false, x1 := some 5, x2 := some 6, x3 := some 7, x1first := false, pulseMax := 3 })
         } }) tiny, by decide +kernel⟩⟩

/-- The hypotheses of WaveformCapture are met, clause by clause. -/
theorem test_hyps_WaveformCapture :
    (∃ (s : State) (a : Acc) (v : BitVec 32), s.settled = true ∧ s.dev.ready 0x10 = true ∧ a.privOk = true
      ∧ bitsAt v.toNat 31 1 = 1 ∧ bitsAt v.toNat 30 1 = 0 ∧ s.dev.owns a 0 = true ∧ (s.dev.owner 0).feat = 2) ∧
    (∃ (s : State) (a : Acc) (v : BitVec 32), s.settled = true ∧ s.dev.ready 0x10 = true ∧ a.privOk = true
      ∧ bitsAt v.toNat 31 1 = 1 ∧ bitsAt v.toNat 30 1 = 0 ∧ (s.dev.owns a 0 = false ∨ (s.dev.owner 0).feat ≠ 2)) ∧
    (∃ (s : State) (a : Acc) (v : BitVec 32), s.settled = true ∧ s.dev.ready 0x10 = true ∧ a.privOk = true
      ∧ bitsAt v.toNat 31 1 = 0 ∧ bitsAt v.toNat 30 1 = 1 ∧ s.dev.wave.st = .armed) ∧
    (∃ (s : State), s.settled = true ∧ s.dev.wave.st = .armed ∧ s.dev.wave.left = some 0) :=
  ⟨⟨(fun s => { s with dev := { (s.dev) with wiping := [], claims := { s.dev.claims with res := [⟨1, 0, 5, 2⟩] } } })
     tiny, ⟨.regPort, 5, false, true⟩, 0x80010003#32, by decide +kernel⟩,
   ⟨(fun s => { s with dev := { (s.dev) with wiping := [] } }) tiny, ⟨.regPort, 5, false, true⟩, 0x80010003#32, by
     decide +kernel⟩,
   ⟨(fun s => { s with dev := { (s.dev) with wiping := [], wave := { s.dev.wave with st := .armed } } }) tiny,
     ⟨.regPort, 5, false, true⟩, 0x40010003#32, by decide +kernel⟩,
   ⟨(fun s => { s with dev := { (s.dev) with wave := { s.dev.wave with st := .armed, left := some 0, pos := 10 } } })
     tiny, by decide +kernel⟩⟩

/-- The hypotheses of GovernorEscalatesAndRecovers are met, clause by clause. -/
theorem test_hyps_GovernorEscalatesAndRecovers :
    (∃ (s : State) (sc : Nat), s.settled = true ∧ sc ≤ s.dev.rails.length
      ∧ s.dev.rd GOV.ESC_LEVEL_BEATS ≤ s.dev.gov.esc.getD sc 0 ∧ 0 < s.dev.gov.lgov) ∧
    (∃ (s : State) (sc : Nat), s.settled = true ∧ sc < s.dev.rails.length
      ∧ s.dev.rd GOV.ESC_POOL_BEATS ≤ s.dev.gov.esc.getD sc 0 ∧ s.dev.gov.lgov = 0) ∧
    (∃ (s : State) (sc : Nat), s.settled = true ∧ sc = s.dev.rails.length
      ∧ s.dev.rd GOV.ESC_POOL_BEATS ≤ s.dev.gov.esc.getD sc 0 ∧ s.dev.gov.lgov = 0) ∧
    (∃ (s : State), s.settled = true ∧ s.dev.gov.set.hold ≤ s.dev.gov.stepUp ∧ ((∀ n < s.dev.rails.length, 256 ≤
      s.dev.gov.pf.getD n 256)) ∧ s.dev.gov.lgov < s.dev.gov.cap) ∧
    (∃ (s : State), s.settled = true ∧ s.dev.gov.set.hold ≤ s.dev.gov.stepUp
      ∧ ((∃ n < s.dev.rails.length, s.dev.gov.pf.getD n 256 < 256))) ∧
    (∃ (s : State), s.settled = true ∧ s.dev.gov.stale = true ∧ s.dev.gov.safe = false
      ∧ 100000 ≤ s.dev.gov.staleBeats) ∧
    (∃ (d : Dev) (id : Nat) (l : Nat) (m : Nat) (r : Nat), 0 < l) ∧
    (∃ (d : Dev) (c : Nat), c < d.bld.cores ∧ c / 16 < d.bld.creditCh
      ∧ d.gov.lim.pkg.length ≤ 4 ∧ d.gov.lim.edc.length ≤ d.rails.length
      ∧ d.gov.lim.tdc.length ≤ d.rails.length ∧ d.gov.lim.didt.length ≤ d.rails.length) ∧
    (∃ (d : Dev) (n : Nat), n < d.rails.length ∧ (d.railDoms n).isEmpty = false) :=
  ⟨⟨(fun s => { s with
     dev := { (s.dev) with gov := { s.dev.gov with esc := [0, 0, 70000], lgov := 3, stuckLims := [0x19] } } }) tiny,
     2, by decide +kernel⟩,
   ⟨(fun s => { s with dev := { (s.dev) with gov := { s.dev.gov with esc := [0, 70000, 0], lgov := 0 } } }) tiny, 1,
     by decide +kernel⟩,
   ⟨(fun s => { s with dev := { (s.dev) with gov := { s.dev.gov with esc := [0, 0, 70000], lgov := 0 } } }) tiny, 2,
     by decide +kernel⟩,
   ⟨(fun s => { s with
     dev := { (s.dev) with gov := { s.dev.gov with stepUp := 70000, lgov := 3, cap := 63, pf := [] } } }) tiny, by
     decide +kernel⟩,
   ⟨(fun s => { s with
     dev := { (s.dev) with gov := { s.dev.gov with stepUp := 70000, lgov := 3, cap := 63, pf := [256, 200] } } })
     tiny, by decide +kernel⟩,
   ⟨(fun s => { s with
     dev := { (s.dev) with gov := { s.dev.gov with stale := true, safe := false, staleBeats := 100000 } } }) tiny, by
     decide +kernel⟩,
   ⟨(tiny).dev, 0, 5, 1, 1, by decide +kernel⟩,
   ⟨(tiny).dev, 0, by decide +kernel⟩,
   ⟨((fun (s : State) => { s with
     dev := { (s.dev.wr LEVEL.DOM_RAIL 0 0 0) with
       rails := s.dev.rails.map (fun (r : Rail) => { r with cmd := { r.cmd with st := .settled } }),
       doms := s.dev.doms.map (fun (q : Dom) => { q with conf := 5 }) } }) tiny).dev, 0, by decide +kernel⟩⟩

/-- The hypotheses of PinsLevelTablesAndFitness are met, clause by clause. -/
theorem test_hyps_PinsLevelTablesAndFitness :
    (∃ (s : State), s.settled = true) ∧
    (∃ (s : State), s.settled = true) ∧
    (∃ (s : State) (a : Acc) (v : BitVec 32), s.settled = true ∧ s.dev.ready 0x12 = true ∧ a.privOk = true
      ∧ bitsAt v.toNat 31 1 = 1) ∧
    (∃ (s : State), s.settled = true ∧ s.dev.on LEVEL.BANK_PEND = true ∧ ((∀ m < s.dev.doms.length, levelColumnOk
      s.dev.levelIdle (s.dev.rd LEVEL.HARD_F_HARD_FMAX) m = true))) ∧
    (∃ (s : State) (m : Nat), s.settled = true ∧ s.dev.on LEVEL.BANK_PEND = true
      ∧ m < s.dev.doms.length ∧ levelColumnOk s.dev.levelIdle (s.dev.rd LEVEL.HARD_F_HARD_FMAX) m = false
      ∧ ((∀ o < m, levelColumnOk s.dev.levelIdle (s.dev.rd LEVEL.HARD_F_HARD_FMAX) o = true))) ∧
    (∃ (s : State), s.settled = true ∧ s.dev.on LEVEL.BANK_PEND = false) ∧
    (∃ (s : State) (a : Acc) (v : BitVec 32), s.settled = true ∧ s.dev.ready 0x12 = true ∧ a.privOk = true
      ∧ s.dev.rd LEVEL.FITCTL_HOLD = 1 ∧ bitsAt v.toNat 0 1 = 0) ∧
    (∃ (s : State) (a : Acc) (v : BitVec 32), s.settled = true ∧ s.dev.ready 0x12 = true ∧ a.privOk = true
      ∧ bitsAt v.toNat 0 1 = 1) ∧
    (∃ (d : Dev) (m : Nat), m < d.doms.length ∧ m < 16 ∧ d.rd LEVEL.AGE_OFFSET 0 m < 2 ^ LEVEL.AGE_OFFSET.wid) :=
  ⟨⟨tiny, by decide +kernel⟩,
   ⟨tiny, by decide +kernel⟩,
   ⟨(fun s => { s with dev := { (s.dev) with wiping := [] } }) tiny, ⟨.regPort, 5, false, true⟩, 0x80000000#32, by
     decide +kernel⟩,
   ⟨(fun s => { s with dev := { (s.dev.wr LEVEL.BANK_PEND 1) with doms := [], hint := s.dev.hint } }) tiny, by decide +kernel⟩,
   ⟨(fun s => { s with dev := { (s.dev.wr LEVEL.BANK_PEND 1) with lvl0 := [], lvl1 := [] } }) tiny, 0, by decide +kernel⟩,
   ⟨(fun s => { s with dev := (s.dev.wr LEVEL.BANK_PEND 0) }) tiny, by decide +kernel⟩,
   ⟨(fun s => { s with dev := { (s.dev.wr LEVEL.FITCTL_HOLD 1) with wiping := [] } }) tiny, ⟨.regPort, 5, false,
     true⟩, 0#32, by decide +kernel⟩,
   ⟨(fun s => { s with dev := { (s.dev) with wiping := [] } }) tiny, ⟨.regPort, 5, false, true⟩, 1#32, by decide +kernel⟩,
   ⟨((fun (s : State) => { s with
     dev := { (s.dev.wr LEVEL.AGE_CFG_STEP 3) with doms := s.dev.doms.map (fun (q : Dom) => { q with ageT := 20 }) }
       }) tiny).dev, 0, by decide +kernel⟩⟩

/-- The hypotheses of FourPhaseHandshake are met, clause by clause. -/
theorem test_hyps_FourPhaseHandshake :
    (∃ (s : State) (m : Nat), s.settled = true ∧ m < s.dev.doms.length ∧ (s.dev.dom m).prep = true
      ∧ (s.dev.dom m).prepAck = false ∧ (s.dev.dom m).sw = false ∧ (s.dev.dom m).swAck = false
      ∧ s.dev.sqActive = false ∧ (s.dev.dom m).conf < (s.dev.dom m).freq ∧ s.dev.voltOk m = false) ∧
    (∃ (s : State) (m : Nat), s.settled = true ∧ m < s.dev.doms.length ∧ (s.dev.dom m).prep = true
      ∧ (s.dev.dom m).prepAck = false ∧ (s.dev.dom m).sw = false ∧ (s.dev.dom m).swAck = false
      ∧ s.dev.sqActive = false ∧ ((s.dev.dom m).freq ≤ (s.dev.dom m).conf ∨ s.dev.voltOk m = true)
      ∧ (s.dev.dom m).gust = false ∧ (s.dev.dom m).wait = false) ∧
    (∃ (s : State) (m : Nat), s.settled = true ∧ m < s.dev.doms.length ∧ (s.dev.dom m).prep = true
      ∧ (s.dev.dom m).prepAck = false ∧ (s.dev.dom m).sw = false ∧ (s.dev.dom m).swAck = false
      ∧ s.dev.sqActive = false ∧ ((s.dev.dom m).freq ≤ (s.dev.dom m).conf ∨ s.dev.voltOk m = true)
      ∧ ((s.dev.dom m).wait = true ∨ ((s.dev.dom m).gust = true ∧ ((s.dev.dom m).long = false
      ∨ (s.dev.dom m).conf < (s.dev.dom m).freq))) ∧ (s.dev.dom m).counted = false) ∧
    (∃ (s : State) (m : Nat), s.settled = true ∧ m < s.dev.doms.length ∧ (s.dev.dom m).prep = true
      ∧ (s.dev.dom m).prepAck = true ∧ (s.dev.dom m).sw = false ∧ (s.dev.dom m).swAck = false
      ∧ s.dev.sqActive = false ∧ (s.dev.dom m).conf < (s.dev.dom m).freq ∧ s.dev.voltOk m = false) ∧
    (∃ (s : State) (m : Nat), s.settled = true ∧ m < s.dev.doms.length ∧ (s.dev.dom m).prep = true
      ∧ (s.dev.dom m).prepAck = true ∧ (s.dev.dom m).sw = false ∧ (s.dev.dom m).swAck = false
      ∧ s.dev.sqActive = false ∧ ((s.dev.dom m).freq ≤ (s.dev.dom m).conf ∨ s.dev.voltOk m = true)
      ∧ (s.dev.dom m).gust = false ∧ (s.dev.dom m).wait = false) ∧
    (∃ (s : State) (m : Nat), s.settled = true ∧ m < s.dev.doms.length ∧ (s.dev.dom m).prep = true
      ∧ (s.dev.dom m).prepAck = true ∧ (s.dev.dom m).sw = false ∧ (s.dev.dom m).swAck = false
      ∧ s.dev.sqActive = false ∧ ((s.dev.dom m).freq ≤ (s.dev.dom m).conf ∨ s.dev.voltOk m = true)
      ∧ ((s.dev.dom m).wait = true ∨ ((s.dev.dom m).gust = true ∧ ((s.dev.dom m).long = false
      ∨ (s.dev.dom m).conf < (s.dev.dom m).freq))) ∧ (s.dev.dom m).counted = false) ∧
    (∃ (s : State) (m : Nat), s.settled = true ∧ m < s.dev.doms.length ∧ (s.dev.dom m).prep = true
      ∧ (s.dev.dom m).prepAck = true ∧ (s.dev.dom m).sw = false ∧ (s.dev.dom m).swAck = false
      ∧ s.dev.sqActive = false ∧ (s.dev.dom m).freq ≤ (s.dev.dom m).conf ∧ (s.dev.dom m).wait = false
      ∧ (s.dev.dom m).gust = true ∧ (s.dev.dom m).long = true ∧ (s.dev.dom m).forcedSent = false) ∧
    (∃ (s : State) (m : Nat), s.settled = true ∧ m < s.dev.doms.length ∧ (s.dev.dom m).sw = true
      ∧ (s.dev.dom m).swAck = false ∧ (s.dev.dom m).gate = false) ∧
    (∃ (s : State) (m : Nat), s.settled = true ∧ m < s.dev.doms.length ∧ (s.dev.dom m).sw = true
      ∧ (s.dev.dom m).swAck = false ∧ (s.dev.dom m).freq ≠ 0 ∧ s.dev.on LEVEL.BANK_VALID = true
      ∧ s.dev.sqActive = false ∧ s.dev.voltOk m = true) ∧
    (∃ (s : State) (m : Nat) (w : Bool), s.settled = true ∧ m < s.dev.doms.length ∧ (s.dev.dom m).prep = false
      ∧ w = true) ∧
    (∃ (s : State) (m : Nat) (w : Bool), s.settled = true ∧ m < s.dev.doms.length ∧ (s.dev.dom m).prep = false
      ∧ w = false) ∧
    (∃ (s : State) (m : Nat), s.settled = true ∧ m < s.dev.doms.length ∧ (s.dev.dom m).gate = true
      ∧ (s.dev.dom m).conf ≠ 0 ∧ s.dev.on LEVEL.BANK_VALID = true ∧ s.dev.sqActive = false ∧ s.dev.voltOk m = true) ∧
    (∃ (s : State) (m : Nat), s.settled = true ∧ ((s.dev.dom m).gate = false ∨ (s.dev.dom m).conf = 0
      ∨ s.dev.on LEVEL.BANK_VALID = false ∨ s.dev.sqActive = true ∨ s.dev.voltOk m = false)) ∧
    (∃ (s : State) (m : Nat), s.settled = true ∧ m < s.dev.doms.length ∧ (s.dev.dom m).prep = true
      ∧ (s.dev.dom m).prepAck = false ∧ (s.dev.dom m).sw = false) ∧
    (∃ (s : State) (m : Nat), s.settled = true ∧ m < s.dev.doms.length ∧ (s.dev.dom m).sw = true
      ∧ (s.dev.dom m).late = false) ∧
    (∃ (d : Dev) (level : Nat) (m : Nat),
      let freq : Nat := d.freqAt level m;
      d.on LEVEL.BANK_VALID = true ∧ d.sqActive = false ∧ m < d.doms.length ∧ (d.dom m).prep = false
        ∧ (d.dom m).sw = false ∧ (d.dom m).prepAck = false ∧ (d.dom m).swAck = false ∧ freq ≠ (d.dom m).conf
        ∧ (freq ≤ (d.dom m).conf ∨ ((d.dom m).gust = false ∧ (d.dom m).wait = false))) ∧
    (∃ (d : Dev) (level : Nat) (m : Nat), d.on LEVEL.BANK_VALID = true ∧ d.sqActive = false
      ∧ m < d.doms.length ∧ (d.dom m).prep = true ∧ (d.dom m).sw = false ∧ (d.dom m).freq ≠ d.freqAt level m) ∧
    (∃ (d : Dev) (level : Nat) (m : Nat), d.on LEVEL.BANK_VALID = true ∧ d.sqActive = false
      ∧ m < d.doms.length ∧ ((d.dom m).sw = true ∨ ((d.dom m).prep = false ∧ d.freqAt level m = (d.dom m).conf)
      ∨ ((d.dom m).prep = true ∧ (d.dom m).freq = d.freqAt level m))) ∧
    (∃ (d : Dev) (level : Nat) (m : Nat), (d.on LEVEL.BANK_VALID = false ∨ d.sqActive = true)) ∧
    (∃ (d : Dev) (level : Nat) (m : Nat),
      let freq : Nat := d.freqAt level m;
      m < d.doms.length ∧ (d.dom m).prep = false ∧ (d.dom m).sw = false ∧ (d.dom m).conf < freq
        ∧ ((d.dom m).gust = true ∨ (d.dom m).wait = true)) :=
  ⟨⟨(fun s => { s with
     dev := { (s.dev.wr LEVEL.DOM_RAIL 1 0 1) with
       sqActive := false, doms := s.dev.doms.map (fun (q : Dom) => { q with
         prep := true, prepAck := false, sw := false, swAck := false, conf := 4000, freq := 5000 }),
       rails := s.dev.rails.map (fun (r : Rail) => { r with cmd := { r.cmd with doneT := none } }) } }) tiny, 1, by
     decide +kernel⟩,
   ⟨(fun s => { s with
     dev := { (s.dev) with
       sqActive := false, doms := s.dev.doms.map (fun (q : Dom) => { q with
         prep := true, prepAck := false, sw := false, swAck := false, conf := 6000, freq := 5000, gust := false,
         wait := false }) } }) tiny, 1, by decide +kernel⟩,
   ⟨(fun s => { s with
     dev := { (s.dev) with
       sqActive := false, doms := s.dev.doms.map (fun (q : Dom) => { q with
         prep := true, prepAck := false, sw := false, swAck := false, conf := 6000, freq := 5000, gust := true,
         long := false, wait := false, counted := false }) } }) tiny, 1, by decide +kernel⟩,
   ⟨(fun s => { s with
     dev := { (s.dev.wr LEVEL.DOM_RAIL 1 0 1) with
       sqActive := false, doms := s.dev.doms.map (fun (q : Dom) => { q with
         prep := true, prepAck := true, sw := false, swAck := false, conf := 4000, freq := 5000 }),
       rails := s.dev.rails.map (fun (r : Rail) => { r with cmd := { r.cmd with doneT := none } }) } }) tiny, 1, by
     decide +kernel⟩,
   ⟨(fun s => { s with
     dev := { (s.dev) with
       sqActive := false, doms := s.dev.doms.map (fun (q : Dom) => { q with
         prep := true, prepAck := true, sw := false, swAck := false, conf := 6000, freq := 5000, gust := false,
         wait := false }) } }) tiny, 1, by decide +kernel⟩,
   ⟨(fun s => { s with
     dev := { (s.dev) with
       sqActive := false, doms := s.dev.doms.map (fun (q : Dom) => { q with
         prep := true, prepAck := true, sw := false, swAck := false, conf := 6000, freq := 5000, gust := false,
         wait := true, counted := false }) } }) tiny, 1, by decide +kernel⟩,
   ⟨(fun s => { s with
     dev := { (s.dev) with
       sqActive := false, doms := s.dev.doms.map (fun (q : Dom) => { q with
         prep := true, prepAck := true, sw := false, swAck := false, conf := 6000, freq := 5000, gust := true,
         long := true, wait := false, forcedSent := false }) } }) tiny, 1, by decide +kernel⟩,
   ⟨(fun s => { s with
     dev := { (s.dev) with
       doms := s.dev.doms.map (fun (q : Dom) => { q with sw := true, swAck := false, gate := false, freq := 5000 }) }
       }) tiny, 1, by decide +kernel⟩,
   ⟨(fun s => { s with
     dev := { (s.dev.wr LEVEL.BANK_VALID 1) with
       sqActive := false, doms := s.dev.doms.map (fun (q : Dom) => { q with
         sw := true, swAck := false, gate := true, freq := 5000 }) } }) tiny, 1, by decide +kernel⟩,
   ⟨(fun s => { s with
     dev := { (s.dev) with doms := s.dev.doms.map (fun (q : Dom) => { q with prep := false, swAck := true }) } })
     tiny, 1, true, by decide +kernel⟩,
   ⟨(fun s => { s with
     dev := { (s.dev) with doms := s.dev.doms.map (fun (q : Dom) => { q with prep := false, prepAck := true }) } })
     tiny, 1, false, by decide +kernel⟩,
   ⟨(fun s => { s with
     dev := { (s.dev.wr LEVEL.BANK_VALID 1) with
       sqActive := false, doms := s.dev.doms.map (fun (q : Dom) => { q with gate := true, conf := 5000 }) } }) tiny,
     1, by decide +kernel⟩,
   ⟨(fun s => { s with dev := { (s.dev) with doms := s.dev.doms.map (fun (q : Dom) => { q with gate := false }) } })
     tiny, 1, by decide +kernel⟩,
   ⟨(fun s => { s with
     dev := { (s.dev) with
       doms := s.dev.doms.map (fun (q : Dom) => { q with prep := true, prepAck := false, sw := false }) } }) tiny, 1,
     by decide +kernel⟩,
   ⟨(fun s => { s with
     dev := { (s.dev) with doms := s.dev.doms.map (fun (q : Dom) => { q with sw := true, late := false }) } }) tiny,
     1, by decide +kernel⟩,
   ⟨((fun (s : State) => { s with
     dev := { (s.dev.wr LEVEL.BANK_VALID 1) with doms := s.dev.doms.map (fun (q : Dom) => { q with conf := 77 }) } })
     tiny).dev, 0, 0, by decide +kernel⟩,
   ⟨((fun (s : State) => { s with
     dev := { (s.dev.wr LEVEL.BANK_VALID 1) with
       doms := s.dev.doms.map (fun (q : Dom) => { q with conf := 77, freq := 99, prep := true }) } }) tiny).dev, 0, 0,
     by decide +kernel⟩,
   ⟨((fun (s : State) => { s with
     dev := { (s.dev.wr LEVEL.BANK_VALID 1) with
       doms := s.dev.doms.map (fun (q : Dom) => { q with conf := 77, freq := 99, sw := true }) } }) tiny).dev, 0, 0,
     by decide +kernel⟩,
   ⟨(tiny).dev, 1, 1, by decide +kernel⟩,
   ⟨((fun (s : State) => { s with
     dev := { (s.dev.wr LEVEL.BANK_VALID 1) with
       doms := s.dev.doms.map (fun (q : Dom) => { q with gust := true }), lvl0 := (Mem.writeLE [] 0 2 500),
       lvl1 := (Mem.writeLE [] 0 2 500) } }) tiny).dev, 0, 0, by decide +kernel⟩⟩

/-- The hypotheses of CreditRequestsAnswered are met, clause by clause. -/
theorem test_hyps_CreditRequestsAnswered :
    (∃ (s : State) (reqs : List (Nat × BitVec 32)) (strobe : Bool), s.settled = true ∧ strobe = true) ∧
    (∃ (s : State) (reqs : List (Nat × BitVec 32)) (strobe : Bool) (c : Nat) (w : BitVec 32) (y : Nat) (n : Nat),
      s.settled = true ∧ reqs = [(c, w)] ∧ strobe = false ∧ s.dev.credit.port = [] ∧ c < s.dev.bld.cores
      ∧ ((∀ n ∈ List.range s.dev.rails.length, s.dev.nextGrant n = none)) ∧ s.dev.credit.queue.all (fun (q : CReq) =>
      q.told) = true ∧ s.dev.denyReason s.dev.rsvs c w.toNat (s.dev.coreRail c) = y ∧ y ≠ 0 ∧ y ≠ 4
      ∧ s.dev.coreRail c = some n) ∧
    (∃ (s : State) (reqs : List (Nat × BitVec 32)) (strobe : Bool) (c : Nat) (w : BitVec 32) (y : Nat), s.settled =
      true ∧ reqs = [(c, w)] ∧ strobe = false ∧ s.dev.credit.port = [] ∧ c < s.dev.bld.cores
      ∧ ((∀ n ∈ List.range s.dev.rails.length, s.dev.nextGrant n = none)) ∧ s.dev.credit.queue.all (fun (q : CReq) =>
      q.told) = true ∧ s.dev.denyReason s.dev.rsvs c w.toNat (s.dev.coreRail c) = y ∧ y ≠ 0 ∧ y ≠ 4
      ∧ s.dev.coreRail c = none) ∧
    (∃ (s : State) (reqs : List (Nat × BitVec 32)) (strobe : Bool) (c : Nat) (w : BitVec 32) (n : Nat), s.settled =
      true ∧ reqs = [(c, w)] ∧ strobe = false ∧ s.dev.credit.port = [] ∧ c < s.dev.bld.cores
      ∧ ((∀ n ∈ List.range s.dev.rails.length, s.dev.nextGrant n = none)) ∧ s.dev.credit.queue.all (fun (q : CReq) =>
      q.told) = true ∧ s.dev.denyReason s.dev.rsvs c w.toNat (s.dev.coreRail c) = 4 ∧ s.dev.coreRail c = some n) ∧
    (∃ (s : State) (reqs : List (Nat × BitVec 32)) (strobe : Bool) (c : Nat) (w : BitVec 32), s.settled = true
      ∧ reqs = [(c, w)] ∧ strobe = false ∧ s.dev.credit.port = [] ∧ c < s.dev.bld.cores
      ∧ ((∀ n ∈ List.range s.dev.rails.length, s.dev.nextGrant n = none)) ∧ s.dev.credit.queue.all (fun (q : CReq) =>
      q.told) = true ∧ s.dev.denyReason s.dev.rsvs c w.toNat (s.dev.coreRail c) = 4 ∧ s.dev.coreRail c = none) ∧
    (∃ (s : State) (reqs : List (Nat × BitVec 32)) (strobe : Bool) (c : Nat) (w : BitVec 32), s.settled = true
      ∧ reqs = [(c, w)] ∧ strobe = false ∧ s.dev.credit.port = [] ∧ c < s.dev.bld.cores
      ∧ ((∀ n ∈ List.range s.dev.rails.length, s.dev.nextGrant n = none)) ∧ s.dev.credit.queue.all (fun (q : CReq) =>
      q.told) = true ∧ s.dev.denyReason s.dev.rsvs c w.toNat (s.dev.coreRail c) = 0 ∧ s.dev.coreRail c = none) ∧
    (∃ (s : State) (reqs : List (Nat × BitVec 32)) (strobe : Bool) (c : Nat) (w : BitVec 32) (n : Nat), s.settled =
      true ∧ reqs = [(c, w)] ∧ strobe = false ∧ s.dev.credit.port = [] ∧ c < s.dev.bld.cores
      ∧ s.dev.denyReason s.dev.rsvs c w.toNat (s.dev.coreRail c) = 0 ∧ s.dev.coreRail c = some n
      ∧ s.dev.credit.queue = [] ∧ bitsAt w.toNat 30 2 ≠ 3 ∧ (s.dev.pool n).g + bitsAt w.toNat 0 12 ≤ (s.dev.pool
      n).avail ∧ bitsAt w.toNat 0 12 ≤ (s.dev.pool n).b ∧ n < s.dev.rails.length) ∧
    (∃ (s : State) (reqs : List (Nat × BitVec 32)) (strobe : Bool) (c : Nat) (w : BitVec 32) (n : Nat), s.settled =
      true ∧ reqs = [(c, w)] ∧ strobe = false ∧ s.dev.credit.port = [] ∧ c < s.dev.bld.cores
      ∧ s.dev.denyReason s.dev.rsvs c w.toNat (s.dev.coreRail c) = 0 ∧ s.dev.coreRail c = some n
      ∧ s.dev.credit.queue = [] ∧ bitsAt w.toNat 30 2 = 3 ∧ (s.dev.pool n).grsv + bitsAt w.toNat 0 12 ≤ (s.dev.pool
      n).rsv ∧ n < s.dev.rails.length) ∧
    (∃ (s : State) (reqs : List (Nat × BitVec 32)) (strobe : Bool) (c : Nat) (w : BitVec 32) (n : Nat), s.settled =
      true ∧ reqs = [(c, w)] ∧ strobe = false ∧ s.dev.credit.port = [] ∧ c < s.dev.bld.cores
      ∧ s.dev.denyReason s.dev.rsvs c w.toNat (s.dev.coreRail c) = 0 ∧ s.dev.coreRail c = some n
      ∧ s.dev.credit.queue = [] ∧ bitsAt w.toNat 30 2 ≠ 3 ∧ ((s.dev.pool n).avail < (s.dev.pool n).g + bitsAt w.toNat
      0 12 ∨ (s.dev.pool n).b < bitsAt w.toNat 0 12)) :=
  ⟨⟨tiny, [(2, 5#32), (1, 6#32)], true, by decide +kernel⟩,
   ⟨(fun s => { s with
     dev := { (s.dev.wr CREDIT.CH_EN_EN 0 |>.wr LEVEL.CHDOM_DOM0 0 0 0 |>.wr LEVEL.DOM_RAIL 1 0 0 |>.wr
       LEVEL.CORE_EN_EN 15 |>.wr CREDIT.MAXREQ_MAX_UNITS 100) with
       sqActive := false,
       rails := s.dev.rails.map (fun (r : Rail) => { r with cmd := { r.cmd with st := .settled } }), credit := {
         s.dev.credit with
         port := [], leases := [], queue := [], pools := s.dev.credit.pools.map (fun (p : CPool) => { p with
           avail := 400, p := 400, b := 90, g := 100 }) } } }) tiny, [(1, 0x40100010#32)], false, 1, 0x40100010#32, 7,
     1, by decide +kernel⟩,
   ⟨(fun s => { s with
     dev := { (s.dev.wr CREDIT.CH_EN_EN 0 |>.wr LEVEL.CHDOM_DOM0 0 0 0 |>.wr LEVEL.DOM_RAIL 15 0 0 |>.wr
       LEVEL.CORE_EN_EN 15 |>.wr CREDIT.MAXREQ_MAX_UNITS 100) with
       sqActive := false,
       rails := s.dev.rails.map (fun (r : Rail) => { r with cmd := { r.cmd with st := .settled } }), credit := {
         s.dev.credit with
         port := [], leases := [], queue := [], pools := s.dev.credit.pools.map (fun (p : CPool) => { p with
           avail := 400, p := 400, b := 90, g := 100 }) } } }) tiny, [(1, 0x40100010#32)], false, 1, 0x40100010#32, 7,
     by decide +kernel⟩,
   ⟨(fun s => { s with
     dev := { (s.dev.wr CREDIT.CH_EN_EN 1 |>.wr LEVEL.CHDOM_DOM0 0 0 0 |>.wr LEVEL.DOM_RAIL 1 0 0 |>.wr
       LEVEL.CORE_EN_EN 15 |>.wr CREDIT.MAXREQ_MAX_UNITS 100) with
       sqActive := false,
       rails := s.dev.rails.map (fun (r : Rail) => { r with cmd := { r.cmd with st := .settled } }), credit := {
         s.dev.credit with
         port := [], leases := [], queue := [], pools := s.dev.credit.pools.map (fun (p : CPool) => { p with
           avail := 400, p := 400, b := 90, g := 100 }) } } }) tiny, [(1, 0x40100000#32)], false, 1, 0x40100000#32, 1,
     by decide +kernel⟩,
   ⟨(fun s => { s with
     dev := { (s.dev.wr CREDIT.CH_EN_EN 1 |>.wr LEVEL.CHDOM_DOM0 0 0 0 |>.wr LEVEL.DOM_RAIL 15 0 0 |>.wr
       LEVEL.CORE_EN_EN 15 |>.wr CREDIT.MAXREQ_MAX_UNITS 100) with
       sqActive := false,
       rails := s.dev.rails.map (fun (r : Rail) => { r with cmd := { r.cmd with st := .settled } }), credit := {
         s.dev.credit with
         port := [], leases := [], queue := [], pools := s.dev.credit.pools.map (fun (p : CPool) => { p with
           avail := 400, p := 400, b := 90, g := 100 }) } } }) tiny, [(1, 0x40100000#32)], false, 1, 0x40100000#32, by
     decide +kernel⟩,
   ⟨(fun s => { s with
     dev := { (s.dev.wr CREDIT.CH_EN_EN 1 |>.wr LEVEL.CHDOM_DOM0 0 0 0 |>.wr LEVEL.DOM_RAIL 15 0 0 |>.wr
       LEVEL.CORE_EN_EN 15 |>.wr CREDIT.MAXREQ_MAX_UNITS 100) with
       sqActive := false,
       rails := s.dev.rails.map (fun (r : Rail) => { r with cmd := { r.cmd with st := .settled } }), credit := {
         s.dev.credit with
         port := [], leases := [], queue := [], pools := s.dev.credit.pools.map (fun (p : CPool) => { p with
           avail := 400, p := 400, b := 90, g := 100 }) } } }) tiny, [(1, 0x40100010#32)], false, 1, 0x40100010#32, by
     decide +kernel⟩,
   ⟨(fun s => { s with
     dev := { (s.dev.wr CREDIT.CH_EN_EN 1 |>.wr LEVEL.CHDOM_DOM0 0 0 0 |>.wr LEVEL.DOM_RAIL 1 0 0 |>.wr
       LEVEL.CORE_EN_EN 15 |>.wr CREDIT.MAXREQ_MAX_UNITS 100) with
       sqActive := false,
       rails := s.dev.rails.map (fun (r : Rail) => { r with cmd := { r.cmd with st := .settled } }), credit := {
         s.dev.credit with
         port := [], leases := [], queue := [], pools := s.dev.credit.pools.map (fun (p : CPool) => { p with
           avail := 400, p := 400, b := 90, g := 100 }) } } }) tiny, [(1, 0x40100010#32)], false, 1, 0x40100010#32, 1,
     by decide +kernel⟩,
   ⟨(fun s => { s with
     dev := { (s.dev.wr CREDIT.CH_EN_EN 1 |>.wr LEVEL.CHDOM_DOM0 0 0 0 |>.wr LEVEL.DOM_RAIL 1 0 0 |>.wr
       LEVEL.CORE_EN_EN 15 |>.wr CREDIT.MAXREQ_MAX_UNITS 100) with
       sqActive := false,
       rails := s.dev.rails.map (fun (r : Rail) => { r with cmd := { r.cmd with st := .settled } }), credit := {
         s.dev.credit with
         port := [], leases := [], queue := [], pools := s.dev.credit.pools.map (fun (p : CPool) => { p with
           avail := 400, p := 400, b := 90, g := 100, rsv := 50, grsv := 0 }) } } }) tiny, [(1, 0xC0100010#32)],
     false, 1, 0xC0100010#32, 1, by decide +kernel⟩,
   ⟨(fun s => { s with
     dev := { (s.dev.wr CREDIT.CH_EN_EN 1 |>.wr LEVEL.CHDOM_DOM0 0 0 0 |>.wr LEVEL.DOM_RAIL 1 0 0 |>.wr
       LEVEL.CORE_EN_EN 15 |>.wr CREDIT.MAXREQ_MAX_UNITS 100) with
       sqActive := false,
       rails := s.dev.rails.map (fun (r : Rail) => { r with cmd := { r.cmd with st := .settled } }), credit := {
         s.dev.credit with
         port := [], leases := [], queue := [],
         pools := s.dev.credit.pools.map (fun (p : CPool) => { p with avail := 400, p := 400, b := 9, g := 100 }) } }
       }) tiny, [(1, 0x40100010#32)], false, 1, 0x40100010#32, 1, by decide +kernel⟩⟩

/-- The hypotheses of LeasesEndAndRequestsAge are met, clause by clause. -/
theorem test_hyps_LeasesEndAndRequestsAge :
    (∃ (s : State) (r : CReq), s.settled = true ∧ s.dev.credit.queue = [r]
      ∧ r.rail < s.dev.rails.length ∧ (s.dev.pool r.rail).fits r = true ∧ r.cls ≠ 3
      ∧ r.wait ≤ (s.dev.rd CREDIT.MAXWAIT_TICKS 0 r.rail)) ∧
    (∃ (s : State) (r : CReq), s.settled = true ∧ s.dev.credit.queue = [r]
      ∧ r.rail < s.dev.rails.length ∧ (s.dev.pool r.rail).fits r = true ∧ r.cls ≠ 3
      ∧ (s.dev.rd CREDIT.MAXWAIT_TICKS 0 r.rail) < r.wait) ∧
    (∃ (s : State) (r : CReq), s.settled = true ∧ s.dev.credit.queue = [r]
      ∧ r.rail < s.dev.rails.length ∧ (s.dev.pool r.rail).fits r = true ∧ r.cls = 3
      ∧ r.wait ≤ (s.dev.rd CREDIT.MAXWAIT_TICKS 0 r.rail)) ∧
    (∃ (s : State), s.settled = true ∧ ((∀ n ∈ List.range s.dev.rails.length, s.dev.nextGrant n = none))) ∧
    (∃ (s : State) (c : Nat) (w : BitVec 16) (l : Lease) (n : Nat), s.settled = true
      ∧ c < s.dev.bld.cores ∧ s.dev.leaseAt c (bitsAt w.toNat 0 1) = some l ∧ l.tag = bitsAt w.toNat 1 4
      ∧ l.rail = some n ∧ l.rsv = false) ∧
    (∃ (s : State) (c : Nat) (w : BitVec 16) (l : Lease) (n : Nat), s.settled = true
      ∧ c < s.dev.bld.cores ∧ s.dev.leaseAt c (bitsAt w.toNat 0 1) = some l ∧ l.tag = bitsAt w.toNat 1 4
      ∧ l.rail = some n ∧ l.rsv = true) ∧
    (∃ (s : State) (c : Nat) (w : BitVec 16) (n : Nat), s.settled = true ∧ c < s.dev.bld.cores
      ∧ s.dev.leaseAt c (bitsAt w.toNat 0 1) = none ∧ s.dev.coreRail c = some n
      ∧ s.dev.credit.lateSent.contains (c / 16) = true) ∧
    (∃ (s : State) (c : Nat) (w : BitVec 16), s.settled = true ∧ c < s.dev.bld.cores
      ∧ s.dev.leaseAt c (bitsAt w.toNat 0 1) = none ∧ s.dev.coreRail c = none
      ∧ s.dev.credit.lateSent.contains (c / 16) = false) ∧
    (∃ (s : State) (c : Nat) (y : Nat) (l : Lease) (n : Nat), s.settled = true ∧ c < s.dev.bld.cores
      ∧ s.dev.leaseAt c y = some l ∧ l.rail = some n ∧ l.rsv = false ∧ (s.dev.pool n).recSent = false) ∧
    (∃ (s : State) (c : Nat) (r : CReq), s.settled = true ∧ s.dev.waiting c = some r ∧ r.cls = 2
      ∧ s.dev.rd CREDIT.AGE_FILL_WAIT ≤ r.wait) ∧
    (∃ (s : State) (c : Nat) (r : CReq), s.settled = true ∧ s.dev.waiting c = some r ∧ r.cls = 1
      ∧ r.promoted = false ∧ s.dev.rd CREDIT.AGE_PROMOTE ≤ r.wait) ∧
    (∃ (s : State) (n : Nat) (r : CReq), s.settled = true ∧ n < s.dev.rails.length
      ∧ s.dev.credit.queue.find? (fun q => q.rail == n) = some r ∧ r.starved = false
      ∧ s.dev.rd CREDIT.STARVE_LIMIT ≤ r.wait) ∧
    (∃ (s : State) (ch : Nat) (late : Bool) (cs : List (BitVec 16)), s.settled = true
      ∧ ch < s.dev.bld.creditCh ∧ late = true) ∧
    (∃ (s : State) (ch : Nat) (late : Bool) (cs : List (BitVec 16)), s.settled = true
      ∧ ch < s.dev.bld.creditCh ∧ late = false) ∧
    (∃ (d : Dev) (n : Nat), n < d.credit.pools.length) ∧
    (∃ (d : Dev) (n : Nat), n < d.credit.pools.length) :=
  ⟨⟨(fun s => { s with
     dev := { (s.dev) with
       credit := { s.dev.credit with
         leases := [], queue := [⟨1, 0, 1, 3, 20, 5, 0, false, false, true⟩], pools := s.dev.credit.pools.map (fun (p
           : CPool) => { p with avail := 400, p := 400, b := 90, g := 100, rsv := 50, grsv := 0 }) } } }) tiny, ⟨1, 0,
     1, 3, 20, 5, 0, false, false, true⟩, by decide +kernel⟩,
   ⟨(fun s => { s with
     dev := { (s.dev.wr CREDIT.MAXWAIT_TICKS 0 0 0) with
       credit := { s.dev.credit with
         leases := [], queue := [⟨1, 0, 1, 3, 20, 5, 7, false, false, true⟩], pools := s.dev.credit.pools.map (fun (p
           : CPool) => { p with avail := 400, p := 400, b := 90, g := 100, rsv := 50, grsv := 0 }) } } }) tiny, ⟨1, 0,
     1, 3, 20, 5, 7, false, false, true⟩, by decide +kernel⟩,
   ⟨(fun s => { s with
     dev := { (s.dev) with
       credit := { s.dev.credit with
         leases := [], queue := [⟨1, 0, 3, 3, 20, 5, 0, false, false, true⟩], pools := s.dev.credit.pools.map (fun (p
           : CPool) => { p with avail := 400, p := 400, b := 90, g := 100, rsv := 50, grsv := 0 }) } } }) tiny, ⟨1, 0,
     3, 3, 20, 5, 0, false, false, true⟩, by decide +kernel⟩,
   ⟨(fun s => { s with dev := { (s.dev) with credit := { s.dev.credit with queue := [] } } }) tiny, by decide +kernel⟩,
   ⟨(fun s => { s with
     dev := { (s.dev) with
       credit := { s.dev.credit with queue := [], leases := [⟨1, 0, 3, 20, some 1, false, false, 900⟩] } } }) tiny, 1,
     6#16, ⟨1, 0, 3, 20, some 1, false, false, 900⟩, 1, by decide +kernel⟩,
   ⟨(fun s => { s with
     dev := { (s.dev) with
       credit := { s.dev.credit with queue := [], leases := [⟨1, 0, 3, 20, some 1, true, false, 900⟩] } } }) tiny, 1,
     6#16, ⟨1, 0, 3, 20, some 1, true, false, 900⟩, 1, by decide +kernel⟩,
   ⟨(fun s => { s with
     dev := { (s.dev.wr LEVEL.CHDOM_DOM0 0 0 0 |>.wr LEVEL.DOM_RAIL 1 0 0) with
       credit := { s.dev.credit with leases := [], lateSent := [0] } } }) tiny, 1, 6#16, 1, by decide +kernel⟩,
   ⟨(fun s => { s with
     dev := { (s.dev.wr LEVEL.CHDOM_DOM0 0 0 0 |>.wr LEVEL.DOM_RAIL 15 0 0) with
       credit := { s.dev.credit with leases := [], lateSent := [] } } }) tiny, 1, 6#16, by decide +kernel⟩,
   ⟨(fun s => { s with
     dev := { (s.dev) with
       credit := { s.dev.credit with
         queue := [], leases := [⟨1, 0, 3, 20, some 1, false, false, 900⟩],
         pools := s.dev.credit.pools.map (fun (p : CPool) => { p with recSent := false }) } } }) tiny, 1, 0, ⟨1, 0, 3,
     20, some 1, false, false, 900⟩, 1, by decide +kernel⟩,
   ⟨(fun s => { s with
     dev := { (s.dev) with
       credit := { s.dev.credit with queue := [⟨1, 0, 2, 3, 20, 5, 70000, false, false, true⟩] } } }) tiny, 1, ⟨1, 0,
     2, 3, 20, 5, 70000, false, false, true⟩, by decide +kernel⟩,
   ⟨(fun s => { s with
     dev := { (s.dev) with
       credit := { s.dev.credit with queue := [⟨1, 0, 1, 3, 20, 5, 70000, false, false, true⟩] } } }) tiny, 1, ⟨1, 0,
     1, 3, 20, 5, 70000, false, false, true⟩, by decide +kernel⟩,
   ⟨(fun s => { s with
     dev := { (s.dev) with
       credit := { s.dev.credit with queue := [⟨1, 0, 1, 3, 20, 5, 70000, false, false, true⟩] } } }) tiny, 0, ⟨1, 0,
     1, 3, 20, 5, 70000, false, false, true⟩, by decide +kernel⟩,
   ⟨tiny, 1, true, [5#16], by decide +kernel⟩,
   ⟨tiny, 1, false, [5#16], by decide +kernel⟩,
   ⟨(tiny).dev, 0, by decide +kernel⟩,
   ⟨(tiny).dev, 0, by decide +kernel⟩⟩

/-- The hypotheses of HintTokensAndPointerReset are met, clause by clause. -/
theorem test_hyps_HintTokensAndPointerReset :
    (∃ (s : State) (toks : List (Nat × BitVec 64)) (k : Nat) (y : Nat) (p : Nat) (w : BitVec 64), s.settled = true
      ∧ toks = [(p, w)] ∧ p < s.dev.bld.hintPorts ∧ bitAt (s.dev.rd HINT.PORT_EN_EN) p = true
      ∧ s.dev.tokBad w.toNat = false ∧ (s.dev.atCyc y).hintBusy = false
      ∧ s.dev.hint.count + min k s.dev.hint.retired.length < 4096 ∧ s.dev.hint.count < s.dev.rd HINT.FIFO_HWM) ∧
    (∃ (s : State) (toks : List (Nat × BitVec 64)) (k : Nat) (y : Nat) (p : Nat) (w : BitVec 64), s.settled = true
      ∧ toks = [(p, w)] ∧ p < s.dev.bld.hintPorts ∧ bitAt (s.dev.rd HINT.PORT_EN_EN) p = true
      ∧ s.dev.tokBad w.toNat = false ∧ (s.dev.atCyc y).hintBusy = false
      ∧ s.dev.hint.count + min k s.dev.hint.retired.length < 4096 ∧ s.dev.rd HINT.FIFO_HWM ≤ s.dev.hint.count) ∧
    (∃ (s : State) (toks : List (Nat × BitVec 64)) (k : Nat) (y : Nat) (p : Nat) (w : BitVec 64), s.settled = true
      ∧ toks = [(p, w)] ∧ p < s.dev.bld.hintPorts ∧ bitAt (s.dev.rd HINT.PORT_EN_EN) p = true
      ∧ s.dev.tokBad w.toNat = true ∧ s.dev.hint.badSent.contains p = false) ∧
    (∃ (s : State) (toks : List (Nat × BitVec 64)) (k : Nat) (y : Nat) (p : Nat) (w : BitVec 64), s.settled = true
      ∧ toks = [(p, w)] ∧ p < s.dev.bld.hintPorts ∧ bitAt (s.dev.rd HINT.PORT_EN_EN) p = true
      ∧ s.dev.tokBad w.toNat = true ∧ s.dev.hint.badSent.contains p = true) ∧
    (∃ (s : State) (toks : List (Nat × BitVec 64)) (k : Nat) (y : Nat) (p : Nat) (w : BitVec 64), s.settled = true
      ∧ toks = [(p, w)] ∧ p < s.dev.bld.hintPorts ∧ bitAt (s.dev.rd HINT.PORT_EN_EN) p = true
      ∧ s.dev.tokBad w.toNat = false ∧ ((s.dev.atCyc y).hintBusy = true ∨ 4096 ≤ s.dev.hint.count + min k
      s.dev.hint.retired.length) ∧ s.dev.hint.dropSent.contains p = false) ∧
    (∃ (s : State) (toks : List (Nat × BitVec 64)) (k : Nat) (y : Nat) (p : Nat) (w : BitVec 64), s.settled = true
      ∧ toks = [(p, w)] ∧ p < s.dev.bld.hintPorts ∧ bitAt (s.dev.rd HINT.PORT_EN_EN) p = true
      ∧ s.dev.tokBad w.toNat = false ∧ ((s.dev.atCyc y).hintBusy = true ∨ 4096 ≤ s.dev.hint.count + min k
      s.dev.hint.retired.length) ∧ s.dev.hint.dropSent.contains p = true) ∧
    (∃ (s : State) (toks : List (Nat × BitVec 64)) (k : Nat) (y : Nat) (p : Nat) (w : BitVec 64), s.settled = true
      ∧ toks = [(p, w)] ∧ bitAt (s.dev.rd HINT.PORT_EN_EN) p = false) ∧
    (∃ (s : State) (toks : List (Nat × BitVec 64)) (k : Nat) (y : Nat) (p : Nat) (w : BitVec 64) (q : Nat) (x : BitVec
      64), s.settled = true ∧ toks = [(q, x), (p, w)] ∧ p < q ∧ q < s.dev.bld.hintPorts
      ∧ bitAt (s.dev.rd HINT.PORT_EN_EN) p = true ∧ bitAt (s.dev.rd HINT.PORT_EN_EN) q = true
      ∧ s.dev.tokBad w.toNat = false ∧ s.dev.tokBad x.toNat = false ∧ (s.dev.atCyc y).hintBusy = false
      ∧ s.dev.hint.count + 1 + min k s.dev.hint.retired.length < 4096 ∧ s.dev.hint.count + 2 ≤ s.dev.rd HINT.FIFO_HWM) ∧
    (∃ (s : State), s.settled = true) ∧
    (∃ (d : Dev), d.step.st = .run) ∧
    (∃ (acc : Nat) (x : Nat) (k : Nat), 0 < k ∧ 256 ≤ acc) ∧
    (∃ (d : Dev) (n : Nat) (i : Nat) (x : Nat), bitAt (d.rd STEP.CTRL_FREEZE) n = false ∧ i < 4096
      ∧ d.step.bank0.wf = true ∧ d.step.bank1.wf = true) ∧
    (∃ (d : Dev) (n : Nat) (i : Nat) (x : Nat),
      let lim : Nat := d.rd STEP.TRUST_ABS + (d.step.entry n i * d.rd STEP.TRUST_REL + 128) / 256;
      d.step.entry n i ≠ 0 ∧ n < 8 ∧ lim < ((x : Int) - (d.step.entry n i : Int)).natAbs) ∧
    (∃ (d : Dev) (n : Nat) (i : Nat) (x : Nat),
      let lim : Nat := d.rd STEP.TRUST_ABS + (d.step.entry n i * d.rd STEP.TRUST_REL + 128) / 256;
      d.step.entry n i ≠ 0 ∧ n < 8 ∧ ((x : Int) - (d.step.entry n i : Int)).natAbs ≤ lim) ∧
    (∃ (d : Dev) (old : StepTab), (d.step.st ≠ .run ∨ old.st ≠ .run ∨ old.beats = 0 ∨ (d.step.beats ≠ 0
      ∧ d.step.bin = old.bin))) ∧
    (∃ (d : Dev) (old : StepTab), d.step.st = .run ∧ old.st = .run ∧ old.beats ≠ 0 ∧ (d.step.beats = 0
      ∨ d.step.bin ≠ old.bin) ∧ (old.beats ≠ 2 ^ old.w ∨ d.step.act ≠ old.act ∨ d.held 0x04 = true)) ∧
    (∃ (d : Dev) (old : StepTab), d.step.st = .run ∧ old.st = .run ∧ (d.step.beats = 0
      ∨ d.step.bin ≠ old.bin) ∧ old.beats = 2 ^ old.w ∧ d.step.act = old.act ∧ d.held 0x04 = false) ∧
    (∃ (d : Dev) (n : Nat), n < d.rails.length ∧ n < 8) ∧
    (∃ (d : Dev) (n : Nat), n < d.rails.length) :=
  ⟨⟨(fun s => { s with
     dev := { (s.dev.wr HINT.PORT_EN_EN 3 |>.wr HINT.FIFO_HWM 9) with
       hint := { s.dev.hint with fifo := [], fresh := [], busyTo := 0 } } }) tiny, [(1, 0x0400000000000000#64)], 0, 3,
     1, 0x0400000000000000#64, by decide +kernel⟩,
   ⟨(fun s => { s with
     dev := { (s.dev.wr HINT.PORT_EN_EN 3 |>.wr HINT.FIFO_HWM 0) with
       hint := { s.dev.hint with fifo := [], fresh := [], busyTo := 0 } } }) tiny, [(1, 0x0400000000000000#64)], 0, 3,
     1, 0x0400000000000000#64, by decide +kernel⟩,
   ⟨(fun s => { s with dev := { (s.dev.wr HINT.PORT_EN_EN 3) with hint := { s.dev.hint with badSent := [] } } }) tiny,
     [(1, 0#64)], 0, 3, 1, 0#64, by decide +kernel⟩,
   ⟨(fun s => { s with dev := { (s.dev.wr HINT.PORT_EN_EN 3) with hint := { s.dev.hint with badSent := [1] } } })
     tiny, [(1, 0#64)], 0, 3, 1, 0#64, by decide +kernel⟩,
   ⟨(fun s => { s with
     dev := { (s.dev.wr HINT.PORT_EN_EN 3) with hint := { s.dev.hint with dropSent := [], busyTo := 10 ^ 30 } } })
     tiny, [(1, 0x0400000000000000#64)], 0, 3, 1, 0x0400000000000000#64, by decide +kernel⟩,
   ⟨(fun s => { s with
     dev := { (s.dev.wr HINT.PORT_EN_EN 3) with hint := { s.dev.hint with dropSent := [1], busyTo := 10 ^ 30 } } })
     tiny, [(1, 0x0400000000000000#64)], 0, 3, 1, 0x0400000000000000#64, by decide +kernel⟩,
   ⟨(fun s => { s with dev := (s.dev.wr HINT.PORT_EN_EN 1) }) tiny, [(1, 0#64)], 0, 3, 1, 0#64, by decide +kernel⟩,
   ⟨(fun s => { s with
     dev := { (s.dev.wr HINT.PORT_EN_EN 3 |>.wr HINT.FIFO_HWM 9) with
       hint := { s.dev.hint with fifo := [], fresh := [], busyTo := 0 } } }) tiny, [(1, 0x0400000000000000#64), (0,
     0x0400000000000000#64)], 0, 3, 0, 0x0400000000000000#64, 1, 0x0400000000000000#64, by decide +kernel⟩,
   ⟨tiny, by decide +kernel⟩,
   ⟨((fun (s : State) => { s with dev := { (s.dev) with step := { s.dev.step with st := .run } } }) tiny).dev, by
     decide +kernel⟩,
   ⟨256, 1, 1, by decide +kernel⟩,
   ⟨(tiny).dev, 1, 1, 1, by decide +kernel⟩,
   ⟨((fun (s : State) => { s with
     dev := { s.dev with step := { s.dev.step with bank0 := Mem.writeLE [] 0 2 7, bank1 := Mem.writeLE [] 0 2 7 } } })
     tiny).dev, 0, 0, 60000, by decide +kernel⟩,
   ⟨((fun (s : State) => { s with
     dev := { s.dev with step := { s.dev.step with bank0 := Mem.writeLE [] 0 2 7, bank1 := Mem.writeLE [] 0 2 7 } } })
     tiny).dev, 0, 0, 7, by decide +kernel⟩,
   ⟨(tiny).dev, default, by decide +kernel⟩,
   ⟨((fun (s : State) => { s with dev := { (s.dev) with step := { s.dev.step with st := .run } } }) tiny).dev, { st :=
                                                                                                                   .run,
                                                                                                                 beats
                                                                                                                   :=
                                                                                                                   3
                                                                                                                   },
     by decide +kernel⟩,
   ⟨((fun (s : State) => { s with dev := { (s.dev) with step := { s.dev.step with st := .run } } }) tiny).dev, { st :=
                                                                                                                   .run,
                                                                                                                 beats
                                                                                                                   :=
                                                                                                                   16
                                                                                                                   },
     by decide +kernel⟩,
   ⟨(tiny).dev, 0, by decide +kernel⟩,
   ⟨(tiny).dev, 0, by decide +kernel⟩⟩

/-- The hypotheses of StepAndForecastBanks are met, clause by clause. -/
theorem test_hyps_StepAndForecastBanks :
    (∃ (s : State) (a : Acc) (v : BitVec 32), s.settled = true ∧ s.dev.ready 0x16 = true ∧ a.privOk = true
      ∧ bitsAt v.toNat 31 1 = 1 ∧ bitsAt v.toNat 30 1 = 0 ∧ bitsAt v.toNat 4 4 ≤ 8 ∧ bitsAt v.toNat 0 4 ≤ 10) ∧
    (∃ (s : State) (a : Acc) (v : BitVec 32), s.settled = true ∧ s.dev.ready 0x16 = true ∧ a.privOk = true
      ∧ bitsAt v.toNat 31 1 = 0 ∧ bitsAt v.toNat 30 1 = 1 ∧ s.dev.step.st ≠ .run ∧ bitsAt v.toNat 4 4 ≤ 8
      ∧ bitsAt v.toNat 0 4 ≤ 10) ∧
    (∃ (s : State) (a : Acc) (v : BitVec 32), s.settled = true ∧ s.dev.ready 0x16 = true ∧ a.privOk = true
      ∧ bitsAt v.toNat 31 1 = 0 ∧ bitsAt v.toNat 30 1 = 1 ∧ s.dev.step.st = .run ∧ bitsAt v.toNat 4 4 ≤ 8
      ∧ bitsAt v.toNat 0 4 ≤ 10) ∧
    (∃ (s : State) (a : Acc) (v : BitVec 32), s.settled = true ∧ s.dev.ready 0x15 = true ∧ a.privOk = true
      ∧ bitsAt v.toNat 31 1 = 1 ∧ bitsAt v.toNat 30 1 = 0 ∧ s.dev.fc.pend = false) ∧
    (∃ (s : State) (a : Acc) (v : BitVec 32), s.settled = true ∧ s.dev.ready 0x15 = true ∧ a.privOk = true
      ∧ bitsAt v.toNat 31 1 = 1 ∧ bitsAt v.toNat 30 1 = 0 ∧ s.dev.fc.pend = true) ∧
    (∃ (s : State) (e : Bool × Nat), s.settled = true ∧ s.dev.fc.pend = true ∧ s.dev.fc.passed = false ∧ e.1 = false) ∧
    (∃ (s : State) (e : Bool × Nat), s.settled = true ∧ s.dev.fc.pend = true ∧ s.dev.fc.passed = false ∧ e.1 = true) ∧
    (∃ (s : State) (e : Bool × Nat), s.settled = true ∧ (s.dev.fc.pend = false ∨ s.dev.fc.passed = true)) ∧
    (∃ (s : State), s.settled = true ∧ s.dev.fc.passed = true ∧ s.dev.fc.dirty = false
      ∧ (s.dev.on FCAST.CTRL_EN = false ∨ s.dev.fc.st = .run ∨ s.dev.fc.st = .off)) ∧
    (∃ (s : State), s.settled = true ∧ s.dev.fc.passed = true ∧ s.dev.fc.dirty = false
      ∧ s.dev.on FCAST.CTRL_EN = true ∧ (s.dev.fc.st = .degraded ∨ s.dev.fc.st = .fault)) ∧
    (∃ (s : State), s.settled = true ∧ s.dev.fc.passed = true ∧ s.dev.fc.dirty = true) ∧
    (∃ (s : State) (a : Acc) (v : BitVec 32), s.settled = true ∧ s.dev.ready 0x15 = true ∧ a.privOk = true
      ∧ bitsAt v.toNat 31 1 = 0 ∧ bitsAt v.toNat 30 1 = 1 ∧ s.dev.fc.st = .degraded) ∧
    (∃ (s : State) (a : Acc) (v : BitVec 32), s.settled = true ∧ s.dev.ready 0x15 = true ∧ a.privOk = true
      ∧ bitsAt v.toNat 31 1 = 0 ∧ bitsAt v.toNat 30 1 = 1 ∧ s.dev.fc.st ≠ .degraded) ∧
    (∃ (s : State) (a : Acc) (v : BitVec 32), s.settled = true ∧ s.dev.ready 0x15 = true ∧ a.privOk = true
      ∧ bitsAt v.toNat 31 1 = 0 ∧ bitsAt v.toNat 30 1 = 0) ∧
    (∃ (s : State), s.settled = true ∧ 5 ≤ s.dev.fc.reuse ∧ s.dev.fc.staleSent = true) ∧
    (∃ (s : State), s.settled = true ∧ 5 ≤ s.dev.fc.reuse ∧ s.dev.fc.staleSent = false) ∧
    (∃ (m : Mem) (wb : Nat) (bb : Nat) (pb : Nat) (n : Nat) (o : Nat) (xs : List Int), o < n) ∧
    (∃ (f : Nat), f < 256) ∧
    (∃ (l : List (Option Int)), l.any (fun x => x.isSome) = true) ∧
    (∃ (l : List (Option Int)), l.all (fun x => x.isNone) = true) ∧
    (∃ (d : Dev) (n : Nat) (preds : List Nat) (conf : Nat) (nul : Bool),
      let o : FcOut := d.fcFinish preds conf nul;
      n < d.rails.length ∧ o.preds = preds) :=
  ⟨⟨(fun s => { s with dev := { (s.dev) with wiping := [] } }) tiny, ⟨.regPort, 5, false, true⟩, 0x80000034#32, by
     decide +kernel⟩,
   ⟨(fun s => { s with dev := { (s.dev) with wiping := [], step := { s.dev.step with st := .idle } } }) tiny,
     ⟨.regPort, 5, false, true⟩, 0x40000034#32, by decide +kernel⟩,
   ⟨(fun s => { s with dev := { (s.dev) with wiping := [], step := { s.dev.step with st := .run } } }) tiny,
     ⟨.regPort, 5, false, true⟩, 0x40000034#32, by decide +kernel⟩,
   ⟨(fun s => { s with dev := { (s.dev) with fc := { s.dev.fc with pend := false }, wiping := [] } }) tiny, ⟨.regPort,
     5, false, true⟩, 0x80000001#32, by decide +kernel⟩,
   ⟨(fun s => { s with dev := { (s.dev) with fc := { s.dev.fc with pend := true }, wiping := [] } }) tiny, ⟨.regPort,
     5, false, true⟩, 0x80000001#32, by decide +kernel⟩,
   ⟨(fun s => { s with
     dev := { (s.dev) with fc := { s.dev.fc with pend := true, passed := false, dirty := false } } }) tiny, (false,
     2), by decide +kernel⟩,
   ⟨(fun s => { s with
     dev := { (s.dev) with fc := { s.dev.fc with pend := true, passed := false, dirty := false } } }) tiny, (true, 2),
     by decide +kernel⟩,
   ⟨(fun s => { s with dev := { (s.dev) with fc := { s.dev.fc with pend := false } } }) tiny, (true, 2), by decide +kernel⟩,
   ⟨(fun s => { s with
     dev := { (s.dev) with
       fc := { s.dev.fc with pend := true, passed := true, dirty := false, st := .run, act := 0 } } }) tiny, by decide +kernel⟩,
   ⟨(fun s => { s with
     dev := { (s.dev.wr FCAST.CTRL_EN 1) with
       fc := { s.dev.fc with pend := true, passed := true, dirty := false, st := .degraded, act := 0 } } }) tiny, by
     decide +kernel⟩,
   ⟨(fun s => { s with dev := { (s.dev) with fc := { s.dev.fc with pend := true, passed := true, dirty := true } } })
     tiny, by decide +kernel⟩,
   ⟨(fun s => { s with dev := { (s.dev) with fc := { s.dev.fc with st := .degraded }, wiping := [] } }) tiny,
     ⟨.regPort, 5, false, true⟩, 0x40000001#32, by decide +kernel⟩,
   ⟨(fun s => { s with dev := { (s.dev) with fc := { s.dev.fc with st := .run }, wiping := [] } }) tiny, ⟨.regPort, 5,
     false, true⟩, 0x40000001#32, by decide +kernel⟩,
   ⟨(fun s => { s with dev := { (s.dev) with wiping := [] } }) tiny, ⟨.regPort, 5, false, true⟩, 1#32, by decide +kernel⟩,
   ⟨(fun s => { s with dev := { (s.dev) with fc := { s.dev.fc with reuse := 5, staleSent := true } } }) tiny, by
     decide +kernel⟩,
   ⟨(fun s => { s with dev := { (s.dev) with fc := { s.dev.fc with reuse := 5, staleSent := false } } }) tiny, by
     decide +kernel⟩,
   ⟨default, 1, 1, 1, 1, 0, default, by decide +kernel⟩,
   ⟨1, by decide +kernel⟩,
   ⟨[none, some 3], by decide +kernel⟩,
   ⟨[none], by decide +kernel⟩,
   ⟨(tiny).dev, 0, default, 1, true, by decide +kernel⟩⟩

/-- The hypotheses of ThermalSensorsAndZones are met, clause by clause. -/
theorem test_hyps_ThermalSensorsAndZones :
    (∃ (s : State) (k : Nat), s.settled = true ∧ k < 4 ∧ 8 ≤ (s.dev.seg k).bad ∧ (s.dev.seg k).fail = false) ∧
    (∃ (s : State) (k : Nat), s.settled = true ∧ (4 ≤ k ∨ (s.dev.seg k).bad < 8 ∨ (s.dev.seg k).fail = true)) ∧
    (∃ (s : State) (n : Nat), s.settled = true ∧ n < s.dev.therm.ts.length ∧ (s.dev.therm.sens n).excl = false
      ∧ s.dev.tRd THERM.XCHK_COUNT ≤ (s.dev.therm.sens n).xcount) ∧
    (∃ (s : State) (n : Nat), s.settled = true ∧ (s.dev.therm.ts.length ≤ n ∨ (s.dev.therm.sens n).excl = true
      ∨ (s.dev.therm.sens n).xcount < s.dev.tRd THERM.XCHK_COUNT)) ∧
    (∃ (s : State) (n : Nat), s.settled = true ∧ n < s.dev.therm.ts.length ∧ (s.dev.therm.sens n).excl = true
      ∧ s.dev.tRd THERM.XCHK_READMIT ≤ (s.dev.therm.sens n).xcount) ∧
    (∃ (s : State) (n : Nat), s.settled = true ∧ (s.dev.therm.ts.length ≤ n ∨ (s.dev.therm.sens n).excl = false
      ∨ (s.dev.therm.sens n).xcount < s.dev.tRd THERM.XCHK_READMIT)) ∧
    (∃ (s : State) (z : Nat), s.settled = true ∧ z < 32 ∧ (s.dev.zone z).conf = true ∧ (s.dev.zone z).idle = false
      ∧ (s.dev.zone z).lost = false ∧ 8 ≤ (s.dev.zone z).miss) ∧
    (∃ (s : State) (z : Nat), s.settled = true ∧ (32 ≤ z ∨ (s.dev.zone z).conf = false ∨ (s.dev.zone z).idle = true
      ∨ (s.dev.zone z).lost = true ∨ (s.dev.zone z).miss < 8)) ∧
    (∃ (s : State), s.settled = true ∧ s.dev.tick.thermFast = true ∧ s.dev.tRd THERM.FAST_HOLD ≤ s.dev.therm.quiet) ∧
    (∃ (s : State), s.settled = true ∧ (s.dev.tick.thermFast = false ∨ s.dev.therm.quiet < s.dev.tRd THERM.FAST_HOLD)) ∧
    (∃ (s : State) (k : Nat), s.settled = true ∧ s.dev.therm.relMs = some k ∧ s.dev.tRd THERM.RELEASE_MS ≤ k
      ∧ s.dev.therm.cap < 63) ∧
    (∃ (s : State), s.settled = true ∧ (s.dev.therm.relMs = none
      ∨ s.dev.therm.relMs.getD 0 < s.dev.tRd THERM.RELEASE_MS ∨ 63 ≤ s.dev.therm.cap)) ∧
    (∃ (d : Dev) (n : Nat) (cs : Nat) (s0 : Sens), n < d.therm.ts.length ∧ d.therm.sens n = s0) ∧
    (∃ (d : Dev) (k : Nat) (base : Nat) (p : Nat) (ws : List Nat), p < d.bld.segs.getD k 0 ∧ k < 4
      ∧ base + p < d.therm.ts.length) ∧
    (∃ (d : Dev) (src : List (Nat × Nat × Option Int)) (z : Nat) (best : Option (Nat × Int)), z < d.therm.zones.length
      ∧ best = hottest ((src.filter (fun x => x.1 == z)).map (·.2))) ∧
    (∃ (d : Dev), (d.tOn THERM.CTRL_FAST_FORCE = true ∨ (upto 32).any (fun z => decide (((d.tRd THERM.ROR_ROR_WARN :
      Nat) : Int) ≤ (d.zone z).ror)) = true ∨ d.confZones.any (fun z => decide (d.thermSeen.tCtrl z - ((d.tRd
      THERM.FAST_BAND : Nat) : Int) ≤ (d.zone z).max_)) = true)) ∧
    (∃ (d : Dev), (upto 32).any (fun z => (d.zone z).lost || ((d.zone z).conf && decide (d.thermSeen.tAlarm z ≤
      (d.zone z).max_))) = true ∧ d.therm.zones.length = 32) ∧
    (∃ (d : Dev) (z : Nat), z < d.therm.zones.length) :=
  ⟨⟨(fun s => { s with
     dev := { (s.dev) with
       therm := { s.dev.therm with
         segs := s.dev.therm.segs.map (fun (q : Seg) => { q with bad := 8, fail := false }) } } }) tiny, 1, by decide +kernel⟩,
   ⟨(fun s => { s with
     dev := { (s.dev) with
       therm := { s.dev.therm with
         segs := s.dev.therm.segs.map (fun (q : Seg) => { q with bad := 7, fail := false }) } } }) tiny, 1, by decide +kernel⟩,
   ⟨(fun s => { s with
     dev := { (s.dev) with
       therm := { s.dev.therm with
         ts := s.dev.therm.ts.map (fun (q : Sens) => { q with excl := false, xcount := 900 }) } } }) tiny, 1, by
     decide +kernel⟩,
   ⟨(fun s => { s with
     dev := { (s.dev) with
       therm := { s.dev.therm with
         ts := s.dev.therm.ts.map (fun (q : Sens) => { q with excl := true, xcount := 900 }) } } }) tiny, 1, by decide +kernel⟩,
   ⟨(fun s => { s with
     dev := { (s.dev) with
       therm := { s.dev.therm with
         ts := s.dev.therm.ts.map (fun (q : Sens) => { q with excl := true, xcount := 900 }) } } }) tiny, 1, by decide +kernel⟩,
   ⟨(fun s => { s with
     dev := { (s.dev) with
       therm := { s.dev.therm with
         ts := s.dev.therm.ts.map (fun (q : Sens) => { q with excl := false, xcount := 900 }) } } }) tiny, 1, by
     decide +kernel⟩,
   ⟨(fun s => { s with
     dev := { (s.dev) with
       therm := { s.dev.therm with
         zones := s.dev.therm.zones.map (fun (q : Zone) => { q with
           conf := true, idle := false, lost := false, miss := 8 }) } } }) tiny, 3, by decide +kernel⟩,
   ⟨(fun s => { s with
     dev := { (s.dev) with
       therm := { s.dev.therm with
         zones := s.dev.therm.zones.map (fun (q : Zone) => { q with
           conf := true, idle := true, lost := false, miss := 8 }) } } }) tiny, 3, by decide +kernel⟩,
   ⟨(fun s => { s with
     dev := { (s.dev) with
       therm := { s.dev.therm with quiet := 65535 }, tick := { s.dev.tick with thermFast := true } } }) tiny, by
     decide +kernel⟩,
   ⟨(fun s => { s with
     dev := { (s.dev) with therm := { s.dev.therm with quiet := 0 }, tick := { s.dev.tick with thermFast := false } }
       }) tiny, by decide +kernel⟩,
   ⟨(fun s => { s with dev := { (s.dev) with therm := { s.dev.therm with relMs := some 65535, cap := 20 } } }) tiny,
     65535, by decide +kernel⟩,
   ⟨(fun s => { s with dev := { (s.dev) with therm := { s.dev.therm with relMs := none } } }) tiny, by decide +kernel⟩,
   ⟨(tiny).dev, 0, 1, {}, by decide +kernel⟩,
   ⟨(tiny).dev, 0, 0, 0, default, by decide +kernel⟩,
   ⟨((fun (s : State) => { s with
     dev := { s.dev with therm := { s.dev.therm with zones := List.replicate 32 {} } } }) tiny).dev, [(0, 1, some 5)],
     0, some (1, 5), by decide +kernel⟩,
   ⟨((fun (s : State) => { s with
     dev := { s.dev with
       therm := { s.dev.therm with
         zones := [{ ror := 32767 }], latch := { s.dev.therm.latch with regs := s.dev.regs } } } }) tiny).dev, by
     decide +kernel⟩,
   ⟨((fun (s : State) => { s with
     dev := { s.dev with therm := { s.dev.therm with zones := { lost := true } :: List.replicate 31 {} } } })
     tiny).dev, by decide +kernel⟩,
   ⟨((fun (s : State) => { s with
     dev := { s.dev with therm := { s.dev.therm with zones := [{ conf := true, max_ := 32767, run := 1 }] } } })
     tiny).dev, 0, by decide +kernel⟩⟩

/-- The hypotheses of ExternalTemperaturesAndPowerUp are met, clause by clause. -/
theorem test_hyps_ExternalTemperaturesAndPowerUp :
    (∃ (s : State) (x : Nat) (p : Bool) (o : Option (BitVec 16)) (v : BitVec 16), s.settled = true ∧ o = some v
      ∧ x < s.dev.therm.xt.length) ∧
    (∃ (s : State) (x : Nat) (p : Bool) (o : Option (BitVec 16)) (k : Nat), s.settled = true ∧ o = none
      ∧ x < s.dev.therm.xt.length ∧ (s.dev.therm.xt.getD x {}).at_ = some k) ∧
    (∃ (s : State) (x : Nat) (p : Bool) (o : Option (BitVec 16)), s.settled = true ∧ o = none
      ∧ x < s.dev.therm.xt.length ∧ (s.dev.therm.xt.getD x {}).at_ = none) ∧
    (∃ (s : State) (x : Nat) (p : Bool) (o : Option (BitVec 16)), s.settled = true ∧ s.dev.therm.xt.length ≤ x) ∧
    (∃ (s : State) (x : Nat) (k : Nat), s.settled = true ∧ x < s.dev.therm.xt.length
      ∧ (s.dev.therm.xt.getD x {}).live = true ∧ (s.dev.therm.xt.getD x {}).pin = true
      ∧ (s.dev.therm.xt.getD x {}).sent = false ∧ (s.dev.therm.xt.getD x {}).at_ = some k
      ∧ 1000 * s.dev.rd THERM.XT_STALE_MS < s.dev.tick.mono - k) ∧
    (∃ (s : State) (x : Nat) (k : Nat), s.settled = true ∧ x < s.dev.therm.xt.length
      ∧ ((s.dev.therm.xt.getD x {}).live = false ∨ (s.dev.therm.xt.getD x {}).pin = false
      ∨ (s.dev.therm.xt.getD x {}).sent = true) ∧ (s.dev.therm.xt.getD x {}).at_ = some k
      ∧ 1000 * s.dev.rd THERM.XT_STALE_MS < s.dev.tick.mono - k) ∧
    (∃ (s : State) (x : Nat) (k : Nat), s.settled = true ∧ x < s.dev.therm.xt.length
      ∧ (s.dev.therm.xt.getD x {}).at_ = some k ∧ s.dev.tick.mono - k ≤ 1000 * s.dev.rd THERM.XT_STALE_MS
      ∧ (s.dev.therm.xt.getD x {}).live = (s.dev.therm.xt.getD x {}).pin) ∧
    (∃ (s : State) (x : Nat), s.settled = true ∧ s.dev.therm.xt.length ≤ x) ∧
    (∃ (s : State) (d : Bool) (k : Nat), s.settled = true ∧ d = true) ∧
    (∃ (s : State) (d : Bool) (k : Nat), s.settled = true ∧ d = false) ∧
    (∃ (s : State) (d : Bool) (k : Nat), s.settled = true ∧ ((d = true ∧ s.dev.sats.length ≤ k)
      ∨ (d = false ∧ s.dev.therm.ts.length ≤ k))) :=
  ⟨⟨tiny, 1, true, (some 0xFFC0#16), 0xFFC0#16, by decide +kernel⟩,
   ⟨(fun s => { s with
     dev := { (s.dev) with
       therm := { s.dev.therm with xt := s.dev.therm.xt.map (fun (q : Xt) => { q with at_ := some 3 }) } } }) tiny, 1,
     true, none, 3, by decide +kernel⟩,
   ⟨(fun s => { s with
     dev := { (s.dev) with
       therm := { s.dev.therm with xt := s.dev.therm.xt.map (fun (q : Xt) => { q with at_ := none }) } } }) tiny, 1,
     true, none, by decide +kernel⟩,
   ⟨tiny, 99, true, (some 0#16), by decide +kernel⟩,
   ⟨(fun s => { s with
     dev := { (s.dev) with
       therm := { s.dev.therm with
         xt := s.dev.therm.xt.map (fun (q : Xt) => { q with
           live := true, pin := true, sent := false, at_ := some 3 }) },
       tick := { s.dev.tick with mono := 99999999 } } }) tiny, 1, 3, by decide +kernel⟩,
   ⟨(fun s => { s with
     dev := { (s.dev) with
       therm := { s.dev.therm with
         xt := s.dev.therm.xt.map (fun (q : Xt) => { q with live := true, pin := true, sent := true, at_ := some 3 })
           }, tick := { s.dev.tick with mono := 99999999 } } }) tiny, 1, 3, by decide +kernel⟩,
   ⟨(fun s => { s with
     dev := { (s.dev) with
       therm := { s.dev.therm with
         xt := s.dev.therm.xt.map (fun (q : Xt) => { q with live := true, pin := true, at_ := some 3 }) } } }) tiny,
     1, 3, by decide +kernel⟩,
   ⟨tiny, 99, by decide +kernel⟩,
   ⟨tiny, true, 1, by decide +kernel⟩,
   ⟨tiny, false, 1, by decide +kernel⟩,
   ⟨tiny, false, 99, by decide +kernel⟩⟩

/-- The hypotheses of SquallTriggersAndGating are met, clause by clause. -/
theorem test_hyps_SquallTriggersAndGating :
    (∃ (s : State), s.settled = true ∧ s.aon.coolant = false ∧ s.aon.squall.active = false
      ∧ s.dev.credit.leases = [] ∧ s.dev.credit.queue = [] ∧ s.dev.tune.running = false
      ∧ s.dev.cal.running = false ∧ s.dev.wave.st ≠ .armed ∧ s.dev.iso.st = .departed ∧ (s.dev.owner 9).kind ≠ 1) ∧
    (∃ (s : State), s.settled = true ∧ s.aon.coolant = false ∧ s.aon.squall.active = false) ∧
    (∃ (s : State) (p : Nat), s.settled = true ∧ s.aon.coolant = false
      ∧ s.aon.squall.active = false ∧ s.dev.credit.leases = [] ∧ s.dev.credit.queue = []
      ∧ s.dev.tune.running = false ∧ s.dev.cal.running = false ∧ s.dev.wave.st ≠ .armed
      ∧ s.dev.iso.st = .departed ∧ (s.dev.owner 9).kind = 1 ∧ 1 ≤ p ∧ p ≤ 3 ∧ (s.dev.owner 9).path = p) ∧
    (∃ (s : State), s.settled = true ∧ s.aon.coolant = false ∧ s.aon.squall.active = true) ∧
    (∃ (s : State) (ring : List (List (BitVec 24)) × List (Option (BitVec 14))) (cs : BitVec 14 × Bool), s.settled =
      true ∧ cs.2 = true ∧ s.aon.coolant = false ∧ s.aon.squall.active = false ∧ s.dev.tick.thermDue = 2) ∧
    (∃ (s : State) (ring : List (List (BitVec 24)) × List (Option (BitVec 14))) (cs : BitVec 14 × Bool), s.settled =
      true ∧ cs.2 = true ∧ s.aon.coolant = false ∧ s.aon.squall.active = true ∧ s.dev.tick.thermDue ≠ 2) ∧
    (∃ (s : State), s.settled = true ∧ s.aon.coolant = true) ∧
    (∃ (s : State) (a : Acc) (v : BitVec 32), s.settled = true ∧ s.dev.ready 0x17 = true ∧ a.sec = true
      ∧ v = 0x5C01#32 ∧ s.aon.squall.active = false ∧ s.dev.credit.leases = []
      ∧ s.dev.credit.queue = [] ∧ s.dev.tune.running = false ∧ s.dev.cal.running = false
      ∧ s.dev.wave.st ≠ .armed ∧ s.dev.iso.st = .departed ∧ (s.dev.owner 9).kind ≠ 1) ∧
    (∃ (s : State) (a : Acc) (v : BitVec 32), s.settled = true ∧ s.dev.ready 0x17 = true ∧ a.sec = true
      ∧ v = 0x5C01#32 ∧ s.aon.squall.active = false) ∧
    (∃ (s : State) (a : Acc) (v : BitVec 32), s.settled = true ∧ s.dev.ready 0x17 = true ∧ a.sec = true
      ∧ v = 0x5C01#32 ∧ s.aon.squall.active = true) ∧
    (∃ (s : State) (a : Acc) (v : BitVec 32), s.settled = true ∧ s.dev.ready 0x17 = true ∧ a.sec = true
      ∧ v ≠ 0x5C01#32) ∧
    (∃ (s : State), s.settled = true ∧ s.dev.sqActive = true ∧ s.dev.sqGated = false) ∧
    (∃ (s : State), s.settled = true ∧ s.dev.sqActive = true ∧ s.dev.sqGated = false
      ∧ ((∀ m < s.dev.doms.length, (s.dev.dom m).gust = false)) ∧ ((∀ k ∈ List.range s.dev.sats.length, (s.dev.sat
      k).gust = false))) ∧
    (∃ (s : State), s.settled = true ∧ (s.dev.sqActive = false ∨ s.dev.sqGated = true)) :=
  ⟨⟨(fun s => { s with
     aon := { s.aon with coolant := false, squall := { s.aon.squall with active := false } }, dev := { s.dev with
       credit := { s.dev.credit with leases := [], queue := [] }, tune := { s.dev.tune with st := .idle },
       cal := { s.dev.cal with st := .idle }, wave := { s.dev.wave with st := .idle },
       iso := { s.dev.iso with st := .departed } } }) tiny, by decide +kernel⟩,
   ⟨(fun s => { s with aon := { s.aon with coolant := false, squall := { s.aon.squall with active := false } } })
     tiny, by decide +kernel⟩,
   ⟨(fun s => { s with
     aon := { s.aon with coolant := false, squall := { s.aon.squall with active := false } }, dev := { s.dev with
       credit := { s.dev.credit with leases := [], queue := [] }, tune := { s.dev.tune with st := .idle },
       cal := { s.dev.cal with st := .idle }, wave := { s.dev.wave with st := .idle },
       iso := { s.dev.iso with st := .departed },
       claims := { s.dev.claims with res := List.replicate 26 { kind := 1, path := 1, mid := 0, feat := 7 } } } })
     tiny, 1, by decide +kernel⟩,
   ⟨(fun s => { s with aon := { s.aon with coolant := false, squall := { s.aon.squall with active := true } } }) tiny,
     by decide +kernel⟩,
   ⟨(fun s => { s with
     aon := { s.aon with coolant := false, squall := { s.aon.squall with active := false } },
     dev := { s.dev with tick := { s.dev.tick with thermDue := 2 } } }) tiny, ([], []), (5, true), by decide +kernel⟩,
   ⟨(fun s => { s with
     aon := { s.aon with coolant := false, squall := { s.aon.squall with active := true } },
     dev := { s.dev with tick := { s.dev.tick with thermDue := 1 } } }) tiny, ([], []), (5, true), by decide +kernel⟩,
   ⟨(fun s => { s with aon := { s.aon with coolant := true } }) tiny, by decide +kernel⟩,
   ⟨(fun s => { s with
     aon := { s.aon with coolant := false, squall := { s.aon.squall with active := false } }, dev := { s.dev with
       wiping := [], credit := { s.dev.credit with leases := [], queue := [] },
       tune := { s.dev.tune with st := .idle }, cal := { s.dev.cal with st := .idle },
       wave := { s.dev.wave with st := .idle }, iso := { s.dev.iso with st := .departed } } }) tiny, ⟨.regPort, 5,
     true, true⟩, 0x5C01#32, by decide +kernel⟩,
   ⟨(fun s => { s with
     aon := { s.aon with coolant := false, squall := { s.aon.squall with active := false } },
     dev := { s.dev with wiping := [] } }) tiny, ⟨.regPort, 5, true, true⟩, 0x5C01#32, by decide +kernel⟩,
   ⟨(fun s => { s with
     aon := { s.aon with coolant := false, squall := { s.aon.squall with active := true } },
     dev := { s.dev with wiping := [] } }) tiny, ⟨.regPort, 5, true, true⟩, 0x5C01#32, by decide +kernel⟩,
   ⟨(fun s => { s with dev := { (s.dev) with wiping := [] } }) tiny, ⟨.regPort, 5, true, true⟩, 0x5C02#32, by decide +kernel⟩,
   ⟨(fun s => { s with dev := { (s.dev) with sqActive := true, sqGated := false } }) tiny, by decide +kernel⟩,
   ⟨(fun s => { s with
     dev := { (s.dev) with
       sqActive := true, sqGated := false, doms := s.dev.doms.map (fun (q : Dom) => { q with gust := false }),
       sats := s.dev.sats.map (fun (q : Sat) => { q with gust := false }) } }) tiny, by decide +kernel⟩,
   ⟨(fun s => { s with dev := { (s.dev) with sqActive := true, sqGated := true } }) tiny, by decide +kernel⟩⟩

/-- The hypotheses of CriticalRecordTransfer are met, clause by clause. -/
theorem test_hyps_CriticalRecordTransfer :
    (∃ (s : State), s.settled = true ∧ s.aon.squall.st = .waiting ∧ s.dev.nv.pres = none ∧ s.dev.nv.out.length < 8) ∧
    (∃ (s : State), s.settled = true ∧ (s.aon.squall.st ≠ .waiting ∨ s.dev.nv.pres ≠ none ∨ 8 ≤ s.dev.nv.out.length)) ∧
    (∃ (s : State) (st : BitVec 2), s.settled = true ∧ s.aon.squall.st = .accepted ∧ st = 0#2
      ∧ s.dev.on THERM.CRIT_HEAD_VALID = false ∧ s.dev.nv.pres = none ∧ s.dev.nv.wait = []) ∧
    (∃ (s : State) (st : BitVec 2), s.settled = true ∧ s.aon.squall.st = .accepted ∧ st = 0#2
      ∧ s.dev.on THERM.CRIT_HEAD_VALID = true ∧ s.dev.nv.pres = none ∧ s.dev.nv.wait = []) ∧
    (∃ (s : State) (st : BitVec 2) (r : NvReq) (l : List NvReq), s.settled = true ∧ s.aon.squall.st = .accepted
      ∧ st = 0#2 ∧ s.dev.on THERM.CRIT_HEAD_VALID = true ∧ s.dev.nv.pres = none ∧ s.dev.nv.wait = r :: l
      ∧ s.dev.nv.block = false ∧ s.dev.nv.out.length < 8) ∧
    (∃ (s : State) (st : BitVec 2), s.settled = true ∧ s.aon.squall.st = .accepted ∧ st ≠ 0#2
      ∧ s.aon.squall.fails < 2) ∧
    (∃ (s : State) (st : BitVec 2), s.settled = true ∧ s.aon.squall.st = .accepted ∧ st ≠ 0#2
      ∧ 2 ≤ s.aon.squall.fails ∧ s.dev.nv.pres = none ∧ s.dev.nv.wait = []) ∧
    (∃ (s : State) (st : BitVec 2) (r : NvReq) (l : List NvReq), s.settled = true ∧ s.aon.squall.st = .accepted
      ∧ st ≠ 0#2 ∧ 2 ≤ s.aon.squall.fails ∧ s.dev.nv.pres = none ∧ s.dev.nv.wait = r :: l
      ∧ s.dev.nv.block = false ∧ s.dev.nv.out.length < 8) ∧
    (∃ (s : State) (st : BitVec 2), s.aon.squall.st ≠ .accepted) ∧
    (∃ (s : State) (a : Acc) (v : BitVec 32), s.settled = true ∧ s.dev.ready 0x17 = true ∧ a.sec = true
      ∧ s.dev.rd THERM.CRIT_IDX_IDX < 16) ∧
    (∃ (s : State) (a : Acc) (v : BitVec 32), s.settled = true ∧ s.dev.ready 0x17 = true ∧ a.sec = true
      ∧ bitsAt v.toNat 31 1 = 0) ∧
    (∃ (s : State) (a : Acc) (v : BitVec 32), s.settled = true ∧ s.dev.ready 0x17 = true ∧ a.sec = true
      ∧ bitsAt v.toNat 31 1 = 1) :=
  ⟨⟨(fun s => { s with
     aon := { s.aon with squall := { s.aon.squall with st := .waiting } },
     dev := { s.dev with nv := { s.dev.nv with pres := none } } }) tiny, by decide +kernel⟩,
   ⟨(fun s => { s with aon := { s.aon with squall := { s.aon.squall with st := .none } } }) tiny, by decide +kernel⟩,
   ⟨(fun s => { s with
     aon := { s.aon with squall := { s.aon.squall with st := .accepted, idx := 17471 } },
     dev := { s.dev.wr THERM.CRIT_HEAD_VALID 0 with nv := { s.dev.nv with pres := none, wait := [] } } }) tiny, 0#2,
     by decide +kernel⟩,
   ⟨(fun s => { s with
     aon := { s.aon with squall := { s.aon.squall with st := .accepted, idx := 17410 } },
     dev := { s.dev.wr THERM.CRIT_HEAD_VALID 1 with nv := { s.dev.nv with pres := none, wait := [] } } }) tiny, 0#2,
     by decide +kernel⟩,
   ⟨(fun s => { s with
     aon := { s.aon with squall := { s.aon.squall with st := .accepted, idx := 17410 } }, dev := { s.dev.wr
       THERM.CRIT_HEAD_VALID 1 with
       nv := { s.dev.nv with pres := none, block := false, out := [], wait := [⟨.stw, false, 5, []⟩] } } }) tiny, 0#2,
     ⟨.stw, false, 5, []⟩, [], by decide +kernel⟩,
   ⟨(fun s => { s with aon := { s.aon with squall := { s.aon.squall with st := .accepted, fails := 1 } } }) tiny, 2#2,
     by decide +kernel⟩,
   ⟨(fun s => { s with
     aon := { s.aon with squall := { s.aon.squall with st := .accepted, fails := 2 } },
     dev := { s.dev with nv := { s.dev.nv with pres := none, wait := [] } } }) tiny, 2#2, by decide +kernel⟩,
   ⟨(fun s => { s with
     aon := { s.aon with squall := { s.aon.squall with st := .accepted, fails := 2 } }, dev := { s.dev with
       nv := { s.dev.nv with pres := none, block := false, out := [], wait := [⟨.stw, false, 5, []⟩] } } }) tiny, 2#2,
     ⟨.stw, false, 5, []⟩, [], by decide +kernel⟩,
   ⟨tiny, 0#2, by decide +kernel⟩,
   ⟨(fun s => { s with dev := { (s.dev.wr THERM.CRIT_IDX_IDX 15) with wiping := [] } }) tiny, ⟨.regPort, 5, true,
     true⟩, 0x5C02#32, by decide +kernel⟩,
   ⟨(fun s => { s with dev := { (s.dev) with wiping := [] } }) tiny, ⟨.regPort, 5, true, true⟩, 0x00000003#32, by
     decide +kernel⟩,
   ⟨(fun s => { s with dev := { (s.dev) with wiping := [] } }) tiny, ⟨.regPort, 5, true, true⟩, 0x80000000#32, by
     decide +kernel⟩⟩

/-- The hypotheses of IsobarAppliesAndAgrees are met, clause by clause. -/
theorem test_hyps_IsobarAppliesAndAgrees :
    (∃ (s : State) (a : Acc) (v : BitVec 32), s.settled = true ∧ s.dev.ready 0x18 = true ∧ a.privOk = true
      ∧ bitsAt v.toNat 31 1 = 1 ∧ s.dev.applyRefused = false) ∧
    (∃ (s : State) (a : Acc) (v : BitVec 32), s.settled = true ∧ s.dev.ready 0x18 = true ∧ a.privOk = true
      ∧ bitsAt v.toNat 31 1 = 1 ∧ s.dev.applyRefused = true) ∧
    (∃ (s : State), s.settled = true ∧ s.dev.iso.apply = some (s.dev.tick.b % 2 ^ 32)
      ∧ (if s.dev.iso.st = .departed then IsoSt.departed else if s.dev.isoStaged.join = false then .off else if
      s.dev.tick.align = .aligned then .run else .wait) = s.dev.iso.st) ∧
    (∃ (s : State), s.settled = true ∧ s.dev.iso.apply = some (s.dev.tick.b % 2 ^ 32)
      ∧ (if s.dev.iso.st = .departed then IsoSt.departed else if s.dev.isoStaged.join = false then .off else if
      s.dev.tick.align = .aligned then .run else .wait) ≠ s.dev.iso.st) ∧
    (∃ (s : State), s.settled = true ∧ s.dev.iso.apply ≠ some (s.dev.tick.b % 2 ^ 32)) ∧
    (∃ (s : State), s.settled = true ∧ s.dev.iso.st ≠ .off ∧ s.dev.iso.st ≠ .departed
      ∧ ((∃ r ∈ s.dev.iso.round.toList, r.s + s.dev.isoDeadline ≤ s.dev.tick.b))
      ∧ ((∀ r ∈ s.dev.iso.sum.toList, s.dev.tick.b < r.s + s.dev.isoDeadline))
      ∧ ((∀ r ∈ s.dev.iso.probe.toList, s.dev.tick.b < r.s + s.dev.iso.cfg.deadline))) ∧
    (∃ (s : State), s.settled = true ∧ s.dev.iso.st ≠ .off ∧ s.dev.iso.st ≠ .departed
      ∧ ((∀ r ∈ s.dev.iso.round.toList, s.dev.tick.b < r.s + s.dev.isoDeadline)) ∧ ((∃ r ∈ s.dev.iso.sum.toList, r.s +
      s.dev.isoDeadline ≤ s.dev.tick.b)) ∧ ((∀ r ∈ s.dev.iso.probe.toList, s.dev.tick.b < r.s +
      s.dev.iso.cfg.deadline))) ∧
    (∃ (s : State), s.settled = true ∧ s.dev.iso.st ≠ .off ∧ s.dev.iso.st ≠ .departed
      ∧ ((∃ r ∈ s.dev.iso.round.toList, r.s + s.dev.isoDeadline ≤ s.dev.tick.b)) ∧ ((∃ r ∈ s.dev.iso.sum.toList, r.s +
      s.dev.isoDeadline ≤ s.dev.tick.b)) ∧ ((∀ r ∈ s.dev.iso.probe.toList, s.dev.tick.b < r.s +
      s.dev.iso.cfg.deadline))) ∧
    (∃ (s : State), s.settled = true ∧ s.dev.iso.st ≠ .off ∧ s.dev.iso.st ≠ .departed
      ∧ ((∀ r ∈ s.dev.iso.round.toList, s.dev.tick.b < r.s + s.dev.isoDeadline))
      ∧ ((∀ r ∈ s.dev.iso.sum.toList, s.dev.tick.b < r.s + s.dev.isoDeadline)) ∧ ((∃ r ∈ s.dev.iso.probe.toList, r.s +
      s.dev.iso.cfg.deadline ≤ s.dev.tick.b))) ∧
    (∃ (s : State), s.settled = true ∧ (((∀ r ∈ s.dev.iso.round.toList, s.dev.tick.b < r.s + s.dev.isoDeadline)
      ∧ (∀ r ∈ s.dev.iso.sum.toList, s.dev.tick.b < r.s + s.dev.isoDeadline)
      ∧ (∀ r ∈ s.dev.iso.probe.toList, s.dev.tick.b < r.s + s.dev.iso.cfg.deadline))
      ∨ s.dev.iso.st = .off ∨ s.dev.iso.st = .departed)) ∧
    (∃ (s : State) (p : IsoPend), s.settled = true ∧ s.dev.iso.pend.filter (fun q => decide (q.at_ ≤ s.dev.tick.b)) =
      [p] ∧ s.dev.iso.st = .run ∧ (s.dev.iso.comb = false ∨ p.probes < 64) ∧ keyCeil p.key < s.dev.gov.agreed) ∧
    (∃ (s : State) (p : IsoPend), s.settled = true ∧ s.dev.iso.pend.filter (fun q => decide (q.at_ ≤ s.dev.tick.b)) =
      [p] ∧ s.dev.iso.st = .run ∧ (s.dev.iso.comb = false ∨ p.probes < 64) ∧ s.dev.gov.agreed < keyCeil p.key
      ∧ p.rise = true ∧ (s.dev.iso.dropAt.all (fun x => decide (x ≤ p.s))) = true) ∧
    (∃ (s : State) (p : IsoPend), s.settled = true ∧ s.dev.iso.pend.filter (fun q => decide (q.at_ ≤ s.dev.tick.b)) =
      [p] ∧ s.dev.iso.st = .run ∧ (s.dev.iso.comb = false ∨ p.probes < 64) ∧ s.dev.gov.agreed ≤ keyCeil p.key
      ∧ (s.dev.gov.agreed = keyCeil p.key ∨ p.rise = false ∨ ¬((s.dev.iso.dropAt.all (fun x => decide (x ≤ p.s))) =
      true))) ∧
    (∃ (s : State) (p : IsoPend), s.settled = true ∧ s.dev.iso.pend.filter (fun q => decide (q.at_ ≤ s.dev.tick.b)) =
      [p] ∧ s.dev.iso.st = .run ∧ s.dev.iso.comb = true ∧ 64 ≤ p.probes ∧ keyCeil p.key < s.dev.gov.agreed) ∧
    (∃ (s : State) (p : IsoPend), s.settled = true ∧ s.dev.iso.pend.filter (fun q => decide (q.at_ ≤ s.dev.tick.b)) =
      [p] ∧ s.dev.iso.st = .run ∧ s.dev.iso.comb = true ∧ 64 ≤ p.probes ∧ s.dev.gov.agreed ≤ keyCeil p.key) ∧
    (∃ (s : State), s.settled = true ∧ (s.dev.iso.st ≠ .run ∨ s.dev.iso.pend.filter (fun q => decide (q.at_ ≤
      s.dev.tick.b)) = [])) ∧
    (∃ (s : State) (g : IsoAgg), s.settled = true ∧ s.dev.iso.aggMin = some g ∧ g.sent = false
      ∧ g.s + s.dev.iso.cfg.step * (s.dev.iso.cfg.h - s.dev.iso.cfg.depth) ≤ s.dev.tick.b
      ∧ ((∀ o ∈ s.dev.iso.aggSum.toList, o.sent = true ∨ s.dev.tick.b < o.s + s.dev.iso.cfg.step * (s.dev.iso.cfg.h -
      s.dev.iso.cfg.depth))) ∧ s.dev.iso.cfg.index ≠ 0) ∧
    (∃ (s : State) (g : IsoAgg), s.settled = true ∧ s.dev.iso.aggSum = some g ∧ g.sent = false
      ∧ g.s + s.dev.iso.cfg.step * (s.dev.iso.cfg.h - s.dev.iso.cfg.depth) ≤ s.dev.tick.b
      ∧ ((∀ o ∈ s.dev.iso.aggMin.toList, o.sent = true ∨ s.dev.tick.b < o.s + s.dev.iso.cfg.step * (s.dev.iso.cfg.h -
      s.dev.iso.cfg.depth))) ∧ s.dev.iso.cfg.index ≠ 0) ∧
    (∃ (s : State) (g : IsoAgg) (h : IsoAgg), s.settled = true ∧ s.dev.iso.aggMin = some g
      ∧ s.dev.iso.aggSum = some h ∧ g.sent = false ∧ h.sent = false ∧ g.s + s.dev.iso.cfg.step * (s.dev.iso.cfg.h -
      s.dev.iso.cfg.depth) ≤ s.dev.tick.b ∧ h.s + s.dev.iso.cfg.step * (s.dev.iso.cfg.h - s.dev.iso.cfg.depth) ≤
      s.dev.tick.b ∧ s.dev.iso.cfg.index ≠ 0) ∧
    (∃ (s : State) (g : IsoAgg), s.settled = true ∧ s.dev.iso.aggMin = some g ∧ g.sent = false
      ∧ g.s + s.dev.iso.cfg.step * (s.dev.iso.cfg.h - s.dev.iso.cfg.depth) ≤ s.dev.tick.b
      ∧ ((∀ o ∈ s.dev.iso.aggSum.toList, o.sent = true ∨ s.dev.tick.b < o.s + s.dev.iso.cfg.step * (s.dev.iso.cfg.h -
      s.dev.iso.cfg.depth))) ∧ s.dev.iso.cfg.index = 0 ∧ s.dev.iso.st.active = true) ∧
    (∃ (s : State), s.settled = true ∧ ((∀ o ∈ s.dev.iso.aggMin.toList, o.sent = true
      ∨ s.dev.tick.b < o.s + s.dev.iso.cfg.step * (s.dev.iso.cfg.h - s.dev.iso.cfg.depth)))
      ∧ ((∀ o ∈ s.dev.iso.aggSum.toList, o.sent = true ∨ s.dev.tick.b < o.s + s.dev.iso.cfg.step * (s.dev.iso.cfg.h -
      s.dev.iso.cfg.depth)))) :=
  ⟨⟨(fun s => { s with
     dev := { (s.dev.wr ISOBAR.APPLY_BEAT 1280 |>.wr ISOBAR.CTRL_JOIN 0 |>.wr ISOBAR.DROP_CFG_LEAD 8 |>.wr
       ISOBAR.DROP_CFG_LATE 3) with
       wiping := [], tick := { s.dev.tick with b := 1200 }, iso := { s.dev.iso with apply := none } } }) tiny,
     ⟨.regPort, 5, false, true⟩, 0x80000000#32, by decide +kernel⟩,
   ⟨(fun s => { s with dev := { (s.dev.wr ISOBAR.APPLY_BEAT 1281) with wiping := [] } }) tiny, ⟨.regPort, 5, false,
     true⟩, 0x80000000#32, by decide +kernel⟩,
   ⟨(fun s => { s with
     dev := { (s.dev.wr ISOBAR.CTRL_JOIN 1) with
       iso := { s.dev.iso with st := .run, cfg := { s.dev.iso.cfg with join := false }, apply := some 1280 },
       tick := { s.dev.tick with b := 1280, align := .aligned },
       stw := { s.dev.stw with st := .sleep, wake := false } } }) tiny, by decide +kernel⟩,
   ⟨(fun s => { s with
     dev := { (s.dev.wr ISOBAR.CTRL_JOIN 1) with
       iso := { s.dev.iso with st := .off, cfg := { s.dev.iso.cfg with join := true }, apply := some 1280 },
       tick := { s.dev.tick with b := 1280, align := .aligned },
       stw := { s.dev.stw with st := .sleep, wake := false } } }) tiny, by decide +kernel⟩,
   ⟨(fun s => { s with dev := { (s.dev) with iso := { s.dev.iso with apply := none } } }) tiny, by decide +kernel⟩,
   ⟨(fun s => { s with
     dev := { (s.dev) with
       iso := { s.dev.iso with st := .run, round := some ⟨3, 9, none⟩, sum := none, probe := none, sent := [] },
       tick := { s.dev.tick with b := 1280 } } }) tiny, by decide +kernel⟩,
   ⟨(fun s => { s with
     dev := { (s.dev) with
       iso := { s.dev.iso with st := .run, sum := some ⟨3, 9, none⟩, round := none, probe := none, sent := [] },
       tick := { s.dev.tick with b := 1280 } } }) tiny, by decide +kernel⟩,
   ⟨(fun s => { s with
     dev := { (s.dev) with
       iso := { s.dev.iso with
         st := .run, round := some ⟨3, 9, none⟩, sum := some ⟨3, 9, none⟩, probe := none, sent := [] },
       tick := { s.dev.tick with b := 1280 } } }) tiny, by decide +kernel⟩,
   ⟨(fun s => { s with
     dev := { (s.dev) with
       iso := { s.dev.iso with st := .run, probe := some ⟨3, 9, none⟩, round := none, sum := none },
       tick := { s.dev.tick with b := 1280 } } }) tiny, by decide +kernel⟩,
   ⟨(fun s => { s with dev := { (s.dev) with iso := { s.dev.iso with st := .off } } }) tiny, by decide +kernel⟩,
   ⟨(fun s => { s with
     dev := { (s.dev) with
       iso := { s.dev.iso with st := .run, comb := false, pend := [⟨3, 40, 0x1000000000000000, true, 0⟩] },
       tick := { s.dev.tick with b := 1280 }, gov := { s.dev.gov with agreed := 0xFFFF } } }) tiny, ⟨3, 40,
     0x1000000000000000, true, 0⟩, by decide +kernel⟩,
   ⟨(fun s => { s with
     dev := { (s.dev) with
       iso := { s.dev.iso with
         st := .run, comb := false, dropAt := none, pend := [⟨3, 40, 0x1000000000000000, true, 0⟩] },
       tick := { s.dev.tick with b := 1280 }, gov := { s.dev.gov with agreed := 5 } } }) tiny, ⟨3, 40,
     0x1000000000000000, true, 0⟩, by decide +kernel⟩,
   ⟨(fun s => { s with
     dev := { (s.dev) with
       iso := { s.dev.iso with st := .run, comb := false, pend := [⟨3, 40, 0x1000000000000000, false, 0⟩] },
       tick := { s.dev.tick with b := 1280 }, gov := { s.dev.gov with agreed := 5 } } }) tiny, ⟨3, 40,
     0x1000000000000000, false, 0⟩, by decide +kernel⟩,
   ⟨(fun s => { s with
     dev := { (s.dev) with
       iso := { s.dev.iso with
         st := .run, comb := true, probe := none, pend := [⟨3, 40, 0x1000000000000000, true, 64⟩] },
       tick := { s.dev.tick with b := 1280 }, gov := { s.dev.gov with agreed := 0xFFFF } } }) tiny, ⟨3, 40,
     0x1000000000000000, true, 64⟩, by decide +kernel⟩,
   ⟨(fun s => { s with
     dev := { (s.dev) with
       iso := { s.dev.iso with
         st := .run, comb := true, probe := some ⟨3, 9, none⟩, dropAt := none,
         pend := [⟨3, 40, 0x1000000000000000, true, 64⟩] }, tick := { s.dev.tick with b := 1280 },
       gov := { s.dev.gov with agreed := 5 } } }) tiny, ⟨3, 40, 0x1000000000000000, true, 64⟩, by decide +kernel⟩,
   ⟨(fun s => { s with
     dev := { (s.dev) with
       iso := { s.dev.iso with st := .hold, pend := [⟨3, 40, 0x1000000000000000, true, 0⟩] },
       tick := { s.dev.tick with b := 1280 } } }) tiny, by decide +kernel⟩,
   ⟨(fun s => { s with
     dev := { (s.dev) with
       iso := { s.dev.iso with
         cfg := { join := true, group := 7, epoch := 2, count := 4, index := 1, parent := 90, bcast := 91, red := 92,
                  fbDeadline := 96, arity := 2, child := [93] }, aggMin := some ⟨3, 77, [], false⟩, aggSum := none },
       tick := { s.dev.tick with b := 1280 } } }) tiny, ⟨3, 77, [], false⟩, by decide +kernel⟩,
   ⟨(fun s => { s with
     dev := { (s.dev) with
       iso := { s.dev.iso with
         cfg := { join := true, group := 7, epoch := 2, count := 4, index := 1, parent := 90, bcast := 91, red := 92,
                  fbDeadline := 96, arity := 2, child := [93] }, aggSum := some ⟨3, 77, [], false⟩, aggMin := none },
       tick := { s.dev.tick with b := 1280 } } }) tiny, ⟨3, 77, [], false⟩, by decide +kernel⟩,
   ⟨(fun s => { s with
     dev := { (s.dev) with
       iso := { s.dev.iso with
         cfg := { join := true, group := 7, epoch := 2, count := 4, index := 1, parent := 90, bcast := 91, red := 92,
                  fbDeadline := 96, arity := 2, child := [93] }, aggSum := some ⟨3, 77, [], false⟩,
         aggMin := some ⟨3, 77, [], false⟩ }, tick := { s.dev.tick with b := 1280 } } }) tiny, ⟨3, 77, [], false⟩, ⟨3,
     77, [], false⟩, by decide +kernel⟩,
   ⟨(fun s => { s with
     dev := { (s.dev) with
       iso := { s.dev.iso with
         st := .run, cfg := { join := true, group := 7, epoch := 2, count := 4, index := 0, parent := 90, bcast := 91,
                              red := 92, fbDeadline := 96, arity := 2, child := [93, 94] },
         aggMin := some ⟨3, 77, [], false⟩, aggSum := none }, tick := { s.dev.tick with b := 1280 } } }) tiny, ⟨3, 77,
     [], false⟩, by decide +kernel⟩,
   ⟨(fun s => { s with dev := { (s.dev) with iso := { s.dev.iso with aggMin := none, aggSum := none } } }) tiny, by
     decide +kernel⟩⟩

/-- The hypotheses of IsobarReceivesMessages are met, clause by clause. -/
theorem test_hyps_IsobarReceivesMessages :
    (∃ (s : State) (x : BitVec 32) (w : BitVec 512), s.settled = true ∧ (s.dev.iso.st = .off
      ∨ s.dev.iso.st = .departed) ∧ (msgValid s.dev.iso.cfg w.toNat = true ∨ msgFlag w.toNat 0 = true)) ∧
    (∃ (s : State) (x : BitVec 32) (w : BitVec 512), s.settled = true ∧ (s.dev.iso.st = .off
      ∨ s.dev.iso.st = .departed) ∧ msgValid s.dev.iso.cfg w.toNat = false ∧ msgFlag w.toNat 0 = false) ∧
    (∃ (s : State) (x : BitVec 32) (w : BitVec 512), s.settled = true ∧ s.dev.iso.st ≠ .off
      ∧ s.dev.iso.st ≠ .departed ∧ msgFlag w.toNat 0 = false ∧ msgValid s.dev.iso.cfg w.toNat = false) ∧
    (∃ (s : State) (x : BitVec 32) (w : BitVec 512), s.settled = true ∧ s.dev.iso.st ≠ .off
      ∧ s.dev.iso.st ≠ .departed ∧ msgFlag w.toNat 0 = false ∧ msgValid s.dev.iso.cfg w.toNat = true
      ∧ (msgOp w.toNat = 3 ∨ msgOp w.toNat = 5) ∧ (s.dev.iso.comb = true
      ∨ s.dev.iso.combPend = true ∨ ¬((s.dev.iso.cfg.index ≠ 0
      ∧ x.toNat = s.dev.iso.cfg.parent) ∨ (s.dev.iso.cfg.childOf x.toNat).isSome = true)
      ∨ msgValid s.dev.iso.cfg w.toNat = false)) ∧
    (∃ (s : State) (x : BitVec 32) (w : BitVec 512), s.settled = true ∧ s.dev.iso.st ≠ .off
      ∧ s.dev.iso.st ≠ .departed ∧ msgFlag w.toNat 0 = false ∧ (msgOp w.toNat = 3 ∨ msgOp w.toNat = 5)
      ∧ msgValid s.dev.iso.cfg w.toNat = true ∧ s.dev.iso.comb = false
      ∧ s.dev.iso.combPend = false ∧ (((s.dev.iso.cfg.index ≠ 0
      ∧ x.toNat = s.dev.iso.cfg.parent) ∨ (s.dev.iso.cfg.childOf x.toNat).isSome = true))) ∧
    (∃ (s : State) (x : BitVec 32) (w : BitVec 512), s.settled = true ∧ s.dev.iso.st ≠ .off
      ∧ s.dev.iso.st ≠ .departed ∧ msgFlag w.toNat 0 = true ∧ (s.dev.iso.comb = false ∨ (msgOp w.toNat ≠ 1
      ∧ msgOp w.toNat ≠ 2)) ∧ (s.dev.iso.comb = true ∨ s.dev.iso.combPend = true
      ∨ ¬((s.dev.iso.cfg.index ≠ 0 ∧ x.toNat = s.dev.iso.cfg.parent)
      ∨ (s.dev.iso.cfg.childOf x.toNat).isSome = true) ∨ msgValid s.dev.iso.cfg w.toNat = false)) ∧
    (∃ (s : State) (x : BitVec 32) (w : BitVec 512), s.settled = true ∧ s.dev.iso.st ≠ .off
      ∧ s.dev.iso.st ≠ .departed ∧ msgFlag w.toNat 0 = true ∧ msgValid s.dev.iso.cfg w.toNat = true
      ∧ s.dev.iso.comb = false ∧ s.dev.iso.combPend = false ∧ (((s.dev.iso.cfg.index ≠ 0
      ∧ x.toNat = s.dev.iso.cfg.parent) ∨ (s.dev.iso.cfg.childOf x.toNat).isSome = true))) ∧
    (∃ (s : State) (x : BitVec 32) (w : BitVec 512), s.settled = true ∧ s.dev.iso.st.active = true
      ∧ msgFlag w.toNat 0 = true ∧ s.dev.iso.comb = true ∧ (msgOp w.toNat = 1 ∨ msgOp w.toNat = 2)
      ∧ x.toNat = s.dev.iso.cfg.parent ∧ s.dev.iso.cfg.index ≠ 0) ∧
    (∃ (s : State) (x : BitVec 32) (w : BitVec 512), s.settled = true ∧ s.dev.iso.st = .wait
      ∧ msgFlag w.toNat 0 = true ∧ s.dev.iso.comb = true ∧ (msgOp w.toNat = 1 ∨ msgOp w.toNat = 2)
      ∧ x.toNat = s.dev.iso.cfg.parent ∧ s.dev.iso.cfg.index ≠ 0) ∧
    (∃ (s : State) (x : BitVec 32) (w : BitVec 512), s.settled = true ∧ s.dev.iso.st ≠ .off
      ∧ s.dev.iso.st ≠ .departed ∧ msgFlag w.toNat 0 = true ∧ s.dev.iso.comb = true ∧ (msgOp w.toNat = 1
      ∨ msgOp w.toNat = 2) ∧ (x.toNat ≠ s.dev.iso.cfg.parent ∨ s.dev.iso.cfg.index = 0)
      ∧ msgValid s.dev.iso.cfg w.toNat = true ∧ msgFlag w.toNat 2 = false) ∧
    (∃ (s : State) (x : BitVec 32) (w : BitVec 512), s.settled = true ∧ s.dev.iso.st ≠ .off
      ∧ s.dev.iso.st ≠ .departed ∧ msgFlag w.toNat 0 = true ∧ s.dev.iso.comb = true ∧ (msgOp w.toNat = 1
      ∨ msgOp w.toNat = 2) ∧ (x.toNat ≠ s.dev.iso.cfg.parent ∨ s.dev.iso.cfg.index = 0) ∧ (msgFlag w.toNat 2 = true
      ∨ msgValid s.dev.iso.cfg w.toNat = false)) ∧
    (∃ (s : State) (x : BitVec 32) (w : BitVec 512), s.settled = true ∧ s.dev.iso.st ≠ .off
      ∧ s.dev.iso.st ≠ .departed ∧ msgFlag w.toNat 0 = false ∧ msgOp w.toNat ≠ 3 ∧ msgOp w.toNat ≠ 5
      ∧ msgValid s.dev.iso.cfg w.toNat = true ∧ s.dev.iso.comb = false
      ∧ s.dev.iso.combPend = false ∧ (((s.dev.iso.cfg.index ≠ 0
      ∧ x.toNat = s.dev.iso.cfg.parent) ∨ (s.dev.iso.cfg.childOf x.toNat).isSome = true))) ∧
    (∃ (s : State) (x : BitVec 32) (w : BitVec 512), s.settled = true ∧ s.dev.iso.st ≠ .off
      ∧ s.dev.iso.st ≠ .departed ∧ msgFlag w.toNat 0 = false ∧ msgValid s.dev.iso.cfg w.toNat = true
      ∧ msgOp w.toNat ≠ 3 ∧ msgOp w.toNat ≠ 5 ∧ s.dev.iso.comb = false
      ∧ s.dev.iso.combPend = true ∧ (((s.dev.iso.cfg.index ≠ 0
      ∧ x.toNat = s.dev.iso.cfg.parent) ∨ (s.dev.iso.cfg.childOf x.toNat).isSome = true))) ∧
    (∃ (s : State) (x : BitVec 32) (w : BitVec 512), s.settled = true ∧ s.dev.iso.st ≠ .off
      ∧ s.dev.iso.st ≠ .departed ∧ msgFlag w.toNat 0 = false ∧ msgValid s.dev.iso.cfg w.toNat = true
      ∧ msgOp w.toNat ≠ 3 ∧ msgOp w.toNat ≠ 5 ∧ ((s.dev.iso.comb = false ∧ ¬((s.dev.iso.cfg.index ≠ 0
      ∧ x.toNat = s.dev.iso.cfg.parent) ∨ (s.dev.iso.cfg.childOf x.toNat).isSome = true))
      ∨ (s.dev.iso.comb = true ∧ ((s.dev.iso.cfg.childOf x.toNat).isSome = false ∨ msgOp w.toNat = 4)))) ∧
    (∃ (s : State) (x : BitVec 32) (w : BitVec 512) (k : Nat), s.settled = true ∧ s.dev.iso.st ≠ .off
      ∧ s.dev.iso.st ≠ .departed ∧ s.dev.iso.cfg.childOf x.toNat = some k ∧ s.dev.iso.comb = true
      ∧ msgFlag w.toNat 0 = false ∧ msgValid s.dev.iso.cfg w.toNat = true ∧ (msgOp w.toNat = 1 ∨ msgOp w.toNat = 2)
      ∧ (if msgOp w.toNat = 2 then s.dev.iso.aggSum else s.dev.iso.aggMin) = none) ∧
    (∃ (s : State) (x : BitVec 32) (w : BitVec 512) (k : Nat) (g : IsoAgg), s.settled = true
      ∧ s.dev.iso.st ≠ .off ∧ s.dev.iso.st ≠ .departed ∧ s.dev.iso.cfg.childOf x.toNat = some k
      ∧ s.dev.iso.comb = true ∧ msgFlag w.toNat 0 = false ∧ msgValid s.dev.iso.cfg w.toNat = true
      ∧ (msgOp w.toNat = 1 ∨ msgOp w.toNat = 2) ∧ (if msgOp w.toNat = 2 then s.dev.iso.aggSum else s.dev.iso.aggMin) =
      some g ∧ (g.sent = true ∨ g.got.contains k = true ∨ msgRound w.toNat ≠ g.s % 2 ^ 32)) ∧
    (∃ (s : State) (x : BitVec 32) (w : BitVec 512) (k : Nat) (g : IsoAgg), s.settled = true
      ∧ s.dev.iso.st ≠ .off ∧ s.dev.iso.st ≠ .departed ∧ s.dev.iso.cfg.childOf x.toNat = some k
      ∧ s.dev.iso.comb = true ∧ msgFlag w.toNat 0 = false ∧ msgValid s.dev.iso.cfg w.toNat = true
      ∧ (msgOp w.toNat = 1 ∨ msgOp w.toNat = 2) ∧ (if msgOp w.toNat = 2 then s.dev.iso.aggSum else s.dev.iso.aggMin) =
      some g ∧ g.sent = false ∧ g.got.contains k = false ∧ msgRound w.toNat = g.s % 2 ^ 32 ∧ ({ g with
      msg := combine g.msg w.toNat, got := insertAsc k g.got } : IsoAgg).got.length < s.dev.iso.cfg.children) ∧
    (∃ (s : State) (x : BitVec 32) (w : BitVec 512) (k : Nat) (g : IsoAgg), s.settled = true
      ∧ s.dev.iso.st ≠ .off ∧ s.dev.iso.st ≠ .departed ∧ s.dev.iso.cfg.childOf x.toNat = some k
      ∧ s.dev.iso.comb = true ∧ msgFlag w.toNat 0 = false ∧ msgValid s.dev.iso.cfg w.toNat = true
      ∧ (msgOp w.toNat = 1 ∨ msgOp w.toNat = 2) ∧ (if msgOp w.toNat = 2 then s.dev.iso.aggSum else s.dev.iso.aggMin) =
      some g ∧ g.sent = false ∧ g.got.contains k = false ∧ msgRound w.toNat = g.s % 2 ^ 32
      ∧ s.dev.iso.cfg.children ≤ ({ g with msg := combine g.msg w.toNat, got := insertAsc k g.got } :
      IsoAgg).got.length ∧ s.dev.iso.cfg.index ≠ 0) :=
  ⟨⟨(fun s => { s with
     dev := { (s.dev) with
       iso := { s.dev.iso with
         st := .off, cfg := { join := true, group := 7, epoch := 2, count := 4, index := 1, parent := 90, bcast := 91,
                              red := 92, fbDeadline := 96, arity := 2, child := [93] }, comb := false,
         combPend := false, sent := [] } } }) tiny, 0#32, BitVec.ofNat 512 (isoMsg { join := true, group := 7,
                                                                                     epoch := 2, count := 4,
                                                                                     index := 1, parent := 90,
                                                                                     bcast := 91, red := 92,
                                                                                     fbDeadline := 96, arity := 2,
                                                                                     child := [93] } 3 0 5 5), by
     decide +kernel⟩,
   ⟨(fun s => { s with
     dev := { (s.dev) with
       iso := { s.dev.iso with
         st := .departed, cfg := { join := true, group := 7, epoch := 2, count := 4, index := 1, parent := 90,
                                   bcast := 91, red := 92, fbDeadline := 96, arity := 2, child := [93] },
         comb := false, combPend := false, sent := [] } } }) tiny, 0#32, 5#512, by decide +kernel⟩,
   ⟨(fun s => { s with
     dev := { (s.dev) with
       iso := { s.dev.iso with
         st := .run, cfg := { join := true, group := 7, epoch := 2, count := 4, index := 1, parent := 90, bcast := 91,
                              red := 92, fbDeadline := 96, arity := 2, child := [93] }, comb := false,
         combPend := false, sent := [] } } }) tiny, 0#32, 5#512, by decide +kernel⟩,
   ⟨(fun s => { s with
     dev := { (s.dev) with
       iso := { s.dev.iso with
         st := .run, cfg := { join := true, group := 7, epoch := 2, count := 4, index := 1, parent := 90, bcast := 91,
                              red := 92, fbDeadline := 96, arity := 2, child := [93] }, comb := false,
         combPend := false, sent := [] } } }) tiny, 0#32, BitVec.ofNat 512 (isoMsg { join := true, group := 7,
                                                                                     epoch := 2, count := 4,
                                                                                     index := 1, parent := 90,
                                                                                     bcast := 91, red := 92,
                                                                                     fbDeadline := 96, arity := 2,
                                                                                     child := [93] } 3 0 5 5), by
     decide +kernel⟩,
   ⟨(fun s => { s with
     dev := { (s.dev) with
       iso := { s.dev.iso with
         st := .run, cfg := { join := true, group := 7, epoch := 2, count := 4, index := 1, parent := 90, bcast := 91,
                              red := 92, fbDeadline := 96, arity := 2, child := [93] }, comb := false,
         combPend := false, sent := [] } } }) tiny, 90#32, BitVec.ofNat 512 (isoMsg { join := true, group := 7,
                                                                                      epoch := 2, count := 4,
                                                                                      index := 1, parent := 90,
                                                                                      bcast := 91, red := 92,
                                                                                      fbDeadline := 96, arity := 2,
                                                                                      child := [93] } 5 0 5 5), by
     decide +kernel⟩,
   ⟨(fun s => { s with
     dev := { (s.dev) with
       iso := { s.dev.iso with
         st := .run, cfg := { join := true, group := 7, epoch := 2, count := 4, index := 1, parent := 90, bcast := 91,
                              red := 92, fbDeadline := 96, arity := 2, child := [93] }, comb := false,
         combPend := false, sent := [] } } }) tiny, 0#32, BitVec.ofNat 512 (isoMsg { join := true, group := 7,
                                                                                     epoch := 2, count := 4,
                                                                                     index := 1, parent := 90,
                                                                                     bcast := 91, red := 92,
                                                                                     fbDeadline := 96, arity := 2,
                                                                                     child := [93] } 1 1 5 5), by
     decide +kernel⟩,
   ⟨(fun s => { s with
     dev := { (s.dev) with
       iso := { s.dev.iso with
         st := .run, cfg := { join := true, group := 7, epoch := 2, count := 4, index := 1, parent := 90, bcast := 91,
                              red := 92, fbDeadline := 96, arity := 2, child := [93] }, comb := false,
         combPend := false, sent := [] } } }) tiny, 93#32, BitVec.ofNat 512 (isoMsg { join := true, group := 7,
                                                                                      epoch := 2, count := 4,
                                                                                      index := 1, parent := 90,
                                                                                      bcast := 91, red := 92,
                                                                                      fbDeadline := 96, arity := 2,
                                                                                      child := [93] } 1 1 5 5), by
     decide +kernel⟩,
   ⟨(fun s => { s with
     dev := { (s.dev) with
       iso := { s.dev.iso with
         st := .run, cfg := { join := true, group := 7, epoch := 2, count := 4, index := 1, parent := 90, bcast := 91,
                              red := 92, fbDeadline := 96, arity := 2, child := [93] }, comb := true,
         combPend := false } } }) tiny, 90#32, BitVec.ofNat 512 (isoMsg { join := true, group := 7, epoch := 2,
                                                                          count := 4, index := 1, parent := 90,
                                                                          bcast := 91, red := 92, fbDeadline := 96,
                                                                          arity := 2, child := [93] } 1 1 5 5), by
     decide +kernel⟩,
   ⟨(fun s => { s with
     dev := { (s.dev) with
       iso := { s.dev.iso with
         st := .wait, cfg := { join := true, group := 7, epoch := 2, count := 4, index := 1, parent := 90,
                               bcast := 91, red := 92, fbDeadline := 96, arity := 2, child := [93] }, comb := true,
         combPend := false } } }) tiny, 90#32, BitVec.ofNat 512 (isoMsg { join := true, group := 7, epoch := 2,
                                                                          count := 4, index := 1, parent := 90,
                                                                          bcast := 91, red := 92, fbDeadline := 96,
                                                                          arity := 2, child := [93] } 1 1 5 5), by
     decide +kernel⟩,
   ⟨(fun s => { s with
     dev := { (s.dev) with
       iso := { s.dev.iso with
         st := .run, cfg := { join := true, group := 7, epoch := 2, count := 4, index := 1, parent := 90, bcast := 91,
                              red := 92, fbDeadline := 96, arity := 2, child := [93] }, comb := true,
         combPend := false } } }) tiny, 5#32, BitVec.ofNat 512 (isoMsg { join := true, group := 7, epoch := 2,
                                                                         count := 4, index := 1, parent := 90,
                                                                         bcast := 91, red := 92, fbDeadline := 96,
                                                                         arity := 2, child := [93] } 1 1 5 5), by
     decide +kernel⟩,
   ⟨(fun s => { s with
     dev := { (s.dev) with
       iso := { s.dev.iso with
         st := .run, cfg := { join := true, group := 7, epoch := 2, count := 4, index := 1, parent := 90, bcast := 91,
                              red := 92, fbDeadline := 96, arity := 2, child := [93] }, comb := true,
         combPend := false, sent := [] } } }) tiny, 5#32, BitVec.ofNat 512 (isoMsg { join := true, group := 7,
                                                                                     epoch := 2, count := 4,
                                                                                     index := 1, parent := 90,
                                                                                     bcast := 91, red := 92,
                                                                                     fbDeadline := 96, arity := 2,
                                                                                     child := [93] } 1 5 5 5), by
     decide +kernel⟩,
   ⟨(fun s => { s with
     dev := { (s.dev) with
       iso := { s.dev.iso with
         st := .run, cfg := { join := true, group := 7, epoch := 2, count := 4, index := 1, parent := 90, bcast := 91,
                              red := 92, fbDeadline := 96, arity := 2, child := [93] }, comb := false,
         combPend := false, sent := [] } } }) tiny, 93#32, BitVec.ofNat 512 (isoMsg { join := true, group := 7,
                                                                                      epoch := 2, count := 4,
                                                                                      index := 1, parent := 90,
                                                                                      bcast := 91, red := 92,
                                                                                      fbDeadline := 96, arity := 2,
                                                                                      child := [93] } 1 0 5 5), by
     decide +kernel⟩,
   ⟨(fun s => { s with
     dev := { (s.dev) with
       iso := { s.dev.iso with
         st := .run, cfg := { join := true, group := 7, epoch := 2, count := 4, index := 1, parent := 90, bcast := 91,
                              red := 92, fbDeadline := 96, arity := 2, child := [93] }, comb := false,
         combPend := true, sent := [] } } }) tiny, 93#32, BitVec.ofNat 512 (isoMsg { join := true, group := 7,
                                                                                     epoch := 2, count := 4,
                                                                                     index := 1, parent := 90,
                                                                                     bcast := 91, red := 92,
                                                                                     fbDeadline := 96, arity := 2,
                                                                                     child := [93] } 1 0 5 5), by
     decide +kernel⟩,
   ⟨(fun s => { s with
     dev := { (s.dev) with
       iso := { s.dev.iso with
         st := .run, cfg := { join := true, group := 7, epoch := 2, count := 4, index := 1, parent := 90, bcast := 91,
                              red := 92, fbDeadline := 96, arity := 2, child := [93] }, comb := false,
         combPend := false, sent := [] } } }) tiny, 5#32, BitVec.ofNat 512 (isoMsg { join := true, group := 7,
                                                                                     epoch := 2, count := 4,
                                                                                     index := 1, parent := 90,
                                                                                     bcast := 91, red := 92,
                                                                                     fbDeadline := 96, arity := 2,
                                                                                     child := [93] } 1 0 5 5), by
     decide +kernel⟩,
   ⟨(fun s => { s with
     dev := { (s.dev) with
       iso := { s.dev.iso with
         st := .run, cfg := { join := true, group := 7, epoch := 2, count := 4, index := 1, parent := 90, bcast := 91,
                              red := 92, fbDeadline := 96, arity := 2, child := [93] }, comb := true,
         combPend := false, aggMin := none } } }) tiny, 93#32, BitVec.ofNat 512 (isoMsg { join := true, group := 7,
                                                                                          epoch := 2, count := 4,
                                                                                          index := 1, parent := 90,
                                                                                          bcast := 91, red := 92,
                                                                                          fbDeadline := 96,
                                                                                          arity := 2, child := [93] }
     1 0 5 5), 0, by decide +kernel⟩,
   ⟨(fun s => { s with
     dev := { (s.dev) with
       iso := { s.dev.iso with
         st := .run, cfg := { join := true, group := 7, epoch := 2, count := 4, index := 1, parent := 90, bcast := 91,
                              red := 92, fbDeadline := 96, arity := 2, child := [93] }, comb := true,
         combPend := false, aggMin := some ⟨5, 77, [], true⟩ } } }) tiny, 93#32, BitVec.ofNat 512 (isoMsg { join :=
                                                                                                              true,
                                                                                                            group :=
                                                                                                              7, epoch
                                                                                                              := 2,
                                                                                                            count :=
                                                                                                              4, index
                                                                                                              := 1,
                                                                                                            parent :=
                                                                                                              90,
                                                                                                            bcast :=
                                                                                                              91, red
                                                                                                              := 92,
                                                                                                            fbDeadline
                                                                                                              := 96,
                                                                                                            arity :=
                                                                                                              2, child
                                                                                                              := [93]
                                                                                                              } 1 0 5
     5), 0, ⟨5, 77, [], true⟩, by decide +kernel⟩,
   ⟨(fun s => { s with
     dev := { (s.dev) with
       iso := { s.dev.iso with
         st := .run, cfg := { join := true, group := 7, epoch := 2, count := 8, index := 1, parent := 90, bcast := 91,
                              red := 92, fbDeadline := 96, arity := 2, child := [93, 94] }, comb := true,
         combPend := false, aggMin := some ⟨5, 77, [], false⟩ } } }) tiny, 93#32, BitVec.ofNat 512 (isoMsg { join :=
                                                                                                               true,
                                                                                                             group :=
                                                                                                               7,
                                                                                                             epoch :=
                                                                                                               2,
                                                                                                             count :=
                                                                                                               8,
                                                                                                             index :=
                                                                                                               1,
                                                                                                             parent :=
                                                                                                               90,
                                                                                                             bcast :=
                                                                                                               91, red
                                                                                                               := 92,
                                                                                                             fbDeadline
                                                                                                               := 96,
                                                                                                             arity :=
                                                                                                               2,
                                                                                                             child :=
                                                                                                               [93,
                                                                                                               94] } 1
     0 5 5), 0, ⟨5, 77, [], false⟩, by decide +kernel⟩,
   ⟨(fun s => { s with
     dev := { (s.dev) with
       iso := { s.dev.iso with
         st := .run, cfg := { join := true, group := 7, epoch := 2, count := 4, index := 1, parent := 90, bcast := 91,
                              red := 92, fbDeadline := 96, arity := 2, child := [93] }, comb := true,
         combPend := false, aggMin := some ⟨5, 77, [], false⟩ } } }) tiny, 93#32, BitVec.ofNat 512 (isoMsg { join :=
                                                                                                               true,
                                                                                                             group :=
                                                                                                               7,
                                                                                                             epoch :=
                                                                                                               2,
                                                                                                             count :=
                                                                                                               4,
                                                                                                             index :=
                                                                                                               1,
                                                                                                             parent :=
                                                                                                               90,
                                                                                                             bcast :=
                                                                                                               91, red
                                                                                                               := 92,
                                                                                                             fbDeadline
                                                                                                               := 96,
                                                                                                             arity :=
                                                                                                               2,
                                                                                                             child :=
                                                                                                               [93] }
     1 0 5 5), 0, ⟨5, 77, [], false⟩, by decide +kernel⟩⟩

/-- The hypotheses of DrizzleFlagsAndPreramp are met, clause by clause. -/
theorem test_hyps_DrizzleFlagsAndPreramp :
    (∃ (s : State) (c : Nat), s.settled = true ∧ s.dev.on DRIZZLE.CTRL_IDLE_EN = true
      ∧ c < s.dev.bld.cores ∧ s.dev.rd DRIZZLE.IDLE_BEATS ≤ s.dev.dz.quiet.getD c 0 ∧ s.dev.waitingFlag c = false) ∧
    (∃ (s : State) (c : Nat), s.settled = true ∧ (s.dev.on DRIZZLE.CTRL_IDLE_EN = false
      ∨ s.dev.bld.cores ≤ c ∨ s.dev.dz.quiet.getD c 0 < s.dev.rd DRIZZLE.IDLE_BEATS ∨ s.dev.waitingFlag c = true)) ∧
    (∃ (s : State) (c : Nat) (x : DzFlag), s.settled = true ∧ s.dev.dz.flags.find? (fun f => f.core == c) = some x
      ∧ 1000 * s.dev.rd DRIZZLE.DZ_WAIT_MAX ≤ s.dev.tick.mono - x.at_ ∧ s.dev.dz.sent = false) ∧
    (∃ (s : State) (c : Nat) (x : DzFlag), s.settled = true ∧ s.dev.dz.flags.find? (fun f => f.core == c) = some x
      ∧ 1000 * s.dev.rd DRIZZLE.DZ_WAIT_MAX ≤ s.dev.tick.mono - x.at_ ∧ s.dev.dz.sent = true) ∧
    (∃ (s : State) (c : Nat), s.settled = true ∧ ((∀ x ∈ s.dev.dz.flags, x.core = c → s.dev.tick.mono - x.at_ < 1000 *
      s.dev.rd DRIZZLE.DZ_WAIT_MAX))) ∧
    (∃ (s : State) (a : Acc) (v : BitVec 32), s.settled = true ∧ s.dev.ready 0x19 = true ∧ a.privOk = true
      ∧ bitsAt v.toNat 31 1 = 1 ∧ s.dev.preRefused (bitsAt v.toNat 0 8) = false ∧ 1 ≤ bitsAt v.toNat 16 8) ∧
    (∃ (s : State) (a : Acc) (v : BitVec 32), s.settled = true ∧ s.dev.ready 0x19 = true ∧ a.privOk = true
      ∧ bitsAt v.toNat 31 1 = 1 ∧ (s.dev.dz.pre ≠ none ∨ bitsAt v.toNat 0 8 = 0
      ∨ s.dev.beatDiff (s.dev.rd DRIZZLE.PRERAMP_BEAT) < ((ceilDiv (256 * bitsAt v.toNat 0 8) s.dev.dzStep + 2 : Nat)
      : Int) ∨ 2 ^ 30 < s.dev.beatDiff (s.dev.rd DRIZZLE.PRERAMP_BEAT))) ∧
    (∃ (s : State) (p : PreRamp), s.settled = true ∧ s.dev.dz.pre = some p ∧ p.running = false
      ∧ s.dev.beatDiff p.start ≤ 0) ∧
    (∃ (s : State), s.settled = true ∧ ((∀ p ∈ s.dev.dz.pre.toList, p.running = true ∨ 0 < s.dev.beatDiff p.start))) ∧
    (∃ (s : State) (p : PreRamp), s.settled = true ∧ s.dev.dz.pre = some p ∧ p.running = true
      ∧ p.done = false ∧ s.dev.beatDiff p.beat ≤ 0) ∧
    (∃ (s : State), s.settled = true ∧ ((∀ p ∈ s.dev.dz.pre.toList, p.running = false ∨ p.done = true
      ∨ 0 < s.dev.beatDiff p.beat))) ∧
    (∃ (s : State) (p : PreRamp), s.settled = true ∧ s.dev.dz.pre = some p ∧ p.done = true
      ∧ 1000 * p.holdMs ≤ s.dev.tick.mono - p.doneAt) ∧
    (∃ (s : State), s.settled = true ∧ ((∀ p ∈ s.dev.dz.pre.toList, p.done = false
      ∨ s.dev.tick.mono - p.doneAt < 1000 * p.holdMs))) ∧
    (∃ (d : Dev) (c : Nat), (d.clCores c).isEmpty = false) ∧
    (∃ (d : Dev) (c : Nat),
      let off : Bool := d.sqActive || !d.on DRIZZLE.CTRL_EN || d.rd DRIZZLE.CL_CFG_FULL_UNITS 0 c == 0;
      c < d.dz.cl.length ∧ off = false) ∧
    (∃ (d : Dev) (c : Nat), c < d.dz.cl.length ∧ (d.sqActive = true ∨ d.on DRIZZLE.CTRL_EN = false
      ∨ d.rd DRIZZLE.CL_CFG_FULL_UNITS 0 c = 0)) :=
  ⟨⟨(fun s => { s with
     dev := { (s.dev.wr DRIZZLE.CTRL_IDLE_EN 1) with dz := { s.dev.dz with quiet := [0, 70000], flags := [] } } })
     tiny, 1, by decide +kernel⟩,
   ⟨tiny, 99, by decide +kernel⟩,
   ⟨(fun s => { s with
     dev := { (s.dev) with
       dz := { s.dev.dz with flags := [⟨1, true, 5⟩], sent := false }, tick := { s.dev.tick with mono := 99999999 } }
       }) tiny, 1, ⟨1, true, 5⟩, by decide +kernel⟩,
   ⟨(fun s => { s with
     dev := { (s.dev) with
       dz := { s.dev.dz with flags := [⟨1, true, 5⟩], sent := true }, tick := { s.dev.tick with mono := 99999999 } }
       }) tiny, 1, ⟨1, true, 5⟩, by decide +kernel⟩,
   ⟨(fun s => { s with dev := { (s.dev) with dz := { s.dev.dz with flags := [] } } }) tiny, 1, by decide +kernel⟩,
   ⟨(fun s => { s with
     dev := { (s.dev.wr DRIZZLE.PRERAMP_BEAT 90000) with
       wiping := [], tick := { s.dev.tick with b := 1280 }, dz := { s.dev.dz with pre := none } } }) tiny, ⟨.regPort,
     5, false, true⟩, 0x800A0080#32, by decide +kernel⟩,
   ⟨(fun s => { s with
     dev := { (s.dev.wr DRIZZLE.PRERAMP_BEAT 1281) with
       wiping := [], tick := { s.dev.tick with b := 1280 }, dz := { s.dev.dz with pre := none } } }) tiny, ⟨.regPort,
     5, false, true⟩, 0x800A0080#32, by decide +kernel⟩,
   ⟨(fun s => { s with
     dev := { (s.dev) with
       dz := { s.dev.dz with pre := some ⟨900, 1000, 128, 1, 10, false, false, 0⟩ },
       tick := { s.dev.tick with b := 1280 } } }) tiny, ⟨900, 1000, 128, 1, 10, false, false, 0⟩, by decide +kernel⟩,
   ⟨(fun s => { s with dev := { (s.dev) with dz := { s.dev.dz with pre := none } } }) tiny, by decide +kernel⟩,
   ⟨(fun s => { s with
     dev := { (s.dev) with
       dz := { s.dev.dz with pre := some ⟨900, 1000, 128, 1, 10, true, false, 0⟩ },
       tick := { s.dev.tick with b := 1280 } } }) tiny, ⟨900, 1000, 128, 1, 10, true, false, 0⟩, by decide +kernel⟩,
   ⟨(fun s => { s with dev := { (s.dev) with dz := { s.dev.dz with pre := none } } }) tiny, by decide +kernel⟩,
   ⟨(fun s => { s with
     dev := { (s.dev) with
       dz := { s.dev.dz with
         pre := some ⟨900, 1000, 128, 1, 10, true, true, 0⟩,
         cl := s.dev.dz.cl.map (fun (q : DzCl) => { q with st := .pre }) },
       tick := { s.dev.tick with mono := 99999999 } } }) tiny, ⟨900, 1000, 128, 1, 10, true, true, 0⟩, by decide +kernel⟩,
   ⟨(fun s => { s with dev := { (s.dev) with dz := { s.dev.dz with pre := none } } }) tiny, by decide +kernel⟩,
   ⟨(tiny).dev, 0, by decide +kernel⟩,
   ⟨((fun (s : State) => { s with
     dev := { (s.dev.wr DRIZZLE.CTRL_EN 1 |>.wr DRIZZLE.CL_CFG_FULL_UNITS 100 0 0) with
       dz := { s.dev.dz with cl := [{}, {}] } } }) tiny).dev, 0, by decide +kernel⟩,
   ⟨((fun (s : State) => { s with dev := { (s.dev) with dz := { s.dev.dz with cl := [{}, {}] } } }) tiny).dev, 0, by
     decide +kernel⟩⟩

/-- The hypotheses of GrantsAsksAndCardPower are met, clause by clause. -/
theorem test_hyps_GrantsAsksAndCardPower :
    (∃ (s : State) (a : Acc) (v : BitVec 32), s.settled = true ∧ s.dev.ready 0x1A = true ∧ a.privOk = true
      ∧ s.dev.rd BUDGET.GRANT0_VALID_MS ≠ 0) ∧
    (∃ (s : State) (a : Acc) (v : BitVec 32), s.settled = true ∧ s.dev.ready 0x1A = true ∧ a.privOk = true
      ∧ s.dev.rd BUDGET.GRANT0_VALID_MS = 0) ∧
    (∃ (s : State), s.settled = true ∧ s.dev.on BUDGET.GRANT_STAT_IN_FORCE = true ∧ s.dev.rd BUDGET.GRANT_LEFT_MS = 0) ∧
    (∃ (s : State), s.settled = true ∧ (s.dev.on BUDGET.GRANT_STAT_IN_FORCE = false
      ∨ s.dev.rd BUDGET.GRANT_LEFT_MS ≠ 0)) ∧
    (∃ (s : State), s.settled = true ∧ s.dev.bud.askDue = true) ∧
    (∃ (s : State), s.settled = true ∧ s.dev.bud.askDue = false) ∧
    (∃ (s : State), s.settled = true ∧ s.dev.on BUDGET.PMB_CFG_EN = true
      ∧ s.dev.rd BUDGET.PMB_CFG_PERIOD ≤ s.dev.bud.pollMs ∧ s.dev.bud.poll = false) ∧
    (∃ (s : State), s.settled = true ∧ s.dev.on BUDGET.PMB_CFG_EN = true
      ∧ s.dev.rd BUDGET.PMB_CFG_PERIOD ≤ s.dev.bud.pollMs ∧ s.dev.bud.poll = false ∧ s.dev.on BUDGET.PMB_DEV_EN 0 0 =
      true ∧ s.dev.on BUDGET.PMB_DEV_EN 0 1 = false) ∧
    (∃ (s : State), s.settled = true ∧ (s.dev.on BUDGET.PMB_CFG_EN = false
      ∨ s.dev.bud.pollMs < s.dev.rd BUDGET.PMB_CFG_PERIOD ∨ s.dev.bud.poll = true)) ∧
    (∃ (s : State) (f : Option Nat) (x : List (List (BitVec 8))) (y : List (List (BitVec 8))) (k : Nat), s.settled =
      true ∧ s.dev.bud.poll = true ∧ s.dev.pollBad f (x.map (fun l => l.map (fun b => b.toNat))) (y.map (fun l =>
      l.map (fun b => b.toNat))) = some k) ∧
    (∃ (s : State) (f : Option Nat) (x : List (List (BitVec 8))) (y : List (List (BitVec 8))), s.settled = true
      ∧ s.dev.bud.poll = true ∧ s.dev.bud.bad = none ∧ f = some 0 ∧ s.dev.on BUDGET.PMB_DEV_EN 0 0 = true) ∧
    (∃ (s : State) (f : Option Nat) (x : List (List (BitVec 8))) (y : List (List (BitVec 8))), s.settled = true
      ∧ s.dev.bud.poll = true ∧ s.dev.pollBad f (x.map (fun l => l.map (fun b => b.toNat))) (y.map (fun l => l.map
      (fun b => b.toNat))) = none) ∧
    (∃ (s : State) (f : Option Nat) (x : List (List (BitVec 8))) (y : List (List (BitVec 8))), s.settled = true
      ∧ s.dev.bud.poll = false) ∧
    (∃ (s : State) (k : Nat), s.settled = true ∧ k < 2 ∧ s.dev.on BUDGET.PMB_DEV_EN 0 k = true
      ∧ s.dev.bud.poll = true ∧ s.dev.bud.bad = none) ∧
    (∃ (s : State) (k : Nat), s.settled = true ∧ k < 2 ∧ (s.dev.on BUDGET.PMB_DEV_EN 0 k = false
      ∨ s.dev.bud.poll = false ∨ s.dev.bud.bad ≠ none)) ∧
    (∃ (s : State) (k : Nat), s.settled = true ∧ 2 ≤ k) ∧
    (∃ (s : State) (x : BitVec 7) (y : BitVec 16 × BitVec 8), s.settled = true ∧ bitAt y.1.toNat 13 = true
      ∧ s.dev.rd BUDGET.PMB_DEV_ADDR 0 0 = x.toNat) ∧
    (∃ (s : State) (x : BitVec 7) (y : BitVec 16 × BitVec 8), s.settled = true ∧ bitAt y.1.toNat 13 = false
      ∧ s.dev.rd BUDGET.PMB_DEV_ADDR 0 0 = x.toNat) ∧
    (∃ (s : State) (x : BitVec 7) (y : BitVec 16 × BitVec 8), s.settled = true ∧ bitAt y.1.toNat 13 = true
      ∧ s.dev.rd BUDGET.PMB_DEV_ADDR 0 0 ≠ x.toNat ∧ s.dev.rd BUDGET.PMB_DEV_ADDR 0 1 = x.toNat) ∧
    (∃ (s : State) (x : BitVec 7) (y : BitVec 16 × BitVec 8), s.settled = true ∧ bitAt y.1.toNat 13 = false
      ∧ s.dev.rd BUDGET.PMB_DEV_ADDR 0 0 ≠ x.toNat ∧ s.dev.rd BUDGET.PMB_DEV_ADDR 0 1 = x.toNat) ∧
    (∃ (s : State) (x : BitVec 7) (y : BitVec 16 × BitVec 8), s.settled = true ∧ bitAt y.1.toNat 13 = true
      ∧ s.dev.rd BUDGET.PMB_DEV_ADDR 0 0 ≠ x.toNat ∧ s.dev.rd BUDGET.PMB_DEV_ADDR 0 1 ≠ x.toNat) ∧
    (∃ (s : State) (x : BitVec 7) (y : BitVec 16 × BitVec 8), s.settled = true ∧ bitAt y.1.toNat 13 = false
      ∧ s.dev.rd BUDGET.PMB_DEV_ADDR 0 0 ≠ x.toNat ∧ s.dev.rd BUDGET.PMB_DEV_ADDR 0 1 ≠ x.toNat) ∧
    (∃ (s : State), s.settled = true) ∧
    (∃ (d : Dev) (w : Nat) (v : Nat) (q : Nat),
      let k : Nat := (q + 65536 - d.rd BUDGET.GRANT_STAT_SEQ) % 65536;
      d.bud.sub = some (w, v, q) ∧ (d.bud.first = false ∨ (1 ≤ k ∧ k ≤ 32767)) ∧ v < 2 ^ BUDGET.GRANT_LEFT_MS.wid
        ∧ q < 2 ^ BUDGET.GRANT_STAT_SEQ.wid) ∧
    (∃ (d : Dev) (w : Nat) (v : Nat) (q : Nat),
      let k : Nat := (q + 65536 - d.rd BUDGET.GRANT_STAT_SEQ) % 65536;
      d.bud.sub = some (w, v, q) ∧ d.bud.first = true ∧ (k = 0 ∨ 32767 < k)) ∧
    (∃ (d : Dev), d.bud.sub = none) ∧
    (∃ (d : Dev), d.bud.cnt ≠ 0) ∧
    (∃ (d : Dev), d.held 0x30 = false) ∧
    (∃ (d : Dev), d.held 0x30 = true) :=
  ⟨⟨(fun s => { s with dev := { (s.dev.wr BUDGET.GRANT0_VALID_MS 500) with wiping := [] } }) tiny, ⟨.regPort, 5,
     false, true⟩, 7#32, by decide +kernel⟩,
   ⟨(fun s => { s with dev := { (s.dev.wr BUDGET.GRANT0_VALID_MS 0) with wiping := [] } }) tiny, ⟨.regPort, 5, false,
     true⟩, 7#32, by decide +kernel⟩,
   ⟨(fun s => { s with
     dev := { (s.dev.wr BUDGET.GRANT_STAT_IN_FORCE 1 |>.wr BUDGET.GRANT_LEFT_MS 0) with
       stw := { s.dev.stw with st := .sleep } } }) tiny, by decide +kernel⟩,
   ⟨(fun s => { s with dev := (s.dev.wr BUDGET.GRANT_STAT_IN_FORCE 0) }) tiny, by decide +kernel⟩,
   ⟨(fun s => { s with dev := { (s.dev) with bud := { s.dev.bud with askDue := true } } }) tiny, by decide +kernel⟩,
   ⟨(fun s => { s with dev := { (s.dev) with bud := { s.dev.bud with askDue := false } } }) tiny, by decide +kernel⟩,
   ⟨(fun s => { s with
     dev := { (s.dev.wr BUDGET.PMB_CFG_EN 1) with bud := { s.dev.bud with pollMs := 255, poll := false } } }) tiny, by
     decide +kernel⟩,
   ⟨(fun s => { s with
     dev := { (s.dev.wr BUDGET.PMB_CFG_EN 1 |>.wr BUDGET.PMB_DEV_EN 1 0 0) with
       bud := { s.dev.bud with pollMs := 255, poll := false } } }) tiny, by decide +kernel⟩,
   ⟨(fun s => { s with dev := { (s.dev) with bud := { s.dev.bud with poll := true } } }) tiny, by decide +kernel⟩,
   ⟨(fun s => { s with
     dev := { (s.dev.wr BUDGET.PMB_DEV_EN 0 0 0 |>.wr BUDGET.PMB_DEV_EN 1 0 1) with
       bud := { s.dev.bud with poll := true, bad := none } } }) tiny, some 1, [], [], 1, by decide +kernel⟩,
   ⟨(fun s => { s with
     dev := { (s.dev.wr BUDGET.PMB_DEV_EN 1 0 0) with bud := { s.dev.bud with poll := true, bad := none } } }) tiny,
     some 0, [], [], by decide +kernel⟩,
   ⟨(fun s => { s with
     dev := { (s.dev.wr BUDGET.PMB_DEV_EN 1 0 0 |>.wr BUDGET.PMB_DEV_ADDR 0x58 0 0 |>.wr BUDGET.PMB_DEV_EN 0 0 1) with
       bud := { s.dev.bud with poll := true, bad := none, revRead := [false, false] } } }) tiny, none, (([[(0x97, 2,
     [0x20, 0x10]), (0x88, 2, [1, 0]), (0x89, 2, [5, 0]), (0x79, 2, [0, 0]), (0x7C, 0, []), (0x98, 1, [3])]].flatMap
     (fun l => l)).map (fun (t : Nat × Nat × List Nat) => (t.2.2 ++ (if t.2.1 = 0 then [] else [pec (pmbHead 0x58 t.1
     ++ t.2.2)])).map (fun b => BitVec.ofNat 8 b))), [], by decide +kernel⟩,
   ⟨(fun s => { s with dev := { (s.dev) with bud := { s.dev.bud with poll := false } } }) tiny, none, [], [], by
     decide +kernel⟩,
   ⟨(fun s => { s with
     dev := { (s.dev.wr BUDGET.PMB_DEV_EN 1 0 1) with bud := { s.dev.bud with poll := true, bad := none } } }) tiny,
     1, by decide +kernel⟩,
   ⟨(fun s => { s with dev := { (s.dev) with bud := { s.dev.bud with poll := false, bad := none } } }) tiny, 1, by
     decide +kernel⟩,
   ⟨tiny, 2, by decide +kernel⟩,
   ⟨(fun s => { s with dev := (s.dev.wr BUDGET.PMB_DEV_ADDR 0x58 0 0) }) tiny, 0x58#7, (0x2000#16, 5#8), by decide +kernel⟩,
   ⟨(fun s => { s with dev := (s.dev.wr BUDGET.PMB_DEV_ADDR 0x58 0 0) }) tiny, 0x58#7, (0x10#16, 5#8), by decide +kernel⟩,
   ⟨(fun s => { s with dev := (s.dev.wr BUDGET.PMB_DEV_ADDR 0x50 0 0 |>.wr BUDGET.PMB_DEV_ADDR 0x58 0 1) }) tiny,
     0x58#7, (0x2000#16, 5#8), by decide +kernel⟩,
   ⟨(fun s => { s with dev := (s.dev.wr BUDGET.PMB_DEV_ADDR 0x50 0 0 |>.wr BUDGET.PMB_DEV_ADDR 0x58 0 1) }) tiny,
     0x58#7, (0x10#16, 5#8), by decide +kernel⟩,
   ⟨(fun s => { s with dev := (s.dev.wr BUDGET.PMB_DEV_ADDR 0x50 0 0 |>.wr BUDGET.PMB_DEV_ADDR 0x51 0 1) }) tiny,
     0x58#7, (0x2000#16, 5#8), by decide +kernel⟩,
   ⟨(fun s => { s with dev := (s.dev.wr BUDGET.PMB_DEV_ADDR 0x50 0 0 |>.wr BUDGET.PMB_DEV_ADDR 0x51 0 1) }) tiny,
     0x58#7, (0x10#16, 5#8), by decide +kernel⟩,
   ⟨tiny, by decide +kernel⟩,
   ⟨((fun (s : State) => { s with dev := { (s.dev) with bud := { s.dev.bud with sub := some (300, 20, 5) } } })
     tiny).dev, 300, 20, 5, by decide +kernel⟩,
   ⟨((fun (s : State) => { s with
     dev := { (s.dev) with bud := { s.dev.bud with sub := some (300, 20, 0), first := true } } }) tiny).dev, 300, 20,
     0, by decide +kernel⟩,
   ⟨(tiny).dev, by decide +kernel⟩,
   ⟨((fun (s : State) => { s with dev := { (s.dev) with bud := { s.dev.bud with cnt := 3, sum := 100 } } }) tiny).dev,
     by decide +kernel⟩,
   ⟨(tiny).dev, by decide +kernel⟩,
   ⟨((fun (s : State) => { s with dev := { (s.dev) with tick := { s.dev.tick with missed := [0x30] } } }) tiny).dev,
     by decide +kernel⟩⟩

/-- The hypotheses of LedgerAndMemoryPort are met, clause by clause. -/
theorem test_hyps_LedgerAndMemoryPort :
    (∃ (s : State) (a : Acc) (v : BitVec 32), s.settled = true ∧ s.dev.ready 0x1B = true ∧ a.privOk = true
      ∧ bitsAt v.toNat 31 1 = 1 ∧ 16 ≤ (bitsAt v.toNat 0 20)) ∧
    (∃ (s : State) (a : Acc) (v : BitVec 32), s.settled = true ∧ s.dev.ready 0x1B = true ∧ a.privOk = true
      ∧ (bitsAt v.toNat 0 20) < 16) ∧
    (∃ (s : State) (a : Acc) (v : BitVec 32), s.settled = true ∧ s.dev.ready 0x1B = true ∧ a.privOk = true
      ∧ bitsAt v.toNat 31 1 = 1 ∧ s.dev.line (bitsAt v.toNat 0 20) = none ∧ s.dev.memOpen = true
      ∧ s.dev.memPort.wait = [] ∧ s.dev.slotWrite [] (bitsAt v.toNat 0 20) = false ∧ s.dev.memPort.reads.length < 32) ∧
    (∃ (s : State) (a : Acc) (v : BitVec 32) (x : Line), s.settled = true ∧ s.dev.ready 0x1B = true
      ∧ a.privOk = true ∧ bitsAt v.toNat 31 1 = 1 ∧ s.dev.line (bitsAt v.toNat 0 20) = some x ∧ x.fetch = false) ∧
    (∃ (s : State) (a : Acc) (v : BitVec 32) (x : Line), s.settled = true ∧ s.dev.ready 0x1B = true
      ∧ a.privOk = true ∧ bitsAt v.toNat 31 1 = 1 ∧ s.dev.line (bitsAt v.toNat 0 20) = some x ∧ x.fetch = true) ∧
    (∃ (s : State) (a : Acc) (v : BitVec 32), s.settled = true ∧ s.dev.ready 0x1B = true ∧ a.privOk = true
      ∧ bitsAt v.toNat 31 1 = 1 ∧ s.dev.line (bitsAt v.toNat 0 20) = none ∧ s.dev.memOpen = false) ∧
    (∃ (s : State) (x : Line), s.settled = true ∧ s.dev.led.query = true
      ∧ s.dev.line (s.dev.rd LEDGER.QUERY_TAG) = some x ∧ x.fetch = false) ∧
    (∃ (s : State), s.settled = true ∧ s.dev.led.query = true ∧ s.dev.line (s.dev.rd LEDGER.QUERY_TAG) = none
      ∧ s.dev.memOpen = false) ∧
    (∃ (s : State), s.settled = true ∧ (s.dev.led.query = false ∨ (∃ x ∈ (s.dev.line (s.dev.rd
      LEDGER.QUERY_TAG)).toList, x.fetch = true) ∨ (s.dev.line (s.dev.rd LEDGER.QUERY_TAG) = none
      ∧ s.dev.memOpen = true))) ∧
    (∃ (s : State) (a : Acc) (v : BitVec 32), s.settled = true ∧ s.dev.ready 0x1B = true ∧ a.privOk = true
      ∧ bitsAt v.toNat 1 1 = 1 ∧ s.dev.led.lines.filter (fun x => x.dirty && x.st != .closed && !x.fetch) = []
      ∧ s.dev.memPort.writes = [] ∧ s.dev.memPort.reads.all (fun q => match q with | .mend _ => false | _ => true) =
      true ∧ s.dev.led.lines.all (fun x => !x.fetch && !x.flush) = true ∧ s.dev.led.away.all (fun a => !a.2) = true
      ∧ s.dev.memPort.wait = []) ∧
    (∃ (s : State) (a : Acc) (v : BitVec 32) (x : Line), s.settled = true ∧ s.dev.ready 0x1B = true
      ∧ a.privOk = true ∧ bitsAt v.toNat 1 1 = 1 ∧ s.dev.led.lines.filter (fun x => x.dirty && x.st != .closed &&
      !x.fetch) = [x] ∧ s.dev.memOpen = true ∧ s.dev.memPort.writes.length < 32
      ∧ s.dev.led.lines.all (fun x => !x.fetch && !x.flush) = true ∧ s.dev.led.away.all (fun a => !a.2) = true
      ∧ s.dev.memPort.wait = []) ∧
    (∃ (s : State) (a : Acc) (v : BitVec 32), s.settled = true ∧ s.dev.ready 0x1B = true ∧ a.privOk = true
      ∧ bitsAt v.toNat 1 1 = 1) ∧
    (∃ (s : State), s.settled = true ∧ s.dev.led.flushing = true ∧ s.dev.flushLeft = false) ∧
    (∃ (s : State), s.settled = true ∧ (s.dev.led.flushing = false ∨ s.dev.flushLeft = true)) ∧
    (∃ (s : State), s.settled = true ∧ s.dev.led.init = true ∧ s.dev.memPort.wait = []) ∧
    (∃ (s : State), s.settled = true ∧ s.dev.led.init = true) ∧
    (∃ (s : State), s.settled = true ∧ s.dev.led.init = false) ∧
    (∃ (s : State) (w : BitVec 512) (g : Nat) (r : List MemReq) (x : Line), s.settled = true
      ∧ s.dev.led.init = false ∧ s.dev.memPort.reads = .fetch g :: r ∧ s.dev.memPort.wait = []
      ∧ s.dev.line g = some x ∧ x.fetch = true ∧ x.flush = false ∧ s.dev.led.query = false ∧ x.endReq = none
      ∧ bitsAt w.toNat 224 2 = 1) ∧
    (∃ (s : State) (w : BitVec 512) (g : Nat) (r : List MemReq) (x : Line), s.settled = true
      ∧ s.dev.led.init = false ∧ s.dev.memPort.reads = .fetch g :: r ∧ s.dev.memPort.wait = []
      ∧ s.dev.line g = some x ∧ x.fetch = true ∧ x.flush = false ∧ s.dev.led.query = false ∧ x.endReq ≠ none
      ∧ bitsAt w.toNat 224 2 = 1 ∧ x.forced = false) ∧
    (∃ (s : State) (w : BitVec 512) (g : Nat) (r : List MemReq) (x : Line), s.settled = true
      ∧ s.dev.led.init = false ∧ s.dev.memPort.reads = .fetch g :: r ∧ s.dev.memPort.wait = []
      ∧ s.dev.line g = some x ∧ x.fetch = true ∧ x.flush = false ∧ s.dev.led.query = false ∧ x.endReq = none
      ∧ bitsAt w.toNat 224 2 ≠ 1 ∧ (((s.dev.led.lines.filter (fun y => decide (16 ≤ y.tag) && y.st != .free)).length +
      (s.dev.led.away.filter (fun y => y.1 != g)).length)) < s.dev.rd LEDGER.LIMIT_MAX_TAGS) ∧
    (∃ (s : State) (w : BitVec 512) (g : Nat) (r : List MemReq), s.settled = true
      ∧ s.dev.led.init = false ∧ s.dev.memPort.reads = .query g :: r ∧ s.dev.memPort.wait = []
      ∧ s.dev.line g = none ∧ s.dev.slotOverrun g = false ∧ s.dev.ending g = false
      ∧ s.dev.led.query = true ∧ s.dev.rd LEDGER.QUERY_TAG = g) ∧
    (∃ (s : State) (w : BitVec 512), s.settled = true ∧ s.dev.memPort.reads ≠ []) ∧
    (∃ (s : State) (w : BitVec 512), s.dev.memPort.reads = []) ∧
    (∃ (s : State) (w : MemReq) (r : List MemReq), s.settled = true ∧ s.dev.memPort.writes = w :: r
      ∧ s.dev.memPort.wait = [] ∧ s.dev.led.init = false ∧ s.dev.led.flushing = false) ∧
    (∃ (s : State) (w : MemReq), s.settled = true ∧ s.dev.memPort.writes = [w]
      ∧ s.dev.memPort.wait = [] ∧ s.dev.led.init = false ∧ s.dev.led.flushing = true
      ∧ s.dev.led.lines.all (fun x => !x.flush) = true ∧ s.dev.memPort.reads.all (fun q => match q with | .mend _ =>
                                                                                                          false | _ =>
                                                                                                          true) =
      true) ∧
    (∃ (s : State) (w : MemReq) (r : List MemReq), s.settled = true ∧ s.dev.memPort.writes = w :: r) ∧
    (∃ (s : State) (k : Nat) (r : List MemReq), s.settled = true ∧ s.dev.memPort.writes = .fill k :: r
      ∧ r.length = 31 ∧ s.dev.memPort.wait = [] ∧ s.dev.led.init = true
      ∧ s.dev.led.flushing = false ∧ s.dev.led.fillAt < fillParts ∧ s.dev.on TOP.MEM_WIN_BASE_VALID = true) ∧
    (∃ (s : State) (k : Nat), s.settled = true ∧ s.dev.memPort.writes = [.fill k]
      ∧ s.dev.memPort.wait = [] ∧ s.dev.led.init = true ∧ s.dev.led.flushing = false ∧ fillParts ≤ s.dev.led.fillAt) ∧
    (∃ (s : State), s.dev.memPort.writes = []) ∧
    (∃ (ws : List (Nat × Nat × Nat)) (e : Nat), 0 < sumN (ws.map (fun x => x.2.1))) ∧
    (∃ (ws : List (Nat × Nat × Nat)) (e : Nat), sumN (ws.map (fun x => x.2.1)) = 0) ∧
    (∃ (d : Dev), d.led.eBeat.isEmpty = false) ∧
    (∃ (d : Dev), d.tick.mono ≠ 0) :=
  ⟨⟨(fun s => { s with dev := { (s.dev) with wiping := [] } }) tiny, ⟨.regPort, 5, false, true⟩, 0x80000014#32, by
     decide +kernel⟩,
   ⟨(fun s => { s with dev := { (s.dev) with wiping := [] } }) tiny, ⟨.regPort, 5, false, true⟩, 0x80000004#32, by
     decide +kernel⟩,
   ⟨(fun s => { s with
     dev := { (s.dev.wr TOP.MEM_WIN_BASE_VALID 1) with
       led := { s.dev.led with
         init := false, lines := ([{ tag := 0, st := .open_ }, { tag := 1, st := .open_ }, { tag := 2, st := .open_ },
           { tag := 3, st := .open_ }] : List Line) }, memPort := {}, wiping := [] } }) tiny, ⟨.regPort, 5, false,
     true⟩, 0x80000014#32, by decide +kernel⟩,
   ⟨(fun s => { s with
     dev := { (s.dev) with
       led := { s.dev.led with lines := [{ tag := 20, st := .open_, eCore := 5, dirty := true }] }, wiping := [] } })
     tiny, ⟨.regPort, 5, false, true⟩, 0x80000014#32, { tag := 20, st := .open_, eCore := 5, dirty := true }, by
     decide +kernel⟩,
   ⟨(fun s => { s with
     dev := { (s.dev) with
       led := { s.dev.led with lines := [{ tag := 20, fetch := true, eCore := 9 }] }, wiping := [] } }) tiny,
     ⟨.regPort, 5, false, true⟩, 0x80000014#32, { tag := 20, fetch := true, eCore := 9 }, by decide +kernel⟩,
   ⟨(fun s => { s with
     dev := { (s.dev.wr TOP.MEM_WIN_BASE_VALID 0) with led := { s.dev.led with lines := [] }, wiping := [] } }) tiny,
     ⟨.regPort, 5, false, true⟩, 0x80000014#32, by decide +kernel⟩,
   ⟨(fun s => { s with
     dev := { (s.dev.wr LEDGER.QUERY_TAG 20) with
       led := { s.dev.led with query := true, lines := [{ tag := 20, st := .open_, eCore := 5, dirty := true }] } } })
     tiny, { tag := 20, st := .open_, eCore := 5, dirty := true }, by decide +kernel⟩,
   ⟨(fun s => { s with
     dev := { (s.dev.wr TOP.MEM_WIN_BASE_VALID 0) with led := { s.dev.led with query := true, lines := [] } } }) tiny,
     by decide +kernel⟩,
   ⟨(fun s => { s with dev := { (s.dev) with led := { s.dev.led with query := false } } }) tiny, by decide +kernel⟩,
   ⟨(fun s => { s with
     dev := { (s.dev) with
       led := { s.dev.led with
         lines := ([{ tag := 0, st := .open_ }, { tag := 1, st := .open_ }, { tag := 2, st := .open_ }, { tag := 3, st
                                                                                                            := .open_
                                                                                                            }] : List
           Line) }, memPort := {}, wiping := [] } }) tiny, ⟨.regPort, 5, false, true⟩, 2#32, by decide +kernel⟩,
   ⟨(fun s => { s with
     dev := { (s.dev.wr TOP.MEM_WIN_BASE_VALID 1) with
       led := { s.dev.led with
         init := false, lines := ([{ tag := 0, st := .open_ }, { tag := 1, st := .open_ }, { tag := 2, st := .open_ },
           { tag := 3, st := .open_ }] : List Line) ++ ([{ tag := 20, st := .open_, eCore := 5, dirty := true }] :
           List Line) }, memPort := {}, wiping := [] } }) tiny, ⟨.regPort, 5, false, true⟩, 2#32, { tag := 20,
                                                                                                    st := .open_,
                                                                                                    eCore := 5, dirty
                                                                                                      := true }, by
     decide +kernel⟩,
   ⟨(fun s => { s with
     dev := { (s.dev.wr TOP.MEM_WIN_BASE_VALID 1) with
       led := { s.dev.led with
         init := false, lines := ([{ tag := 0, st := .open_ }, { tag := 1, st := .open_ }, { tag := 2, st := .open_ },
           { tag := 3, st := .open_ }] : List Line) ++ ([{ tag := 20, st := .open_, eCore := 5, dirty := true }] :
           List Line) }, memPort := {}, wiping := [] } }) tiny, ⟨.regPort, 5, false, true⟩, 2#32, by decide +kernel⟩,
   ⟨(fun s => { s with dev := { (s.dev) with led := { s.dev.led with flushing := true }, memPort := {} } }) tiny, by
     decide +kernel⟩,
   ⟨(fun s => { s with dev := { (s.dev) with led := { s.dev.led with flushing := false } } }) tiny, by decide +kernel⟩,
   ⟨(fun s => { s with
     dev := { (s.dev) with
       led := { s.dev.led with init := true, fillAt := 40 }, memPort := { writes := [.fill 38, .fill 39] } } }) tiny,
     by decide +kernel⟩,
   ⟨(fun s => { s with dev := { (s.dev) with led := { s.dev.led with init := true }, memPort := {} } }) tiny, by
     decide +kernel⟩,
   ⟨(fun s => { s with dev := { (s.dev) with led := { s.dev.led with init := false } } }) tiny, by decide +kernel⟩,
   ⟨(fun s => { s with
     dev := { (s.dev.wr LEDGER.LIMIT_MAX_TAGS 50) with
       led := { s.dev.led with
         init := false, query := false, ends := [], lines := ([{ tag := 0, st := .open_ }, { tag := 1, st := .open_ },
           { tag := 2, st := .open_ }, { tag := 3, st := .open_ }] : List Line) ++ ([{ tag := 20, fetch := true,
                                                                                       eCore := 9 }] : List Line) },
       memPort := { reads := [.fetch 20] } } }) tiny, (5 + 2 ^ 224 : BitVec 512), 20, [], { tag := 20, fetch := true,
                                                                                            eCore := 9 }, by decide +kernel⟩,
   ⟨(fun s => { s with
     dev := { (s.dev.wr LEDGER.LIMIT_MAX_TAGS 50) with
       led := { s.dev.led with
         init := false, query := false, ends := [], lines := ([{ tag := 0, st := .open_ }, { tag := 1, st := .open_ },
           { tag := 2, st := .open_ }, { tag := 3, st := .open_ }] : List Line) ++ ([{ tag := 20, fetch := true,
                                                                                       eCore := 9,
                                                                                       endReq := some false,
                                                                                       closeM := 4 }] : List Line) },
       memPort := { reads := [.fetch 20] } } }) tiny, (5 + 2 ^ 224 : BitVec 512), 20, [], { tag := 20, fetch := true,
                                                                                            eCore := 9,
                                                                                            endReq := some false,
                                                                                            closeM := 4 }, by decide +kernel⟩,
   ⟨(fun s => { s with
     dev := { (s.dev.wr LEDGER.LIMIT_MAX_TAGS 50) with
       led := { s.dev.led with
         init := false, query := false, ends := [], lines := ([{ tag := 0, st := .open_ }, { tag := 1, st := .open_ },
           { tag := 2, st := .open_ }, { tag := 3, st := .open_ }] : List Line) ++ ([{ tag := 20, fetch := true,
                                                                                       eCore := 9 }] : List Line) },
       memPort := { reads := [.fetch 20] } } }) tiny, 0#512, 20, [], { tag := 20, fetch := true, eCore := 9 }, by
     decide +kernel⟩,
   ⟨(fun s => { s with
     dev := { (s.dev.wr LEDGER.QUERY_TAG 20) with
       led := { s.dev.led with
         init := false, query := true, ends := [], lines := ([{ tag := 0, st := .open_ }, { tag := 1, st := .open_ },
           { tag := 2, st := .open_ }, { tag := 3, st := .open_ }] : List Line) },
       memPort := { reads := [.query 20] } } }) tiny, (5 + 2 ^ 224 : BitVec 512), 20, [], by decide +kernel⟩,
   ⟨(fun s => { s with
     dev := { (s.dev) with led := { s.dev.led with query := true }, memPort := { reads := [.query 20] } } }) tiny, (5
     + 2 ^ 224 : BitVec 512), by decide +kernel⟩,
   ⟨tiny, 5#512, by decide +kernel⟩,
   ⟨(fun s => { s with
     dev := { (s.dev) with
       led := { s.dev.led with init := false, flushing := false }, memPort := { writes := [.slot 20 5 false] } } })
     tiny, .slot 20 5 false, [], by decide +kernel⟩,
   ⟨(fun s => { s with
     dev := { (s.dev) with
       led := { s.dev.led with init := false, flushing := true }, memPort := { writes := [.slot 20 5 true] } } })
     tiny, .slot 20 5 true, by decide +kernel⟩,
   ⟨(fun s => { s with
     dev := { (s.dev) with
       led := { s.dev.led with init := false, flushing := false }, memPort := { writes := [.slot 20 5 false] } } })
     tiny, .slot 20 5 false, [], by decide +kernel⟩,
   ⟨(fun s => { s with
     dev := { (s.dev.wr TOP.MEM_WIN_BASE_VALID 1) with
       led := { s.dev.led with init := true, flushing := false, fillAt := 40 },
       memPort := { writes := .fill 8 :: List.replicate 31 (.fill 9) } } }) tiny, 8, List.replicate 31 (.fill 9), by
     decide +kernel⟩,
   ⟨(fun s => { s with
     dev := { (s.dev) with
       led := { s.dev.led with init := true, flushing := false, fillAt := 524288 },
       memPort := { writes := [.fill 8] } } }) tiny, 8, by decide +kernel⟩,
   ⟨(fun s => { s with dev := { (s.dev) with led := { s.dev.led with init := false }, memPort := {} } }) tiny, by
     decide +kernel⟩,
   ⟨[(16, 3, 1)], 1, by decide +kernel⟩,
   ⟨[], 1, by decide +kernel⟩,
   ⟨((fun (s : State) => { s with dev := { (s.dev) with led := { s.dev.led with eBeat := [some 5, none] } } })
     tiny).dev, by decide +kernel⟩,
   ⟨((fun (s : State) => { s with dev := { (s.dev) with tick := { s.dev.tick with mono := 4 } } }) tiny).dev, by
     decide +kernel⟩⟩

/-- The hypotheses of ExportBatchesAndSignatures are met, clause by clause. -/
theorem test_hyps_ExportBatchesAndSignatures :
    (∃ (s : State) (x : Line) (b : XBatch), s.settled = true ∧ s.dev.exReady = true ∧ s.dev.closedNext = some x
      ∧ s.dev.ex.batch = some b ∧ s.dev.ex.items.length + 1 < s.dev.exCap ∧ s.dev.ex.inLoc .tail < 64
      ∧ s.dev.ex.inLoc .head < 64 ∧ b.n + 1 < s.dev.rd EXPORT.BATCH_MAX
      ∧ (s.dev.ex.items[s.dev.ex.t]?.all (fun i => i.loc == .head)) = true ∧ s.dev.memOpen = false) ∧
    (∃ (s : State) (x : Line) (b : XBatch), s.settled = true ∧ s.dev.exReady = true ∧ s.dev.closedNext = some x
      ∧ s.dev.ex.batch = some b ∧ s.dev.ex.items.length + 1 < s.dev.exCap ∧ s.dev.ex.inLoc .tail < 64
      ∧ s.dev.ex.inLoc .head < 64 ∧ b.n + 1 < s.dev.rd EXPORT.BATCH_MAX
      ∧ (s.dev.ex.items[s.dev.ex.t]?.all (fun i => i.loc == .head)) = true
      ∧ s.dev.memOpen = true ∧ s.dev.memPort.wait = [] ∧ s.dev.memPort.writes.length < 32) ∧
    (∃ (s : State), s.settled = true ∧ (s.dev.exReady = false ∨ s.dev.closedNext = none)) ∧
    (∃ (s : State), s.settled = true) ∧
    (∃ (s : State) (b : XBatch), s.settled = true ∧ s.dev.ex.batch = some b ∧ b.n ≠ 0
      ∧ (s.dev.rd EXPORT.BATCH_MAX ≤ b.n ∨ s.dev.rd EXPORT.BATCH_CLOSE_MS ≤ b.ms)) ∧
    (∃ (s : State), s.settled = true ∧ ((∀ b ∈ s.dev.ex.batch.toList, b.n = 0 ∨ (b.n < s.dev.rd EXPORT.BATCH_MAX
      ∧ b.ms < s.dev.rd EXPORT.BATCH_CLOSE_MS)))) ∧
    (∃ (s : State) (g : XSign) (k : Nat), s.settled = true ∧ s.dev.ex.sign = some g ∧ s.dev.wrd.key = some k
      ∧ s.dev.ex.items.length + 2 < s.dev.exCap ∧ s.dev.ex.inLoc .tail < 63 ∧ s.dev.ex.inLoc .head < 64
      ∧ (s.dev.ex.items[s.dev.ex.t]?.all (fun i => i.loc == .head)) = true) ∧
    (∃ (s : State) (g : XSign) (k : Nat), s.settled = true ∧ s.dev.ex.sign = some g ∧ s.dev.wrd.key = some k
      ∧ s.dev.exCap ≤ s.dev.ex.items.length) ∧
    (∃ (s : State), s.settled = true ∧ (s.dev.ex.sign = none ∨ s.dev.wrd.key = none)) ∧
    (∃ (s : State) (g : XSign), s.settled = true ∧ s.dev.ex.sign = some g ∧ s.dev.rd EXPORT.SIGN_LIMIT ≤ g.ms
      ∧ s.dev.ex.items.length + 2 < s.dev.exCap ∧ s.dev.ex.inLoc .tail < 63 ∧ s.dev.ex.inLoc .head < 64
      ∧ (s.dev.ex.items[s.dev.ex.t]?.all (fun i => i.loc == .head)) = true) ∧
    (∃ (s : State) (g : XSign), s.settled = true ∧ s.dev.ex.sign = some g ∧ s.dev.rd EXPORT.SIGN_LIMIT ≤ g.ms
      ∧ s.dev.exCap ≤ s.dev.ex.items.length) ∧
    (∃ (s : State), s.settled = true ∧ ((∀ g ∈ s.dev.ex.sign.toList, g.ms < s.dev.rd EXPORT.SIGN_LIMIT))) ∧
    (∃ (s : State) (a : Acc) (v : BitVec 32) (b : XBatch), s.settled = true ∧ s.dev.ready 0x1C = true
      ∧ a.privOk = true ∧ bitsAt v.toNat 0 1 = 0 ∧ s.dev.ex.batch = some b ∧ b.n ≠ 0) ∧
    (∃ (s : State) (a : Acc) (v : BitVec 32), s.settled = true ∧ s.dev.ready 0x1C = true ∧ a.privOk = true
      ∧ bitsAt v.toNat 0 1 = 0 ∧ ((∀ b ∈ s.dev.ex.batch.toList, b.n = 0))) ∧
    (∃ (s : State) (a : Acc) (v : BitVec 32), s.settled = true ∧ s.dev.ready 0x1C = true ∧ a.privOk = true
      ∧ bitsAt v.toNat 0 1 = 1) ∧
    (∃ (s : State), s.settled = true ∧ 1 < s.dev.rd EXPORT.BATCH_MAX) :=
  ⟨⟨(fun s => { s with
     dev := { (s.dev.wr EXPORT.CTRL_EN 1 |>.wr EXPORT.BATCH_MAX 100 |>.wr TOP.MEM_WIN_BASE_VALID 0) with
       ex := { s.dev.ex with batch := some ⟨3, 1, 0, [5]⟩, sign := none, sigs := [], items := [], t := 0, m := 0 },
       memPort := {}, tick := { s.dev.tick with mono := 9000 }, led := { s.dev.led with
         init := false, lines := [{ tag := 20, st := .closed, eCore := 5, dirty := true, closeM := 2 }] } } }) tiny, {
     tag := 20, st := .closed, eCore := 5, dirty := true, closeM := 2 }, ⟨3, 1, 0, [5]⟩, by decide +kernel⟩,
   ⟨(fun s => { s with
     dev := { (s.dev.wr EXPORT.CTRL_EN 1 |>.wr EXPORT.BATCH_MAX 100 |>.wr TOP.MEM_WIN_BASE_VALID 1) with
       ex := { s.dev.ex with batch := some ⟨3, 1, 0, [5]⟩, sign := none, sigs := [], items := [], t := 0, m := 0 },
       memPort := {}, tick := { s.dev.tick with mono := 9000 }, led := { s.dev.led with
         init := false, lines := [{ tag := 20, st := .closed, eCore := 5, dirty := true, closeM := 2 }] } } }) tiny, {
     tag := 20, st := .closed, eCore := 5, dirty := true, closeM := 2 }, ⟨3, 1, 0, [5]⟩, by decide +kernel⟩,
   ⟨(fun s => { s with dev := { (s.dev) with ex := { s.dev.ex with sign := some ⟨3, 3, [5], 70000⟩ } } }) tiny, by
     decide +kernel⟩,
   ⟨tiny, by decide +kernel⟩,
   ⟨(fun s => { s with dev := { (s.dev) with ex := { s.dev.ex with batch := some ⟨3, 70000, 0, [5]⟩ } } }) tiny, ⟨3,
     70000, 0, [5]⟩, by decide +kernel⟩,
   ⟨(fun s => { s with dev := { (s.dev) with ex := { s.dev.ex with batch := none } } }) tiny, by decide +kernel⟩,
   ⟨(fun s => { s with
     dev := { (s.dev) with
       ex := { s.dev.ex with sign := some ⟨3, 3, [5], 0⟩, items := [], sigs := [], t := 0, m := 0 },
       wrd := { s.dev.wrd with key := some 77 } } }) tiny, ⟨3, 3, [5], 0⟩, 77, by decide +kernel⟩,
   ⟨(fun s => { s with
     dev := { (s.dev.wr TOP.MEM_WIN_BASE_VALID 0) with
       ex := { s.dev.ex with
         sign := some ⟨3, 3, [5], 0⟩, sigs := [], t := 0, m := 0,
         items := (List.replicate 128 ⟨0, false, 77, .head, false, false⟩) },
       wrd := { s.dev.wrd with key := some 77 } } }) tiny, ⟨3, 3, [5], 0⟩, 77, by decide +kernel⟩,
   ⟨(fun s => { s with dev := { (s.dev) with ex := { s.dev.ex with sign := none } } }) tiny, by decide +kernel⟩,
   ⟨(fun s => { s with
     dev := { (s.dev) with
       ex := { s.dev.ex with sign := some ⟨3, 3, [5], 70000⟩, items := [], sigs := [], t := 0, m := 0 } } }) tiny, ⟨3,
     3, [5], 70000⟩, by decide +kernel⟩,
   ⟨(fun s => { s with
     dev := { (s.dev.wr TOP.MEM_WIN_BASE_VALID 0) with
       ex := { s.dev.ex with
         sign := some ⟨3, 3, [5], 70000⟩, sigs := [], t := 0, m := 0,
         items := (List.replicate 128 ⟨0, false, 77, .head, false, false⟩) } } }) tiny, ⟨3, 3, [5], 70000⟩, by decide +kernel⟩,
   ⟨(fun s => { s with dev := { (s.dev) with ex := { s.dev.ex with sign := none } } }) tiny, by decide +kernel⟩,
   ⟨(fun s => { s with
     dev := { (s.dev.wr EXPORT.CTRL_EN 1) with ex := { s.dev.ex with batch := some ⟨3, 2, 0, [5]⟩ }, wiping := [] } })
     tiny, ⟨.regPort, 5, false, true⟩, 0#32, ⟨3, 2, 0, [5]⟩, by decide +kernel⟩,
   ⟨(fun s => { s with
     dev := { (s.dev.wr EXPORT.CTRL_EN 1) with ex := { s.dev.ex with batch := none }, wiping := [] } }) tiny,
     ⟨.regPort, 5, false, true⟩, 0#32, by decide +kernel⟩,
   ⟨(fun s => { s with dev := { (s.dev) with wiping := [] } }) tiny, ⟨.regPort, 5, false, true⟩, 1#32, by decide +kernel⟩,
   ⟨(fun s => { s with
     dev := { (s.dev.wr EXPORT.BATCH_MAX 100) with
       ex := { s.dev.ex with items := [⟨0, false, 77, .head, false, false⟩] } } }) tiny, by decide +kernel⟩⟩

/-- The hypotheses of ExportReading are met, clause by clause. -/
theorem test_hyps_ExportReading :
    (∃ (s : State) (k : Nat) (l : Bool) (d : Nat), s.settled = true ∧ s.dev.exPresent = some (k, l, d)
      ∧ s.dev.ex.pres = none ∧ (s.dev.ex.items[s.dev.ex.t + 1]?.all (fun i => i.loc == .head)) = true) ∧
    (∃ (s : State) (k : Nat) (l : Bool) (d : Nat), s.settled = true ∧ s.dev.exPresent = some (k, l, d)
      ∧ s.dev.ex.pres ≠ none ∧ (s.dev.ex.items[s.dev.ex.t]?.all (fun i => i.loc == .head)) = true) ∧
    (∃ (s : State) (k : Nat) (l : Bool) (d : Nat), s.settled = true ∧ s.dev.exPresent = some (k, l, d)) ∧
    (∃ (s : State), s.settled = true ∧ s.dev.exPresent = none) ∧
    (∃ (s : State) (a : Acc) (v : BitVec 32), s.settled = true ∧ s.dev.ready 0x1C = true ∧ a.privOk = true
      ∧ bitsAt v.toNat 0 3 = 1) ∧
    (∃ (s : State) (a : Acc) (v : BitVec 32), s.settled = true ∧ s.dev.ready 0x1C = true ∧ a.privOk = true
      ∧ bitsAt v.toNat 0 3 = 2 ∧ s.dev.ex.t ≠ s.dev.ex.m ∧ (s.dev.ex.items[s.dev.ex.m]?.all (fun i => i.loc == .head))
      = true) ∧
    (∃ (s : State) (a : Acc) (v : BitVec 32), s.settled = true ∧ s.dev.ready 0x1C = true ∧ a.privOk = true
      ∧ bitsAt v.toNat 0 3 = 2 ∧ s.dev.ex.t ≠ s.dev.ex.m) ∧
    (∃ (s : State) (a : Acc) (v : BitVec 32), s.settled = true ∧ s.dev.ready 0x1C = true ∧ a.privOk = true
      ∧ bitsAt v.toNat 0 3 = 2 ∧ s.dev.ex.t = s.dev.ex.m) ∧
    (∃ (s : State) (a : Acc) (v : BitVec 32), s.settled = true ∧ s.dev.ready 0x1C = true ∧ a.privOk = true
      ∧ bitsAt v.toNat 0 3 = 4 ∧ s.dev.ex.sigs = [] ∧ s.dev.closedNext = none) ∧
    (∃ (s : State) (a : Acc) (v : BitVec 32), s.settled = true ∧ s.dev.ready 0x1C = true ∧ a.privOk = true
      ∧ bitsAt v.toNat 0 3 = 5 ∧ s.dev.ex.sigs = [] ∧ s.dev.closedNext = none) ∧
    (∃ (s : State) (a : Acc) (v : BitVec 32), s.settled = true ∧ s.dev.ready 0x1C = true ∧ a.privOk = true
      ∧ bitsAt v.toNat 0 3 = 4) ∧
    (∃ (s : State), s.settled = true ∧ s.dev.rd EXPORT.IDLE_TIMEOUT ≤ s.dev.ex.idleMs
      ∧ s.dev.ex.t < s.dev.ex.items.length ∧ s.dev.ex.idle = false ∧ ((∀ b ∈ s.dev.ex.batch.toList, b.n = 0))) ∧
    (∃ (s : State) (b : XBatch), s.settled = true ∧ s.dev.rd EXPORT.IDLE_TIMEOUT ≤ s.dev.ex.idleMs
      ∧ s.dev.ex.t < s.dev.ex.items.length ∧ s.dev.ex.idle = false ∧ s.dev.ex.batch = some b ∧ b.n ≠ 0) ∧
    (∃ (s : State), s.settled = true ∧ (s.dev.ex.idleMs < s.dev.rd EXPORT.IDLE_TIMEOUT
      ∨ s.dev.ex.items.length ≤ s.dev.ex.t ∨ s.dev.ex.idle = true)) :=
  ⟨⟨(fun s => { s with
     dev := { (s.dev) with
       ex := { s.dev.ex with pres := none, t := 0, items := [⟨0, false, 77, .head, false, false⟩] } } }) tiny, 0,
     false, 77, by decide +kernel⟩,
   ⟨(fun s => { s with
     dev := { (s.dev) with ex := { s.dev.ex with pres := some (0, false, 77), t := 0, items := [] } } }) tiny, 0,
     false, 77, by decide +kernel⟩,
   ⟨(fun s => { s with
     dev := { (s.dev) with
       ex := { s.dev.ex with pres := none, t := 0, items := [⟨0, false, 77, .head, false, false⟩] } } }) tiny, 0,
     false, 77, by decide +kernel⟩,
   ⟨(fun s => { s with dev := { (s.dev) with ex := { s.dev.ex with pres := none, t := 0, items := [] } } }) tiny, by
     decide +kernel⟩,
   ⟨(fun s => { s with
     dev := { (s.dev) with
       ex := { s.dev.ex with t := 1, m := 0, items := [⟨0, false, 77, .head, false, false⟩] }, wiping := [] } }) tiny,
     ⟨.regPort, 5, false, true⟩, 1#32, by decide +kernel⟩,
   ⟨(fun s => { s with
     dev := { (s.dev) with
       ex := { s.dev.ex with t := 1, m := 0, items := [⟨0, false, 77, .head, false, false⟩] }, wiping := [] } }) tiny,
     ⟨.regPort, 5, false, true⟩, 2#32, by decide +kernel⟩,
   ⟨(fun s => { s with
     dev := { (s.dev) with
       ex := { s.dev.ex with t := 1, m := 0, items := [⟨0, false, 77, .head, false, false⟩] }, wiping := [] } }) tiny,
     ⟨.regPort, 5, false, true⟩, 2#32, by decide +kernel⟩,
   ⟨(fun s => { s with dev := { (s.dev) with ex := { s.dev.ex with t := 0, m := 0 }, wiping := [] } }) tiny,
     ⟨.regPort, 5, false, true⟩, 2#32, by decide +kernel⟩,
   ⟨(fun s => { s with
     dev := { (s.dev) with
       ex := { s.dev.ex with t := 1, m := 1, sigs := [], items := [⟨0, false, 77, .head, false, false⟩] },
       led := { s.dev.led with lines := [] }, wiping := [] } }) tiny, ⟨.regPort, 5, false, true⟩, 4#32, by decide +kernel⟩,
   ⟨(fun s => { s with
     dev := { (s.dev) with
       ex := { s.dev.ex with t := 1, m := 0, sigs := [], items := [⟨0, false, 77, .head, false, false⟩] },
       led := { s.dev.led with lines := [] }, wiping := [] } }) tiny, ⟨.regPort, 5, false, true⟩, 5#32, by decide +kernel⟩,
   ⟨(fun s => { s with
     dev := { (s.dev) with
       ex := { s.dev.ex with t := 1, m := 1, sigs := [], items := [⟨0, false, 77, .head, false, false⟩] },
       wiping := [] } }) tiny, ⟨.regPort, 5, false, true⟩, 4#32, by decide +kernel⟩,
   ⟨(fun s => { s with
     dev := { (s.dev) with
       ex := { s.dev.ex with
         t := 0, idleMs := 70000, idle := false, batch := none, items := [⟨0, false, 77, .head, false, false⟩] } } })
     tiny, by decide +kernel⟩,
   ⟨(fun s => { s with
     dev := { (s.dev) with
       ex := { s.dev.ex with
         t := 0, idleMs := 70000, idle := false, batch := some ⟨3, 2, 0, [5]⟩,
         items := [⟨0, false, 77, .head, false, false⟩] } } }) tiny, ⟨3, 2, 0, [5]⟩, by decide +kernel⟩,
   ⟨(fun s => { s with dev := { (s.dev) with ex := { s.dev.ex with idle := true } } }) tiny, by decide +kernel⟩⟩

/-- The hypotheses of MailboxMessagesAndDoorbells are met, clause by clause. -/
theorem test_hyps_MailboxMessagesAndDoorbells :
    (∃ (s : State) (m : Nat) (a : Acc) (v : BitVec 32), s.settled = true ∧ m < 6 ∧ s.dev.ready 0x03 = true
      ∧ mbSender m a = true ∧ s.dev.mbFull m = false) ∧
    (∃ (s : State) (m : Nat) (a : Acc) (v : BitVec 32), s.settled = true ∧ m < 6 ∧ s.dev.ready 0x03 = true
      ∧ mbSender m a = true ∧ s.dev.mbFull m = true ∧ s.dev.mbox.ovSent.contains m = false) ∧
    (∃ (s : State) (m : Nat) (a : Acc) (v : BitVec 32), s.settled = true ∧ m < 6 ∧ s.dev.ready 0x03 = true
      ∧ mbSender m a = true ∧ s.dev.mbFull m = true ∧ s.dev.mbox.ovSent.contains m = true) ∧
    (∃ (s : State) (m : Nat) (a : Acc) (v : BitVec 32), s.settled = true ∧ m < 6 ∧ s.dev.ready 0x03 = true
      ∧ mbReceiver m a = true ∧ bitsAt v.toNat 0 1 = 1 ∧ s.dev.sendIdle = true ∧ ((m = 1 → s.dev.wrd.outH = [])
      ∧ (m = 3 → s.dev.stw.out = []) ∧ (m = 5 → s.dev.wrd.outS = []))) ∧
    (∃ (s : State) (m : Nat) (a : Acc) (v : BitVec 32) (x : Msg) (r : List Msg), s.settled = true
      ∧ m = 1 ∧ s.dev.ready 0x03 = true ∧ mbReceiver m a = true ∧ bitsAt v.toNat 0 1 = 1
      ∧ s.dev.wrd.st = .ready ∧ s.dev.wrd.outH = x :: r ∧ s.dev.stw.out = [] ∧ s.dev.wrd.outS = []) ∧
    (∃ (s : State) (m : Nat) (a : Acc) (v : BitVec 32) (x : Msg) (r : List Msg), s.settled = true
      ∧ m = 3 ∧ s.dev.ready 0x03 = true ∧ mbReceiver m a = true ∧ bitsAt v.toNat 0 1 = 1
      ∧ s.dev.stw.st = .run ∧ s.dev.stw.out = x :: r ∧ s.dev.wrd.outH = [] ∧ s.dev.wrd.outS = []) ∧
    (∃ (s : State) (m : Nat) (a : Acc) (v : BitVec 32) (x : Msg) (r : List Msg), s.settled = true
      ∧ m = 5 ∧ s.dev.ready 0x03 = true ∧ mbReceiver m a = true ∧ bitsAt v.toNat 0 1 = 1
      ∧ s.dev.wrd.st = .ready ∧ s.dev.wrd.outS = x :: r ∧ s.dev.wrd.outH = [] ∧ s.dev.stw.out = []) ∧
    (∃ (s : State) (m : Nat) (a : Acc) (v : BitVec 32), s.settled = true ∧ m < 6 ∧ s.dev.ready 0x03 = true
      ∧ mbReceiver m a = true ∧ bitsAt v.toNat 0 1 = 0) ∧
    (∃ (s : State) (m : Nat) (a : Acc) (v : BitVec 32), s.settled = true ∧ m < 6 ∧ s.dev.ready 0x03 = true
      ∧ mbSender m a = true) ∧
    (∃ (s : State) (m : Nat) (a : Acc) (v : BitVec 32), s.settled = true ∧ m < 6 ∧ s.dev.ready 0x03 = true
      ∧ mbReceiver m a = true) ∧
    (∃ (s : State) (m : Nat) (a : Acc) (v : BitVec 32), s.settled = true ∧ m < 6 ∧ s.dev.ready 0x03 = true
      ∧ mbSender m a = false ∧ v ≠ 0#32 ∧ s.dev.missSent = true) ∧
    (∃ (s : State) (m : Nat) (a : Acc) (v : BitVec 32), s.settled = true ∧ m < 6 ∧ s.dev.ready 0x03 = true
      ∧ mbSender m a = false ∧ v ≠ 0#32 ∧ s.dev.missSent = false) ∧
    (∃ (s : State) (m : Nat) (a : Acc) (v : BitVec 32), s.settled = true ∧ m < 6 ∧ s.dev.ready 0x03 = true
      ∧ mbReceiver m a = false ∧ bitsAt v.toNat 0 1 = 1 ∧ s.dev.missSent = true) ∧
    (∃ (s : State) (m : Nat) (a : Acc) (v : BitVec 32), s.settled = true ∧ m < 6 ∧ s.dev.ready 0x03 = true
      ∧ mbReceiver m a = false ∧ bitsAt v.toNat 0 1 = 1 ∧ s.dev.missSent = false) ∧
    (∃ (s : State) (m : Nat) (a : Acc) (v : BitVec 32), s.settled = true ∧ m < 6 ∧ s.dev.ready 0x03 = true
      ∧ mbSender m a = false ∧ bitsAt v.toNat 1 29 ≠ 0 ∧ s.dev.missSent = true) ∧
    (∃ (s : State) (m : Nat) (a : Acc) (v : BitVec 32), s.settled = true ∧ m < 6 ∧ s.dev.ready 0x03 = true
      ∧ mbSender m a = false ∧ bitsAt v.toNat 1 29 ≠ 0 ∧ s.dev.missSent = false) ∧
    (∃ (s : State) (m : Nat) (a : Acc) (v : BitVec 32), s.settled = true ∧ m < 6 ∧ s.dev.ready 0x03 = true
      ∧ mbReceiver m a = false ∧ v ≠ 0#32 ∧ s.dev.missSent = true) ∧
    (∃ (s : State) (m : Nat) (a : Acc) (v : BitVec 32), s.settled = true ∧ m < 6 ∧ s.dev.ready 0x03 = true
      ∧ mbReceiver m a = false ∧ v ≠ 0#32 ∧ s.dev.missSent = false) ∧
    (∃ (s : State) (m : Nat) (a : Acc) (v : BitVec 32), s.settled = true ∧ 6 ≤ m) ∧
    (∃ (s : State) (m : Nat) (a : Acc) (v : BitVec 32), s.settled = true ∧ 6 ≤ m) ∧
    (∃ (s : State) (m : Nat) (a : Acc) (v : BitVec 32), s.settled = true ∧ 6 ≤ m) ∧
    (∃ (s : State) (m : Nat) (a : Acc) (v : BitVec 32), s.settled = true ∧ 6 ≤ m) :=
  ⟨⟨(fun s => { s with dev := { (s.dev.wr MBOX.DB_MASK_MASK 1 0 1) with wiping := [] } }) tiny, 1, accWarden,
     0x01500203#32, by decide +kernel⟩,
   ⟨(fun s => { s with
     dev := { (s.dev.wr MBOX.STAT_FULL 1 0 3) with mbox := { s.dev.mbox with ovSent := [] }, wiping := [] } }) tiny,
     3, accSteward, 0x01500203#32, by decide +kernel⟩,
   ⟨(fun s => { s with
     dev := { (s.dev.wr MBOX.STAT_FULL 1 0 3) with mbox := { s.dev.mbox with ovSent := [3] }, wiping := [] } }) tiny,
     3, accSteward, 0x01500203#32, by decide +kernel⟩,
   ⟨(fun s => { s with dev := { (s.dev.wr MBOX.STAT_FULL 1 0 3) with wiping := [] } }) tiny, 3, ⟨.regPort, 5, false,
     true⟩, 1#32, by decide +kernel⟩,
   ⟨(fun s => { s with
     dev := { (s.dev.wr MBOX.STAT_FULL 1 0 1) with
       wrd := { s.dev.wrd with st := .ready, outH := [⟨0x40000000, [1, 2]⟩] }, wiping := [] } }) tiny, 1, ⟨.regPort,
     5, true, true⟩, 1#32, ⟨0x40000000, [1, 2]⟩, [], by decide +kernel⟩,
   ⟨(fun s => { s with
     dev := { (s.dev.wr MBOX.STAT_FULL 1 0 3) with
       stw := { s.dev.stw with st := .run, out := [⟨0x40000000, [1, 2]⟩] }, wiping := [] } }) tiny, 3, ⟨.regPort, 5,
     false, true⟩, 1#32, ⟨0x40000000, [1, 2]⟩, [], by decide +kernel⟩,
   ⟨(fun s => { s with
     dev := { (s.dev.wr MBOX.STAT_FULL 1 0 5) with
       wrd := { s.dev.wrd with st := .ready, outS := [⟨0x40000000, [1, 2]⟩] }, wiping := [] } }) tiny, 5, accSteward,
     1#32, ⟨0x40000000, [1, 2]⟩, [], by decide +kernel⟩,
   ⟨(fun s => { s with dev := { (s.dev) with wiping := [] } }) tiny, 3, ⟨.regPort, 5, false, true⟩, 2#32, by decide +kernel⟩,
   ⟨(fun s => { s with dev := { (s.dev.wr MBOX.DB_MASK_MASK 16 0 1) with wiping := [] } }) tiny, 1, accWarden,
     0x00000012#32, by decide +kernel⟩,
   ⟨(fun s => { s with dev := { (s.dev.wr MBOX.DB_DB 19 0 5) with wiping := [] } }) tiny, 5, accSteward,
     0x00000012#32, by decide +kernel⟩,
   ⟨(fun s => { s with dev := { (s.dev) with missSent := true, wiping := [] } }) tiny, 3, ⟨.regPort, 5, false, true⟩,
     0x01500203#32, by decide +kernel⟩,
   ⟨(fun s => { s with dev := { (s.dev) with missSent := false, wiping := [] } }) tiny, 3, ⟨.regPort, 5, false, true⟩,
     0x01500203#32, by decide +kernel⟩,
   ⟨(fun s => { s with dev := { (s.dev) with missSent := true, wiping := [] } }) tiny, 3, accSteward, 1#32, by decide +kernel⟩,
   ⟨(fun s => { s with dev := { (s.dev) with missSent := false, wiping := [] } }) tiny, 3, accSteward, 1#32, by decide +kernel⟩,
   ⟨(fun s => { s with dev := { (s.dev) with missSent := true, wiping := [] } }) tiny, 3, ⟨.regPort, 5, false, true⟩,
     2#32, by decide +kernel⟩,
   ⟨(fun s => { s with dev := { (s.dev) with missSent := false, wiping := [] } }) tiny, 3, ⟨.regPort, 5, false, true⟩,
     2#32, by decide +kernel⟩,
   ⟨(fun s => { s with dev := { (s.dev) with missSent := true, wiping := [] } }) tiny, 3, accSteward, 0x12#32, by
     decide +kernel⟩,
   ⟨(fun s => { s with dev := { (s.dev) with missSent := false, wiping := [] } }) tiny, 3, accSteward, 0x12#32, by
     decide +kernel⟩,
   ⟨tiny, 6, accWarden, 1#32, by decide +kernel⟩,
   ⟨tiny, 6, accWarden, 1#32, by decide +kernel⟩,
   ⟨tiny, 6, accWarden, 1#32, by decide +kernel⟩,
   ⟨tiny, 6, accWarden, 1#32, by decide +kernel⟩⟩

/-- The hypotheses of ControlCoresSleepRunAndReset are met, clause by clause. -/
theorem test_hyps_ControlCoresSleepRunAndReset :
    (∃ (s : State) (w : Bool), s.settled = true ∧ w = false ∧ s.dev.stw.st = .run) ∧
    (∃ (s : State) (w : Bool), s.settled = true ∧ w = true ∧ s.dev.wrd.st = .ready) ∧
    (∃ (s : State) (w : Bool), s.settled = true ∧ ((w = false ∧ s.dev.stw.st ≠ .run) ∨ (w = true
      ∧ s.dev.wrd.st ≠ .ready))) ∧
    (∃ (s : State) (w : Bool), s.settled = true ∧ w = false ∧ s.dev.stw.st = .sleep
      ∧ s.dev.stw.wake = true ∧ s.dev.sendIdle = true ∧ (s.dev.stw.out = [] ∨ s.dev.mbFull 3 = true)) ∧
    (∃ (s : State) (w : Bool), s.settled = true ∧ w = true ∧ s.dev.wrd.st = .sleep
      ∧ s.dev.wrd.wake = true ∧ s.dev.sendIdle = true ∧ (s.dev.wrd.outH = [] ∨ s.dev.mbFull 1 = true)
      ∧ (s.dev.wrd.outS = [] ∨ s.dev.mbFull 5 = true)) ∧
    (∃ (s : State) (w : Bool) (x : Msg) (r : List Msg), s.settled = true ∧ w = false
      ∧ s.dev.stw.st = .sleep ∧ s.dev.stw.wake = true ∧ s.dev.stw.out = x :: r ∧ s.dev.mbFull 3 = false
      ∧ s.dev.wrd.outH = [] ∧ s.dev.wrd.outS = []) ∧
    (∃ (s : State) (w : Bool) (x : Msg) (r : List Msg), s.settled = true ∧ w = true
      ∧ s.dev.wrd.st = .sleep ∧ s.dev.wrd.wake = true ∧ s.dev.wrd.outH = x :: r ∧ s.dev.mbFull 1 = false
      ∧ s.dev.stw.out = [] ∧ s.dev.wrd.outS = []) ∧
    (∃ (s : State) (w : Bool) (x : Msg) (r : List Msg), s.settled = true ∧ w = true
      ∧ s.dev.wrd.st = .sleep ∧ s.dev.wrd.wake = true ∧ s.dev.wrd.outS = x :: r ∧ s.dev.mbFull 5 = false
      ∧ s.dev.wrd.outH = [] ∧ s.dev.stw.out = []) ∧
    (∃ (s : State) (w : Bool), s.settled = true ∧ ((w = false ∧ (s.dev.stw.st ≠ .sleep
      ∨ s.dev.stw.wake = false)) ∨ (w = true ∧ (s.dev.wrd.st ≠ .sleep ∨ s.dev.wrd.wake = false)))) ∧
    (∃ (s : State) (a : Acc) (v : BitVec 32), s.settled = true ∧ s.dev.ready 0x04 = true
      ∧ a.path = .regPort ∧ a.privOk = true ∧ v = 0x5E7D#32 ∧ s.dev.wrd.swap = .none
      ∧ s.dev.tune.running = false ∧ s.dev.baro.snap = none) ∧
    (∃ (s : State) (a : Acc) (v : BitVec 32), s.settled = true ∧ s.dev.ready 0x04 = true
      ∧ a.path = .regPort ∧ a.privOk = true ∧ v = 0x5E7D#32) ∧
    (∃ (s : State) (a : Acc) (v : BitVec 32), s.settled = true ∧ s.dev.ready 0x04 = true
      ∧ a.path = .regPort ∧ a.privOk = true ∧ v ≠ 0x5E7D#32) ∧
    (∃ (s : State) (a : Acc) (v : BitVec 32), s.settled = true ∧ s.dev.ready 0x04 = true ∧ a.sec = true
      ∧ v = 0x3A5D#32 ∧ s.dev.wrd.swap = .none ∧ s.dev.ex.sign = none ∧ s.dev.tune.running = false
      ∧ s.dev.baro.snap = none) ∧
    (∃ (s : State) (a : Acc) (v : BitVec 32), s.settled = true ∧ s.dev.ready 0x04 = true ∧ a.sec = true
      ∧ v = 0x3A5D#32) ∧
    (∃ (s : State) (a : Acc) (v : BitVec 32), s.settled = true ∧ s.dev.ready 0x04 = true ∧ a = accSteward) ∧
    (∃ (s : State), s.settled = true ∧ s.dev.rd FW.HB_STAT_MISS = 3 ∧ s.dev.gov.stale = false) ∧
    (∃ (s : State), s.settled = true ∧ (s.dev.rd FW.HB_STAT_MISS ≠ 3 ∨ s.dev.gov.stale = true)) :=
  ⟨⟨(fun s => { s with dev := { (s.dev) with stw := { s.dev.stw with st := .run } } }) tiny, false, by decide +kernel⟩,
   ⟨(fun s => { s with dev := { (s.dev) with wrd := { s.dev.wrd with st := .ready } } }) tiny, true, by decide +kernel⟩,
   ⟨(fun s => { s with dev := { (s.dev) with stw := { s.dev.stw with st := .empty } } }) tiny, false, by decide +kernel⟩,
   ⟨(fun s => { s with dev := { (s.dev) with stw := { s.dev.stw with st := .sleep, wake := true } } }) tiny, false, by
     decide +kernel⟩,
   ⟨(fun s => { s with dev := { (s.dev) with wrd := { s.dev.wrd with st := .sleep, wake := true } } }) tiny, true, by
     decide +kernel⟩,
   ⟨(fun s => { s with
     dev := { (s.dev.wr MBOX.STAT_FULL 0 0 3) with
       stw := { s.dev.stw with st := .sleep, wake := true, out := [⟨0x40000000, [1, 2]⟩] } } }) tiny, false,
     ⟨0x40000000, [1, 2]⟩, [], by decide +kernel⟩,
   ⟨(fun s => { s with
     dev := { (s.dev.wr MBOX.STAT_FULL 0 0 1) with
       wrd := { s.dev.wrd with st := .sleep, wake := true, outH := [⟨0x40000000, [1, 2]⟩] } } }) tiny, true,
     ⟨0x40000000, [1, 2]⟩, [], by decide +kernel⟩,
   ⟨(fun s => { s with
     dev := { (s.dev.wr MBOX.STAT_FULL 0 0 5) with
       wrd := { s.dev.wrd with st := .sleep, wake := true, outS := [⟨0x40000000, [1, 2]⟩] } } }) tiny, true,
     ⟨0x40000000, [1, 2]⟩, [], by decide +kernel⟩,
   ⟨(fun s => { s with dev := { (s.dev) with stw := { s.dev.stw with st := .run } } }) tiny, false, by decide +kernel⟩,
   ⟨(fun s => { s with
     dev := { (s.dev.wr MBOX.STAT_FULL 1 0 2) with
       stw := { s.dev.stw with st := .run, ran := true }, wrd := { s.dev.wrd with swap := .none }, wiping := [] } })
     tiny, ⟨.regPort, 5, false, true⟩, 0x5E7D#32, by decide +kernel⟩,
   ⟨(fun s => { s with
     dev := { (s.dev) with
       stw := { s.dev.stw with st := .run, ran := true }, wrd := { s.dev.wrd with swap := .grace 5 }, wiping := [] }
       }) tiny, ⟨.regPort, 5, false, true⟩, 0x5E7D#32, by decide +kernel⟩,
   ⟨(fun s => { s with dev := { (s.dev) with wiping := [] } }) tiny, ⟨.regPort, 5, false, true⟩, 7#32, by decide +kernel⟩,
   ⟨(fun s => { s with
     dev := { (s.dev) with
       wrd := { s.dev.wrd with st := .ready, swap := .none }, ex := { s.dev.ex with sign := none }, wiping := [] } })
     tiny, ⟨.regPort, 5, true, true⟩, 0x3A5D#32, by decide +kernel⟩,
   ⟨(fun s => { s with
     dev := { (s.dev) with
       wrd := { s.dev.wrd with st := .ready, swap := .check 4 }, ex := { s.dev.ex with sign := some ⟨3, 3, [5], 0⟩ },
       wiping := [] } }) tiny, ⟨.regPort, 5, true, true⟩, 0x3A5D#32, by decide +kernel⟩,
   ⟨(fun s => { s with dev := { (s.dev) with stw := { s.dev.stw with st := .run, hb := false }, wiping := [] } })
     tiny, accSteward, 7#32, by decide +kernel⟩,
   ⟨(fun s => { s with dev := { (s.dev.wr FW.HB_STAT_MISS 3) with gov := { s.dev.gov with stale := false } } }) tiny,
     by decide +kernel⟩,
   ⟨(fun s => { s with dev := { (s.dev) with gov := { s.dev.gov with stale := true } } }) tiny, by decide +kernel⟩⟩

/-- The hypotheses of ImageLoadingAndSwap are met, clause by clause. -/
theorem test_hyps_ImageLoadingAndSwap :
    (∃ (s : State), s.settled = true ∧ s.dev.asks 0 0x10 0 = true ∧ s.swapping = false) ∧
    (∃ (s : State) (n : Nat), s.settled = true ∧ s.dev.asks 0 16 n = true ∧ n ≠ 0) ∧
    (∃ (s : State) (n : Nat), s.settled = true ∧ s.dev.asks 0 18 n = true ∧ n ≠ 0) ∧
    (∃ (s : State) (n : Nat), s.settled = true ∧ s.dev.asks 0 17 n = true ∧ (n = 0 ∨ 1024 < n
      ∨ 63 < msgARG (s.dev.mbWord 0))) ∧
    (∃ (s : State) (n : Nat), s.settled = true ∧ s.dev.asks 0 16 n = true ∧ n = 0 ∧ s.swapping = true) ∧
    (∃ (s : State) (n : Nat), s.settled = true ∧ s.dev.asks 0 17 n = true ∧ 1 ≤ n ∧ n ≤ 1024
      ∧ msgARG (s.dev.mbWord 0) ≤ 63 ∧ s.swapping = true) ∧
    (∃ (s : State) (n : Nat), s.settled = true ∧ s.dev.asks 0 18 n = true ∧ n = 0 ∧ s.swapping = true) ∧
    (∃ (s : State) (n : Nat), s.settled = true ∧ s.dev.asks 0 0x11 n = true ∧ 1 ≤ n ∧ n ≤ 1024
      ∧ msgARG (s.dev.mbWord 0) ≤ 63 ∧ s.swapping = false) ∧
    (∃ (s : State), s.settled = true ∧ s.dev.asks 0 0x12 0 = true ∧ s.swapping = false) ∧
    (∃ (s : State) (g : Nat), s.settled = true ∧ s.dev.wrd.swap = .check g ∧ s.dev.sendIdle = true
      ∧ s.dev.stw.st = .run) ∧
    (∃ (s : State) (g : Nat), s.settled = true ∧ s.dev.stw.st ≠ .run ∧ s.dev.sendIdle = true
      ∧ s.dev.wrd.swap = .check g ∧ s.dev.tune.running = false ∧ s.dev.baro.snap = none) ∧
    (∃ (s : State), s.settled = true ∧ ((∀ g ∈ List.range 16, s.dev.wrd.swap ≠ .check g))
      ∧ s.dev.wrd.swap.staged = false) ∧
    (∃ (s : State) (n : Nat), s.settled = true ∧ s.dev.asks 4 0x24 n = true ∧ ((∀ g ∈ List.range 16, s.dev.wrd.swap ≠
      .grace g)) ∧ (s.dev.wrd.swap = .none ∨ s.dev.wrd.swap.staged = false)) ∧
    (∃ (s : State), s.settled = true ∧ s.dev.wrd.swap = .none) ∧
    (∃ (s : State) (g : Nat) (n : Nat), s.settled = true ∧ s.dev.asks 4 0x24 n = true ∧ n ≤ 1024
      ∧ s.dev.wrd.swap = .grace g ∧ s.dev.tune.running = false ∧ s.dev.baro.snap = none) ∧
    (∃ (s : State) (g : Nat), s.settled = true ∧ s.dev.wrd.swap = .grace g
      ∧ s.dev.tune.running = false ∧ s.dev.baro.snap = none) ∧
    (∃ (s : State), s.settled = true ∧ (s.dev.coreUp 0 = false ∨ s.dev.mbFull 0 = false)) ∧
    (∃ (s : State), s.settled = true ∧ s.dev.coreUp 0 = true ∧ s.dev.mbFull 0 = true
      ∧ (catalogue 0).contains (msgOP (s.dev.mbWord 0)) = false ∧ msgOP (s.dev.mbWord 0) < 0x80
      ∧ s.dev.sendIdle = true) ∧
    (∃ (s : State), s.settled = true ∧ s.dev.coreUp 0 = true ∧ s.dev.mbFull 0 = true ∧ 0x80 ≤ msgOP (s.dev.mbWord 0)
      ∧ s.dev.sendIdle = true) ∧
    (∃ (s : State), s.settled = true ∧ (s.dev.coreUp 4 = false ∨ s.dev.mbFull 4 = false)) ∧
    (∃ (s : State), s.settled = true ∧ s.dev.coreUp 4 = true ∧ s.dev.mbFull 4 = true
      ∧ (catalogue 4).contains (msgOP (s.dev.mbWord 4)) = false ∧ msgOP (s.dev.mbWord 4) < 0x80
      ∧ s.dev.sendIdle = true) ∧
    (∃ (s : State), s.settled = true ∧ s.dev.coreUp 4 = true ∧ s.dev.mbFull 4 = true ∧ 0x80 ≤ msgOP (s.dev.mbWord 4)
      ∧ s.dev.sendIdle = true) :=
  ⟨⟨(fun s => { s with
     dev := { (s.dev.wr MBOX.STAT_FULL 1 0 0 |>.wr MBOX.DATA_WORD (16 * 2 ^ 24 + 5 * 2 ^ 20 + 0 * 2 ^ 9 + 0) 0 0 |>.wr
       MBOX.STAT_FULL 0 0 1 |>.wr FW.STW_LOAD_SHED 0) with
       stw := { s.dev.stw with st := .run, out := [] , chunks := [3] },
       wrd := { s.dev.wrd with st := .ready, outH := [], outS := [] , swap := .none } } }) tiny, by decide +kernel⟩,
   ⟨(fun s => { s with
     dev := { (s.dev.wr MBOX.STAT_FULL 1 0 0 |>.wr MBOX.DATA_WORD (16 * 2 ^ 24 + 5 * 2 ^ 20 + 1 * 2 ^ 9 + 0) 0 0 |>.wr
       MBOX.STAT_FULL 0 0 1 |>.wr FW.STW_LOAD_SHED 0) with
       stw := { s.dev.stw with st := .run, out := []  },
       wrd := { s.dev.wrd with st := .ready, outH := [], outS := []  } } }) tiny, 1, by decide +kernel⟩,
   ⟨(fun s => { s with
     dev := { (s.dev.wr MBOX.STAT_FULL 1 0 0 |>.wr MBOX.DATA_WORD (18 * 2 ^ 24 + 5 * 2 ^ 20 + 1 * 2 ^ 9 + 0) 0 0 |>.wr
       MBOX.STAT_FULL 0 0 1 |>.wr FW.STW_LOAD_SHED 0) with
       stw := { s.dev.stw with st := .run, out := []  },
       wrd := { s.dev.wrd with st := .ready, outH := [], outS := []  } } }) tiny, 1, by decide +kernel⟩,
   ⟨(fun s => { s with
     dev := { (s.dev.wr MBOX.STAT_FULL 1 0 0 |>.wr MBOX.DATA_WORD (17 * 2 ^ 24 + 5 * 2 ^ 20 + 0 * 2 ^ 9 + 0) 0 0 |>.wr
       MBOX.STAT_FULL 0 0 1 |>.wr FW.STW_LOAD_SHED 0) with
       stw := { s.dev.stw with st := .run, out := []  },
       wrd := { s.dev.wrd with st := .ready, outH := [], outS := []  } } }) tiny, 0, by decide +kernel⟩,
   ⟨(fun s => { s with
     dev := { (s.dev.wr MBOX.STAT_FULL 1 0 0 |>.wr MBOX.DATA_WORD (16 * 2 ^ 24 + 5 * 2 ^ 20 + 0 * 2 ^ 9 + 0) 0 0 |>.wr
       MBOX.STAT_FULL 0 0 1 |>.wr FW.STW_LOAD_SHED 0) with
       stw := { s.dev.stw with st := .run, out := []  },
       wrd := { s.dev.wrd with st := .ready, outH := [], outS := [] , swap := .check 3 } } }) tiny, 0, by decide +kernel⟩,
   ⟨(fun s => { s with
     dev := { (s.dev.wr MBOX.STAT_FULL 1 0 0 |>.wr MBOX.DATA_WORD (17 * 2 ^ 24 + 5 * 2 ^ 20 + 1 * 2 ^ 9 + 2) 0 0 |>.wr
       MBOX.STAT_FULL 0 0 1 |>.wr FW.STW_LOAD_SHED 0) with
       stw := { s.dev.stw with st := .run, out := []  },
       wrd := { s.dev.wrd with st := .ready, outH := [], outS := [] , swap := .check 3 } } }) tiny, 1, by decide +kernel⟩,
   ⟨(fun s => { s with
     dev := { (s.dev.wr MBOX.STAT_FULL 1 0 0 |>.wr MBOX.DATA_WORD (18 * 2 ^ 24 + 5 * 2 ^ 20 + 0 * 2 ^ 9 + 0) 0 0 |>.wr
       MBOX.STAT_FULL 0 0 1 |>.wr FW.STW_LOAD_SHED 0) with
       stw := { s.dev.stw with st := .run, out := []  },
       wrd := { s.dev.wrd with st := .ready, outH := [], outS := [] , swap := .check 3 } } }) tiny, 0, by decide +kernel⟩,
   ⟨(fun s => { s with
     dev := { (s.dev.wr MBOX.STAT_FULL 1 0 0 |>.wr MBOX.DATA_WORD (17 * 2 ^ 24 + 5 * 2 ^ 20 + 1 * 2 ^ 9 + 2) 0 0 |>.wr
       MBOX.STAT_FULL 0 0 1 |>.wr FW.STW_LOAD_SHED 0) with
       stw := { s.dev.stw with st := .run, out := [] , chunks := [3] },
       wrd := { s.dev.wrd with st := .ready, outH := [], outS := [] , swap := .none },
       mbox := { s.dev.mbox with buf := Mem.writeBytes [] 0 [1, 2, 3, 4] } } }) tiny, 1, by decide +kernel⟩,
   ⟨(fun s => { s with
     dev := { (s.dev.wr MBOX.STAT_FULL 1 0 0 |>.wr MBOX.DATA_WORD (18 * 2 ^ 24 + 5 * 2 ^ 20 + 0 * 2 ^ 9 + 0) 0 0 |>.wr
       MBOX.STAT_FULL 0 0 1 |>.wr FW.STW_LOAD_SHED 0) with
       stw := { s.dev.stw with st := .run, out := []  },
       wrd := { s.dev.wrd with st := .ready, outH := [], outS := [] , swap := .none } } }) tiny, by decide +kernel⟩,
   ⟨(fun s => { s with
     dev := { (s.dev.wr MBOX.STAT_FULL 0 0 1) with
       stw := { s.dev.stw with st := .run, out := [] , staging := [] },
       wrd := { s.dev.wrd with st := .ready, outH := [], outS := [] , swap := .check 5 } } }) tiny, 5, by decide +kernel⟩,
   ⟨(fun s => { s with
     dev := { (s.dev) with
       stw := { s.dev.stw with st := .empty, staging := [], out := [] },
       wrd := { s.dev.wrd with swap := .check 5, st := .ready, outH := [], outS := [] } } }) tiny, 5, by decide +kernel⟩,
   ⟨(fun s => { s with dev := { (s.dev) with wrd := { s.dev.wrd with swap := .none } } }) tiny, by decide +kernel⟩,
   ⟨(fun s => { s with
     dev := { (s.dev.wr MBOX.STAT_FULL 1 0 4 |>.wr MBOX.DATA_WORD (36 * 2 ^ 24 + 5 * 2 ^ 20 + 0 * 2 ^ 9 + 0) 0 4 |>.wr
       MBOX.STAT_FULL 0 0 5 |>.wr FW.STW_LOAD_SHED 0) with
       stw := { s.dev.stw with st := .run, out := []  },
       wrd := { s.dev.wrd with st := .ready, outH := [], outS := [] , swap := .none } } }) tiny, 0, by decide +kernel⟩,
   ⟨(fun s => { s with
     dev := { (s.dev) with
       stw := { s.dev.stw with st := .run, out := []  },
       wrd := { s.dev.wrd with st := .ready, outH := [], outS := [] , swap := .none } } }) tiny, by decide +kernel⟩,
   ⟨(fun s => { s with
     dev := { (s.dev.wr MBOX.STAT_FULL 1 0 4 |>.wr MBOX.DATA_WORD (36 * 2 ^ 24 + 5 * 2 ^ 20 + 0 * 2 ^ 9 + 0) 0 4 |>.wr
       MBOX.STAT_FULL 0 0 5 |>.wr FW.STW_LOAD_SHED 0) with
       stw := { s.dev.stw with st := .run, out := [] , staging := [], ran := true },
       wrd := { s.dev.wrd with st := .ready, outH := [], outS := [] , swap := .grace 5 } } }) tiny, 5, 0, by decide +kernel⟩,
   ⟨(fun s => { s with
     dev := { (s.dev.wr MBOX.STAT_FULL 1 0 4 |>.wr MBOX.DATA_WORD (36 * 2 ^ 24 + 5 * 2 ^ 20 + 0 * 2 ^ 9 + 0) 0 4 |>.wr
       MBOX.STAT_FULL 0 0 5 |>.wr FW.STW_LOAD_SHED 0) with
       stw := { s.dev.stw with st := .run, out := [] , staging := [], ran := true },
       wrd := { s.dev.wrd with st := .ready, outH := [], outS := [] , swap := .grace 5 } } }) tiny, 5, by decide +kernel⟩,
   ⟨(fun s => { s with dev := (s.dev.wr MBOX.STAT_FULL 0 0 0) }) tiny, by decide +kernel⟩,
   ⟨(fun s => { s with
     dev := { (s.dev.wr MBOX.STAT_FULL 1 0 0 |>.wr MBOX.DATA_WORD (119 * 2 ^ 24 + 5 * 2 ^ 20 + 0 * 2 ^ 9 + 0) 0 0
       |>.wr MBOX.STAT_FULL 0 0 1 |>.wr FW.STW_LOAD_SHED 0) with
       stw := { s.dev.stw with st := .run, out := []  },
       wrd := { s.dev.wrd with st := .ready, outH := [], outS := []  } } }) tiny, by decide +kernel⟩,
   ⟨(fun s => { s with
     dev := { (s.dev.wr MBOX.STAT_FULL 1 0 0 |>.wr MBOX.DATA_WORD (128 * 2 ^ 24 + 5 * 2 ^ 20 + 0 * 2 ^ 9 + 0) 0 0
       |>.wr MBOX.STAT_FULL 0 0 1 |>.wr FW.STW_LOAD_SHED 0) with
       stw := { s.dev.stw with st := .run, out := []  },
       wrd := { s.dev.wrd with st := .ready, outH := [], outS := []  } } }) tiny, by decide +kernel⟩,
   ⟨(fun s => { s with dev := (s.dev.wr MBOX.STAT_FULL 0 0 4) }) tiny, by decide +kernel⟩,
   ⟨(fun s => { s with
     dev := { (s.dev.wr MBOX.STAT_FULL 1 0 4 |>.wr MBOX.DATA_WORD (119 * 2 ^ 24 + 5 * 2 ^ 20 + 0 * 2 ^ 9 + 0) 0 4
       |>.wr MBOX.STAT_FULL 0 0 5 |>.wr FW.STW_LOAD_SHED 0) with
       stw := { s.dev.stw with st := .run, out := []  },
       wrd := { s.dev.wrd with st := .ready, outH := [], outS := []  } } }) tiny, by decide +kernel⟩,
   ⟨(fun s => { s with
     dev := { (s.dev.wr MBOX.STAT_FULL 1 0 4 |>.wr MBOX.DATA_WORD (128 * 2 ^ 24 + 5 * 2 ^ 20 + 0 * 2 ^ 9 + 0) 0 4
       |>.wr MBOX.STAT_FULL 0 0 5 |>.wr FW.STW_LOAD_SHED 0) with
       stw := { s.dev.stw with st := .run, out := []  },
       wrd := { s.dev.wrd with st := .ready, outH := [], outS := []  } } }) tiny, by decide +kernel⟩⟩

/-- The hypotheses of StewardAnswersRequests are met, clause by clause. -/
theorem test_hyps_StewardAnswersRequests :
    (∃ (s : State), s.settled = true ∧ s.dev.asks 2 1 2 = true ∧ s.dev.stw.grant = none ∧ s.dev.ready 0x1A = true
      ∧ (s.dev.mbPayload 2 0 / 2 ^ 16) ≠ 0 ∧ ((s.dev.mbPayload 2 0 % 2 ^ 16) ≤ s.dev.rd BUDGET.HARD_GRANT_HARD_GRANT
      ∨ s.dev.rd BUDGET.HARD_GRANT_HARD_GRANT < s.dev.rd BUDGET.GRANT0_WATTS)) ∧
    (∃ (s : State), s.settled = true ∧ s.dev.asks 2 1 2 = true ∧ s.dev.stw.grant = none ∧ s.dev.ready 0x1A = true
      ∧ (s.dev.mbPayload 2 0 / 2 ^ 16) = 0 ∧ s.dev.rd BUDGET.GRANT0_VALID_MS ≠ 0 ∧ ((s.dev.mbPayload 2 0 % 2 ^ 16) ≤
      s.dev.rd BUDGET.HARD_GRANT_HARD_GRANT ∨ s.dev.rd BUDGET.HARD_GRANT_HARD_GRANT < s.dev.rd BUDGET.GRANT0_WATTS)) ∧
    (∃ (s : State), s.settled = true ∧ s.dev.asks 2 1 2 = true ∧ s.dev.stw.grant = none ∧ s.dev.ready 0x1A = true
      ∧ (s.dev.mbPayload 2 0 / 2 ^ 16) = 0 ∧ s.dev.rd BUDGET.GRANT0_VALID_MS = 0 ∧ ((s.dev.mbPayload 2 0 % 2 ^ 16) ≤
      s.dev.rd BUDGET.HARD_GRANT_HARD_GRANT ∨ s.dev.rd BUDGET.HARD_GRANT_HARD_GRANT < s.dev.rd BUDGET.GRANT0_WATTS)) ∧
    (∃ (s : State), s.settled = true ∧ s.dev.asks 2 1 2 = true ∧ s.dev.stw.grant = none ∧ s.dev.ready 0x1A = true
      ∧ (s.dev.mbPayload 2 0 / 2 ^ 16) ≠ 0 ∧ s.dev.rd BUDGET.HARD_GRANT_HARD_GRANT < (s.dev.mbPayload 2 0 % 2 ^ 16)
      ∧ s.dev.rd BUDGET.GRANT0_WATTS ≤ s.dev.rd BUDGET.HARD_GRANT_HARD_GRANT) ∧
    (∃ (s : State), s.settled = true ∧ msgOP (s.dev.mbWord 2) = 1 ∧ s.dev.stw.grant.isSome = true) ∧
    (∃ (s : State) (n : Nat), s.settled = true ∧ s.dev.asks 2 1 n = true ∧ n ≠ 2 ∧ s.dev.stw.grant = none) ∧
    (∃ (s : State) (n : Nat), s.settled = true ∧ s.dev.asks 2 2 n = true ∧ n ≠ 1) ∧
    (∃ (s : State) (n : Nat), s.settled = true ∧ s.dev.asks 2 3 n = true ∧ (n ≠ 1 ∨ 4 < bitsAt (s.dev.mbPayload 2 0)
      16 8)) ∧
    (∃ (s : State) (n : Nat), s.settled = true ∧ s.dev.asks 2 6 n = true ∧ n ≠ 0) ∧
    (∃ (s : State), s.settled = true ∧ s.dev.stw.st = .run ∧ s.dev.mbFull 2 = true ∧ msgOP (s.dev.mbWord 2) = 2
      ∧ msgLEN (s.dev.mbWord 2) ≤ 1024 ∧ s.dev.sendIdle = true ∧ s.dev.rd FW.STW_LOAD_SHED = 2) ∧
    (∃ (s : State), s.settled = true ∧ s.dev.stw.st = .run ∧ s.dev.mbFull 2 = true ∧ msgOP (s.dev.mbWord 2) = 3
      ∧ msgLEN (s.dev.mbWord 2) ≤ 1024 ∧ s.dev.sendIdle = true ∧ s.dev.rd FW.STW_LOAD_SHED = 2) ∧
    (∃ (s : State), s.settled = true ∧ s.dev.stw.st = .run ∧ s.dev.mbFull 2 = true ∧ msgOP (s.dev.mbWord 2) = 6
      ∧ msgLEN (s.dev.mbWord 2) ≤ 1024 ∧ s.dev.sendIdle = true ∧ s.dev.rd FW.STW_LOAD_SHED = 2) ∧
    (∃ (s : State), s.settled = true ∧ s.dev.asks 2 2 1 = true ∧ s.dev.ready 0x11 = true
      ∧ (bitsAt (s.dev.mbPayload 2 0) 16 6 ≤ s.dev.rd GOV.HARD_PL1_HARD_LEVEL
      ∨ s.dev.rd GOV.HARD_PL1_HARD_LEVEL < s.dev.rd GOV.CTRL_LEVEL_MAX)) ∧
    (∃ (s : State), s.settled = true ∧ s.dev.asks 2 2 1 = true ∧ s.dev.ready 0x11 = true
      ∧ s.dev.rd GOV.HARD_PL1_HARD_LEVEL < bitsAt (s.dev.mbPayload 2 0) 16 6
      ∧ s.dev.rd GOV.CTRL_LEVEL_MAX ≤ s.dev.rd GOV.HARD_PL1_HARD_LEVEL) ∧
    (∃ (s : State), s.settled = true ∧ s.dev.asks 2 3 1 = true ∧ bitsAt (s.dev.mbPayload 2 0) 16 8 ≤ 4) ∧
    (∃ (s : State), s.settled = true ∧ s.dev.asks 2 6 0 = true) ∧
    (∃ (s : State) (n : Nat), s.settled = true ∧ s.dev.asks 2 5 n = true ∧ n ≤ 1024) ∧
    (∃ (s : State) (n : Nat), s.settled = true ∧ s.dev.asks 2 5 n = true ∧ 1024 < n) ∧
    (∃ (s : State) (k : Nat), s.settled = true ∧ s.dev.stw.st = .run ∧ s.dev.sendIdle = true
      ∧ s.dev.mbFull 3 = false ∧ k ≤ 4 ∧ s.dev.stw.periods.getD k 0 ≠ 0 ∧ s.dev.noticeSlow = false
      ∧ ((∀ a ∈ (s.dev.telemetryRegs k).filterMap id, s.dev.ready (a / 1024) = true))) ∧
    (∃ (s : State) (k : Nat), s.settled = true ∧ (s.dev.stw.st ≠ .run ∨ s.dev.stw.periods.getD k 0 = 0
      ∨ s.dev.mbFull 3 = true ∨ s.dev.noticeSlow = true)) ∧
    (∃ (s : State), s.settled = true ∧ s.dev.stw.st = .run ∧ s.dev.sendIdle = true
      ∧ s.dev.stw.askDue = true ∧ s.dev.ready 0x1A = true) ∧
    (∃ (s : State), s.settled = true ∧ (s.dev.stw.st ≠ .run ∨ s.dev.stw.askDue = false)) ∧
    (∃ (s : State), s.settled = true ∧ (s.dev.coreUp 2 = false ∨ s.dev.mbFull 2 = false)) ∧
    (∃ (s : State), s.settled = true ∧ s.dev.coreUp 2 = true ∧ s.dev.mbFull 2 = true
      ∧ (catalogue 2).contains (msgOP (s.dev.mbWord 2)) = false ∧ msgOP (s.dev.mbWord 2) < 0x80
      ∧ s.dev.sendIdle = true) ∧
    (∃ (s : State), s.settled = true ∧ s.dev.coreUp 2 = true ∧ s.dev.mbFull 2 = true ∧ 0x80 ≤ msgOP (s.dev.mbWord 2)
      ∧ s.dev.sendIdle = true) :=
  ⟨⟨(fun s => { s with
     dev := { (s.dev.wr MBOX.STAT_FULL 1 0 2 |>.wr MBOX.DATA_WORD (1 * 2 ^ 24 + 5 * 2 ^ 20 + 2 * 2 ^ 9 + 0) 0 2 |>.wr
       MBOX.STAT_FULL 0 0 3 |>.wr FW.STW_LOAD_SHED 0) with
       stw := { s.dev.stw with st := .run, out := [] , grant := none },
       wrd := { s.dev.wrd with st := .ready, outH := [], outS := []  }, wiping := [],
       mbox := { s.dev.mbox with buf := Mem.writeBytes [] 8192 [1, 2, 3, 4, 5, 6, 7, 8] } } }) tiny, by decide +kernel⟩,
   ⟨(fun s => { s with
     dev := { (s.dev.wr MBOX.STAT_FULL 1 0 2 |>.wr MBOX.DATA_WORD (1 * 2 ^ 24 + 5 * 2 ^ 20 + 2 * 2 ^ 9 + 0) 0 2 |>.wr
       MBOX.STAT_FULL 0 0 3 |>.wr FW.STW_LOAD_SHED 0 |>.wr BUDGET.GRANT0_VALID_MS 9) with
       stw := { s.dev.stw with st := .run, out := [] , grant := none },
       wrd := { s.dev.wrd with st := .ready, outH := [], outS := []  }, wiping := [],
       mbox := { s.dev.mbox with buf := Mem.writeBytes [] 8192 [1, 2, 0, 0, 5, 6, 7, 8] } } }) tiny, by decide +kernel⟩,
   ⟨(fun s => { s with
     dev := { (s.dev.wr MBOX.STAT_FULL 1 0 2 |>.wr MBOX.DATA_WORD (1 * 2 ^ 24 + 5 * 2 ^ 20 + 2 * 2 ^ 9 + 0) 0 2 |>.wr
       MBOX.STAT_FULL 0 0 3 |>.wr FW.STW_LOAD_SHED 0 |>.wr BUDGET.GRANT0_VALID_MS 0) with
       stw := { s.dev.stw with st := .run, out := [] , grant := none },
       wrd := { s.dev.wrd with st := .ready, outH := [], outS := []  }, wiping := [],
       mbox := { s.dev.mbox with buf := Mem.writeBytes [] 8192 [1, 2, 0, 0, 5, 6, 7, 8] } } }) tiny, by decide +kernel⟩,
   ⟨(fun s => { s with
     dev := { (s.dev.wr MBOX.STAT_FULL 1 0 2 |>.wr MBOX.DATA_WORD (1 * 2 ^ 24 + 5 * 2 ^ 20 + 2 * 2 ^ 9 + 0) 0 2 |>.wr
       MBOX.STAT_FULL 0 0 3 |>.wr FW.STW_LOAD_SHED 0 |>.wr BUDGET.HARD_GRANT_HARD_GRANT 9 |>.wr BUDGET.GRANT0_WATTS 3)
       with
       stw := { s.dev.stw with st := .run, out := [] , grant := none },
       wrd := { s.dev.wrd with st := .ready, outH := [], outS := []  }, wiping := [],
       mbox := { s.dev.mbox with buf := Mem.writeBytes [] 8192 [1, 2, 3, 4, 5, 6, 7, 8] } } }) tiny, by decide +kernel⟩,
   ⟨(fun s => { s with
     dev := { (s.dev.wr MBOX.STAT_FULL 1 0 2 |>.wr MBOX.DATA_WORD (1 * 2 ^ 24 + 5 * 2 ^ 20 + 2 * 2 ^ 9 + 0) 0 2 |>.wr
       MBOX.STAT_FULL 0 0 3 |>.wr FW.STW_LOAD_SHED 0) with
       stw := { s.dev.stw with st := .run, out := [] , grant := some 3 },
       wrd := { s.dev.wrd with st := .ready, outH := [], outS := []  } } }) tiny, by decide +kernel⟩,
   ⟨(fun s => { s with
     dev := { (s.dev.wr MBOX.STAT_FULL 1 0 2 |>.wr MBOX.DATA_WORD (1 * 2 ^ 24 + 5 * 2 ^ 20 + 0 * 2 ^ 9 + 0) 0 2 |>.wr
       MBOX.STAT_FULL 0 0 3 |>.wr FW.STW_LOAD_SHED 0) with
       stw := { s.dev.stw with st := .run, out := [] , grant := none },
       wrd := { s.dev.wrd with st := .ready, outH := [], outS := []  } } }) tiny, 0, by decide +kernel⟩,
   ⟨(fun s => { s with
     dev := { (s.dev.wr MBOX.STAT_FULL 1 0 2 |>.wr MBOX.DATA_WORD (2 * 2 ^ 24 + 5 * 2 ^ 20 + 0 * 2 ^ 9 + 0) 0 2 |>.wr
       MBOX.STAT_FULL 0 0 3 |>.wr FW.STW_LOAD_SHED 0) with
       stw := { s.dev.stw with st := .run, out := []  },
       wrd := { s.dev.wrd with st := .ready, outH := [], outS := []  } } }) tiny, 0, by decide +kernel⟩,
   ⟨(fun s => { s with
     dev := { (s.dev.wr MBOX.STAT_FULL 1 0 2 |>.wr MBOX.DATA_WORD (3 * 2 ^ 24 + 5 * 2 ^ 20 + 0 * 2 ^ 9 + 0) 0 2 |>.wr
       MBOX.STAT_FULL 0 0 3 |>.wr FW.STW_LOAD_SHED 0) with
       stw := { s.dev.stw with st := .run, out := []  },
       wrd := { s.dev.wrd with st := .ready, outH := [], outS := []  } } }) tiny, 0, by decide +kernel⟩,
   ⟨(fun s => { s with
     dev := { (s.dev.wr MBOX.STAT_FULL 1 0 2 |>.wr MBOX.DATA_WORD (6 * 2 ^ 24 + 5 * 2 ^ 20 + 1 * 2 ^ 9 + 0) 0 2 |>.wr
       MBOX.STAT_FULL 0 0 3 |>.wr FW.STW_LOAD_SHED 0) with
       stw := { s.dev.stw with st := .run, out := []  },
       wrd := { s.dev.wrd with st := .ready, outH := [], outS := []  } } }) tiny, 1, by decide +kernel⟩,
   ⟨(fun s => { s with
     dev := { (s.dev.wr MBOX.STAT_FULL 1 0 2 |>.wr MBOX.DATA_WORD (2 * 2 ^ 24 + 5 * 2 ^ 20 + 0 * 2 ^ 9 + 0) 0 2 |>.wr
       MBOX.STAT_FULL 0 0 3 |>.wr FW.STW_LOAD_SHED 0 |>.wr FW.STW_LOAD_SHED 2) with
       stw := { s.dev.stw with st := .run, out := []  },
       wrd := { s.dev.wrd with st := .ready, outH := [], outS := []  } } }) tiny, by decide +kernel⟩,
   ⟨(fun s => { s with
     dev := { (s.dev.wr MBOX.STAT_FULL 1 0 2 |>.wr MBOX.DATA_WORD (3 * 2 ^ 24 + 5 * 2 ^ 20 + 0 * 2 ^ 9 + 0) 0 2 |>.wr
       MBOX.STAT_FULL 0 0 3 |>.wr FW.STW_LOAD_SHED 0 |>.wr FW.STW_LOAD_SHED 2) with
       stw := { s.dev.stw with st := .run, out := []  },
       wrd := { s.dev.wrd with st := .ready, outH := [], outS := []  } } }) tiny, by decide +kernel⟩,
   ⟨(fun s => { s with
     dev := { (s.dev.wr MBOX.STAT_FULL 1 0 2 |>.wr MBOX.DATA_WORD (6 * 2 ^ 24 + 5 * 2 ^ 20 + 0 * 2 ^ 9 + 0) 0 2 |>.wr
       MBOX.STAT_FULL 0 0 3 |>.wr FW.STW_LOAD_SHED 0 |>.wr FW.STW_LOAD_SHED 2) with
       stw := { s.dev.stw with st := .run, out := []  },
       wrd := { s.dev.wrd with st := .ready, outH := [], outS := []  } } }) tiny, by decide +kernel⟩,
   ⟨(fun s => { s with
     dev := { (s.dev.wr MBOX.STAT_FULL 1 0 2 |>.wr MBOX.DATA_WORD (2 * 2 ^ 24 + 5 * 2 ^ 20 + 1 * 2 ^ 9 + 0) 0 2 |>.wr
       MBOX.STAT_FULL 0 0 3 |>.wr FW.STW_LOAD_SHED 0 |>.wr GOV.HARD_PL1_HARD_LEVEL 63 |>.wr GOV.CTRL_LEVEL_MAX 20)
       with
       stw := { s.dev.stw with st := .run, out := []  },
       wrd := { s.dev.wrd with st := .ready, outH := [], outS := []  }, wiping := [],
       mbox := { s.dev.mbox with buf := Mem.writeBytes [] 8192 [0, 0, 20, 2] } } }) tiny, by decide +kernel⟩,
   ⟨(fun s => { s with
     dev := { (s.dev.wr MBOX.STAT_FULL 1 0 2 |>.wr MBOX.DATA_WORD (2 * 2 ^ 24 + 5 * 2 ^ 20 + 1 * 2 ^ 9 + 0) 0 2 |>.wr
       MBOX.STAT_FULL 0 0 3 |>.wr FW.STW_LOAD_SHED 0 |>.wr GOV.HARD_PL1_HARD_LEVEL 10 |>.wr GOV.CTRL_LEVEL_MAX 4) with
       stw := { s.dev.stw with st := .run, out := []  },
       wrd := { s.dev.wrd with st := .ready, outH := [], outS := []  }, wiping := [],
       mbox := { s.dev.mbox with buf := Mem.writeBytes [] 8192 [0, 0, 20, 2] } } }) tiny, by decide +kernel⟩,
   ⟨(fun s => { s with
     dev := { (s.dev.wr MBOX.STAT_FULL 1 0 2 |>.wr MBOX.DATA_WORD (3 * 2 ^ 24 + 5 * 2 ^ 20 + 1 * 2 ^ 9 + 0) 0 2 |>.wr
       MBOX.STAT_FULL 0 0 3 |>.wr FW.STW_LOAD_SHED 0) with
       stw := { s.dev.stw with st := .run, out := []  },
       wrd := { s.dev.wrd with st := .ready, outH := [], outS := []  },
       mbox := { s.dev.mbox with buf := Mem.writeBytes [] 8192 [5, 1, 4, 0] } } }) tiny, by decide +kernel⟩,
   ⟨(fun s => { s with
     dev := { (s.dev.wr MBOX.STAT_FULL 1 0 2 |>.wr MBOX.DATA_WORD (6 * 2 ^ 24 + 5 * 2 ^ 20 + 0 * 2 ^ 9 + 0) 0 2 |>.wr
       MBOX.STAT_FULL 0 0 3 |>.wr FW.STW_LOAD_SHED 0 |>.wr FW.STW_VERSION_VERSION 77) with
       stw := { s.dev.stw with st := .run, out := []  },
       wrd := { s.dev.wrd with st := .ready, outH := [], outS := []  } } }) tiny, by decide +kernel⟩,
   ⟨(fun s => { s with
     dev := { (s.dev.wr MBOX.STAT_FULL 1 0 2 |>.wr MBOX.DATA_WORD (5 * 2 ^ 24 + 5 * 2 ^ 20 + 0 * 2 ^ 9 + 0) 0 2 |>.wr
       MBOX.STAT_FULL 0 0 3 |>.wr FW.STW_LOAD_SHED 0) with
       stw := { s.dev.stw with st := .run, out := []  },
       wrd := { s.dev.wrd with st := .ready, outH := [], outS := []  } } }) tiny, 0, by decide +kernel⟩,
   ⟨(fun s => { s with
     dev := { (s.dev.wr MBOX.STAT_FULL 1 0 2 |>.wr MBOX.DATA_WORD (5 * 2 ^ 24 + 5 * 2 ^ 20 + 1025 * 2 ^ 9 + 0) 0 2
       |>.wr MBOX.STAT_FULL 0 0 3 |>.wr FW.STW_LOAD_SHED 0) with
       stw := { s.dev.stw with st := .run, out := []  },
       wrd := { s.dev.wrd with st := .ready, outH := [], outS := []  } } }) tiny, 1025, by decide +kernel⟩,
   ⟨(fun s => { s with
     dev := { (s.dev.wr MBOX.STAT_FULL 0 0 3 |>.wr FW.STW_LOAD_SHED 0) with
       stw := { s.dev.stw with st := .run, out := [] , periods := [3, 4, 6, 7, 5] },
       wrd := { s.dev.wrd with st := .ready, outH := [], outS := []  }, wiping := [] } }) tiny, 4, by decide +kernel⟩,
   ⟨(fun s => { s with dev := { (s.dev) with stw := { s.dev.stw with periods := [0, 0, 0, 0, 0] } } }) tiny, 2, by
     decide +kernel⟩,
   ⟨(fun s => { s with
     dev := { (s.dev.wr MBOX.STAT_FULL 0 0 3) with
       stw := { s.dev.stw with st := .run, out := [] , askDue := true },
       wrd := { s.dev.wrd with st := .ready, outH := [], outS := []  }, wiping := [] } }) tiny, by decide +kernel⟩,
   ⟨(fun s => { s with
     dev := { (s.dev) with
       stw := { s.dev.stw with st := .run, out := [] , askDue := false },
       wrd := { s.dev.wrd with st := .ready, outH := [], outS := []  } } }) tiny, by decide +kernel⟩,
   ⟨(fun s => { s with dev := (s.dev.wr MBOX.STAT_FULL 0 0 2) }) tiny, by decide +kernel⟩,
   ⟨(fun s => { s with
     dev := { (s.dev.wr MBOX.STAT_FULL 1 0 2 |>.wr MBOX.DATA_WORD (119 * 2 ^ 24 + 5 * 2 ^ 20 + 0 * 2 ^ 9 + 0) 0 2
       |>.wr MBOX.STAT_FULL 0 0 3 |>.wr FW.STW_LOAD_SHED 0) with
       stw := { s.dev.stw with st := .run, out := []  },
       wrd := { s.dev.wrd with st := .ready, outH := [], outS := []  } } }) tiny, by decide +kernel⟩,
   ⟨(fun s => { s with
     dev := { (s.dev.wr MBOX.STAT_FULL 1 0 2 |>.wr MBOX.DATA_WORD (128 * 2 ^ 24 + 5 * 2 ^ 20 + 0 * 2 ^ 9 + 0) 0 2
       |>.wr MBOX.STAT_FULL 0 0 3 |>.wr FW.STW_LOAD_SHED 0) with
       stw := { s.dev.stw with st := .run, out := []  },
       wrd := { s.dev.wrd with st := .ready, outH := [], outS := []  } } }) tiny, by decide +kernel⟩⟩

/-- The hypotheses of SpdmRequestsAnswered are met, clause by clause. -/
theorem test_hyps_SpdmRequestsAnswered :
    (∃ (s : State) (n : Nat), s.settled = true ∧ s.dev.asks 2 4 n = true ∧ 1 ≤ n ∧ n ≤ 1024
      ∧ (s.dev.mbBytes 2).getD 1 0 = 0x84) ∧
    (∃ (s : State) (n : Nat), s.settled = true ∧ s.dev.asks 2 4 n = true ∧ 1 ≤ n ∧ n ≤ 1024
      ∧ (s.dev.mbBytes 2).getD 1 0 = 0xE1) ∧
    (∃ (s : State) (n : Nat), s.settled = true ∧ s.dev.asks 2 4 n = true ∧ 1 ≤ n ∧ n ≤ 1024
      ∧ (s.dev.mbBytes 2).getD 1 0 = 0xE3) ∧
    (∃ (s : State) (n : Nat) (k : Nat) (h : List Nat), s.settled = true ∧ s.dev.asks 2 4 n = true ∧ 1 ≤ n
      ∧ n ≤ 1024 ∧ (s.dev.mbBytes 2).getD 1 0 = 0x81 ∧ s.dev.wrd.key = some k ∧ s.dev.wrd.prov.chain = some h) ∧
    (∃ (s : State) (n : Nat) (k : Nat) (h : List Nat), s.settled = true ∧ s.dev.asks 2 4 n = true ∧ 1 ≤ n
      ∧ n ≤ 1024 ∧ (s.dev.mbBytes 2).getD 1 0 = 0x82 ∧ s.dev.wrd.key = some k ∧ s.dev.wrd.prov.chain = some h
      ∧ (s.dev.mbBytes 2).getD 2 0 % 16 = 0 ∧ ofLe (((s.dev.mbBytes 2).drop 4).take 2) < h.length) ∧
    (∃ (s : State) (n : Nat) (k : Nat) (h : List Nat), s.settled = true ∧ s.dev.asks 2 4 n = true ∧ 1 ≤ n
      ∧ n ≤ 1024 ∧ (s.dev.mbBytes 2).getD 1 0 = 0x82 ∧ s.dev.wrd.key = some k ∧ s.dev.wrd.prov.chain = some h
      ∧ ((s.dev.mbBytes 2).getD 2 0 % 16 ≠ 0 ∨ h.length ≤ ofLe (((s.dev.mbBytes 2).drop 4).take 2))) ∧
    (∃ (s : State) (n : Nat) (k : Nat) (h : List Nat), s.settled = true ∧ s.dev.asks 2 4 n = true ∧ 1 ≤ n
      ∧ n ≤ 1024 ∧ (s.dev.mbBytes 2).getD 1 0 = 0x83 ∧ s.dev.wrd.key = some k ∧ s.dev.wrd.prov.chain = some h
      ∧ (s.dev.mbBytes 2).getD 2 0 = 0 ∧ ((s.dev.mbBytes 2).getD 3 0 = 0 ∨ (s.dev.mbBytes 2).getD 3 0 = 0xFF)) ∧
    (∃ (s : State) (n : Nat), s.settled = true ∧ s.dev.asks 2 4 n = true ∧ 1 ≤ n ∧ n ≤ 1024
      ∧ (s.dev.mbBytes 2).getD 1 0 = 0x83 ∧ ((s.dev.mbBytes 2).getD 2 0 ≠ 0 ∨ ((s.dev.mbBytes 2).getD 3 0 ≠ 0
      ∧ (s.dev.mbBytes 2).getD 3 0 ≠ 0xFF))) ∧
    (∃ (s : State) (n : Nat), s.settled = true ∧ s.dev.asks 2 4 n = true ∧ 1 ≤ n ∧ n ≤ 1024
      ∧ (s.dev.mbBytes 2).getD 1 0 = 0xE0 ∧ ((s.dev.mbBytes 2).getD 3 0 ≤ 6 ∨ (s.dev.mbBytes 2).getD 3 0 = 0xFF)
      ∧ (s.dev.mbBytes 2).getD 2 0 % 2 = 0) ∧
    (∃ (s : State) (n : Nat) (k : Nat) (h : List Nat), s.settled = true ∧ s.dev.asks 2 4 n = true ∧ 1 ≤ n
      ∧ n ≤ 1024 ∧ (s.dev.mbBytes 2).getD 1 0 = 0xE0 ∧ s.dev.wrd.key = some k ∧ s.dev.wrd.prov.chain = some h
      ∧ ((s.dev.mbBytes 2).getD 3 0 ≤ 6 ∨ (s.dev.mbBytes 2).getD 3 0 = 0xFF) ∧ (s.dev.mbBytes 2).getD 2 0 % 2 = 1
      ∧ (s.dev.mbBytes 2).getD 36 0 % 16 = 0) ∧
    (∃ (s : State) (n : Nat), s.settled = true ∧ s.dev.asks 2 4 n = true ∧ 1 ≤ n ∧ n ≤ 1024
      ∧ (s.dev.mbBytes 2).getD 1 0 = 0xE0 ∧ ((6 < (s.dev.mbBytes 2).getD 3 0 ∧ (s.dev.mbBytes 2).getD 3 0 ≠ 0xFF)
      ∨ ((s.dev.mbBytes 2).getD 2 0 % 2 = 1 ∧ (s.dev.mbBytes 2).getD 36 0 % 16 ≠ 0))) ∧
    (∃ (s : State) (n : Nat), s.settled = true ∧ s.dev.asks 2 4 n = true ∧ 1 ≤ n ∧ n ≤ 1024
      ∧ (s.dev.mbBytes 2).getD 1 0 = 0x81 ∧ (s.dev.wrd.key = none ∨ s.dev.wrd.prov.chain = none)) ∧
    (∃ (s : State) (n : Nat), s.settled = true ∧ s.dev.asks 2 4 n = true ∧ 1 ≤ n ∧ n ≤ 1024
      ∧ (s.dev.mbBytes 2).getD 1 0 = 0x82 ∧ (s.dev.wrd.key = none ∨ s.dev.wrd.prov.chain = none)) ∧
    (∃ (s : State) (n : Nat), s.settled = true ∧ s.dev.asks 2 4 n = true ∧ 1 ≤ n ∧ n ≤ 1024
      ∧ (s.dev.mbBytes 2).getD 1 0 = 0x83 ∧ (s.dev.wrd.key = none ∨ s.dev.wrd.prov.chain = none)
      ∧ (s.dev.mbBytes 2).getD 2 0 = 0 ∧ ((s.dev.mbBytes 2).getD 3 0 = 0 ∨ (s.dev.mbBytes 2).getD 3 0 = 0xFF)) ∧
    (∃ (s : State) (n : Nat), s.settled = true ∧ s.dev.asks 2 4 n = true ∧ 1 ≤ n ∧ n ≤ 1024
      ∧ (s.dev.mbBytes 2).getD 1 0 = 0xE0 ∧ (s.dev.wrd.key = none ∨ s.dev.wrd.prov.chain = none)
      ∧ ((s.dev.mbBytes 2).getD 3 0 ≤ 6 ∨ (s.dev.mbBytes 2).getD 3 0 = 0xFF) ∧ (s.dev.mbBytes 2).getD 2 0 % 2 = 1
      ∧ (s.dev.mbBytes 2).getD 36 0 % 16 = 0) ∧
    (∃ (s : State) (n : Nat), s.settled = true ∧ s.dev.asks 2 4 n = true ∧ 1 ≤ n ∧ n ≤ 1024
      ∧ (s.dev.mbBytes 2).getD 1 0 ∉ [0x84, 0xE1, 0xE3, 0x81, 0x82, 0x83, 0xE0]) ∧
    (∃ (s : State), s.settled = true ∧ s.dev.asks 2 4 0 = true) ∧
    (∃ (s : State) (n : Nat), s.settled = true ∧ s.dev.asks 2 4 n = true ∧ 1024 < n ∧ (s.dev.mbBytes 2).getD 1 0 =
      0x84) ∧
    (∃ (s : State) (n : Nat), s.settled = true ∧ s.dev.asks 2 4 n = true ∧ 1024 < n ∧ (s.dev.mbBytes 2).getD 1 0 =
      0xE1) ∧
    (∃ (s : State) (n : Nat), s.settled = true ∧ s.dev.asks 2 4 n = true ∧ 1024 < n ∧ (s.dev.mbBytes 2).getD 1 0 =
      0xE3) ∧
    (∃ (s : State) (n : Nat), s.settled = true ∧ s.dev.asks 2 4 n = true ∧ 1024 < n ∧ (s.dev.mbBytes 2).getD 1 0 =
      0x81) ∧
    (∃ (s : State) (n : Nat), s.settled = true ∧ s.dev.asks 2 4 n = true ∧ 1024 < n ∧ (s.dev.mbBytes 2).getD 1 0 =
      0x82) ∧
    (∃ (s : State) (n : Nat), s.settled = true ∧ s.dev.asks 2 4 n = true ∧ 1024 < n ∧ (s.dev.mbBytes 2).getD 1 0 =
      0x83) ∧
    (∃ (s : State) (n : Nat), s.settled = true ∧ s.dev.asks 2 4 n = true ∧ 1024 < n ∧ (s.dev.mbBytes 2).getD 1 0 =
      0xE0) ∧
    (∃ (s : State), s.settled = true ∧ (s.dev.coreUp 2 = false ∨ s.dev.mbFull 2 = false)) ∧
    (∃ (s : State), s.settled = true ∧ s.dev.coreUp 2 = true ∧ s.dev.mbFull 2 = true
      ∧ (catalogue 2).contains (msgOP (s.dev.mbWord 2)) = false ∧ msgOP (s.dev.mbWord 2) < 0x80
      ∧ s.dev.sendIdle = true) ∧
    (∃ (s : State), s.settled = true ∧ s.dev.coreUp 2 = true ∧ s.dev.mbFull 2 = true ∧ 0x80 ≤ msgOP (s.dev.mbWord 2)
      ∧ s.dev.sendIdle = true) :=
  ⟨⟨(fun s => { s with
     dev := { (s.dev.wr MBOX.STAT_FULL 1 0 2 |>.wr MBOX.DATA_WORD (4 * 2 ^ 24 + 5 * 2 ^ 20 + 1 * 2 ^ 9 + 0) 0 2 |>.wr
       MBOX.STAT_FULL 0 0 3 |>.wr FW.STW_LOAD_SHED 0) with
       stw := { s.dev.stw with st := .run, out := []  },
       wrd := { s.dev.wrd with st := .ready, outH := [], outS := []  },
       mbox := { s.dev.mbox with buf := Mem.writeBytes [] 8192 [0x13, 0x84, 0, 0] } } }) tiny, 1, by decide +kernel⟩,
   ⟨(fun s => { s with
     dev := { (s.dev.wr MBOX.STAT_FULL 1 0 2 |>.wr MBOX.DATA_WORD (4 * 2 ^ 24 + 5 * 2 ^ 20 + 1 * 2 ^ 9 + 0) 0 2 |>.wr
       MBOX.STAT_FULL 0 0 3 |>.wr FW.STW_LOAD_SHED 0) with
       stw := { s.dev.stw with st := .run, out := []  },
       wrd := { s.dev.wrd with st := .ready, outH := [], outS := []  },
       mbox := { s.dev.mbox with buf := Mem.writeBytes [] 8192 [0x13, 0xE1, 0, 0] } } }) tiny, 1, by decide +kernel⟩,
   ⟨(fun s => { s with
     dev := { (s.dev.wr MBOX.STAT_FULL 1 0 2 |>.wr MBOX.DATA_WORD (4 * 2 ^ 24 + 5 * 2 ^ 20 + 1 * 2 ^ 9 + 0) 0 2 |>.wr
       MBOX.STAT_FULL 0 0 3 |>.wr FW.STW_LOAD_SHED 0) with
       stw := { s.dev.stw with st := .run, out := []  },
       wrd := { s.dev.wrd with st := .ready, outH := [], outS := []  },
       mbox := { s.dev.mbox with buf := Mem.writeBytes [] 8192 [0x13, 0xE3, 0, 0] } } }) tiny, 1, by decide +kernel⟩,
   ⟨(fun s => { s with
     dev := { (s.dev.wr MBOX.STAT_FULL 1 0 2 |>.wr MBOX.DATA_WORD (4 * 2 ^ 24 + 5 * 2 ^ 20 + 1 * 2 ^ 9 + 0) 0 2 |>.wr
       MBOX.STAT_FULL 0 0 3 |>.wr FW.STW_LOAD_SHED 0) with
       stw := { s.dev.stw with st := .run, out := []  }, wrd := { s.dev.wrd with
         st := .ready, outH := [], outS := [] , key := some 7,
         prov := { s.dev.wrd.prov with chain := some [1, 2, 3, 4, 5, 6] } },
       mbox := { s.dev.mbox with buf := Mem.writeBytes [] 8192 [0x13, 0x81, 0, 0] } } }) tiny, 1, 7, [1, 2, 3, 4, 5,
     6], by decide +kernel⟩,
   ⟨(fun s => { s with
     dev := { (s.dev.wr MBOX.STAT_FULL 1 0 2 |>.wr MBOX.DATA_WORD (4 * 2 ^ 24 + 5 * 2 ^ 20 + 1 * 2 ^ 9 + 0) 0 2 |>.wr
       MBOX.STAT_FULL 0 0 3 |>.wr FW.STW_LOAD_SHED 0) with
       stw := { s.dev.stw with st := .run, out := []  }, wrd := { s.dev.wrd with
         st := .ready, outH := [], outS := [] , key := some 7,
         prov := { s.dev.wrd.prov with chain := some [1, 2, 3, 4, 5, 6] } },
       mbox := { s.dev.mbox with buf := Mem.writeBytes [] 8192 [0x13, 0x82, 0, 0, 1, 0, 9, 0] } } }) tiny, 1, 7, [1,
     2, 3, 4, 5, 6], by decide +kernel⟩,
   ⟨(fun s => { s with
     dev := { (s.dev.wr MBOX.STAT_FULL 1 0 2 |>.wr MBOX.DATA_WORD (4 * 2 ^ 24 + 5 * 2 ^ 20 + 1 * 2 ^ 9 + 0) 0 2 |>.wr
       MBOX.STAT_FULL 0 0 3 |>.wr FW.STW_LOAD_SHED 0) with
       stw := { s.dev.stw with st := .run, out := []  }, wrd := { s.dev.wrd with
         st := .ready, outH := [], outS := [] , key := some 7,
         prov := { s.dev.wrd.prov with chain := some [1, 2, 3, 4, 5, 6] } },
       mbox := { s.dev.mbox with buf := Mem.writeBytes [] 8192 [0x13, 0x82, 1, 0, 1, 0, 9, 0] } } }) tiny, 1, 7, [1,
     2, 3, 4, 5, 6], by decide +kernel⟩,
   ⟨(fun s => { s with
     dev := { (s.dev.wr MBOX.STAT_FULL 1 0 2 |>.wr MBOX.DATA_WORD (4 * 2 ^ 24 + 5 * 2 ^ 20 + 1 * 2 ^ 9 + 0) 0 2 |>.wr
       MBOX.STAT_FULL 0 0 3 |>.wr FW.STW_LOAD_SHED 0) with
       stw := { s.dev.stw with st := .run, out := []  }, wrd := { s.dev.wrd with
         st := .ready, outH := [], outS := [] , key := some 7,
         prov := { s.dev.wrd.prov with chain := some [1, 2, 3, 4, 5, 6] } },
       mbox := { s.dev.mbox with buf := Mem.writeBytes [] 8192 [0x13, 0x83, 0, 0] } } }) tiny, 1, 7, [1, 2, 3, 4, 5,
     6], by decide +kernel⟩,
   ⟨(fun s => { s with
     dev := { (s.dev.wr MBOX.STAT_FULL 1 0 2 |>.wr MBOX.DATA_WORD (4 * 2 ^ 24 + 5 * 2 ^ 20 + 1 * 2 ^ 9 + 0) 0 2 |>.wr
       MBOX.STAT_FULL 0 0 3 |>.wr FW.STW_LOAD_SHED 0) with
       stw := { s.dev.stw with st := .run, out := []  },
       wrd := { s.dev.wrd with st := .ready, outH := [], outS := [] , key := none },
       mbox := { s.dev.mbox with buf := Mem.writeBytes [] 8192 [0x13, 0x83, 1, 0] } } }) tiny, 1, by decide +kernel⟩,
   ⟨(fun s => { s with
     dev := { (s.dev.wr MBOX.STAT_FULL 1 0 2 |>.wr MBOX.DATA_WORD (4 * 2 ^ 24 + 5 * 2 ^ 20 + 1 * 2 ^ 9 + 0) 0 2 |>.wr
       MBOX.STAT_FULL 0 0 3 |>.wr FW.STW_LOAD_SHED 0) with
       stw := { s.dev.stw with st := .run, out := []  },
       wrd := { s.dev.wrd with st := .ready, outH := [], outS := []  },
       mbox := { s.dev.mbox with buf := Mem.writeBytes [] 8192 [0x13, 0xE0, 0, 0] } } }) tiny, 1, by decide +kernel⟩,
   ⟨(fun s => { s with
     dev := { (s.dev.wr MBOX.STAT_FULL 1 0 2 |>.wr MBOX.DATA_WORD (4 * 2 ^ 24 + 5 * 2 ^ 20 + 1 * 2 ^ 9 + 0) 0 2 |>.wr
       MBOX.STAT_FULL 0 0 3 |>.wr FW.STW_LOAD_SHED 0) with
       stw := { s.dev.stw with st := .run, out := []  }, wrd := { s.dev.wrd with
         st := .ready, outH := [], outS := [] , key := some 7,
         prov := { s.dev.wrd.prov with chain := some [1, 2, 3, 4, 5, 6] } },
       mbox := { s.dev.mbox with buf := Mem.writeBytes [] 8192 [0x13, 0xE0, 1, 0xFF] } } }) tiny, 1, 7, [1, 2, 3, 4,
     5, 6], by decide +kernel⟩,
   ⟨(fun s => { s with
     dev := { (s.dev.wr MBOX.STAT_FULL 1 0 2 |>.wr MBOX.DATA_WORD (4 * 2 ^ 24 + 5 * 2 ^ 20 + 1 * 2 ^ 9 + 0) 0 2 |>.wr
       MBOX.STAT_FULL 0 0 3 |>.wr FW.STW_LOAD_SHED 0) with
       stw := { s.dev.stw with st := .run, out := []  },
       wrd := { s.dev.wrd with st := .ready, outH := [], outS := [] , key := none },
       mbox := { s.dev.mbox with buf := Mem.writeBytes [] 8192 [0x13, 0xE0, 0, 7] } } }) tiny, 1, by decide +kernel⟩,
   ⟨(fun s => { s with
     dev := { (s.dev.wr MBOX.STAT_FULL 1 0 2 |>.wr MBOX.DATA_WORD (4 * 2 ^ 24 + 5 * 2 ^ 20 + 1 * 2 ^ 9 + 0) 0 2 |>.wr
       MBOX.STAT_FULL 0 0 3 |>.wr FW.STW_LOAD_SHED 0) with
       stw := { s.dev.stw with st := .run, out := []  },
       wrd := { s.dev.wrd with st := .ready, outH := [], outS := [] , key := none },
       mbox := { s.dev.mbox with buf := Mem.writeBytes [] 8192 [0x13, 0x81, 0, 0] } } }) tiny, 1, by decide +kernel⟩,
   ⟨(fun s => { s with
     dev := { (s.dev.wr MBOX.STAT_FULL 1 0 2 |>.wr MBOX.DATA_WORD (4 * 2 ^ 24 + 5 * 2 ^ 20 + 1 * 2 ^ 9 + 0) 0 2 |>.wr
       MBOX.STAT_FULL 0 0 3 |>.wr FW.STW_LOAD_SHED 0) with
       stw := { s.dev.stw with st := .run, out := []  },
       wrd := { s.dev.wrd with st := .ready, outH := [], outS := [] , key := none },
       mbox := { s.dev.mbox with buf := Mem.writeBytes [] 8192 [0x13, 0x82, 0, 0] } } }) tiny, 1, by decide +kernel⟩,
   ⟨(fun s => { s with
     dev := { (s.dev.wr MBOX.STAT_FULL 1 0 2 |>.wr MBOX.DATA_WORD (4 * 2 ^ 24 + 5 * 2 ^ 20 + 1 * 2 ^ 9 + 0) 0 2 |>.wr
       MBOX.STAT_FULL 0 0 3 |>.wr FW.STW_LOAD_SHED 0) with
       stw := { s.dev.stw with st := .run, out := []  },
       wrd := { s.dev.wrd with st := .ready, outH := [], outS := [] , key := none },
       mbox := { s.dev.mbox with buf := Mem.writeBytes [] 8192 [0x13, 0x83, 0, 0] } } }) tiny, 1, by decide +kernel⟩,
   ⟨(fun s => { s with
     dev := { (s.dev.wr MBOX.STAT_FULL 1 0 2 |>.wr MBOX.DATA_WORD (4 * 2 ^ 24 + 5 * 2 ^ 20 + 1 * 2 ^ 9 + 0) 0 2 |>.wr
       MBOX.STAT_FULL 0 0 3 |>.wr FW.STW_LOAD_SHED 0) with
       stw := { s.dev.stw with st := .run, out := []  },
       wrd := { s.dev.wrd with st := .ready, outH := [], outS := [] , key := none },
       mbox := { s.dev.mbox with buf := Mem.writeBytes [] 8192 [0x13, 0xE0, 1, 1] } } }) tiny, 1, by decide +kernel⟩,
   ⟨(fun s => { s with
     dev := { (s.dev.wr MBOX.STAT_FULL 1 0 2 |>.wr MBOX.DATA_WORD (4 * 2 ^ 24 + 5 * 2 ^ 20 + 1 * 2 ^ 9 + 0) 0 2 |>.wr
       MBOX.STAT_FULL 0 0 3 |>.wr FW.STW_LOAD_SHED 0) with
       stw := { s.dev.stw with st := .run, out := []  },
       wrd := { s.dev.wrd with st := .ready, outH := [], outS := []  },
       mbox := { s.dev.mbox with buf := Mem.writeBytes [] 8192 [0x13, 153, 0, 0] } } }) tiny, 1, by decide +kernel⟩,
   ⟨(fun s => { s with
     dev := { (s.dev.wr MBOX.STAT_FULL 1 0 2 |>.wr MBOX.DATA_WORD (4 * 2 ^ 24 + 5 * 2 ^ 20 + 0 * 2 ^ 9 + 0) 0 2 |>.wr
       MBOX.STAT_FULL 0 0 3 |>.wr FW.STW_LOAD_SHED 0) with
       stw := { s.dev.stw with st := .run, out := []  },
       wrd := { s.dev.wrd with st := .ready, outH := [], outS := []  } } }) tiny, by decide +kernel⟩,
   ⟨(fun s => { s with
     dev := { (s.dev.wr MBOX.STAT_FULL 1 0 2 |>.wr MBOX.DATA_WORD (4 * 2 ^ 24 + 5 * 2 ^ 20 + 1025 * 2 ^ 9 + 0) 0 2
       |>.wr MBOX.STAT_FULL 0 0 3 |>.wr FW.STW_LOAD_SHED 0) with
       stw := { s.dev.stw with st := .run, out := []  },
       wrd := { s.dev.wrd with st := .ready, outH := [], outS := []  },
       mbox := { s.dev.mbox with buf := Mem.writeBytes [] 8192 [0x13, 0x84, 0, 0] } } }) tiny, 1025, by decide +kernel⟩,
   ⟨(fun s => { s with
     dev := { (s.dev.wr MBOX.STAT_FULL 1 0 2 |>.wr MBOX.DATA_WORD (4 * 2 ^ 24 + 5 * 2 ^ 20 + 1025 * 2 ^ 9 + 0) 0 2
       |>.wr MBOX.STAT_FULL 0 0 3 |>.wr FW.STW_LOAD_SHED 0) with
       stw := { s.dev.stw with st := .run, out := []  },
       wrd := { s.dev.wrd with st := .ready, outH := [], outS := []  },
       mbox := { s.dev.mbox with buf := Mem.writeBytes [] 8192 [0x13, 0xE1, 0, 0] } } }) tiny, 1025, by decide +kernel⟩,
   ⟨(fun s => { s with
     dev := { (s.dev.wr MBOX.STAT_FULL 1 0 2 |>.wr MBOX.DATA_WORD (4 * 2 ^ 24 + 5 * 2 ^ 20 + 1025 * 2 ^ 9 + 0) 0 2
       |>.wr MBOX.STAT_FULL 0 0 3 |>.wr FW.STW_LOAD_SHED 0) with
       stw := { s.dev.stw with st := .run, out := []  },
       wrd := { s.dev.wrd with st := .ready, outH := [], outS := []  },
       mbox := { s.dev.mbox with buf := Mem.writeBytes [] 8192 [0x13, 0xE3, 0, 0] } } }) tiny, 1025, by decide +kernel⟩,
   ⟨(fun s => { s with
     dev := { (s.dev.wr MBOX.STAT_FULL 1 0 2 |>.wr MBOX.DATA_WORD (4 * 2 ^ 24 + 5 * 2 ^ 20 + 1025 * 2 ^ 9 + 0) 0 2
       |>.wr MBOX.STAT_FULL 0 0 3 |>.wr FW.STW_LOAD_SHED 0) with
       stw := { s.dev.stw with st := .run, out := []  },
       wrd := { s.dev.wrd with st := .ready, outH := [], outS := []  },
       mbox := { s.dev.mbox with buf := Mem.writeBytes [] 8192 [0x13, 0x81, 0, 0] } } }) tiny, 1025, by decide +kernel⟩,
   ⟨(fun s => { s with
     dev := { (s.dev.wr MBOX.STAT_FULL 1 0 2 |>.wr MBOX.DATA_WORD (4 * 2 ^ 24 + 5 * 2 ^ 20 + 1025 * 2 ^ 9 + 0) 0 2
       |>.wr MBOX.STAT_FULL 0 0 3 |>.wr FW.STW_LOAD_SHED 0) with
       stw := { s.dev.stw with st := .run, out := []  },
       wrd := { s.dev.wrd with st := .ready, outH := [], outS := []  },
       mbox := { s.dev.mbox with buf := Mem.writeBytes [] 8192 [0x13, 0x82, 0, 0] } } }) tiny, 1025, by decide +kernel⟩,
   ⟨(fun s => { s with
     dev := { (s.dev.wr MBOX.STAT_FULL 1 0 2 |>.wr MBOX.DATA_WORD (4 * 2 ^ 24 + 5 * 2 ^ 20 + 1025 * 2 ^ 9 + 0) 0 2
       |>.wr MBOX.STAT_FULL 0 0 3 |>.wr FW.STW_LOAD_SHED 0) with
       stw := { s.dev.stw with st := .run, out := []  },
       wrd := { s.dev.wrd with st := .ready, outH := [], outS := []  },
       mbox := { s.dev.mbox with buf := Mem.writeBytes [] 8192 [0x13, 0x83, 0, 0] } } }) tiny, 1025, by decide +kernel⟩,
   ⟨(fun s => { s with
     dev := { (s.dev.wr MBOX.STAT_FULL 1 0 2 |>.wr MBOX.DATA_WORD (4 * 2 ^ 24 + 5 * 2 ^ 20 + 1025 * 2 ^ 9 + 0) 0 2
       |>.wr MBOX.STAT_FULL 0 0 3 |>.wr FW.STW_LOAD_SHED 0) with
       stw := { s.dev.stw with st := .run, out := []  },
       wrd := { s.dev.wrd with st := .ready, outH := [], outS := []  },
       mbox := { s.dev.mbox with buf := Mem.writeBytes [] 8192 [0x13, 0xE0, 0, 0] } } }) tiny, 1025, by decide +kernel⟩,
   ⟨(fun s => { s with dev := (s.dev.wr MBOX.STAT_FULL 0 0 2) }) tiny, by decide +kernel⟩,
   ⟨(fun s => { s with
     dev := { (s.dev.wr MBOX.STAT_FULL 1 0 2 |>.wr MBOX.DATA_WORD (119 * 2 ^ 24 + 5 * 2 ^ 20 + 0 * 2 ^ 9 + 0) 0 2
       |>.wr MBOX.STAT_FULL 0 0 3 |>.wr FW.STW_LOAD_SHED 0) with
       stw := { s.dev.stw with st := .run, out := []  },
       wrd := { s.dev.wrd with st := .ready, outH := [], outS := []  } } }) tiny, by decide +kernel⟩,
   ⟨(fun s => { s with
     dev := { (s.dev.wr MBOX.STAT_FULL 1 0 2 |>.wr MBOX.DATA_WORD (128 * 2 ^ 24 + 5 * 2 ^ 20 + 0 * 2 ^ 9 + 0) 0 2
       |>.wr MBOX.STAT_FULL 0 0 3 |>.wr FW.STW_LOAD_SHED 0) with
       stw := { s.dev.stw with st := .run, out := []  },
       wrd := { s.dev.wrd with st := .ready, outH := [], outS := []  } } }) tiny, by decide +kernel⟩⟩

/-- The hypotheses of WardenLifeCycleKeysAndNonces are met, clause by clause. -/
theorem test_hyps_WardenLifeCycleKeysAndNonces :
    (∃ (s : State) (gt : BitVec 64), s.settled = true ∧ s.dev.asks 0 0x13 0 = true ∧ bitsAt (s.dev.mbWord 0) 6 3 = 0
      ∧ s.dev.wrd.changing = false ∧ s.swapping = false) ∧
    (∃ (s : State) (gt : BitVec 64) (n : Nat), s.settled = true ∧ s.dev.asks 0 19 n = true
      ∧ (4 ≤ bitsAt (s.dev.mbWord 0) 6 3 ∨ (bitsAt (s.dev.mbWord 0) 6 3 = 0 ∧ n ≠ 0))
      ∧ s.dev.wrd.changing = false ∧ s.swapping = false) ∧
    (∃ (s : State), s.settled = true) ∧
    (∃ (s : State) (n : Nat) (g : Bool), s.settled = true ∧ s.dev.asks 0 0x13 n = true ∧ bitsAt (s.dev.mbWord 0) 6 3 =
      1 ∧ s.dev.wrd.changing = false ∧ lcListed (s.dev.rd SEC.LC_STATE) (bitsAt (s.dev.mbWord 0) 0 3) = some g
      ∧ n = (if g then 32 else 0) ∧ s.dev.on SEC.LC_VALID = true ∧ s.swapping = false
      ∧ (if g then s.lcSigned s.dev.wrd.lcNonce (s.dev.rd SEC.LC_STATE) (bitsAt (s.dev.mbWord 0) 0 3) else none) =
      none ∧ s.lcMeets (s.dev.rd SEC.LC_STATE) (bitsAt (s.dev.mbWord 0) 0 3) = true
      ∧ s.dev.rd SEC.LC_STATE ≠ bitsAt (s.dev.mbWord 0) 0 3 ∧ s.dev.on SEC.LC_BROKEN = false
      ∧ s.dev.wrd.lifeRun = none ∧ (s.dev.nv.wait = [] ∨ s.dev.nv.closed = true)) ∧
    (∃ (s : State) (n : Nat) (g : Bool), s.settled = true ∧ s.dev.asks 0 0x13 n = true ∧ bitsAt (s.dev.mbWord 0) 6 3 =
      1 ∧ s.dev.wrd.changing = false ∧ lcListed (s.dev.rd SEC.LC_STATE) (bitsAt (s.dev.mbWord 0) 0 3) = some g
      ∧ n = (if g then 32 else 0) ∧ s.dev.on SEC.LC_VALID = true ∧ s.swapping = false
      ∧ (if g then s.lcSigned s.dev.wrd.lcNonce (s.dev.rd SEC.LC_STATE) (bitsAt (s.dev.mbWord 0) 0 3) else none) =
      none ∧ s.lcMeets (s.dev.rd SEC.LC_STATE) (bitsAt (s.dev.mbWord 0) 0 3) = true
      ∧ s.dev.rd SEC.LC_STATE ≠ bitsAt (s.dev.mbWord 0) 0 3 ∧ s.dev.on SEC.LC_BROKEN = false
      ∧ s.dev.wrd.lifeRun.isSome = true) ∧
    (∃ (s : State) (n : Nat) (g : Bool), s.settled = true ∧ s.dev.asks 0 0x13 n = true ∧ bitsAt (s.dev.mbWord 0) 6 3 =
      1 ∧ s.dev.wrd.changing = false ∧ lcListed (s.dev.rd SEC.LC_STATE) (bitsAt (s.dev.mbWord 0) 0 3) = some g
      ∧ n = (if g then 32 else 0) ∧ s.dev.on SEC.LC_VALID = true ∧ s.swapping = false
      ∧ s.dev.rd SEC.LC_STATE = bitsAt (s.dev.mbWord 0) 0 3) ∧
    (∃ (s : State) (n : Nat), s.settled = true ∧ s.dev.asks 0 0x13 n = true ∧ bitsAt (s.dev.mbWord 0) 6 3 = 1
      ∧ s.dev.wrd.changing = false ∧ lcListed (s.dev.rd SEC.LC_STATE) (bitsAt (s.dev.mbWord 0) 0 3) = none) ∧
    (∃ (s : State) (n : Nat) (g : Bool), s.settled = true ∧ s.dev.asks 0 0x13 n = true ∧ bitsAt (s.dev.mbWord 0) 6 3 =
      1 ∧ s.dev.wrd.changing = false ∧ lcListed (s.dev.rd SEC.LC_STATE) (bitsAt (s.dev.mbWord 0) 0 3) = some g
      ∧ (s.dev.on SEC.LC_VALID = false ∨ s.swapping = true)) ∧
    (∃ (s : State) (n : Nat) (g : Bool), s.settled = true ∧ s.dev.asks 0 0x13 n = true ∧ bitsAt (s.dev.mbWord 0) 6 3 =
      1 ∧ s.dev.wrd.changing = false ∧ lcListed (s.dev.rd SEC.LC_STATE) (bitsAt (s.dev.mbWord 0) 0 3) = some g
      ∧ n ≠ (if g then 32 else 0) ∧ s.dev.on SEC.LC_VALID = true ∧ s.swapping = false) ∧
    (∃ (s : State) (n : Nat) (g : Bool) (c : Nat), s.settled = true ∧ s.dev.asks 0 0x13 n = true
      ∧ bitsAt (s.dev.mbWord 0) 6 3 = 1 ∧ s.dev.wrd.changing = false
      ∧ lcListed (s.dev.rd SEC.LC_STATE) (bitsAt (s.dev.mbWord 0) 0 3) = some g ∧ n = (if g then 32 else 0)
      ∧ g = true ∧ s.dev.on SEC.LC_VALID = true ∧ s.swapping = false
      ∧ s.lcSigned s.dev.wrd.lcNonce (s.dev.rd SEC.LC_STATE) (bitsAt (s.dev.mbWord 0) 0 3) = some c) ∧
    (∃ (s : State) (n : Nat) (g : Bool), s.settled = true ∧ s.dev.asks 0 0x13 n = true ∧ bitsAt (s.dev.mbWord 0) 6 3 =
      1 ∧ s.dev.wrd.changing = false ∧ lcListed (s.dev.rd SEC.LC_STATE) (bitsAt (s.dev.mbWord 0) 0 3) = some g
      ∧ n = (if g then 32 else 0) ∧ s.dev.on SEC.LC_VALID = true ∧ s.swapping = false
      ∧ (if g then s.lcSigned s.dev.wrd.lcNonce (s.dev.rd SEC.LC_STATE) (bitsAt (s.dev.mbWord 0) 0 3) else none) =
      none ∧ s.lcMeets (s.dev.rd SEC.LC_STATE) (bitsAt (s.dev.mbWord 0) 0 3) = false) ∧
    (∃ (s : State) (n : Nat) (g : Bool), s.settled = true ∧ s.dev.asks 0 0x13 n = true ∧ bitsAt (s.dev.mbWord 0) 6 3 =
      1 ∧ s.dev.wrd.changing = false ∧ lcListed (s.dev.rd SEC.LC_STATE) (bitsAt (s.dev.mbWord 0) 0 3) = some g
      ∧ n = (if g then 32 else 0) ∧ s.dev.on SEC.LC_VALID = true ∧ s.swapping = false
      ∧ (if g then s.lcSigned s.dev.wrd.lcNonce (s.dev.rd SEC.LC_STATE) (bitsAt (s.dev.mbWord 0) 0 3) else none) =
      none ∧ s.lcMeets (s.dev.rd SEC.LC_STATE) (bitsAt (s.dev.mbWord 0) 0 3) = true
      ∧ s.dev.rd SEC.LC_STATE ≠ bitsAt (s.dev.mbWord 0) 0 3 ∧ s.dev.on SEC.LC_BROKEN = true) ∧
    (∃ (s : State) (n : Nat), s.settled = true ∧ s.dev.asks 0 19 n = true ∧ 4 ≤ bitsAt (s.dev.mbWord 0) 6 3
      ∧ s.dev.wrd.changing = false ∧ s.swapping = false) ∧
    (∃ (s : State) (n : Nat), s.settled = true ∧ s.dev.asks 0 0x13 n = true ∧ bitsAt (s.dev.mbWord 0) 6 3 = 1
      ∧ s.dev.wrd.changing = false ∧ s.swapping = true) ∧
    (∃ (s : State) (n : Nat), s.settled = true ∧ s.dev.asks 0 0x13 n = true ∧ s.dev.wrd.changing = false
      ∧ 4 ≤ bitsAt (s.dev.mbWord 0) 6 3 ∧ s.swapping = true) ∧
    (∃ (s : State) (gt : BitVec 64) (n : Nat), s.settled = true ∧ s.dev.asks 0 0x13 n = true
      ∧ s.dev.wrd.changing = false ∧ (bitsAt (s.dev.mbWord 0) 6 3 = 0 ∨ 4 ≤ bitsAt (s.dev.mbWord 0) 6 3)
      ∧ s.swapping = true) ∧
    (∃ (s : State) (n : Nat), s.settled = true ∧ s.dev.asks 0 0x13 n = true ∧ s.dev.wrd.changing = false
      ∧ (bitsAt (s.dev.mbWord 0) 6 3 = 2 ∨ 4 ≤ bitsAt (s.dev.mbWord 0) 6 3) ∧ s.swapping = true) ∧
    (∃ (s : State) (n : Nat), s.settled = true ∧ s.dev.asks 0 0x13 n = true ∧ s.dev.wrd.changing = false
      ∧ (bitsAt (s.dev.mbWord 0) 6 3 = 3 ∨ 4 ≤ bitsAt (s.dev.mbWord 0) 6 3) ∧ s.swapping = true) ∧
    (∃ (s : State) (gt : BitVec 64), s.settled = true ∧ msgOP (s.dev.mbWord 0) = 0x13 ∧ s.dev.wrd.changing = true) ∧
    (∃ (s : State), s.settled = true ∧ msgOP (s.dev.mbWord 0) = 0x13 ∧ s.dev.wrd.changing = true) ∧
    (∃ (s : State), s.settled = true ∧ msgOP (s.dev.mbWord 0) = 0x13 ∧ s.dev.wrd.changing = true) ∧
    (∃ (s : State), s.settled = true ∧ msgOP (s.dev.mbWord 0) = 0x13 ∧ s.dev.wrd.changing = true) ∧
    (∃ (s : State), s.settled = true ∧ s.dev.wrd.changing = false ∧ s.swapping = false ∧ s.dev.asks 0 0x13 17 = true
      ∧ bitsAt (s.dev.mbWord 0) 6 3 = 2 ∧ s.dev.rd SEC.LC_STATE ≤ 1 ∧ (s.dev.nv.wait = [] ∨ s.dev.nv.closed = true)) ∧
    (∃ (s : State), s.settled = true ∧ s.dev.wrd.changing = false ∧ s.swapping = false ∧ s.dev.asks 0 0x13 17 = true
      ∧ bitsAt (s.dev.mbWord 0) 6 3 = 2 ∧ 2 ≤ s.dev.rd SEC.LC_STATE) ∧
    (∃ (s : State) (n : Nat), s.settled = true ∧ s.dev.asks 0 19 n = true ∧ (4 ≤ bitsAt (s.dev.mbWord 0) 6 3
      ∨ (bitsAt (s.dev.mbWord 0) 6 3 = 2 ∧ n ≠ 17)) ∧ s.dev.wrd.changing = false ∧ s.swapping = false) ∧
    (∃ (s : State) (k : Nat), s.settled = true ∧ s.dev.wrd.changing = false ∧ s.swapping = false
      ∧ s.dev.asks 0 0x13 0 = true ∧ bitsAt (s.dev.mbWord 0) 6 3 = 3 ∧ s.dev.wrd.key = some k) ∧
    (∃ (s : State), s.settled = true ∧ s.dev.wrd.changing = false ∧ s.swapping = false ∧ s.dev.asks 0 0x13 0 = true
      ∧ bitsAt (s.dev.mbWord 0) 6 3 = 3 ∧ s.dev.wrd.key = none) ∧
    (∃ (s : State) (n : Nat), s.settled = true ∧ s.dev.asks 0 19 n = true ∧ (4 ≤ bitsAt (s.dev.mbWord 0) 6 3
      ∨ (bitsAt (s.dev.mbWord 0) 6 3 = 3 ∧ n ≠ 0)) ∧ s.dev.wrd.changing = false ∧ s.swapping = false) ∧
    (∃ (s : State) (n : Nat) (c : List Nat), s.settled = true ∧ s.dev.asks 0 0x14 n = true
      ∧ n ≤ 1024 ∧ s.dev.wrd.prov.chain = some c ∧ 4096 * bitsAt (s.dev.mbWord 0) 0 8 < c.length) ∧
    (∃ (s : State) (n : Nat) (c : List Nat), s.settled = true ∧ s.dev.asks 0 0x14 n = true
      ∧ (1024 < n ∨ (s.dev.wrd.prov.chain = some c ∧ c.length ≤ 4096 * bitsAt (s.dev.mbWord 0) 0 8))) ∧
    (∃ (s : State) (n : Nat), s.settled = true ∧ s.dev.asks 0 0x14 n = true ∧ n ≤ 1024 ∧ s.dev.wrd.prov.chain = none) ∧
    (∃ (s : State) (gt : BitVec 64), s.settled = true ∧ s.dev.asks 0 0x15 0 = true) ∧
    (∃ (s : State) (gt : BitVec 64) (n : Nat), s.settled = true ∧ s.dev.asks 0 21 n = true ∧ n ≠ 0) ∧
    (∃ (s : State), s.settled = true) ∧
    (∃ (s : State) (n : Nat) (k : List Nat), s.settled = true ∧ s.dev.asks 0 0x16 n = true ∧ n = 33
      ∧ ofLe (((s.dev.mbBytes 0).drop 32).take 4) < 16 ∧ ofLe (((s.dev.mbBytes 0).drop 32).take 4) % 8 ≤ 4
      ∧ s.dev.rd SEC.LC_STATE ≠ 5 ∧ s.dev.wrd.baroNonce = some ((s.dev.mbBytes 0).take 32)
      ∧ s.dev.wrd.prov.clearKey = some k ∧ s.dev.baro.allPinned (ofLe (((s.dev.mbBytes 0).drop 32).take 4) % 8) (bitAt
      (ofLe (((s.dev.mbBytes 0).drop 32).take 4)) 3) = false ∧ s.dev.baroHeld = false
      ∧ s.dev.baro.shadow = [] ∧ s.dev.on BARO.STATUS_RESTORED = false) ∧
    (∃ (s : State) (n : Nat), s.settled = true ∧ s.dev.asks 0 0x16 n = true ∧ (n ≠ 33
      ∨ 16 ≤ ofLe (((s.dev.mbBytes 0).drop 32).take 4) ∨ 4 < ofLe (((s.dev.mbBytes 0).drop 32).take 4) % 8)) ∧
    (∃ (s : State) (n : Nat), s.settled = true ∧ s.dev.asks 0 0x16 n = true ∧ n = 33
      ∧ ofLe (((s.dev.mbBytes 0).drop 32).take 4) < 16 ∧ ofLe (((s.dev.mbBytes 0).drop 32).take 4) % 8 ≤ 4
      ∧ s.dev.rd SEC.LC_STATE = 5) ∧
    (∃ (s : State) (n : Nat), s.settled = true ∧ s.dev.asks 0 0x16 n = true ∧ n = 33
      ∧ ofLe (((s.dev.mbBytes 0).drop 32).take 4) < 16 ∧ ofLe (((s.dev.mbBytes 0).drop 32).take 4) % 8 ≤ 4
      ∧ s.dev.rd SEC.LC_STATE ≠ 5 ∧ s.dev.wrd.baroNonce ≠ some ((s.dev.mbBytes 0).take 32)) ∧
    (∃ (s : State) (n : Nat), s.settled = true ∧ s.dev.asks 0 0x16 n = true ∧ n = 33
      ∧ ofLe (((s.dev.mbBytes 0).drop 32).take 4) < 16 ∧ ofLe (((s.dev.mbBytes 0).drop 32).take 4) % 8 ≤ 4
      ∧ s.dev.rd SEC.LC_STATE ≠ 5 ∧ s.dev.wrd.baroNonce = some ((s.dev.mbBytes 0).take 32)
      ∧ s.dev.wrd.prov.clearKey = none) ∧
    (∃ (s : State), s.settled = true ∧ (s.dev.coreUp 0 = false ∨ s.dev.mbFull 0 = false)) ∧
    (∃ (s : State), s.settled = true ∧ s.dev.coreUp 0 = true ∧ s.dev.mbFull 0 = true
      ∧ (catalogue 0).contains (msgOP (s.dev.mbWord 0)) = false ∧ msgOP (s.dev.mbWord 0) < 0x80
      ∧ s.dev.sendIdle = true) ∧
    (∃ (s : State), s.settled = true ∧ s.dev.coreUp 0 = true ∧ s.dev.mbFull 0 = true ∧ 0x80 ≤ msgOP (s.dev.mbWord 0)
      ∧ s.dev.sendIdle = true) :=
  ⟨⟨(fun s => { s with
     dev := { (s.dev.wr MBOX.STAT_FULL 1 0 0 |>.wr MBOX.DATA_WORD (19 * 2 ^ 24 + 5 * 2 ^ 20 + 0 * 2 ^ 9 + 0) 0 0 |>.wr
       MBOX.STAT_FULL 0 0 1 |>.wr FW.STW_LOAD_SHED 0) with
       stw := { s.dev.stw with st := .run, out := []  }, wrd := { s.dev.wrd with
         st := .ready, outH := [], outS := [] , swap := .none, lifeRun := none, lifeQ := [] } } }) tiny, 9#64, by
     decide +kernel⟩,
   ⟨(fun s => { s with
     dev := { (s.dev.wr MBOX.STAT_FULL 1 0 0 |>.wr MBOX.DATA_WORD (19 * 2 ^ 24 + 5 * 2 ^ 20 + 1 * 2 ^ 9 + 0) 0 0 |>.wr
       MBOX.STAT_FULL 0 0 1 |>.wr FW.STW_LOAD_SHED 0) with
       stw := { s.dev.stw with st := .run, out := []  }, wrd := { s.dev.wrd with
         st := .ready, outH := [], outS := [] , nvJob := none, swap := .none, lifeRun := none, lifeQ := [] } } })
     tiny, 9#64, 1, by decide +kernel⟩,
   ⟨(fun s => { s with dev := { (s.dev) with wrd := { s.dev.wrd with lcNonce := some [1] } } }) tiny, by decide +kernel⟩,
   ⟨(fun s => { s with
     dev := { (s.dev.wr MBOX.STAT_FULL 1 0 0 |>.wr MBOX.DATA_WORD (19 * 2 ^ 24 + 5 * 2 ^ 20 + 0 * 2 ^ 9 + 65) 0 0
       |>.wr MBOX.STAT_FULL 0 0 1 |>.wr FW.STW_LOAD_SHED 0 |>.wr SEC.LC_STATE 0 |>.wr SEC.LC_VALID 1 |>.wr
       SEC.LC_BROKEN 0) with
       stw := { s.dev.stw with st := .run, out := []  }, wrd := { s.dev.wrd with
         st := .ready, outH := [], outS := [] , swap := .none, lifeRun := none, lifeQ := [], lcNonce := some [1] },
       nv := {} } }) tiny, 0, false, by decide +kernel⟩,
   ⟨(fun s => { s with
     dev := { (s.dev.wr MBOX.STAT_FULL 1 0 0 |>.wr MBOX.DATA_WORD (19 * 2 ^ 24 + 5 * 2 ^ 20 + 0 * 2 ^ 9 + 65) 0 0
       |>.wr MBOX.STAT_FULL 0 0 1 |>.wr FW.STW_LOAD_SHED 0 |>.wr SEC.LC_STATE 0 |>.wr SEC.LC_VALID 1 |>.wr
       SEC.LC_BROKEN 0) with
       stw := { s.dev.stw with st := .run, out := []  }, wrd := { s.dev.wrd with
         st := .ready, outH := [], outS := [] , swap := .none, lifeQ := [], lcNonce := some [1],
         lifeRun := some (.counters, 4) }, nv := {} } }) tiny, 0, false, by decide +kernel⟩,
   ⟨(fun s => { s with
     dev := { (s.dev.wr MBOX.STAT_FULL 1 0 0 |>.wr MBOX.DATA_WORD (19 * 2 ^ 24 + 5 * 2 ^ 20 + 32 * 2 ^ 9 + 68) 0 0
       |>.wr MBOX.STAT_FULL 0 0 1 |>.wr FW.STW_LOAD_SHED 0 |>.wr SEC.LC_STATE 4 |>.wr SEC.LC_VALID 1 |>.wr
       SEC.LC_BROKEN 0) with
       stw := { s.dev.stw with st := .run, out := []  }, wrd := { s.dev.wrd with
         st := .ready, outH := [], outS := [] , swap := .none, lifeRun := none, lifeQ := [], lcNonce := some [1] },
       nv := {} } }) tiny, 32, true, by decide +kernel⟩,
   ⟨(fun s => { s with
     dev := { (s.dev.wr MBOX.STAT_FULL 1 0 0 |>.wr MBOX.DATA_WORD (19 * 2 ^ 24 + 5 * 2 ^ 20 + 0 * 2 ^ 9 + 69) 0 0
       |>.wr MBOX.STAT_FULL 0 0 1 |>.wr FW.STW_LOAD_SHED 0 |>.wr SEC.LC_STATE 0 |>.wr SEC.LC_VALID 1 |>.wr
       SEC.LC_BROKEN 0) with
       stw := { s.dev.stw with st := .run, out := []  }, wrd := { s.dev.wrd with
         st := .ready, outH := [], outS := [] , swap := .none, lifeRun := none, lifeQ := [], lcNonce := some [1] },
       nv := {} } }) tiny, 0, by decide +kernel⟩,
   ⟨(fun s => { s with
     dev := { (s.dev.wr MBOX.STAT_FULL 1 0 0 |>.wr MBOX.DATA_WORD (19 * 2 ^ 24 + 5 * 2 ^ 20 + 0 * 2 ^ 9 + 65) 0 0
       |>.wr MBOX.STAT_FULL 0 0 1 |>.wr FW.STW_LOAD_SHED 0 |>.wr SEC.LC_STATE 0 |>.wr SEC.LC_VALID 0) with
       stw := { s.dev.stw with st := .run, out := []  }, wrd := { s.dev.wrd with
         st := .ready, outH := [], outS := [] , swap := .none, lifeRun := none, lifeQ := [], lcNonce := some [1] },
       nv := {} } }) tiny, 0, false, by decide +kernel⟩,
   ⟨(fun s => { s with
     dev := { (s.dev.wr MBOX.STAT_FULL 1 0 0 |>.wr MBOX.DATA_WORD (19 * 2 ^ 24 + 5 * 2 ^ 20 + 7 * 2 ^ 9 + 65) 0 0
       |>.wr MBOX.STAT_FULL 0 0 1 |>.wr FW.STW_LOAD_SHED 0 |>.wr SEC.LC_STATE 0 |>.wr SEC.LC_VALID 1 |>.wr
       SEC.LC_BROKEN 0) with
       stw := { s.dev.stw with st := .run, out := []  }, wrd := { s.dev.wrd with
         st := .ready, outH := [], outS := [] , swap := .none, lifeRun := none, lifeQ := [], lcNonce := some [1] },
       nv := {} } }) tiny, 7, false, by decide +kernel⟩,
   ⟨(fun s => { s with
     dev := { (s.dev.wr MBOX.STAT_FULL 1 0 0 |>.wr MBOX.DATA_WORD (19 * 2 ^ 24 + 5 * 2 ^ 20 + 32 * 2 ^ 9 + 68) 0 0
       |>.wr MBOX.STAT_FULL 0 0 1 |>.wr FW.STW_LOAD_SHED 0 |>.wr SEC.LC_STATE 3 |>.wr SEC.LC_VALID 1 |>.wr
       SEC.LC_BROKEN 0) with
       stw := { s.dev.stw with st := .run, out := []  }, wrd := { s.dev.wrd with
         st := .ready, outH := [], outS := [] , swap := .none, lifeRun := none, lifeQ := [], lcNonce := some [1] },
       nv := {} } }) tiny, 32, true, 1, by decide +kernel⟩,
   ⟨(fun s => { s with
     dev := { (s.dev.wr MBOX.STAT_FULL 1 0 0 |>.wr MBOX.DATA_WORD (19 * 2 ^ 24 + 5 * 2 ^ 20 + 0 * 2 ^ 9 + 66) 0 0
       |>.wr MBOX.STAT_FULL 0 0 1 |>.wr FW.STW_LOAD_SHED 0 |>.wr SEC.LC_STATE 1 |>.wr SEC.LC_VALID 1 |>.wr
       SEC.BOOT_PROV 0) with
       stw := { s.dev.stw with st := .run, out := []  }, wrd := { s.dev.wrd with
         st := .ready, outH := [], outS := [] , swap := .none, lifeRun := none, lifeQ := [], lcNonce := some [1] },
       nv := {} } }) tiny, 0, false, by decide +kernel⟩,
   ⟨(fun s => { s with
     dev := { (s.dev.wr MBOX.STAT_FULL 1 0 0 |>.wr MBOX.DATA_WORD (19 * 2 ^ 24 + 5 * 2 ^ 20 + 0 * 2 ^ 9 + 65) 0 0
       |>.wr MBOX.STAT_FULL 0 0 1 |>.wr FW.STW_LOAD_SHED 0 |>.wr SEC.LC_STATE 0 |>.wr SEC.LC_VALID 1 |>.wr
       SEC.LC_BROKEN 1) with
       stw := { s.dev.stw with st := .run, out := []  }, wrd := { s.dev.wrd with
         st := .ready, outH := [], outS := [] , swap := .none, lifeRun := none, lifeQ := [], lcNonce := some [1] },
       nv := {} } }) tiny, 0, false, by decide +kernel⟩,
   ⟨(fun s => { s with
     dev := { (s.dev.wr MBOX.STAT_FULL 1 0 0 |>.wr MBOX.DATA_WORD (19 * 2 ^ 24 + 5 * 2 ^ 20 + 1 * 2 ^ 9 + 320) 0 0
       |>.wr MBOX.STAT_FULL 0 0 1 |>.wr FW.STW_LOAD_SHED 0) with
       stw := { s.dev.stw with st := .run, out := []  }, wrd := { s.dev.wrd with
         st := .ready, outH := [], outS := [] , nvJob := none, swap := .none, lifeRun := none, lifeQ := [] } } })
     tiny, 1, by decide +kernel⟩,
   ⟨(fun s => { s with
     dev := { (s.dev.wr MBOX.STAT_FULL 1 0 0 |>.wr MBOX.DATA_WORD (19 * 2 ^ 24 + 5 * 2 ^ 20 + 2000 * 2 ^ 9 + 65) 0 0
       |>.wr MBOX.STAT_FULL 0 0 1 |>.wr FW.STW_LOAD_SHED 0 |>.wr SEC.LC_STATE 0 |>.wr SEC.LC_VALID 1 |>.wr
       SEC.LC_BROKEN 0) with
       stw := { s.dev.stw with st := .run, out := []  }, wrd := { s.dev.wrd with
         st := .ready, outH := [], outS := [] , lifeRun := none, lifeQ := [], lcNonce := some [1], swap := .check 3 },
       nv := {} } }) tiny, 2000, by decide +kernel⟩,
   ⟨(fun s => { s with
     dev := { (s.dev.wr MBOX.STAT_FULL 1 0 0 |>.wr MBOX.DATA_WORD (19 * 2 ^ 24 + 5 * 2 ^ 20 + 2000 * 2 ^ 9 + 320) 0 0
       |>.wr MBOX.STAT_FULL 0 0 1 |>.wr FW.STW_LOAD_SHED 0) with
       stw := { s.dev.stw with st := .run, out := []  }, wrd := { s.dev.wrd with
         st := .ready, outH := [], outS := [] , swap := .check 3, lifeRun := none, lifeQ := [] } } }) tiny, 2000, by
     decide +kernel⟩,
   ⟨(fun s => { s with
     dev := { (s.dev.wr MBOX.STAT_FULL 1 0 0 |>.wr MBOX.DATA_WORD (19 * 2 ^ 24 + 5 * 2 ^ 20 + 2000 * 2 ^ 9 + 0) 0 0
       |>.wr MBOX.STAT_FULL 0 0 1 |>.wr FW.STW_LOAD_SHED 0) with
       stw := { s.dev.stw with st := .run, out := []  }, wrd := { s.dev.wrd with
         st := .ready, outH := [], outS := [] , swap := .check 3, lifeRun := none, lifeQ := [] } } }) tiny, 9#64,
     2000, by decide +kernel⟩,
   ⟨(fun s => { s with
     dev := { (s.dev.wr MBOX.STAT_FULL 1 0 0 |>.wr MBOX.DATA_WORD (19 * 2 ^ 24 + 5 * 2 ^ 20 + 2000 * 2 ^ 9 + 128) 0 0
       |>.wr MBOX.STAT_FULL 0 0 1 |>.wr FW.STW_LOAD_SHED 0) with
       stw := { s.dev.stw with st := .run, out := []  }, wrd := { s.dev.wrd with
         st := .ready, outH := [], outS := [] , swap := .check 3, lifeRun := none, lifeQ := [] } } }) tiny, 2000, by
     decide +kernel⟩,
   ⟨(fun s => { s with
     dev := { (s.dev.wr MBOX.STAT_FULL 1 0 0 |>.wr MBOX.DATA_WORD (19 * 2 ^ 24 + 5 * 2 ^ 20 + 2000 * 2 ^ 9 + 192) 0 0
       |>.wr MBOX.STAT_FULL 0 0 1 |>.wr FW.STW_LOAD_SHED 0) with
       stw := { s.dev.stw with st := .run, out := []  }, wrd := { s.dev.wrd with
         st := .ready, outH := [], outS := [] , swap := .check 3, lifeRun := none, lifeQ := [] } } }) tiny, 2000, by
     decide +kernel⟩,
   ⟨(fun s => { s with
     dev := { (s.dev.wr MBOX.STAT_FULL 1 0 0 |>.wr MBOX.DATA_WORD (19 * 2 ^ 24 + 5 * 2 ^ 20 + 0 * 2 ^ 9 + 0) 0 0 |>.wr
       MBOX.STAT_FULL 0 0 1 |>.wr FW.STW_LOAD_SHED 0) with
       stw := { s.dev.stw with st := .run, out := []  }, wrd := { s.dev.wrd with
         st := .ready, outH := [], outS := [] , lifeRun := some (.change 2 3, 4), lifeQ := [] } } }) tiny, 9#64, by
     decide +kernel⟩,
   ⟨(fun s => { s with
     dev := { (s.dev.wr MBOX.STAT_FULL 1 0 0 |>.wr MBOX.DATA_WORD (19 * 2 ^ 24 + 5 * 2 ^ 20 + 0 * 2 ^ 9 + 0) 0 0 |>.wr
       MBOX.STAT_FULL 0 0 1 |>.wr FW.STW_LOAD_SHED 0) with
       stw := { s.dev.stw with st := .run, out := []  }, wrd := { s.dev.wrd with
         st := .ready, outH := [], outS := [] , lifeRun := some (.change 2 3, 4), lifeQ := [] } } }) tiny, by decide +kernel⟩,
   ⟨(fun s => { s with
     dev := { (s.dev.wr MBOX.STAT_FULL 1 0 0 |>.wr MBOX.DATA_WORD (19 * 2 ^ 24 + 5 * 2 ^ 20 + 0 * 2 ^ 9 + 0) 0 0 |>.wr
       MBOX.STAT_FULL 0 0 1 |>.wr FW.STW_LOAD_SHED 0) with
       stw := { s.dev.stw with st := .run, out := []  }, wrd := { s.dev.wrd with
         st := .ready, outH := [], outS := [] , lifeRun := some (.change 2 3, 4), lifeQ := [] } } }) tiny, by decide +kernel⟩,
   ⟨(fun s => { s with
     dev := { (s.dev.wr MBOX.STAT_FULL 1 0 0 |>.wr MBOX.DATA_WORD (19 * 2 ^ 24 + 5 * 2 ^ 20 + 0 * 2 ^ 9 + 0) 0 0 |>.wr
       MBOX.STAT_FULL 0 0 1 |>.wr FW.STW_LOAD_SHED 0) with
       stw := { s.dev.stw with st := .run, out := []  }, wrd := { s.dev.wrd with
         st := .ready, outH := [], outS := [] , lifeRun := some (.change 2 3, 4), lifeQ := [] } } }) tiny, by decide +kernel⟩,
   ⟨(fun s => { s with
     dev := { (s.dev.wr MBOX.STAT_FULL 1 0 0 |>.wr MBOX.DATA_WORD (19 * 2 ^ 24 + 5 * 2 ^ 20 + 17 * 2 ^ 9 + 128) 0 0
       |>.wr MBOX.STAT_FULL 0 0 1 |>.wr FW.STW_LOAD_SHED 0 |>.wr SEC.LC_STATE 1) with
       stw := { s.dev.stw with st := .run, out := []  }, wrd := { s.dev.wrd with
         st := .ready, outH := [], outS := [] , swap := .none, lifeRun := none, lifeQ := [] }, nv := {} } }) tiny, by
     decide +kernel⟩,
   ⟨(fun s => { s with
     dev := { (s.dev.wr MBOX.STAT_FULL 1 0 0 |>.wr MBOX.DATA_WORD (19 * 2 ^ 24 + 5 * 2 ^ 20 + 17 * 2 ^ 9 + 128) 0 0
       |>.wr MBOX.STAT_FULL 0 0 1 |>.wr FW.STW_LOAD_SHED 0 |>.wr SEC.LC_STATE 3) with
       stw := { s.dev.stw with st := .run, out := []  }, wrd := { s.dev.wrd with
         st := .ready, outH := [], outS := [] , swap := .none, lifeRun := none, lifeQ := [] }, nv := {} } }) tiny, by
     decide +kernel⟩,
   ⟨(fun s => { s with
     dev := { (s.dev.wr MBOX.STAT_FULL 1 0 0 |>.wr MBOX.DATA_WORD (19 * 2 ^ 24 + 5 * 2 ^ 20 + 1 * 2 ^ 9 + 128) 0 0
       |>.wr MBOX.STAT_FULL 0 0 1 |>.wr FW.STW_LOAD_SHED 0) with
       stw := { s.dev.stw with st := .run, out := []  }, wrd := { s.dev.wrd with
         st := .ready, outH := [], outS := [] , nvJob := none, swap := .none, lifeRun := none, lifeQ := [] } } })
     tiny, 1, by decide +kernel⟩,
   ⟨(fun s => { s with
     dev := { (s.dev.wr MBOX.STAT_FULL 1 0 0 |>.wr MBOX.DATA_WORD (19 * 2 ^ 24 + 5 * 2 ^ 20 + 0 * 2 ^ 9 + 192) 0 0
       |>.wr MBOX.STAT_FULL 0 0 1 |>.wr FW.STW_LOAD_SHED 0) with
       stw := { s.dev.stw with st := .run, out := []  }, wrd := { s.dev.wrd with
         st := .ready, outH := [], outS := [] , key := some 7, swap := .none, lifeRun := none, lifeQ := [] } } })
     tiny, 7, by decide +kernel⟩,
   ⟨(fun s => { s with
     dev := { (s.dev.wr MBOX.STAT_FULL 1 0 0 |>.wr MBOX.DATA_WORD (19 * 2 ^ 24 + 5 * 2 ^ 20 + 0 * 2 ^ 9 + 192) 0 0
       |>.wr MBOX.STAT_FULL 0 0 1 |>.wr FW.STW_LOAD_SHED 0) with
       stw := { s.dev.stw with st := .run, out := []  }, wrd := { s.dev.wrd with
         st := .ready, outH := [], outS := [] , key := none, swap := .none, lifeRun := none, lifeQ := [] } } }) tiny,
     by decide +kernel⟩,
   ⟨(fun s => { s with
     dev := { (s.dev.wr MBOX.STAT_FULL 1 0 0 |>.wr MBOX.DATA_WORD (19 * 2 ^ 24 + 5 * 2 ^ 20 + 1 * 2 ^ 9 + 192) 0 0
       |>.wr MBOX.STAT_FULL 0 0 1 |>.wr FW.STW_LOAD_SHED 0) with
       stw := { s.dev.stw with st := .run, out := []  }, wrd := { s.dev.wrd with
         st := .ready, outH := [], outS := [] , nvJob := none, swap := .none, lifeRun := none, lifeQ := [] } } })
     tiny, 1, by decide +kernel⟩,
   ⟨(fun s => { s with
     dev := { (s.dev.wr MBOX.STAT_FULL 1 0 0 |>.wr MBOX.DATA_WORD (20 * 2 ^ 24 + 5 * 2 ^ 20 + 0 * 2 ^ 9 + 0) 0 0 |>.wr
       MBOX.STAT_FULL 0 0 1 |>.wr FW.STW_LOAD_SHED 0) with
       stw := { s.dev.stw with st := .run, out := []  }, wrd := { s.dev.wrd with
         st := .ready, outH := [], outS := [] , prov := { s.dev.wrd.prov with chain := some [1, 2, 3] } } } }) tiny,
     0, [1, 2, 3], by decide +kernel⟩,
   ⟨(fun s => { s with
     dev := { (s.dev.wr MBOX.STAT_FULL 1 0 0 |>.wr MBOX.DATA_WORD (20 * 2 ^ 24 + 5 * 2 ^ 20 + 0 * 2 ^ 9 + 1) 0 0 |>.wr
       MBOX.STAT_FULL 0 0 1 |>.wr FW.STW_LOAD_SHED 0) with
       stw := { s.dev.stw with st := .run, out := []  }, wrd := { s.dev.wrd with
         st := .ready, outH := [], outS := [] , prov := { s.dev.wrd.prov with chain := some [1, 2, 3] } } } }) tiny,
     0, [1, 2, 3], by decide +kernel⟩,
   ⟨(fun s => { s with
     dev := { (s.dev.wr MBOX.STAT_FULL 1 0 0 |>.wr MBOX.DATA_WORD (20 * 2 ^ 24 + 5 * 2 ^ 20 + 0 * 2 ^ 9 + 0) 0 0 |>.wr
       MBOX.STAT_FULL 0 0 1 |>.wr FW.STW_LOAD_SHED 0) with
       stw := { s.dev.stw with st := .run, out := []  },
       wrd := { s.dev.wrd with st := .ready, outH := [], outS := [] , prov := {} } } }) tiny, 0, by decide +kernel⟩,
   ⟨(fun s => { s with
     dev := { (s.dev.wr MBOX.STAT_FULL 1 0 0 |>.wr MBOX.DATA_WORD (21 * 2 ^ 24 + 5 * 2 ^ 20 + 0 * 2 ^ 9 + 0) 0 0 |>.wr
       MBOX.STAT_FULL 0 0 1 |>.wr FW.STW_LOAD_SHED 0) with
       stw := { s.dev.stw with st := .run, out := []  },
       wrd := { s.dev.wrd with st := .ready, outH := [], outS := []  } } }) tiny, 9#64, by decide +kernel⟩,
   ⟨(fun s => { s with
     dev := { (s.dev.wr MBOX.STAT_FULL 1 0 0 |>.wr MBOX.DATA_WORD (21 * 2 ^ 24 + 5 * 2 ^ 20 + 1 * 2 ^ 9 + 0) 0 0 |>.wr
       MBOX.STAT_FULL 0 0 1 |>.wr FW.STW_LOAD_SHED 0) with
       stw := { s.dev.stw with st := .run, out := []  },
       wrd := { s.dev.wrd with st := .ready, outH := [], outS := [] , nvJob := none } } }) tiny, 9#64, 1, by decide +kernel⟩,
   ⟨(fun s => { s with dev := { (s.dev) with wrd := { s.dev.wrd with baroNonce := some [1] } } }) tiny, by decide +kernel⟩,
   ⟨(fun s => { s with
     dev := { (s.dev.wr MBOX.STAT_FULL 1 0 0 |>.wr MBOX.DATA_WORD (22 * 2 ^ 24 + 5 * 2 ^ 20 + 33 * 2 ^ 9 + 0) 0 0
       |>.wr MBOX.STAT_FULL 0 0 1 |>.wr FW.STW_LOAD_SHED 0 |>.wr SEC.LC_STATE 3 |>.wr BARO.STATUS_NO_RESTORE 1 |>.wr
       BARO.STATUS_RESTORED 0) with
       stw := { s.dev.stw with st := .run, out := []  }, wrd := { s.dev.wrd with
         st := .ready, outH := [], outS := [] , prov := { s.dev.wrd.prov with clearKey := some [4] },
         baroNonce := some (List.replicate 32 0) }, mbox := {},
       baro := { s.dev.baro with ram := [], shadow := [], frz := 0, snap := none, pass := none } } }) tiny, 33, [4],
     by decide +kernel⟩,
   ⟨(fun s => { s with
     dev := { (s.dev.wr MBOX.STAT_FULL 1 0 0 |>.wr MBOX.DATA_WORD (22 * 2 ^ 24 + 5 * 2 ^ 20 + 33 * 2 ^ 9 + 0) 0 0
       |>.wr MBOX.STAT_FULL 0 0 1 |>.wr FW.STW_LOAD_SHED 0 |>.wr SEC.LC_STATE 3) with
       stw := { s.dev.stw with st := .run, out := []  },
       wrd := { s.dev.wrd with st := .ready, outH := [], outS := [] , baroNonce := some (List.replicate 32 0) },
       mbox := { s.dev.mbox with buf := Mem.writeBytes [] 0 (List.replicate 32 0 ++ [5, 0, 0, 0]) } } }) tiny, 33, by
     decide +kernel⟩,
   ⟨(fun s => { s with
     dev := { (s.dev.wr MBOX.STAT_FULL 1 0 0 |>.wr MBOX.DATA_WORD (22 * 2 ^ 24 + 5 * 2 ^ 20 + 33 * 2 ^ 9 + 0) 0 0
       |>.wr MBOX.STAT_FULL 0 0 1 |>.wr FW.STW_LOAD_SHED 0 |>.wr SEC.LC_STATE 5) with
       stw := { s.dev.stw with st := .run, out := []  },
       wrd := { s.dev.wrd with st := .ready, outH := [], outS := [] , baroNonce := some (List.replicate 32 0) },
       mbox := {} } }) tiny, 33, by decide +kernel⟩,
   ⟨(fun s => { s with
     dev := { (s.dev.wr MBOX.STAT_FULL 1 0 0 |>.wr MBOX.DATA_WORD (22 * 2 ^ 24 + 5 * 2 ^ 20 + 33 * 2 ^ 9 + 0) 0 0
       |>.wr MBOX.STAT_FULL 0 0 1 |>.wr FW.STW_LOAD_SHED 0 |>.wr SEC.LC_STATE 3) with
       stw := { s.dev.stw with st := .run, out := []  },
       wrd := { s.dev.wrd with st := .ready, outH := [], outS := [] , baroNonce := none }, mbox := {} } }) tiny, 33,
     by decide +kernel⟩,
   ⟨(fun s => { s with
     dev := { (s.dev.wr MBOX.STAT_FULL 1 0 0 |>.wr MBOX.DATA_WORD (22 * 2 ^ 24 + 5 * 2 ^ 20 + 33 * 2 ^ 9 + 0) 0 0
       |>.wr MBOX.STAT_FULL 0 0 1 |>.wr FW.STW_LOAD_SHED 0 |>.wr SEC.LC_STATE 3) with
       stw := { s.dev.stw with st := .run, out := []  }, wrd := { s.dev.wrd with
         st := .ready, outH := [], outS := [] , baroNonce := some (List.replicate 32 0), prov := {} }, mbox := {} } })
     tiny, 33, by decide +kernel⟩,
   ⟨(fun s => { s with dev := (s.dev.wr MBOX.STAT_FULL 0 0 0) }) tiny, by decide +kernel⟩,
   ⟨(fun s => { s with
     dev := { (s.dev.wr MBOX.STAT_FULL 1 0 0 |>.wr MBOX.DATA_WORD (119 * 2 ^ 24 + 5 * 2 ^ 20 + 0 * 2 ^ 9 + 0) 0 0
       |>.wr MBOX.STAT_FULL 0 0 1 |>.wr FW.STW_LOAD_SHED 0) with
       stw := { s.dev.stw with st := .run, out := []  },
       wrd := { s.dev.wrd with st := .ready, outH := [], outS := []  } } }) tiny, by decide +kernel⟩,
   ⟨(fun s => { s with
     dev := { (s.dev.wr MBOX.STAT_FULL 1 0 0 |>.wr MBOX.DATA_WORD (128 * 2 ^ 24 + 5 * 2 ^ 20 + 0 * 2 ^ 9 + 0) 0 0
       |>.wr MBOX.STAT_FULL 0 0 1 |>.wr FW.STW_LOAD_SHED 0) with
       stw := { s.dev.stw with st := .run, out := []  },
       wrd := { s.dev.wrd with st := .ready, outH := [], outS := []  } } }) tiny, by decide +kernel⟩⟩

/-- The hypotheses of WardenServicesAndNvPort are met, clause by clause. -/
theorem test_hyps_WardenServicesAndNvPort :
    (∃ (s : State), s.settled = true ∧ s.dev.asks 4 0x20 1 = true ∧ s.dev.wrd.nvJob = none
      ∧ 1 ≤ bitsAt (s.dev.mbPayload 4 0) 16 5 ∧ bitsAt (s.dev.mbPayload 4 0) 16 5 ≤ 16
      ∧ 18432 ≤ bitsAt (s.dev.mbPayload 4 0) 0 15 ∧ bitsAt (s.dev.mbPayload 4 0) 0 15 + bitsAt (s.dev.mbPayload 4 0)
      16 5 ≤ 32768 ∧ (s.dev.nv.wait = [] ∨ s.dev.nv.closed = true)) ∧
    (∃ (s : State), s.settled = true ∧ s.dev.asks 4 0x21 (1 + 16 * bitsAt (s.dev.mbPayload 4 0) 16 5) = true
      ∧ s.dev.wrd.nvJob = none ∧ 1 ≤ bitsAt (s.dev.mbPayload 4 0) 16 5 ∧ bitsAt (s.dev.mbPayload 4 0) 16 5 ≤ 16
      ∧ 18432 ≤ bitsAt (s.dev.mbPayload 4 0) 0 15 ∧ bitsAt (s.dev.mbPayload 4 0) 0 15 + bitsAt (s.dev.mbPayload 4 0)
      16 5 ≤ 32768 ∧ (s.dev.nv.wait = [] ∨ s.dev.nv.closed = true)) ∧
    (∃ (s : State), s.settled = true ∧ s.dev.asks 4 0x20 1 = true ∧ s.dev.wrd.nvJob = none
      ∧ 1 ≤ bitsAt (s.dev.mbPayload 4 0) 16 5 ∧ bitsAt (s.dev.mbPayload 4 0) 16 5 ≤ 16
      ∧ (bitsAt (s.dev.mbPayload 4 0) 0 15 < 18432 ∨ 32768 < bitsAt (s.dev.mbPayload 4 0) 0 15 + bitsAt
      (s.dev.mbPayload 4 0) 16 5)) ∧
    (∃ (s : State), s.settled = true ∧ s.dev.asks 4 0x21 (1 + 16 * bitsAt (s.dev.mbPayload 4 0) 16 5) = true
      ∧ s.dev.wrd.nvJob = none ∧ 1 ≤ bitsAt (s.dev.mbPayload 4 0) 16 5 ∧ bitsAt (s.dev.mbPayload 4 0) 16 5 ≤ 16
      ∧ (bitsAt (s.dev.mbPayload 4 0) 0 15 < 18432 ∨ 32768 < bitsAt (s.dev.mbPayload 4 0) 0 15 + bitsAt
      (s.dev.mbPayload 4 0) 16 5)) ∧
    (∃ (s : State) (n : Nat), s.settled = true ∧ s.dev.asks 4 32 n = true ∧ (n ≠ 1 ∨ bitsAt (s.dev.mbPayload 4 0) 16 5
      = 0 ∨ 16 < bitsAt (s.dev.mbPayload 4 0) 16 5) ∧ s.dev.wrd.nvJob = none) ∧
    (∃ (s : State) (n : Nat), s.settled = true ∧ s.dev.asks 4 33 n = true ∧ (n ≠ 1 + 16 * bitsAt (s.dev.mbPayload 4 0)
      16 5 ∨ bitsAt (s.dev.mbPayload 4 0) 16 5 = 0 ∨ 16 < bitsAt (s.dev.mbPayload 4 0) 16 5)
      ∧ s.dev.wrd.nvJob = none) ∧
    (∃ (s : State), s.settled = true ∧ msgOP (s.dev.mbWord 4) = 0x20 ∧ s.dev.wrd.nvJob.isSome = true) ∧
    (∃ (s : State), s.settled = true ∧ msgOP (s.dev.mbWord 4) = 0x21 ∧ s.dev.wrd.nvJob.isSome = true) ∧
    (∃ (s : State), s.settled = true ∧ s.dev.asks 4 0x22 3 = true ∧ s.dev.mbPayload 4 0 % 2 ^ 15 =
      BUDGET.HARD_GRANT_HARD_GRANT.adr 0 0 ∧ s.dev.mbPayload 4 2 = 65535 ∧ s.dev.ready 0x1A = true
      ∧ s.dev.rd BUDGET.HARD_GRANT_LOCK = 0 ∧ bitsAt (s.dev.mbPayload 4 1) 0 16 < s.dev.rd
      BUDGET.HARD_GRANT_HARD_GRANT ∧ s.dev.rd BUDGET.HARD_GRANT_HARD_GRANT < 65536
      ∧ s.dev.rd BUDGET.FLOOR_FLOOR ≤ bitsAt (s.dev.mbPayload 4 1) 0 16
      ∧ s.dev.rd BUDGET.GRANT0_WATTS ≤ bitsAt (s.dev.mbPayload 4 1) 0 16) ∧
    (∃ (s : State), s.settled = true ∧ s.dev.asks 4 0x22 3 = true ∧ s.secWord (s.dev.mbPayload 4 0 % 2 ^ 15)
      (s.dev.mbPayload 4 1) (s.dev.mbPayload 4 2) = none) ∧
    (∃ (s : State) (n : Nat), s.settled = true ∧ s.dev.asks 4 34 n = true ∧ n ≠ 3) ∧
    (∃ (s : State) (c : Nat) (k : Nat), s.settled = true ∧ s.dev.asks 4 0x23 12 = true ∧ msgARG (s.dev.mbWord 4) = c
      ∧ (c = 1 ∨ c = 2) ∧ s.dev.wrd.key = some k) ∧
    (∃ (s : State) (c : Nat), s.settled = true ∧ s.dev.asks 4 0x23 12 = true ∧ msgARG (s.dev.mbWord 4) = c
      ∧ (c = 1 ∨ c = 2) ∧ s.dev.wrd.key = none) ∧
    (∃ (s : State) (n : Nat), s.settled = true ∧ s.dev.asks 4 35 n = true ∧ (n ≠ 12 ∨ (msgARG (s.dev.mbWord 4) ≠ 1
      ∧ msgARG (s.dev.mbWord 4) ≠ 2))) ∧
    (∃ (s : State) (r : NvReq), s.settled = true ∧ s.aon.squall.st ≠ .presented ∧ s.dev.nv.pres = some r) ∧
    (∃ (s : State), s.settled = true ∧ s.aon.squall.st = .presented) ∧
    (∃ (s : State), s.aon.squall.st ≠ .presented ∧ s.dev.nv.pres = none) ∧
    (∃ (s : State) (x : BitVec 2) (w : BitVec 512) (r : NvReq) (l : List NvReq), s.settled = true
      ∧ s.dev.nv.out = r :: l ∧ r.src = .ring) ∧
    (∃ (s : State) (x : BitVec 2) (w : BitVec 512) (r : NvReq) (l : List NvReq) (g : Nat), s.settled = true
      ∧ s.dev.nv.out = r :: l ∧ r.src = .prov g ∧ s.dev.sendIdle = true) ∧
    (∃ (s : State) (x : BitVec 2) (w : BitVec 512) (r : NvReq) (l : List NvReq) (j : NvJob), s.settled = true
      ∧ s.dev.nv.out = r :: l ∧ r.src = .stw ∧ s.dev.wrd.nvJob = some j ∧ 2 ≤ j.left) ∧
    (∃ (s : State) (x : BitVec 2) (w : BitVec 512) (r : NvReq) (l : List NvReq) (j : NvJob), s.settled = true
      ∧ s.dev.nv.out = r :: l ∧ r.src = .stw ∧ s.dev.wrd.nvJob = some j ∧ j.left = 1 ∧ j.bad = false
      ∧ x = 0#2 ∧ s.dev.sendIdle = true) ∧
    (∃ (s : State) (x : BitVec 2) (w : BitVec 512) (r : NvReq) (l : List NvReq) (j : NvJob), s.settled = true
      ∧ s.dev.nv.out = r :: l ∧ r.src = .stw ∧ s.dev.wrd.nvJob = some j ∧ j.left = 1 ∧ (j.bad = true
      ∨ x ≠ 0#2) ∧ s.dev.sendIdle = true) ∧
    (∃ (s : State) (x : BitVec 2) (w : BitVec 512) (r : NvReq) (l : List NvReq) (y : LifeWhy) (q : Nat), s.settled =
      true ∧ s.dev.nv.out = r :: l ∧ r.src = .life y ∧ s.dev.wrd.lifeRun = some (.counters, q)
      ∧ s.dev.wrd.lifeQ = [] ∧ x = 0#2) ∧
    (∃ (s : State) (x : BitVec 2) (w : BitVec 512) (r : NvReq) (l : List NvReq) (y : LifeWhy) (q : Nat), s.settled =
      true ∧ s.dev.nv.out = r :: l ∧ r.src = .life y ∧ s.dev.wrd.lifeRun = some (.counters, q)
      ∧ s.dev.wrd.lifeQ = [] ∧ x ≠ 0#2) ∧
    (∃ (s : State) (x : BitVec 2) (w : BitVec 512) (r : NvReq) (l : List NvReq) (y : LifeWhy) (q : Nat) (k : Nat) (g :
      Nat), s.settled = true ∧ s.dev.nv.out = r :: l ∧ r.src = .life y ∧ s.dev.wrd.lifeRun = some (.change k g, q)
      ∧ s.dev.wrd.lifeQ = [] ∧ x = 0#2 ∧ s.dev.sendIdle = true) ∧
    (∃ (s : State) (x : BitVec 2) (w : BitVec 512) (r : NvReq) (l : List NvReq) (y : LifeWhy) (q : Nat) (k : Nat) (g :
      Nat), s.settled = true ∧ s.dev.nv.out = r :: l ∧ r.src = .life y ∧ s.dev.wrd.lifeRun = some (.change k g, q)
      ∧ s.dev.wrd.lifeQ = [] ∧ x ≠ 0#2 ∧ s.dev.sendIdle = true) ∧
    (∃ (s : State) (x : BitVec 2) (w : BitVec 512) (r : NvReq) (l : List NvReq) (y : LifeWhy) (q : Nat) (g : Nat),
      s.settled = true ∧ s.dev.nv.out = r :: l ∧ r.src = .life y ∧ s.dev.wrd.lifeRun = some (.svn g, q)
      ∧ s.dev.wrd.lifeQ = [] ∧ x = 0#2 ∧ s.dev.sendIdle = true) ∧
    (∃ (s : State) (x : BitVec 2) (w : BitVec 512) (r : NvReq) (l : List NvReq) (y : LifeWhy) (q : Nat) (g : Nat),
      s.settled = true ∧ s.dev.nv.out = r :: l ∧ r.src = .life y ∧ s.dev.wrd.lifeRun = some (.svn g, q)
      ∧ s.dev.wrd.lifeQ = [] ∧ x ≠ 0#2 ∧ s.dev.sendIdle = true) ∧
    (∃ (s : State) (x : BitVec 2) (w : BitVec 512), s.dev.nv.out = []) ∧
    (∃ (s : State), s.settled = true ∧ (s.dev.coreUp 4 = false ∨ s.dev.mbFull 4 = false)) ∧
    (∃ (s : State), s.settled = true ∧ s.dev.coreUp 4 = true ∧ s.dev.mbFull 4 = true
      ∧ (catalogue 4).contains (msgOP (s.dev.mbWord 4)) = false ∧ msgOP (s.dev.mbWord 4) < 0x80
      ∧ s.dev.sendIdle = true) ∧
    (∃ (s : State), s.settled = true ∧ s.dev.coreUp 4 = true ∧ s.dev.mbFull 4 = true ∧ 0x80 ≤ msgOP (s.dev.mbWord 4)
      ∧ s.dev.sendIdle = true) :=
  ⟨⟨(fun s => { s with
     dev := { (s.dev.wr MBOX.STAT_FULL 1 0 4 |>.wr MBOX.DATA_WORD (32 * 2 ^ 24 + 5 * 2 ^ 20 + 1 * 2 ^ 9 + 0) 0 4 |>.wr
       MBOX.STAT_FULL 0 0 5 |>.wr FW.STW_LOAD_SHED 0) with
       stw := { s.dev.stw with st := .run, out := []  },
       wrd := { s.dev.wrd with st := .ready, outH := [], outS := [] , nvJob := none }, nv := {},
       mbox := { s.dev.mbox with buf := Mem.writeBytes [] 16384 ([0, 72, 3, 0]) } } }) tiny, by decide +kernel⟩,
   ⟨(fun s => { s with
     dev := { (s.dev.wr MBOX.STAT_FULL 1 0 4 |>.wr MBOX.DATA_WORD (33 * 2 ^ 24 + 5 * 2 ^ 20 + 33 * 2 ^ 9 + 0) 0 4
       |>.wr MBOX.STAT_FULL 0 0 5 |>.wr FW.STW_LOAD_SHED 0) with
       stw := { s.dev.stw with st := .run, out := []  },
       wrd := { s.dev.wrd with st := .ready, outH := [], outS := [] , nvJob := none }, nv := {},
       mbox := { s.dev.mbox with buf := Mem.writeBytes [] 16384 ([0, 72, 2, 0, 9, 8, 7]) } } }) tiny, by decide +kernel⟩,
   ⟨(fun s => { s with
     dev := { (s.dev.wr MBOX.STAT_FULL 1 0 4 |>.wr MBOX.DATA_WORD (32 * 2 ^ 24 + 5 * 2 ^ 20 + 1 * 2 ^ 9 + 0) 0 4 |>.wr
       MBOX.STAT_FULL 0 0 5 |>.wr FW.STW_LOAD_SHED 0) with
       stw := { s.dev.stw with st := .run, out := []  },
       wrd := { s.dev.wrd with st := .ready, outH := [], outS := [] , nvJob := none }, nv := {},
       mbox := { s.dev.mbox with buf := Mem.writeBytes [] 16384 ([0, 1, 1, 0]) } } }) tiny, by decide +kernel⟩,
   ⟨(fun s => { s with
     dev := { (s.dev.wr MBOX.STAT_FULL 1 0 4 |>.wr MBOX.DATA_WORD (33 * 2 ^ 24 + 5 * 2 ^ 20 + 17 * 2 ^ 9 + 0) 0 4
       |>.wr MBOX.STAT_FULL 0 0 5 |>.wr FW.STW_LOAD_SHED 0) with
       stw := { s.dev.stw with st := .run, out := []  },
       wrd := { s.dev.wrd with st := .ready, outH := [], outS := [] , nvJob := none }, nv := {},
       mbox := { s.dev.mbox with buf := Mem.writeBytes [] 16384 ([0, 1, 1, 0]) } } }) tiny, by decide +kernel⟩,
   ⟨(fun s => { s with
     dev := { (s.dev.wr MBOX.STAT_FULL 1 0 4 |>.wr MBOX.DATA_WORD (32 * 2 ^ 24 + 5 * 2 ^ 20 + 0 * 2 ^ 9 + 0) 0 4 |>.wr
       MBOX.STAT_FULL 0 0 5 |>.wr FW.STW_LOAD_SHED 0) with
       stw := { s.dev.stw with st := .run, out := []  },
       wrd := { s.dev.wrd with st := .ready, outH := [], outS := [] , nvJob := none } } }) tiny, 0, by decide +kernel⟩,
   ⟨(fun s => { s with
     dev := { (s.dev.wr MBOX.STAT_FULL 1 0 4 |>.wr MBOX.DATA_WORD (33 * 2 ^ 24 + 5 * 2 ^ 20 + 0 * 2 ^ 9 + 0) 0 4 |>.wr
       MBOX.STAT_FULL 0 0 5 |>.wr FW.STW_LOAD_SHED 0) with
       stw := { s.dev.stw with st := .run, out := []  },
       wrd := { s.dev.wrd with st := .ready, outH := [], outS := [] , nvJob := none } } }) tiny, 0, by decide +kernel⟩,
   ⟨(fun s => { s with
     dev := { (s.dev.wr MBOX.STAT_FULL 1 0 4 |>.wr MBOX.DATA_WORD (32 * 2 ^ 24 + 5 * 2 ^ 20 + 1 * 2 ^ 9 + 0) 0 4 |>.wr
       MBOX.STAT_FULL 0 0 5 |>.wr FW.STW_LOAD_SHED 0) with
       stw := { s.dev.stw with st := .run, out := []  },
       wrd := { s.dev.wrd with st := .ready, outH := [], outS := [] , nvJob := some ⟨5, false, 1, [], false⟩ } } })
     tiny, by decide +kernel⟩,
   ⟨(fun s => { s with
     dev := { (s.dev.wr MBOX.STAT_FULL 1 0 4 |>.wr MBOX.DATA_WORD (33 * 2 ^ 24 + 5 * 2 ^ 20 + 17 * 2 ^ 9 + 0) 0 4
       |>.wr MBOX.STAT_FULL 0 0 5 |>.wr FW.STW_LOAD_SHED 0) with
       stw := { s.dev.stw with st := .run, out := []  },
       wrd := { s.dev.wrd with st := .ready, outH := [], outS := [] , nvJob := some ⟨5, false, 1, [], false⟩ } } })
     tiny, by decide +kernel⟩,
   ⟨(fun s => { s with
     dev := { (s.dev.wr MBOX.STAT_FULL 1 0 4 |>.wr MBOX.DATA_WORD (34 * 2 ^ 24 + 5 * 2 ^ 20 + 3 * 2 ^ 9 + 0) 0 4 |>.wr
       MBOX.STAT_FULL 0 0 5 |>.wr FW.STW_LOAD_SHED 0 |>.wr BUDGET.HARD_GRANT_HARD_GRANT 48000 |>.wr
       BUDGET.HARD_GRANT_LOCK 0 |>.wr BUDGET.FLOOR_FLOOR 100 |>.wr BUDGET.GRANT0_WATTS 100) with
       stw := { s.dev.stw with st := .run, out := []  },
       wrd := { s.dev.wrd with st := .ready, outH := [], outS := []  }, wiping := [], mbox := { s.dev.mbox with
         buf := Mem.writeBytes [] 16384 (leBytes 4 (BUDGET.HARD_GRANT_HARD_GRANT.adr 0 0) ++ leBytes 4 500 ++ leBytes
           4 65535) } } }) tiny, by decide +kernel⟩,
   ⟨(fun s => { s with
     dev := { (s.dev.wr MBOX.STAT_FULL 1 0 4 |>.wr MBOX.DATA_WORD (34 * 2 ^ 24 + 5 * 2 ^ 20 + 3 * 2 ^ 9 + 0) 0 4 |>.wr
       MBOX.STAT_FULL 0 0 5 |>.wr FW.STW_LOAD_SHED 0 |>.wr BUDGET.HARD_GRANT_HARD_GRANT 48000 |>.wr
       BUDGET.HARD_GRANT_LOCK 0) with
       stw := { s.dev.stw with st := .run, out := []  },
       wrd := { s.dev.wrd with st := .ready, outH := [], outS := []  }, wiping := [], mbox := { s.dev.mbox with
         buf := Mem.writeBytes [] 16384 (leBytes 4 (BUDGET.HARD_GRANT_HARD_GRANT.adr 0 0) ++ leBytes 4 50000 ++
           leBytes 4 65535) } } }) tiny, by decide +kernel⟩,
   ⟨(fun s => { s with
     dev := { (s.dev.wr MBOX.STAT_FULL 1 0 4 |>.wr MBOX.DATA_WORD (34 * 2 ^ 24 + 5 * 2 ^ 20 + 1 * 2 ^ 9 + 0) 0 4 |>.wr
       MBOX.STAT_FULL 0 0 5 |>.wr FW.STW_LOAD_SHED 0) with
       stw := { s.dev.stw with st := .run, out := []  },
       wrd := { s.dev.wrd with st := .ready, outH := [], outS := [] , nvJob := none } } }) tiny, 1, by decide +kernel⟩,
   ⟨(fun s => { s with
     dev := { (s.dev.wr MBOX.STAT_FULL 1 0 4 |>.wr MBOX.DATA_WORD (35 * 2 ^ 24 + 5 * 2 ^ 20 + 12 * 2 ^ 9 + 1) 0 4
       |>.wr MBOX.STAT_FULL 0 0 5 |>.wr FW.STW_LOAD_SHED 0) with
       stw := { s.dev.stw with st := .run, out := []  },
       wrd := { s.dev.wrd with st := .ready, outH := [], outS := [] , key := some 7 } } }) tiny, 1, 7, by decide +kernel⟩,
   ⟨(fun s => { s with
     dev := { (s.dev.wr MBOX.STAT_FULL 1 0 4 |>.wr MBOX.DATA_WORD (35 * 2 ^ 24 + 5 * 2 ^ 20 + 12 * 2 ^ 9 + 2) 0 4
       |>.wr MBOX.STAT_FULL 0 0 5 |>.wr FW.STW_LOAD_SHED 0) with
       stw := { s.dev.stw with st := .run, out := []  },
       wrd := { s.dev.wrd with st := .ready, outH := [], outS := [] , key := none } } }) tiny, 2, by decide +kernel⟩,
   ⟨(fun s => { s with
     dev := { (s.dev.wr MBOX.STAT_FULL 1 0 4 |>.wr MBOX.DATA_WORD (35 * 2 ^ 24 + 5 * 2 ^ 20 + 12 * 2 ^ 9 + 0) 0 4
       |>.wr MBOX.STAT_FULL 0 0 5 |>.wr FW.STW_LOAD_SHED 0) with
       stw := { s.dev.stw with st := .run, out := []  },
       wrd := { s.dev.wrd with st := .ready, outH := [], outS := [] , nvJob := none } } }) tiny, 12, by decide +kernel⟩,
   ⟨(fun s => { s with
     dev := { (s.dev) with nv := { pres := some ⟨.stw, false, 18432, []⟩, wait := [⟨.mirror, true, 7, []⟩] } } })
     tiny, ⟨.stw, false, 18432, []⟩, by decide +kernel⟩,
   ⟨(fun s => { s with
     aon := { s.aon with squall := { s.aon.squall with st := .presented } }, dev := { s.dev with nv := {} } }) tiny,
     by decide +kernel⟩,
   ⟨(fun s => { s with dev := { (s.dev) with nv := {} } }) tiny, by decide +kernel⟩,
   ⟨(fun s => { s with dev := { (s.dev) with nv := { out := [⟨.ring, true, 18432, []⟩] } } }) tiny, 1#2, 77#512,
     ⟨.ring, true, 18432, []⟩, [], by decide +kernel⟩,
   ⟨(fun s => { s with
     dev := { (s.dev.wr MBOX.STAT_FULL 0 0 1) with
       stw := { s.dev.stw with st := .run, out := []  },
       wrd := { s.dev.wrd with st := .ready, outH := [], outS := []  },
       nv := { out := [⟨.prov 3, true, 18432, []⟩] } } }) tiny, 1#2, 77#512, ⟨.prov 3, true, 18432, []⟩, [], 3, by
     decide +kernel⟩,
   ⟨(fun s => { s with
     dev := { (s.dev.wr MBOX.STAT_FULL 0 0 5) with
       stw := { s.dev.stw with st := .run, out := []  },
       wrd := { s.dev.wrd with st := .ready, outH := [], outS := [] , nvJob := some ⟨5, false, 2, [], false⟩ },
       nv := { out := [⟨.stw, false, 18432, []⟩] } } }) tiny, 0#2, 77#512, ⟨.stw, false, 18432, []⟩, [], ⟨5, false, 2,
     [], false⟩, by decide +kernel⟩,
   ⟨(fun s => { s with
     dev := { (s.dev.wr MBOX.STAT_FULL 0 0 5) with
       stw := { s.dev.stw with st := .run, out := []  },
       wrd := { s.dev.wrd with st := .ready, outH := [], outS := [] , nvJob := some ⟨5, false, 1, [], false⟩ },
       nv := { out := [⟨.stw, false, 18432, []⟩] } } }) tiny, 0#2, 77#512, ⟨.stw, false, 18432, []⟩, [], ⟨5, false, 1,
     [], false⟩, by decide +kernel⟩,
   ⟨(fun s => { s with
     dev := { (s.dev.wr MBOX.STAT_FULL 0 0 5) with
       stw := { s.dev.stw with st := .run, out := []  },
       wrd := { s.dev.wrd with st := .ready, outH := [], outS := [] , nvJob := some ⟨5, true, 1, [], false⟩ },
       nv := { out := [⟨.stw, true, 18432, []⟩] } } }) tiny, 1#2, 77#512, ⟨.stw, true, 18432, []⟩, [], ⟨5, true, 1,
     [], false⟩, by decide +kernel⟩,
   ⟨(fun s => { s with
     dev := { (s.dev.wr MBOX.STAT_FULL 0 0 1) with
       stw := { s.dev.stw with st := .run, out := []  }, wrd := { s.dev.wrd with
         st := .ready, outH := [], outS := [] , lifeRun := some (.counters, 6), lifeQ := [] },
       nv := { out := [⟨.life .counters, true, 18432, []⟩] } } }) tiny, 0#2, 77#512, ⟨.life .counters, true, 18432,
     []⟩, [], .counters, 6, by decide +kernel⟩,
   ⟨(fun s => { s with
     dev := { (s.dev.wr MBOX.STAT_FULL 0 0 1) with
       stw := { s.dev.stw with st := .run, out := []  }, wrd := { s.dev.wrd with
         st := .ready, outH := [], outS := [] , lifeRun := some (.counters, 6), lifeQ := [] },
       nv := { out := [⟨.life .counters, true, 18432, []⟩] } } }) tiny, 1#2, 77#512, ⟨.life .counters, true, 18432,
     []⟩, [], .counters, 6, by decide +kernel⟩,
   ⟨(fun s => { s with
     dev := { (s.dev.wr MBOX.STAT_FULL 0 0 1) with
       stw := { s.dev.stw with st := .run, out := []  }, wrd := { s.dev.wrd with
         st := .ready, outH := [], outS := [] , lifeRun := some (.change 1 5, 6), lifeQ := [] },
       nv := { out := [⟨.life .counters, true, 18432, []⟩] } } }) tiny, 0#2, 77#512, ⟨.life .counters, true, 18432,
     []⟩, [], .counters, 6, 1, 5, by decide +kernel⟩,
   ⟨(fun s => { s with
     dev := { (s.dev.wr MBOX.STAT_FULL 0 0 1) with
       stw := { s.dev.stw with st := .run, out := []  }, wrd := { s.dev.wrd with
         st := .ready, outH := [], outS := [] , lifeRun := some (.change 1 5, 6), lifeQ := [] },
       nv := { out := [⟨.life .counters, true, 18432, []⟩] } } }) tiny, 1#2, 77#512, ⟨.life .counters, true, 18432,
     []⟩, [], .counters, 6, 1, 5, by decide +kernel⟩,
   ⟨(fun s => { s with
     dev := { (s.dev.wr MBOX.STAT_FULL 0 0 1) with
       stw := { s.dev.stw with st := .run, out := []  },
       wrd := { s.dev.wrd with st := .ready, outH := [], outS := [] , lifeRun := some (.svn 5, 6), lifeQ := [] },
       nv := { out := [⟨.life .counters, true, 18432, []⟩] } } }) tiny, 0#2, 77#512, ⟨.life .counters, true, 18432,
     []⟩, [], .counters, 6, 5, by decide +kernel⟩,
   ⟨(fun s => { s with
     dev := { (s.dev.wr MBOX.STAT_FULL 0 0 1) with
       stw := { s.dev.stw with st := .run, out := []  },
       wrd := { s.dev.wrd with st := .ready, outH := [], outS := [] , lifeRun := some (.svn 5, 6), lifeQ := [] },
       nv := { out := [⟨.life .counters, true, 18432, []⟩] } } }) tiny, 1#2, 77#512, ⟨.life .counters, true, 18432,
     []⟩, [], .counters, 6, 5, by decide +kernel⟩,
   ⟨(fun s => { s with dev := { (s.dev) with nv := {} } }) tiny, 0#2, 0#512, by decide +kernel⟩,
   ⟨(fun s => { s with dev := (s.dev.wr MBOX.STAT_FULL 0 0 4) }) tiny, by decide +kernel⟩,
   ⟨(fun s => { s with
     dev := { (s.dev.wr MBOX.STAT_FULL 1 0 4 |>.wr MBOX.DATA_WORD (119 * 2 ^ 24 + 5 * 2 ^ 20 + 0 * 2 ^ 9 + 0) 0 4
       |>.wr MBOX.STAT_FULL 0 0 5 |>.wr FW.STW_LOAD_SHED 0) with
       stw := { s.dev.stw with st := .run, out := []  },
       wrd := { s.dev.wrd with st := .ready, outH := [], outS := []  } } }) tiny, by decide +kernel⟩,
   ⟨(fun s => { s with
     dev := { (s.dev.wr MBOX.STAT_FULL 1 0 4 |>.wr MBOX.DATA_WORD (128 * 2 ^ 24 + 5 * 2 ^ 20 + 0 * 2 ^ 9 + 0) 0 4
       |>.wr MBOX.STAT_FULL 0 0 5 |>.wr FW.STW_LOAD_SHED 0) with
       stw := { s.dev.stw with st := .run, out := []  },
       wrd := { s.dev.wrd with st := .ready, outH := [], outS := []  } } }) tiny, by decide +kernel⟩⟩

/-- The hypotheses of RecorderCommitsFreezesAndSnapshots are met, clause by clause. -/
theorem test_hyps_RecorderCommitsFreezesAndSnapshots :
    (∃ (s : State) (b : List Nat), s.settled = true ∧ s.dev.baro.held = false ∧ s.dev.baro.due = [b]
      ∧ 2 ≤ b.length ∧ (b.getD 1 0 % 8 < 2 ∨ s.dev.on BARO.STATUS_RESTORED = false
      ∨ s.dev.on BARO.CTRL_MIRROR_EN = false) ∧ s.dev.baroHeld = false) ∧
    (∃ (s : State) (b : List Nat), s.settled = true ∧ s.dev.baro.held = false ∧ s.dev.baro.due = [b]
      ∧ 2 ≤ b.length ∧ (b.getD 1 0 % 8 < 2 ∨ s.dev.on BARO.STATUS_RESTORED = false
      ∨ s.dev.on BARO.CTRL_MIRROR_EN = false) ∧ s.dev.baroHeld = true ∧ s.dev.baro.shadow.length < 64) ∧
    (∃ (s : State) (b : List Nat), s.settled = true ∧ s.dev.baro.held = false ∧ s.dev.baro.due = [b]
      ∧ 2 ≤ b.length ∧ (b.getD 1 0 % 8 < 2 ∨ s.dev.on BARO.STATUS_RESTORED = false
      ∨ s.dev.on BARO.CTRL_MIRROR_EN = false) ∧ s.dev.baroHeld = true ∧ 64 ≤ s.dev.baro.shadow.length) ∧
    (∃ (s : State), s.settled = true ∧ (s.dev.baro.held = true ∨ s.dev.baro.due = [])) ∧
    (∃ (s : State) (a : Acc) (v : BitVec 32), s.settled = true ∧ s.dev.ready 0x1D = true ∧ a.privOk = true
      ∧ bitsAt v.toNat 0 2 = 1 ∧ s.dev.baro.frz = 0) ∧
    (∃ (s : State) (a : Acc) (v : BitVec 32), s.settled = true ∧ s.dev.ready 0x1D = true ∧ a.privOk = true
      ∧ (bitsAt v.toNat 0 2 = 0 ∨ (bitsAt v.toNat 0 2 = 1 ∧ s.dev.baro.frz ≠ 0))) ∧
    (∃ (s : State) (a : Acc) (v : BitVec 32), s.settled = true ∧ s.dev.ready 0x1D = true ∧ a.privOk = true
      ∧ bitsAt v.toNat 0 2 = 2 ∧ ((a.path = .regPort ∧ s.dev.baro.frz = 1 ∨ a.path = .steward
      ∧ s.dev.baro.frz = 2)) ∧ (s.dev.baro.shadow = [] ∨ (s.dev.baro.snap.isSome = true
      ∨ (s.dev.on BARO.STATUS_RESTORED = false ∧ s.dev.on BARO.STATUS_NO_RESTORE = false)))) ∧
    (∃ (s : State) (a : Acc) (v : BitVec 32) (b : List Nat) (i : Nat), s.settled = true ∧ s.dev.ready 0x1D = true
      ∧ a.privOk = true ∧ bitsAt v.toNat 0 2 = 2 ∧ ((a.path = .regPort ∧ s.dev.baro.frz = 1
      ∨ a.path = .steward ∧ s.dev.baro.frz = 2)) ∧ s.dev.baro.snap = none ∧ s.dev.on BARO.STATUS_RESTORED = true
      ∧ s.dev.baro.shadow = [b] ∧ s.dev.baro.place (b.getD 5 0 % 8) = some i) ∧
    (∃ (s : State) (a : Acc) (v : BitVec 32), s.settled = true ∧ s.dev.ready 0x1D = true ∧ a.privOk = true
      ∧ (bitsAt v.toNat 0 2 = 0 ∨ (bitsAt v.toNat 0 2 = 2 ∧ ¬(a.path = .regPort ∧ s.dev.baro.frz = 1
      ∨ a.path = .steward ∧ s.dev.baro.frz = 2)))) ∧
    (∃ (s : State), s.settled = true ∧ s.dev.baro.frz ≠ 0 ∧ 100 ≤ s.dev.baro.frzMs
      ∧ (s.dev.baro.shadow = [] ∨ (s.dev.baro.snap.isSome = true ∨ (s.dev.on BARO.STATUS_RESTORED = false
      ∧ s.dev.on BARO.STATUS_NO_RESTORE = false)))) ∧
    (∃ (s : State) (b : List Nat) (i : Nat), s.settled = true ∧ s.dev.baro.frz ≠ 0
      ∧ 100 ≤ s.dev.baro.frzMs ∧ s.dev.baro.snap = none ∧ s.dev.on BARO.STATUS_RESTORED = true
      ∧ s.dev.baro.shadow = [b] ∧ s.dev.baro.place (b.getD 5 0 % 8) = some i) ∧
    (∃ (s : State), s.settled = true ∧ (s.dev.baro.frz = 0 ∨ s.dev.baro.frzMs < 100)) ∧
    (∃ (s : State) (a : Acc) (v : BitVec 32), s.settled = true ∧ s.dev.ready 0x1D = true ∧ a.privOk = true
      ∧ bitsAt v.toNat 31 1 = 1 ∧ 1 ≤ bitsAt v.toNat 0 11 ∧ bitsAt v.toNat 0 11 ≤ 1024 ∧ s.dev.owns a 0 = true
      ∧ (s.dev.owner 0).feat = 3 ∧ s.dev.baro.snap = none) ∧
    (∃ (s : State) (a : Acc) (v : BitVec 32), s.settled = true ∧ s.dev.ready 0x1D = true ∧ a.privOk = true
      ∧ bitsAt v.toNat 31 1 = 1 ∧ 1 ≤ bitsAt v.toNat 0 11 ∧ bitsAt v.toNat 0 11 ≤ 1024 ∧ (s.dev.owns a 0 = false
      ∨ (s.dev.owner 0).feat ≠ 3 ∨ s.dev.baro.snap.isSome = true)) ∧
    (∃ (s : State) (a : Acc) (v : BitVec 32), s.settled = true ∧ s.dev.ready 0x1D = true ∧ a.privOk = true
      ∧ bitsAt v.toNat 31 1 = 0 ∧ 1 ≤ bitsAt v.toNat 0 11 ∧ bitsAt v.toNat 0 11 ≤ 1024) ∧
    (∃ (s : State) (f : Nat) (c : Nat), s.settled = true ∧ s.dev.baro.snap = some (f, c)
      ∧ (s.dev.baro.shadow = [] ∨ s.dev.baro.frz ≠ 0 ∨ (s.dev.on BARO.STATUS_RESTORED = false
      ∧ s.dev.on BARO.STATUS_NO_RESTORE = false))) ∧
    (∃ (s : State), s.settled = true ∧ s.dev.baro.snap = none) ∧
    (∃ (w : BWin) (x : Int) (beat : Nat) (j : Nat) (k : Nat), j < 32 ∧ k < 32 ∧ (w.bins = [] ∨ w.bins.length = 32)) ∧
    (∃ (d : Dev) (beat : Nat), d.on BARO.CTRL_EN = true) ∧
    (∃ (d : Dev), d.baro.todo = []) ∧
    (∃ (d : Dev) (k : Nat) (x : Int) (beat : Nat) (w : Nat), d.baro.todo = [(k, x, beat)] ∧ k < 32 ∧ w < 3) :=
  ⟨⟨(fun s => { s with
     dev := { (s.dev.wr BARO.STATUS_RESTORED 0 |>.wr BARO.STATUS_NO_RESTORE 1) with
       baro := { ({ s.dev.baro with
         shadow := [], frz := 0, frzMs := 0, snap := none, pass := none, again := false, dirty := [], due := [],
         held := false, ms := 0, ram := [] } : Baro) with due := [([1, 1] ++ List.replicate 246 7)] } } }) tiny, ([1,
     1] ++ List.replicate 246 7), by decide +kernel⟩,
   ⟨(fun s => { s with
     dev := { (s.dev.wr BARO.STATUS_RESTORED 0 |>.wr BARO.STATUS_NO_RESTORE 0) with
       baro := { ({ s.dev.baro with
         shadow := [], frz := 0, frzMs := 0, snap := none, pass := none, again := false, dirty := [], due := [],
         held := false, ms := 0, ram := [] } : Baro) with due := [([1, 1] ++ List.replicate 246 7)] } } }) tiny, ([1,
     1] ++ List.replicate 246 7), by decide +kernel⟩,
   ⟨(fun s => { s with
     dev := { (s.dev.wr BARO.STATUS_RESTORED 0 |>.wr BARO.STATUS_NO_RESTORE 0) with
       baro := { ({ s.dev.baro with
         shadow := [], frz := 0, frzMs := 0, snap := none, pass := none, again := false, dirty := [], due := [],
         held := false, ms := 0, ram := [] } : Baro) with
         due := [([1, 1] ++ List.replicate 246 7)], fullSent := false, shadow := List.replicate 64 [] } } }) tiny,
     ([1, 1] ++ List.replicate 246 7), by decide +kernel⟩,
   ⟨(fun s => { s with
     dev := { (s.dev) with
       baro := { s.dev.baro with
         shadow := [], frz := 0, frzMs := 0, snap := none, pass := none, again := false, dirty := [], due := [],
         held := false, ms := 0, ram := [] } } }) tiny, by decide +kernel⟩,
   ⟨(fun s => { s with
     dev := { (s.dev) with
       baro := { s.dev.baro with
         shadow := [], frz := 0, frzMs := 0, snap := none, pass := none, again := false, dirty := [], due := [],
         held := false, ms := 0, ram := [] }, wiping := [] } }) tiny, ⟨.regPort, 5, false, true⟩, 1#32, by decide +kernel⟩,
   ⟨(fun s => { s with
     dev := { (s.dev) with
       baro := { ({ s.dev.baro with
         shadow := [], frz := 0, frzMs := 0, snap := none, pass := none, again := false, dirty := [], due := [],
         held := false, ms := 0, ram := [] } : Baro) with frz := 2 }, wiping := [] } }) tiny, ⟨.regPort, 5, false,
     true⟩, 1#32, by decide +kernel⟩,
   ⟨(fun s => { s with
     dev := { (s.dev.wr BARO.STATUS_RESTORED 1 |>.wr BARO.STATUS_NO_RESTORE 0) with
       baro := { ({ s.dev.baro with
         shadow := [], frz := 0, frzMs := 0, snap := none, pass := none, again := false, dirty := [], due := [],
         held := false, ms := 0, ram := [] } : Baro) with frz := 1 }, wiping := [] } }) tiny, ⟨.regPort, 5, false,
     true⟩, 2#32, by decide +kernel⟩,
   ⟨(fun s => { s with
     dev := { (s.dev.wr BARO.STATUS_RESTORED 1 |>.wr BARO.STATUS_NO_RESTORE 0) with
       baro := { ({ s.dev.baro with
         shadow := [], frz := 0, frzMs := 0, snap := none, pass := none, again := false, dirty := [], due := [],
         held := false, ms := 0, ram := [] } : Baro) with
         frz := 1, shadow := [(List.replicate 5 0 ++ [1] ++ List.replicate 250 7)] }, wiping := [] } }) tiny,
     ⟨.regPort, 5, false, true⟩, 2#32, (List.replicate 5 0 ++ [1] ++ List.replicate 250 7), 0, by decide +kernel⟩,
   ⟨(fun s => { s with
     dev := { (s.dev) with
       baro := { ({ s.dev.baro with
         shadow := [], frz := 0, frzMs := 0, snap := none, pass := none, again := false, dirty := [], due := [],
         held := false, ms := 0, ram := [] } : Baro) with frz := 2 }, wiping := [] } }) tiny, ⟨.regPort, 5, false,
     true⟩, 2#32, by decide +kernel⟩,
   ⟨(fun s => { s with
     dev := { (s.dev.wr BARO.STATUS_RESTORED 1 |>.wr BARO.STATUS_NO_RESTORE 0) with
       baro := { ({ s.dev.baro with
         shadow := [], frz := 0, frzMs := 0, snap := none, pass := none, again := false, dirty := [], due := [],
         held := false, ms := 0, ram := [] } : Baro) with frz := 2, frzMs := 100 } } }) tiny, by decide +kernel⟩,
   ⟨(fun s => { s with
     dev := { (s.dev.wr BARO.STATUS_RESTORED 1 |>.wr BARO.STATUS_NO_RESTORE 0) with
       baro := { ({ s.dev.baro with
         shadow := [], frz := 0, frzMs := 0, snap := none, pass := none, again := false, dirty := [], due := [],
         held := false, ms := 0, ram := [] } : Baro) with
         frz := 2, frzMs := 100, shadow := [(List.replicate 5 0 ++ [1] ++ List.replicate 250 7)] } } }) tiny,
     (List.replicate 5 0 ++ [1] ++ List.replicate 250 7), 0, by decide +kernel⟩,
   ⟨(fun s => { s with
     dev := { (s.dev) with
       baro := { s.dev.baro with
         shadow := [], frz := 0, frzMs := 0, snap := none, pass := none, again := false, dirty := [], due := [],
         held := false, ms := 0, ram := [] } } }) tiny, by decide +kernel⟩,
   ⟨(fun s => { s with
     dev := { (s.dev) with
       baro := { s.dev.baro with
         shadow := [], frz := 0, frzMs := 0, snap := none, pass := none, again := false, dirty := [], due := [],
         held := false, ms := 0, ram := [] }, claims := { s.dev.claims with res := [⟨1, 0, 5, 3⟩] }, wiping := [] } })
     tiny, ⟨.regPort, 5, false, true⟩, 0x80030004#32, by decide +kernel⟩,
   ⟨(fun s => { s with
     dev := { (s.dev) with
       baro := { s.dev.baro with
         shadow := [], frz := 0, frzMs := 0, snap := none, pass := none, again := false, dirty := [], due := [],
         held := false, ms := 0, ram := [] }, claims := { s.dev.claims with res := [] }, wiping := [] } }) tiny,
     ⟨.regPort, 5, false, true⟩, 0x80030004#32, by decide +kernel⟩,
   ⟨(fun s => { s with
     dev := { (s.dev) with
       baro := { s.dev.baro with
         shadow := [], frz := 0, frzMs := 0, snap := none, pass := none, again := false, dirty := [], due := [],
         held := false, ms := 0, ram := [] }, wiping := [] } }) tiny, ⟨.regPort, 5, false, true⟩, 0x30004#32, by
     decide +kernel⟩,
   ⟨(fun s => { s with
     dev := { (s.dev) with
       baro := { ({ s.dev.baro with
         shadow := [], frz := 0, frzMs := 0, snap := none, pass := none, again := false, dirty := [], due := [],
         held := false, ms := 0, ram := [] } : Baro) with
         snap := some (2047, 2), ram := Mem.writeBytes [] (256 * 2047) [1, 2, 3] } } }) tiny, 2047, 2, by decide +kernel⟩,
   ⟨(fun s => { s with
     dev := { (s.dev) with
       baro := { s.dev.baro with
         shadow := [], frz := 0, frzMs := 0, snap := none, pass := none, again := false, dirty := [], due := [],
         held := false, ms := 0, ram := [] } } }) tiny, by decide +kernel⟩,
   ⟨default, default, 1, 0, 0, by decide +kernel⟩,
   ⟨((fun (s : State) => { s with
     dev := { (s.dev.wr BARO.CTRL_EN 1) with baro := { s.dev.baro with evs := [(5, 0, 7)] } } }) tiny).dev, 1, by
     decide +kernel⟩,
   ⟨(tiny).dev, by decide +kernel⟩,
   ⟨((fun (s : State) => { s with
     dev := { (s.dev.wr BARO.CTRL_EN 1) with baro := { s.dev.baro with todo := [(0, 5, 9)], wins := [] } } })
     tiny).dev, 0, 5, 9, 0, by decide +kernel⟩⟩

/-- The hypotheses of RecorderMirrorAndRestore are met, clause by clause. -/
theorem test_hyps_RecorderMirrorAndRestore :
    (∃ (s : State) (a : Acc) (v : BitVec 32), s.settled = true ∧ s.dev.ready 0x1D = true ∧ a.privOk = true
      ∧ bitsAt v.toNat 31 1 = 1 ∧ 1 ≤ bitsAt v.toNat 0 16 ∧ (s.dev.on BARO.STATUS_RESTORED = false
      ∨ s.dev.on BARO.CTRL_MIRROR_EN = false)) ∧
    (∃ (s : State) (a : Acc) (v : BitVec 32), s.settled = true ∧ s.dev.ready 0x1D = true ∧ a.privOk = true
      ∧ bitsAt v.toNat 31 1 = 1 ∧ 1 ≤ bitsAt v.toNat 0 16 ∧ s.dev.on BARO.STATUS_RESTORED = true
      ∧ s.dev.on BARO.CTRL_MIRROR_EN = true ∧ s.dev.baro.pass = none ∧ s.dev.baro.dirty = []) ∧
    (∃ (s : State) (a : Acc) (v : BitVec 32) (i : Nat) (r : List Nat), s.settled = true ∧ s.dev.ready 0x1D = true
      ∧ a.privOk = true ∧ bitsAt v.toNat 31 1 = 1 ∧ 1 ≤ bitsAt v.toNat 0 16 ∧ s.dev.on BARO.STATUS_RESTORED = true
      ∧ s.dev.on BARO.CTRL_MIRROR_EN = true ∧ s.dev.baro.pass = none ∧ s.dev.baro.dirty = i :: r
      ∧ (s.dev.nv.wait = [] ∨ s.dev.nv.closed = true)) ∧
    (∃ (s : State) (a : Acc) (v : BitVec 32) (p : BPass), s.settled = true ∧ s.dev.ready 0x1D = true
      ∧ a.privOk = true ∧ bitsAt v.toNat 31 1 = 1 ∧ 1 ≤ bitsAt v.toNat 0 16 ∧ s.dev.on BARO.STATUS_RESTORED = true
      ∧ s.dev.on BARO.CTRL_MIRROR_EN = true ∧ s.dev.baro.pass = some p) ∧
    (∃ (s : State) (a : Acc) (v : BitVec 32), s.settled = true ∧ s.dev.ready 0x1D = true ∧ a.privOk = true
      ∧ bitsAt v.toNat 31 1 = 0 ∧ 1 ≤ bitsAt v.toNat 0 16) ∧
    (∃ (s : State), s.settled = true ∧ 1000 * s.dev.rd BARO.MIRROR_PERIOD ≤ s.dev.baro.ms
      ∧ (s.dev.on BARO.STATUS_RESTORED = false ∨ s.dev.on BARO.CTRL_MIRROR_EN = false)) ∧
    (∃ (s : State), s.settled = true ∧ 1000 * s.dev.rd BARO.MIRROR_PERIOD ≤ s.dev.baro.ms
      ∧ s.dev.on BARO.STATUS_RESTORED = true ∧ s.dev.on BARO.CTRL_MIRROR_EN = true
      ∧ s.dev.baro.pass = none ∧ s.dev.baro.dirty = []) ∧
    (∃ (s : State) (i : Nat) (r : List Nat), s.settled = true ∧ 1000 * s.dev.rd BARO.MIRROR_PERIOD ≤ s.dev.baro.ms
      ∧ s.dev.on BARO.STATUS_RESTORED = true ∧ s.dev.on BARO.CTRL_MIRROR_EN = true
      ∧ s.dev.baro.pass = none ∧ s.dev.baro.dirty = i :: r ∧ (s.dev.nv.wait = [] ∨ s.dev.nv.closed = true)) ∧
    (∃ (s : State) (p : BPass), s.settled = true ∧ 1000 * s.dev.rd BARO.MIRROR_PERIOD ≤ s.dev.baro.ms
      ∧ s.dev.on BARO.STATUS_RESTORED = true ∧ s.dev.on BARO.CTRL_MIRROR_EN = true ∧ s.dev.baro.pass = some p) ∧
    (∃ (s : State), s.settled = true ∧ s.dev.baro.ms < 1000 * s.dev.rd BARO.MIRROR_PERIOD) ∧
    (∃ (s : State) (p : BPass), s.settled = true ∧ s.dev.baro.pass = some p ∧ p.slot = none
      ∧ s.dev.baro.again = false) ∧
    (∃ (s : State) (p : BPass), s.settled = true ∧ s.dev.baro.pass = some p ∧ p.slot = none
      ∧ s.dev.baro.again = true ∧ (s.dev.on BARO.STATUS_RESTORED = false ∨ s.dev.on BARO.CTRL_MIRROR_EN = false)) ∧
    (∃ (s : State) (p : BPass), s.settled = true ∧ s.dev.baro.pass = some p ∧ p.slot = none
      ∧ s.dev.baro.again = true ∧ s.dev.on BARO.STATUS_RESTORED = true ∧ s.dev.on BARO.CTRL_MIRROR_EN = true
      ∧ s.dev.baro.dirty = []) ∧
    (∃ (s : State) (p : BPass) (i : Nat) (r : List Nat), s.settled = true ∧ s.dev.baro.pass = some p
      ∧ p.slot = none ∧ s.dev.baro.again = true ∧ s.dev.on BARO.STATUS_RESTORED = true
      ∧ s.dev.on BARO.CTRL_MIRROR_EN = true ∧ s.dev.baro.dirty = i :: r ∧ (s.dev.nv.wait = []
      ∨ s.dev.nv.closed = true)) ∧
    (∃ (s : State) (p : BPass), s.settled = true ∧ (s.dev.baro.pass = none ∨ (s.dev.baro.pass = some p
      ∧ p.slot.isSome = true))) ∧
    (∃ (s : State) (x : BitVec 2) (w : BitVec 512) (q : NvReq) (l : List NvReq) (p : BPass) (i : Nat), s.settled =
      true ∧ s.dev.nv.out = q :: l ∧ q.src = .mirror ∧ s.dev.baro.pass = some p ∧ p.slot = some i ∧ 2 ≤ p.left) ∧
    (∃ (s : State) (x : BitVec 2) (w : BitVec 512) (q : NvReq) (l : List NvReq) (p : BPass) (i : Nat), s.settled =
      true ∧ s.dev.nv.out = q :: l ∧ q.src = .mirror ∧ s.dev.baro.pass = some p ∧ p.slot = some i
      ∧ p.left = 1 ∧ (p.stop = true ∨ s.dev.baro.dirty.find? (fun k => decide (i + 1 ≤ k)) = none)) ∧
    (∃ (s : State) (a : Acc) (v : BitVec 32), s.settled = true ∧ s.dev.ready 0x1D = true ∧ a.sec = true
      ∧ bitsAt v.toNat 31 1 = 1 ∧ s.dev.on BARO.STATUS_RESTORED = false ∧ s.dev.on BARO.STATUS_NO_RESTORE = false
      ∧ (s.dev.baro.shadow = [] ∨ s.dev.baro.frz ≠ 0 ∨ s.dev.baro.snap.isSome = true)) ∧
    (∃ (s : State) (a : Acc) (v : BitVec 32), s.settled = true ∧ s.dev.ready 0x1D = true ∧ a.sec = true
      ∧ bitsAt v.toNat 31 1 = 1 ∧ (s.dev.on BARO.STATUS_RESTORED = true ∨ s.dev.on BARO.STATUS_NO_RESTORE = true)) ∧
    (∃ (s : State) (a : Acc) (v : BitVec 32), s.settled = true ∧ s.dev.ready 0x1D = true ∧ a.sec = true
      ∧ bitsAt v.toNat 31 1 = 0) ∧
    (∃ (s : State), s.settled = true ∧ (s.dev.wiping.contains 0x1D = false ∨ s.dev.wipeBad.contains 0x1D = true)
      ∧ s.dev.on BARO.STATUS_RESTORED = false ∧ s.dev.on BARO.STATUS_NO_RESTORE = false
      ∧ (s.dev.baro.shadow = [] ∨ s.dev.baro.frz ≠ 0 ∨ s.dev.baro.snap.isSome = true)) ∧
    (∃ (s : State), s.settled = true ∧ ((s.dev.wiping.contains 0x1D = true ∧ s.dev.wipeBad.contains 0x1D = false)
      ∨ s.dev.on BARO.STATUS_RESTORED = true ∨ s.dev.on BARO.STATUS_NO_RESTORE = true)) ∧
    (∃ (s : State) (b : List Nat) (i : Nat), s.settled = true ∧ s.dev.baro.held = false ∧ s.dev.baro.due = [b]
      ∧ 2 ≤ b.length ∧ 2 ≤ b.getD 1 0 % 8 ∧ s.dev.on BARO.STATUS_RESTORED = true
      ∧ s.dev.on BARO.CTRL_MIRROR_EN = true ∧ s.dev.baroHeld = false ∧ s.dev.baro.place (b.getD 1 0 % 8) = some i
      ∧ s.dev.baro.pass = none ∧ s.dev.baro.dirty = [] ∧ (s.dev.nv.wait = [] ∨ s.dev.nv.closed = true)) ∧
    (∃ (s : State) (b : List Nat) (i : Nat) (p : BPass), s.settled = true ∧ s.dev.baro.held = false
      ∧ s.dev.baro.due = [b] ∧ 2 ≤ b.length ∧ 2 ≤ b.getD 1 0 % 8 ∧ s.dev.on BARO.STATUS_RESTORED = true
      ∧ s.dev.on BARO.CTRL_MIRROR_EN = true ∧ s.dev.baroHeld = false ∧ s.dev.baro.place (b.getD 1 0 % 8) = some i
      ∧ s.dev.baro.pass = some p) ∧
    (∃ (s : State) (b : List Nat), s.settled = true ∧ s.dev.baro.held = false ∧ s.dev.baro.due = [b]
      ∧ 2 ≤ b.length ∧ 2 ≤ b.getD 1 0 % 8 ∧ s.dev.on BARO.STATUS_RESTORED = true
      ∧ s.dev.on BARO.CTRL_MIRROR_EN = true ∧ s.dev.baroHeld = true ∧ s.dev.baro.shadow.length < 64
      ∧ s.dev.baro.pass = none ∧ s.dev.baro.dirty = []) ∧
    (∃ (s : State) (b : List Nat) (p : BPass), s.settled = true ∧ s.dev.baro.held = false ∧ s.dev.baro.due = [b]
      ∧ 2 ≤ b.length ∧ 2 ≤ b.getD 1 0 % 8 ∧ s.dev.on BARO.STATUS_RESTORED = true
      ∧ s.dev.on BARO.CTRL_MIRROR_EN = true ∧ s.dev.baroHeld = true ∧ s.dev.baro.shadow.length < 64
      ∧ s.dev.baro.pass = some p) :=
  ⟨⟨(fun s => { s with
     dev := { (s.dev.wr BARO.STATUS_RESTORED 0) with
       baro := { s.dev.baro with
         shadow := [], frz := 0, frzMs := 0, snap := none, pass := none, again := false, dirty := [], due := [],
         held := false, ms := 0, ram := [] }, wiping := [] } }) tiny, ⟨.regPort, 5, false, true⟩, 0x80000010#32, by
     decide +kernel⟩,
   ⟨(fun s => { s with
     dev := { (s.dev.wr BARO.STATUS_RESTORED 1 |>.wr BARO.STATUS_NO_RESTORE 0) with
       baro := { s.dev.baro with
         shadow := [], frz := 0, frzMs := 0, snap := none, pass := none, again := false, dirty := [], due := [],
         held := false, ms := 0, ram := [] }, wiping := [] } }) tiny, ⟨.regPort, 5, false, true⟩, 0x80000010#32, by
     decide +kernel⟩,
   ⟨(fun s => { s with
     dev := { (s.dev.wr BARO.STATUS_RESTORED 1 |>.wr BARO.STATUS_NO_RESTORE 0) with
       baro := { ({ s.dev.baro with
         shadow := [], frz := 0, frzMs := 0, snap := none, pass := none, again := false, dirty := [], due := [],
         held := false, ms := 0, ram := [] } : Baro) with dirty := [1], ram := Mem.writeBytes [] 260 [1] }, nv := {},
       wiping := [] } }) tiny, ⟨.regPort, 5, false, true⟩, 0x80000010#32, 1, [], by decide +kernel⟩,
   ⟨(fun s => { s with
     dev := { (s.dev.wr BARO.STATUS_RESTORED 1 |>.wr BARO.STATUS_NO_RESTORE 0) with
       baro := { ({ s.dev.baro with
         shadow := [], frz := 0, frzMs := 0, snap := none, pass := none, again := false, dirty := [], due := [],
         held := false, ms := 0, ram := [] } : Baro) with pass := some ⟨none, 0, true, false, false⟩ }, wiping := [] }
       }) tiny, ⟨.regPort, 5, false, true⟩, 0x80000010#32, ⟨none, 0, true, false, false⟩, by decide +kernel⟩,
   ⟨(fun s => { s with
     dev := { (s.dev.wr BARO.STATUS_RESTORED 1 |>.wr BARO.STATUS_NO_RESTORE 0) with
       baro := { s.dev.baro with
         shadow := [], frz := 0, frzMs := 0, snap := none, pass := none, again := false, dirty := [], due := [],
         held := false, ms := 0, ram := [] }, wiping := [] } }) tiny, ⟨.regPort, 5, false, true⟩, 16#32, by decide +kernel⟩,
   ⟨(fun s => { s with
     dev := { (s.dev.wr BARO.STATUS_RESTORED 0) with
       baro := { ({ s.dev.baro with
         shadow := [], frz := 0, frzMs := 0, snap := none, pass := none, again := false, dirty := [], due := [],
         held := false, ms := 0, ram := [] } : Baro) with ms := 9999999 } } }) tiny, by decide +kernel⟩,
   ⟨(fun s => { s with
     dev := { (s.dev.wr BARO.STATUS_RESTORED 1 |>.wr BARO.STATUS_NO_RESTORE 0) with
       baro := { ({ s.dev.baro with
         shadow := [], frz := 0, frzMs := 0, snap := none, pass := none, again := false, dirty := [], due := [],
         held := false, ms := 0, ram := [] } : Baro) with ms := 9999999 } } }) tiny, by decide +kernel⟩,
   ⟨(fun s => { s with
     dev := { (s.dev.wr BARO.STATUS_RESTORED 1 |>.wr BARO.STATUS_NO_RESTORE 0) with
       baro := { ({ s.dev.baro with
         shadow := [], frz := 0, frzMs := 0, snap := none, pass := none, again := false, dirty := [], due := [],
         held := false, ms := 0, ram := [] } : Baro) with
         ms := 9999999, dirty := [1], ram := Mem.writeBytes [] 260 [1] }, nv := {} } }) tiny, 1, [], by decide +kernel⟩,
   ⟨(fun s => { s with
     dev := { (s.dev.wr BARO.STATUS_RESTORED 1 |>.wr BARO.STATUS_NO_RESTORE 0) with
       baro := { ({ s.dev.baro with
         shadow := [], frz := 0, frzMs := 0, snap := none, pass := none, again := false, dirty := [], due := [],
         held := false, ms := 0, ram := [] } : Baro) with ms := 9999999, pass := some ⟨none, 0, true, false, false⟩ }
         } }) tiny, ⟨none, 0, true, false, false⟩, by decide +kernel⟩,
   ⟨(fun s => { s with
     dev := { (s.dev) with
       baro := { ({ s.dev.baro with
         shadow := [], frz := 0, frzMs := 0, snap := none, pass := none, again := false, dirty := [], due := [],
         held := false, ms := 0, ram := [] } : Baro) with ms := 3 } } }) tiny, by decide +kernel⟩,
   ⟨(fun s => { s with
     dev := { (s.dev) with
       baro := { ({ s.dev.baro with
         shadow := [], frz := 0, frzMs := 0, snap := none, pass := none, again := false, dirty := [], due := [],
         held := false, ms := 0, ram := [] } : Baro) with pass := some ⟨none, 0, true, false, false⟩ } } }) tiny,
     ⟨none, 0, true, false, false⟩, by decide +kernel⟩,
   ⟨(fun s => { s with
     dev := { (s.dev.wr BARO.STATUS_RESTORED 0) with
       baro := { ({ s.dev.baro with
         shadow := [], frz := 0, frzMs := 0, snap := none, pass := none, again := false, dirty := [], due := [],
         held := false, ms := 0, ram := [] } : Baro) with again := true, pass := some ⟨none, 0, true, false, false⟩ }
         } }) tiny, ⟨none, 0, true, false, false⟩, by decide +kernel⟩,
   ⟨(fun s => { s with
     dev := { (s.dev.wr BARO.STATUS_RESTORED 1 |>.wr BARO.STATUS_NO_RESTORE 0) with
       baro := { ({ s.dev.baro with
         shadow := [], frz := 0, frzMs := 0, snap := none, pass := none, again := false, dirty := [], due := [],
         held := false, ms := 0, ram := [] } : Baro) with again := true, pass := some ⟨none, 0, true, false, false⟩ }
         } }) tiny, ⟨none, 0, true, false, false⟩, by decide +kernel⟩,
   ⟨(fun s => { s with
     dev := { (s.dev.wr BARO.STATUS_RESTORED 1 |>.wr BARO.STATUS_NO_RESTORE 0) with
       baro := { ({ s.dev.baro with
         shadow := [], frz := 0, frzMs := 0, snap := none, pass := none, again := false, dirty := [], due := [],
         held := false, ms := 0, ram := [] } : Baro) with
         again := true, pass := some ⟨none, 0, true, false, false⟩, dirty := [1], ram := Mem.writeBytes [] 260 [1] },
       nv := {} } }) tiny, ⟨none, 0, true, false, false⟩, 1, [], by decide +kernel⟩,
   ⟨(fun s => { s with
     dev := { (s.dev) with
       baro := { s.dev.baro with
         shadow := [], frz := 0, frzMs := 0, snap := none, pass := none, again := false, dirty := [], due := [],
         held := false, ms := 0, ram := [] } } }) tiny, ⟨none, 0, true, false, false⟩, by decide +kernel⟩,
   ⟨(fun s => { s with
     dev := { (s.dev) with
       baro := { ({ s.dev.baro with
         shadow := [], frz := 0, frzMs := 0, snap := none, pass := none, again := false, dirty := [], due := [],
         held := false, ms := 0, ram := [] } : Baro) with
         pass := some ⟨some 1, 4, true, false, false⟩, dirty := [1] }, nv := { out := [⟨.mirror, true, 8192, []⟩] } }
       }) tiny, 0#2, 0#512, ⟨.mirror, true, 8192, []⟩, [], ⟨some 1, 4, true, false, false⟩, 1, by decide +kernel⟩,
   ⟨(fun s => { s with
     dev := { (s.dev) with
       baro := { ({ s.dev.baro with
         shadow := [], frz := 0, frzMs := 0, snap := none, pass := none, again := false, dirty := [], due := [],
         held := false, ms := 0, ram := [] } : Baro) with
         pass := some ⟨some 1, 1, true, false, false⟩, dirty := [1] }, nv := { out := [⟨.mirror, true, 8192, []⟩] } }
       }) tiny, 0#2, 0#512, ⟨.mirror, true, 8192, []⟩, [], ⟨some 1, 1, true, false, false⟩, 1, by decide +kernel⟩,
   ⟨(fun s => { s with
     dev := { (s.dev.wr BARO.STATUS_RESTORED 0 |>.wr BARO.STATUS_NO_RESTORE 0) with
       baro := { s.dev.baro with
         shadow := [], frz := 0, frzMs := 0, snap := none, pass := none, again := false, dirty := [], due := [],
         held := false, ms := 0, ram := [] }, wiping := [] } }) tiny, accWarden, 0x80000000#32, by decide +kernel⟩,
   ⟨(fun s => { s with
     dev := { (s.dev.wr BARO.STATUS_RESTORED 1 |>.wr BARO.STATUS_NO_RESTORE 0) with
       baro := { s.dev.baro with
         shadow := [], frz := 0, frzMs := 0, snap := none, pass := none, again := false, dirty := [], due := [],
         held := false, ms := 0, ram := [] }, wiping := [] } }) tiny, accWarden, 0x80000000#32, by decide +kernel⟩,
   ⟨(fun s => { s with
     dev := { (s.dev.wr BARO.STATUS_RESTORED 1 |>.wr BARO.STATUS_NO_RESTORE 0) with
       baro := { s.dev.baro with
         shadow := [], frz := 0, frzMs := 0, snap := none, pass := none, again := false, dirty := [], due := [],
         held := false, ms := 0, ram := [] }, wiping := [] } }) tiny, accWarden, 1#32, by decide +kernel⟩,
   ⟨(fun s => { s with
     dev := { (s.dev.wr BARO.STATUS_RESTORED 0 |>.wr BARO.STATUS_NO_RESTORE 0) with
       baro := { s.dev.baro with
         shadow := [], frz := 0, frzMs := 0, snap := none, pass := none, again := false, dirty := [1], due := [],
         held := false, ms := 0, ram := Mem.writeBytes [] 260 [1] }, wiping := [] } }) tiny, by decide +kernel⟩,
   ⟨(fun s => { s with
     dev := { (s.dev.wr BARO.STATUS_RESTORED 1 |>.wr BARO.STATUS_NO_RESTORE 0) with
       baro := { s.dev.baro with
         shadow := [], frz := 0, frzMs := 0, snap := none, pass := none, again := false, dirty := [], due := [],
         held := false, ms := 0, ram := [] }, wiping := [] } }) tiny, by decide +kernel⟩,
   ⟨(fun s => { s with
     dev := { (s.dev.wr BARO.STATUS_RESTORED 1 |>.wr BARO.STATUS_NO_RESTORE 0 |>.wr BARO.CTRL_MIRROR_EN 1) with
       baro := { ({ s.dev.baro with
         shadow := [], frz := 0, frzMs := 0, snap := none, pass := none, again := false, dirty := [], due := [],
         held := false, ms := 0, ram := [] } : Baro) with due := [([1, 2] ++ List.replicate 246 7)] }, nv := {} } })
     tiny, ([1, 2] ++ List.replicate 246 7), 0, by decide +kernel⟩,
   ⟨(fun s => { s with
     dev := { (s.dev.wr BARO.STATUS_RESTORED 1 |>.wr BARO.STATUS_NO_RESTORE 0 |>.wr BARO.CTRL_MIRROR_EN 1) with
       baro := { ({ s.dev.baro with
         shadow := [], frz := 0, frzMs := 0, snap := none, pass := none, again := false, dirty := [], due := [],
         held := false, ms := 0, ram := [] } : Baro) with
         due := [([1, 2] ++ List.replicate 246 7)], pass := some ⟨none, 0, true, false, false⟩ } } }) tiny, ([1, 2] ++
     List.replicate 246 7), 0, ⟨none, 0, true, false, false⟩, by decide +kernel⟩,
   ⟨(fun s => { s with
     dev := { (s.dev.wr BARO.STATUS_RESTORED 1 |>.wr BARO.STATUS_NO_RESTORE 0 |>.wr BARO.CTRL_MIRROR_EN 1) with
       baro := { ({ s.dev.baro with
         shadow := [], frz := 0, frzMs := 0, snap := none, pass := none, again := false, dirty := [], due := [],
         held := false, ms := 0, ram := [] } : Baro) with due := [([1, 2] ++ List.replicate 246 7)], frz := 1 } } })
     tiny, ([1, 2] ++ List.replicate 246 7), by decide +kernel⟩,
   ⟨(fun s => { s with
     dev := { (s.dev.wr BARO.STATUS_RESTORED 1 |>.wr BARO.STATUS_NO_RESTORE 0 |>.wr BARO.CTRL_MIRROR_EN 1) with
       baro := { ({ s.dev.baro with
         shadow := [], frz := 0, frzMs := 0, snap := none, pass := none, again := false, dirty := [], due := [],
         held := false, ms := 0, ram := [] } : Baro) with
         due := [([1, 2] ++ List.replicate 246 7)], frz := 1, pass := some ⟨none, 0, true, false, false⟩ } } }) tiny,
     ([1, 2] ++ List.replicate 246 7), ⟨none, 0, true, false, false⟩, by decide +kernel⟩⟩

/-- The hypotheses of ClaimsReleasesAndTimers are met, clause by clause. -/
theorem test_hyps_ClaimsReleasesAndTimers :
    (∃ (s : State) (a : Acc) (v : BitVec 32), s.settled = true ∧ s.dev.ready 0x05 = true ∧ a.privOk = true
      ∧ bitsAt v.toNat 30 2 = 1 ∧ featureOk (bitsAt v.toNat 0 5) (bitsAt v.toNat 8 4) = true
      ∧ s.dev.owns a (bitsAt v.toNat 0 5) = false ∧ (s.dev.owner (bitsAt v.toNat 0 5)).kind = 0
      ∧ ((bitsAt v.toNat 0 5 = 0 → s.dev.capWiping = false))) ∧
    (∃ (s : State) (a : Acc) (v : BitVec 32), s.settled = true ∧ s.dev.ready 0x05 = true ∧ a.privOk = true
      ∧ bitsAt v.toNat 30 2 = 1 ∧ featureOk (bitsAt v.toNat 0 5) (bitsAt v.toNat 8 4) = true
      ∧ s.dev.owns a (bitsAt v.toNat 0 5) = true ∧ s.dev.featureRuns (bitsAt v.toNat 0 5) = false) ∧
    (∃ (s : State) (a : Acc) (v : BitVec 32), s.settled = true ∧ s.dev.ready 0x05 = true ∧ a.privOk = true
      ∧ bitsAt v.toNat 30 2 = 1 ∧ featureOk (bitsAt v.toNat 0 5) (bitsAt v.toNat 8 4) = true
      ∧ s.dev.owns a (bitsAt v.toNat 0 5) = true ∧ s.dev.featureRuns (bitsAt v.toNat 0 5) = true) ∧
    (∃ (s : State) (a : Acc) (v : BitVec 32), s.settled = true ∧ s.dev.ready 0x05 = true ∧ a.privOk = true
      ∧ bitsAt v.toNat 30 2 = 1 ∧ featureOk (bitsAt v.toNat 0 5) (bitsAt v.toNat 8 4) = true
      ∧ s.dev.owns a (bitsAt v.toNat 0 5) = true ∧ s.dev.featureRuns (bitsAt v.toNat 0 5) = true) ∧
    (∃ (s : State) (a : Acc) (v : BitVec 32), s.settled = true ∧ s.dev.ready 0x05 = true ∧ a.privOk = true
      ∧ bitsAt v.toNat 30 2 = 1 ∧ featureOk (bitsAt v.toNat 0 5) (bitsAt v.toNat 8 4) = true
      ∧ s.dev.owns a (bitsAt v.toNat 0 5) = false ∧ (s.dev.owner (bitsAt v.toNat 0 5)).kind ≠ 0) ∧
    (∃ (s : State) (a : Acc) (v : BitVec 32), s.settled = true ∧ s.dev.ready 0x05 = true ∧ a.privOk = true
      ∧ bitsAt v.toNat 30 2 = 1 ∧ featureOk (bitsAt v.toNat 0 5) (bitsAt v.toNat 8 4) = true
      ∧ (s.dev.owner (bitsAt v.toNat 0 5)).kind = 0 ∧ bitsAt v.toNat 0 5 = 0 ∧ s.dev.capWiping = true) ∧
    (∃ (s : State) (a : Acc) (v : BitVec 32), s.settled = true ∧ s.dev.ready 0x05 = true ∧ a.privOk = true
      ∧ bitsAt v.toNat 30 2 = 1 ∧ featureOk (bitsAt v.toNat 0 5) (bitsAt v.toNat 8 4) = true
      ∧ (s.dev.owner (bitsAt v.toNat 0 5)).kind = 0 ∧ bitsAt v.toNat 0 5 = 0 ∧ s.dev.capWiping = true) ∧
    (∃ (s : State) (a : Acc) (v : BitVec 32), s.settled = true ∧ s.dev.ready 0x05 = true
      ∧ a.privOk = true ∧ (featureOk (bitsAt v.toNat 0 5) (bitsAt v.toNat 8 4) = false ∨ bitsAt v.toNat 30 2 = 0
      ∨ bitsAt v.toNat 30 2 = 3)) ∧
    (∃ (s : State) (a : Acc) (v : BitVec 32), s.settled = true ∧ s.dev.ready 0x05 = true
      ∧ a.privOk = true ∧ (featureOk (bitsAt v.toNat 0 5) (bitsAt v.toNat 8 4) = false ∨ bitsAt v.toNat 30 2 = 0
      ∨ bitsAt v.toNat 30 2 = 3)) ∧
    (∃ (s : State) (a : Acc) (v : BitVec 32), s.settled = true ∧ s.dev.ready 0x05 = true ∧ a.privOk = true
      ∧ bitsAt v.toNat 30 2 = 2 ∧ featureOk (bitsAt v.toNat 0 5) (bitsAt v.toNat 8 4) = true
      ∧ s.dev.owns a (bitsAt v.toNat 0 5) = true ∧ 1 ≤ bitsAt v.toNat 0 5 ∧ s.dev.tuneUses (bitsAt v.toNat 0 5) =
      false) ∧
    (∃ (s : State) (a : Acc) (v : BitVec 32), s.settled = true ∧ s.dev.ready 0x05 = true ∧ a.privOk = true
      ∧ bitsAt v.toNat 30 2 = 2 ∧ featureOk (bitsAt v.toNat 0 5) (bitsAt v.toNat 8 4) = true
      ∧ s.dev.owns a (bitsAt v.toNat 0 5) = true ∧ 1 ≤ bitsAt v.toNat 0 5 ∧ bitsAt v.toNat 0 5 ≤ 9
      ∧ s.dev.tuneUses (bitsAt v.toNat 0 5) = true) ∧
    (∃ (s : State) (a : Acc) (v : BitVec 32), s.settled = true ∧ s.dev.ready 0x05 = true ∧ a.privOk = true
      ∧ bitsAt v.toNat 30 2 = 2 ∧ featureOk (bitsAt v.toNat 0 5) (bitsAt v.toNat 8 4) = true ∧ s.dev.owns a 0 = true
      ∧ bitsAt v.toNat 0 5 = 0 ∧ (s.dev.owner 0).feat = 1 ∧ s.dev.tune.running = true) ∧
    (∃ (s : State) (a : Acc) (v : BitVec 32), s.settled = true ∧ s.dev.ready 0x05 = true ∧ a.privOk = true
      ∧ bitsAt v.toNat 30 2 = 2 ∧ featureOk (bitsAt v.toNat 0 5) (bitsAt v.toNat 8 4) = true ∧ s.dev.owns a 0 = true
      ∧ bitsAt v.toNat 0 5 = 0 ∧ (s.dev.owner 0).feat = 2 ∧ s.dev.wave.st = .armed) ∧
    (∃ (s : State) (a : Acc) (v : BitVec 32), s.settled = true ∧ s.dev.ready 0x05 = true ∧ a.privOk = true
      ∧ bitsAt v.toNat 30 2 = 2 ∧ featureOk (bitsAt v.toNat 0 5) (bitsAt v.toNat 8 4) = true ∧ s.dev.owns a 0 = true
      ∧ bitsAt v.toNat 0 5 = 0 ∧ (s.dev.owner 0).feat = 3 ∧ s.dev.baro.shadow = []) ∧
    (∃ (s : State) (a : Acc) (v : BitVec 32), s.settled = true ∧ s.dev.ready 0x05 = true ∧ a.privOk = true
      ∧ bitsAt v.toNat 30 2 = 2 ∧ featureOk (bitsAt v.toNat 0 5) (bitsAt v.toNat 8 4) = true ∧ s.dev.owns a 0 = true
      ∧ bitsAt v.toNat 0 5 = 0 ∧ s.dev.tuneUses 0 = false ∧ s.dev.wave.st ≠ .armed ∧ s.dev.baro.snap = none) ∧
    (∃ (s : State) (a : Acc) (v : BitVec 32), s.settled = true ∧ s.dev.ready 0x05 = true ∧ a.privOk = true
      ∧ bitsAt v.toNat 30 2 = 2 ∧ featureOk (bitsAt v.toNat 0 5) (bitsAt v.toNat 8 4) = true
      ∧ s.dev.owns a (bitsAt v.toNat 0 5) = false) ∧
    (∃ (s : State), s.settled = true) ∧
    (∃ (s : State) (k : Nat) (a : Acc) (v : BitVec 32), s.settled = true ∧ k < 16 ∧ s.dev.ready 0x05 = true
      ∧ a.privOk = true ∧ s.dev.owns a (10 + k) = true ∧ 1 ≤ bitsAt v.toNat 0 24) ∧
    (∃ (s : State) (k : Nat) (a : Acc) (v : BitVec 32), s.settled = true ∧ k < 16 ∧ s.dev.ready 0x05 = true
      ∧ a.privOk = true ∧ s.dev.owns a (10 + k) = true ∧ bitsAt v.toNat 0 24 = 0) ∧
    (∃ (s : State) (k : Nat) (a : Acc) (v : BitVec 32), s.settled = true ∧ k < 16 ∧ s.dev.ready 0x05 = true
      ∧ a.privOk = true ∧ s.dev.owns a (10 + k) = false) ∧
    (∃ (s : State) (k : Nat) (a : Acc) (v : BitVec 32), s.settled = true ∧ 16 ≤ k) ∧
    (∃ (s : State) (k : Nat), s.settled = true ∧ k < 16 ∧ s.dev.on CLAIM.TMR_RUN 0 k = true
      ∧ s.dev.rd CLAIM.TMR_REM_REMAIN 0 k = 0) ∧
    (∃ (s : State) (k : Nat), s.settled = true ∧ (16 ≤ k ∨ s.dev.on CLAIM.TMR_RUN 0 k = false
      ∨ s.dev.rd CLAIM.TMR_REM_REMAIN 0 k ≠ 0)) :=
  ⟨⟨(fun s => { s with
     dev := { (s.dev) with claims := { s.dev.claims with res := List.replicate 26 {} }, wiping := [] } }) tiny,
     ⟨.regPort, 5, false, true⟩, 0x40000103#32, by decide +kernel⟩,
   ⟨(fun s => { s with
     dev := { (s.dev) with
       claims := { s.dev.claims with
         busySent := [], notSent := [], wiping := false,
         res := List.replicate 26 { kind := 1, path := 0, mid := 5, feat := 1 } }, wiping := [],
       tune := { s.dev.tune with st := .done } } }) tiny, ⟨.regPort, 5, false, true⟩, 0x40000200#32, by decide +kernel⟩,
   ⟨(fun s => { s with
     dev := { (s.dev) with
       claims := { s.dev.claims with
         busySent := [], notSent := [], wiping := false,
         res := List.replicate 26 { kind := 1, path := 0, mid := 5, feat := 1 } }, wiping := [],
       tune := { s.dev.tune with st := .capturing } } }) tiny, ⟨.regPort, 5, false, true⟩, 0x40000100#32, by decide +kernel⟩,
   ⟨(fun s => { s with
     dev := { (s.dev.wr CLAIM.TMR_RUN 1 0 3) with
       claims := { s.dev.claims with
         busySent := [], notSent := [], wiping := false,
         res := List.replicate 26 { kind := 1, path := 0, mid := 5, feat := 8 } }, wiping := [] } }) tiny, ⟨.regPort,
     5, false, true⟩, 0x4000080D#32, by decide +kernel⟩,
   ⟨(fun s => { s with
     dev := { (s.dev) with
       claims := { s.dev.claims with
         busySent := [], res := List.replicate 26 { kind := 2, path := 0, mid := 0, feat := 4 } }, wiping := [] } })
     tiny, ⟨.regPort, 5, false, true⟩, 0x40000103#32, by decide +kernel⟩,
   ⟨(fun s => { s with
     dev := { (s.dev) with
       claims := { s.dev.claims with wiping := true, res := List.replicate 26 {} }, wiping := [] } }) tiny, ⟨.regPort,
     5, false, true⟩, 0x40000100#32, by decide +kernel⟩,
   ⟨(fun s => { s with
     dev := { (s.dev) with
       claims := { s.dev.claims with wiping := false, res := List.replicate 26 {} }, wiping := [0x1E], wipeBad := [] }
       }) tiny, ⟨.regPort, 5, false, true⟩, 0x40000200#32, by decide +kernel⟩,
   ⟨(fun s => { s with dev := { (s.dev) with wiping := [] } }) tiny, ⟨.regPort, 5, false, true⟩, 0x40000F03#32, by
     decide +kernel⟩,
   ⟨(fun s => { s with dev := { (s.dev) with wiping := [] } }) tiny, ⟨.regPort, 5, false, true⟩, 0xC0000103#32, by
     decide +kernel⟩,
   ⟨(fun s => { s with
     dev := { (s.dev) with
       claims := { s.dev.claims with
         busySent := [], notSent := [], wiping := false,
         res := List.replicate 26 { kind := 1, path := 0, mid := 5, feat := 1 } }, wiping := [],
       tune := { s.dev.tune with st := .idle } } }) tiny, ⟨.regPort, 5, false, true⟩, 0x80000103#32, by decide +kernel⟩,
   ⟨(fun s => { s with
     dev := { (s.dev.wr TUNE.CTRL_WAVE 1) with
       claims := { s.dev.claims with
         busySent := [], notSent := [], wiping := false,
         res := List.replicate 26 { kind := 1, path := 0, mid := 5, feat := 1 } }, wiping := [],
       tune := { s.dev.tune with st := .capturing, rail := 1 } } }) tiny, ⟨.regPort, 5, false, true⟩, 0x80000102#32,
     by decide +kernel⟩,
   ⟨(fun s => { s with
     dev := { (s.dev) with
       claims := { s.dev.claims with
         busySent := [], notSent := [], wiping := false,
         res := List.replicate 26 { kind := 1, path := 0, mid := 5, feat := 1 } }, wiping := [],
       tune := { s.dev.tune with st := .settling } } }) tiny, ⟨.regPort, 5, false, true⟩, 0x80000100#32, by decide +kernel⟩,
   ⟨(fun s => { s with
     dev := { (s.dev) with
       claims := { s.dev.claims with
         busySent := [], notSent := [], wiping := false,
         res := List.replicate 26 { kind := 1, path := 0, mid := 5, feat := 2 } }, wiping := [],
       wave := { s.dev.wave with st := .armed } } }) tiny, ⟨.regPort, 5, false, true⟩, 0x80000100#32, by decide +kernel⟩,
   ⟨(fun s => { s with
     dev := { (s.dev) with
       claims := { s.dev.claims with
         busySent := [], notSent := [], wiping := false,
         res := List.replicate 26 { kind := 1, path := 0, mid := 5, feat := 3 } }, wiping := [],
       baro := { s.dev.baro with snap := some (0, 4), shadow := [] } } }) tiny, ⟨.regPort, 5, false, true⟩,
     0x80000100#32, by decide +kernel⟩,
   ⟨(fun s => { s with
     dev := { (s.dev) with
       claims := { s.dev.claims with
         busySent := [], notSent := [], wiping := false,
         res := List.replicate 26 { kind := 1, path := 0, mid := 5, feat := 1 } }, wiping := [],
       tune := { s.dev.tune with st := .idle }, wave := { s.dev.wave with st := .idle },
       baro := { s.dev.baro with snap := none } } }) tiny, ⟨.regPort, 5, false, true⟩, 0x80000100#32, by decide +kernel⟩,
   ⟨(fun s => { s with
     dev := { (s.dev) with claims := { s.dev.claims with notSent := [], res := List.replicate 26 {} }, wiping := [] }
       }) tiny, ⟨.regPort, 5, false, true⟩, 0x80000103#32, by decide +kernel⟩,
   ⟨(fun s => { s with dev := { (s.dev) with claims := { s.dev.claims with wiping := true } } }) tiny, by decide +kernel⟩,
   ⟨(fun s => { s with
     dev := { (s.dev) with
       claims := { s.dev.claims with
         busySent := [], notSent := [], wiping := false,
         res := List.replicate 26 { kind := 1, path := 0, mid := 5, feat := 8 } }, wiping := [] } }) tiny, 15,
     ⟨.regPort, 5, false, true⟩, 0x80000010#32, by decide +kernel⟩,
   ⟨(fun s => { s with
     dev := { (s.dev) with
       claims := { s.dev.claims with
         busySent := [], notSent := [], wiping := false,
         res := List.replicate 26 { kind := 1, path := 0, mid := 5, feat := 8 } }, wiping := [] } }) tiny, 0,
     ⟨.regPort, 5, false, true⟩, 0x80000000#32, by decide +kernel⟩,
   ⟨(fun s => { s with
     dev := { (s.dev) with claims := { s.dev.claims with notSent := [], res := List.replicate 26 {} }, wiping := [] }
       }) tiny, 3, ⟨.regPort, 5, false, true⟩, 0x80000010#32, by decide +kernel⟩,
   ⟨tiny, 16, ⟨.regPort, 5, false, true⟩, 0x80000010#32, by decide +kernel⟩,
   ⟨(fun s => { s with dev := (s.dev.wr CLAIM.TMR_RUN 1 0 15 |>.wr CLAIM.TMR_REM_REMAIN 0 0 15) }) tiny, 15, by decide +kernel⟩,
   ⟨(fun s => { s with dev := (s.dev.wr CLAIM.TMR_RUN 0 0 3) }) tiny, 3, by decide +kernel⟩⟩

/-- The hypotheses of BreakEndsAPathsClaim are met, clause by clause. -/
theorem test_hyps_BreakEndsAPathsClaim :
    (∃ (s : State) (a : Acc) (v : BitVec 32), s.settled = true ∧ s.dev.ready 0x05 = true ∧ a.sec = true
      ∧ bitsAt v.toNat 31 1 = 1 ∧ (s.dev.owner (bitsAt v.toNat 0 5)).kind = 1 ∧ 1 ≤ bitsAt v.toNat 0 5
      ∧ bitsAt v.toNat 0 5 ≤ 9 ∧ s.dev.tuneUses (bitsAt v.toNat 0 5) = false) ∧
    (∃ (s : State) (a : Acc) (v : BitVec 32), s.settled = true ∧ s.dev.ready 0x05 = true ∧ a.sec = true
      ∧ bitsAt v.toNat 31 1 = 1 ∧ (s.dev.owner (bitsAt v.toNat 0 5)).kind = 1 ∧ 1 ≤ bitsAt v.toNat 0 5
      ∧ bitsAt v.toNat 0 5 ≤ 8 ∧ s.dev.tuneUses (bitsAt v.toNat 0 5) = true) ∧
    (∃ (s : State) (a : Acc) (v : BitVec 32), s.settled = true ∧ s.dev.ready 0x05 = true ∧ a.sec = true
      ∧ bitsAt v.toNat 31 1 = 1 ∧ (s.dev.owner (bitsAt v.toNat 0 5)).kind = 1 ∧ bitsAt v.toNat 0 5 = 0
      ∧ s.dev.tuneUses 0 = true) ∧
    (∃ (s : State) (a : Acc) (v : BitVec 32), s.settled = true ∧ s.dev.ready 0x05 = true ∧ a.sec = true
      ∧ bitsAt v.toNat 31 1 = 1 ∧ (s.dev.owner (bitsAt v.toNat 0 5)).kind = 1 ∧ bitsAt v.toNat 0 5 = 0
      ∧ s.dev.tuneUses 0 = false ∧ (s.dev.owner 0).feat ≠ 2 ∧ (s.dev.owner 0).feat ≠ 3) ∧
    (∃ (s : State) (a : Acc) (v : BitVec 32), s.settled = true ∧ s.dev.ready 0x05 = true ∧ a.sec = true
      ∧ bitsAt v.toNat 31 1 = 1 ∧ (s.dev.owner (bitsAt v.toNat 0 5)).kind = 1 ∧ bitsAt v.toNat 0 5 = 0
      ∧ (s.dev.owner 0).feat = 2) ∧
    (∃ (s : State) (a : Acc) (v : BitVec 32), s.settled = true ∧ s.dev.ready 0x05 = true ∧ a.sec = true
      ∧ bitsAt v.toNat 31 1 = 1 ∧ (s.dev.owner (bitsAt v.toNat 0 5)).kind = 1 ∧ bitsAt v.toNat 0 5 = 0
      ∧ (s.dev.owner 0).feat = 3 ∧ s.dev.baro.shadow = []) ∧
    (∃ (s : State) (a : Acc) (v : BitVec 32), s.settled = true ∧ s.dev.ready 0x05 = true ∧ a.sec = true
      ∧ bitsAt v.toNat 31 1 = 1 ∧ (s.dev.owner (bitsAt v.toNat 0 5)).kind = 1 ∧ 10 ≤ bitsAt v.toNat 0 5) ∧
    (∃ (s : State) (a : Acc) (v : BitVec 32), s.settled = true ∧ s.dev.ready 0x05 = true ∧ a.sec = true
      ∧ bitsAt v.toNat 31 1 = 1 ∧ (s.dev.owner (bitsAt v.toNat 0 5)).kind ≠ 1) ∧
    (∃ (s : State) (a : Acc) (v : BitVec 32), s.settled = true ∧ s.dev.ready 0x05 = true ∧ a.sec = false
      ∧ v ≠ 0#32 ∧ bitsAt v.toNat 31 1 = 1 ∧ s.dev.missSent = true) :=
  ⟨⟨(fun s => { s with
     dev := { (s.dev) with
       claims := { s.dev.claims with res := List.replicate 26 { kind := 1, path := 2, mid := 0, feat := 1 } },
       wiping := [], tune := { s.dev.tune with st := .idle } } }) tiny, accWarden, 0x80000003#32, by decide +kernel⟩,
   ⟨(fun s => { s with
     dev := { (s.dev.wr TUNE.CTRL_WAVE 1) with
       claims := { s.dev.claims with res := List.replicate 26 { kind := 1, path := 2, mid := 0, feat := 1 } },
       wiping := [], tune := { s.dev.tune with st := .capturing, rail := 1 } } }) tiny, accWarden, 0x80000002#32, by
     decide +kernel⟩,
   ⟨(fun s => { s with
     dev := { (s.dev) with
       claims := { s.dev.claims with res := List.replicate 26 { kind := 1, path := 2, mid := 0, feat := 1 } },
       wiping := [], tune := { s.dev.tune with st := .settling } } }) tiny, accWarden, 0x80000000#32, by decide +kernel⟩,
   ⟨(fun s => { s with
     dev := { (s.dev) with
       claims := { s.dev.claims with res := List.replicate 26 { kind := 1, path := 2, mid := 0, feat := 1 } },
       wiping := [], tune := { s.dev.tune with st := .done } } }) tiny, accWarden, 0x80000000#32, by decide +kernel⟩,
   ⟨(fun s => { s with
     dev := { (s.dev) with
       claims := { s.dev.claims with res := List.replicate 26 { kind := 1, path := 2, mid := 0, feat := 2 } },
       wiping := [], wave := { s.dev.wave with st := .armed } } }) tiny, accWarden, 0x80000000#32, by decide +kernel⟩,
   ⟨(fun s => { s with
     dev := { (s.dev) with
       claims := { s.dev.claims with res := List.replicate 26 { kind := 1, path := 2, mid := 0, feat := 3 } },
       wiping := [], baro := { s.dev.baro with snap := some (0, 4), shadow := [] },
       capRam := Mem.writeBytes [] 0 [1, 2] } }) tiny, accWarden, 0x80000000#32, by decide +kernel⟩,
   ⟨(fun s => { s with
     dev := { (s.dev.wr CLAIM.TMR_RUN 1 0 15) with
       claims := { s.dev.claims with res := List.replicate 26 { kind := 1, path := 2, mid := 0, feat := 1 } },
       wiping := [] } }) tiny, accWarden, 0x80000019#32, by decide +kernel⟩,
   ⟨(fun s => { s with
     dev := { (s.dev) with
       claims := { s.dev.claims with res := List.replicate 26 { kind := 2, path := 0, mid := 0, feat := 4 } },
       wiping := [] } }) tiny, accWarden, 0x80000003#32, by decide +kernel⟩,
   ⟨(fun s => { s with
     dev := { (s.dev) with
       claims := { s.dev.claims with res := List.replicate 26 { kind := 1, path := 2, mid := 0, feat := 1 } },
       wiping := [], missSent := true } }) tiny, ⟨.regPort, 5, false, true⟩, 0x80000003#32, by decide +kernel⟩⟩

/-- The hypotheses of CommitsTakeNextSeq are met, clause by clause. -/
theorem test_hyps_CommitsTakeNextSeq :
    (∃ (s : State) (b : List Nat) (i : Nat), s.settled = true ∧ s.dev.baro.held = false
      ∧ s.dev.baro.due = [b] ∧ s.dev.baroHeld = false ∧ 2 ≤ b.length ∧ s.dev.baro.place (b.getD 1 0 % 8) = some i) ∧
    (∃ (s : State) (b : List Nat), s.settled = true ∧ s.dev.baro.held = false ∧ s.dev.baro.due = [b]
      ∧ s.dev.baroHeld = true ∧ s.dev.baro.shadow.length < 64) :=
  ⟨⟨(fun s => { s with
     dev := { (s.dev.wr BARO.STATUS_RESTORED 1 |>.wr BARO.NEXT_SEQ_SEQ 4294967295) with
       baro := { ({ s.dev.baro with
         shadow := [], frz := 0, frzMs := 0, snap := none, pass := none, again := false, dirty := [], due := [],
         held := false, ms := 0, ram := [] } : Baro) with due := [([1, 1] ++ List.replicate 246 7)] } } }) tiny, ([1,
     1] ++ List.replicate 246 7), 0, by decide +kernel⟩,
   ⟨(fun s => { s with
     dev := { (s.dev.wr BARO.STATUS_RESTORED 1 |>.wr BARO.NEXT_SEQ_SEQ 4294967295) with
       baro := { ({ s.dev.baro with
         shadow := [], frz := 0, frzMs := 0, snap := none, pass := none, again := false, dirty := [], due := [],
         held := false, ms := 0, ram := [] } : Baro) with frz := 1, due := [([1, 1] ++ List.replicate 246 7)] } } })
     tiny, ([1, 1] ++ List.replicate 246 7), by decide +kernel⟩⟩

end Slice0Tests
end

section
/-!
SUPPORT. The critical record (R52, R325, R326): the end of a command that changes the record in PD_AON, what the NV port does
once it may present a request, the response to the record, and the writes of the registers that hold the reported record.
-/
namespace Sys2Proof.Machine

/-! ### The end of a command that changes the Squall record -/

/-- Between two commands no event, no trigger and no sample waits in the device. -/
theorem State.settled_quiet {s : State} (h : s.settled = true) :
    s.dev.evq = [] ∧ s.dev.evd = [] ∧ s.dev.sqReq = [] ∧ s.dev.smp = [] := by
  simp only [State.settled, Bool.and_eq_true] at h
  exact (quiet_iff s.dev).1 h.1.1

/-- The device as a command between two commands finds it: nothing sent and nothing raised. -/
def Dev.idle (d : Dev) : Dev := { d with out := [], evq := [] }

/-- The state as a command of the whole block between two commands finds it. -/
def State.idle (s : State) : State := { s with dev := s.dev.idle }

theorem actAll_idle {s : State} (hs : s.settled = true) (f : State → State) : s.actAll f = (f s.idle).settle := by
  have he := (State.settled_quiet hs).1
  have hf : s.idle = { s with dev := { s.dev with out := [] } } := by
    rw [State.idle, Dev.idle, ← he]
  rw [hf]
  rfl

/-- Change the NV port. -/
def Dev.updNv (d : Dev) (f : NvPort → NvPort) : Dev := { d with nv := f d.nv }

theorem sortEv_of_length_le_one {l : List Event} (h : l.length ≤ 1) : sortEv l = l := by
  match l, h with
  | [], _ => rfl
  | [e], _ => rfl

/-- A command between two commands that leaves the critical record as `q` and the device as `d`: it raises the events `es`,
one at most and none that wakes the Steward, and sends `o`. -/
theorem actAll_ends_squall {s : State} (hs : s.settled = true) {f : State → State} {q : Squall} {d : Dev} {es : List Event}
    {o : List Out}
    (hf : f s.idle = { s with aon := { s.aon with squall := q }, dev := { d with out := o, evq := es } })
    (hd : d.evd = s.dev.evd) (hq : d.sqReq = s.dev.sqReq) (hone : es.length ≤ 1)
    (hwake : es.any Event.wakesStw = false) :
    s.actAll f = { s.ends es o d with aon := { s.aon with squall := q } } := by
  obtain ⟨-, hd', hq', -⟩ := State.settled_quiet hs
  have hsort : sortEv es = es := sortEv_of_length_le_one hone
  rw [actAll_idle hs, hf]
  refine (settle_ends { s with aon := { s.aon with squall := q }, dev := { d with out := o, evq := es } } (hq.trans hq')
    (hd.trans hd') (by rw [hsort]; exact hwake)).trans ?_
  rw [hsort]
  rfl

/-- The same where the critical record stays as it is. -/
theorem actAll_ends_device {s : State} (hs : s.settled = true) {f : State → State} {d : Dev} {es : List Event}
    {o : List Out} (hf : f s.idle = { s with dev := { d with out := o, evq := es } })
    (hd : d.evd = s.dev.evd) (hq : d.sqReq = s.dev.sqReq) (hone : es.length ≤ 1)
    (hwake : es.any Event.wakesStw = false) :
    s.actAll f = s.ends es o d :=
  actAll_ends_squall hs (q := s.aon.squall) hf hd hq hone hwake

/-! ### The NV port -/

/-- With no request waiting the port presents nothing (R52). -/
theorem nvPump_idle {d : Dev} (hw : d.nv.wait = []) : d.nvPump = d := by
  unfold Dev.nvPump
  rw [hw]
  split <;> simp_all

/-- The request that waits first is presented once the port is free, unblocked and has fewer than 8 requests outstanding
(R52). -/
theorem nvPump_presents {d : Dev} {r : NvReq} {l : List NvReq} (hp : d.nv.pres = none) (hw : d.nv.wait = r :: l)
    (hb : d.nv.block = false) (ho : d.nv.out.length + bnat d.nv.critOut < 8) :
    d.nvPump = (d.updNv (fun p => { p with pres := some r, wait := l })).send (.nvReq r.write false r.idx r.data) := by
  have hn : ¬ (d.nv.out.length + bnat d.nv.critOut ≥ 8) := by omega
  unfold Dev.nvPump
  simp [hp, hw, hb, hn, Dev.updNv]

/-! ### The critical record on the port (R52, R325) -/

theorem exec_critRecordPresent (s : State) :
    exec .critRecordPresent s = .next (s.actAll (fun s => s.critPresent)) := rfl

theorem critPresent_presents {s : State} (hw : s.aon.squall.st = .waiting) (hp : s.dev.nv.pres = none)
    (ho : s.dev.nv.out.length < 8) :
    s.critPresent = { s with
      aon := { s.aon with squall := { s.aon.squall with st := .presented } }
      dev := s.dev.send (.nvReq true true s.aon.squall.idx s.aon.squall.bytes) } := by
  simp [State.critPresent, hw, hp, ho]

theorem critPresent_same {s : State}
    (h : s.aon.squall.st ≠ .waiting ∨ s.dev.nv.pres ≠ none ∨ 8 ≤ s.dev.nv.out.length) : s.critPresent = s := by
  have hn : (s.aon.squall.st == .waiting && s.dev.nv.pres.isNone && decide (s.dev.nv.out.length < 8)) = false := by
    rcases h with h | h | h
    · simp [h]
    · simp [Option.isNone_iff_eq_none, h]
    · simp [h]
  simp [State.critPresent, hn]

theorem exec_critRecordResponse {s : State} (ha : s.aon.squall.st = .accepted) (st : BitVec 2) :
    exec (.critRecordResponse st) s = .next (s.actAll (fun s => s.critResponse st.toNat)) :=
  if_pos (by simp [ha])

/-- The record is answered: the port no longer counts it. -/
def Dev.critIn (d : Dev) : Dev := d.updNv (fun p => { p with critOut := false })

/-- The ring's head and sequence number move on where they are valid (R325). -/
def Dev.critAdvance (d : Dev) : Dev :=
  if d.on THERM.CRIT_HEAD_VALID then
    (d.wr THERM.CRIT_HEAD_SLOT ((d.rd THERM.CRIT_HEAD_SLOT + 1) % 63)).wr THERM.CRIT_SEQ_SEQ (d.rd THERM.CRIT_SEQ_SEQ + 1)
  else d

theorem critAdvance_off {d : Dev} (h : d.on THERM.CRIT_HEAD_VALID = false) : d.critAdvance = d :=
  if_neg (by simp [h])

theorem critAdvance_on {d : Dev} (h : d.on THERM.CRIT_HEAD_VALID = true) :
    d.critAdvance = (d.wr THERM.CRIT_HEAD_SLOT ((d.rd THERM.CRIT_HEAD_SLOT + 1) % 63)).wr THERM.CRIT_SEQ_SEQ
      (d.rd THERM.CRIT_SEQ_SEQ + 1) := if_pos h

/-- An OK: the record is done, and the port moves on (R325). -/
theorem critResponse_ok {s : State} {d e : Dev} (hd : s.dev.critIn.critAdvance = d) (he : d.nvPump = e) :
    s.critResponse 0 = { s with
      aon := { s.aon with squall := { s.aon.squall with st := .none, recDone := true } }
      dev := e } := by
  rw [← he, ← hd]
  rfl

/-- Another response, before the third: the record waits again (R325). -/
theorem critResponse_retries {s : State} {x : Nat} (hx : x ≠ 0) (hf : s.aon.squall.fails < 2) :
    s.critResponse x = { s with
      aon := { s.aon with squall := { s.aon.squall with st := .waiting, fails := s.aon.squall.fails + 1 } }
      dev := s.dev.critIn.updNv (fun p => { p with block := true }) } := by
  have hn : ¬ s.aon.squall.fails ≥ 2 := by omega
  simp [State.critResponse, hx, hn, Dev.critIn, Dev.updNv]

/-- The third response other than OK: the record is given up, and the port moves on (R325). -/
theorem critResponse_gives_up {s : State} {x : Nat} {e : Dev} (hx : x ≠ 0) (hf : 2 ≤ s.aon.squall.fails)
    (he : (s.dev.critIn.ev Ev.THERM_NV_FAIL).nvPump = e) :
    s.critResponse x = { s with
      aon := { s.aon with squall := { s.aon.squall with st := .none, nvFail := true, fails := 3 } }
      dev := e } := by
  rw [← he]
  simp [State.critResponse, hx, hf, Dev.critIn, Dev.updNv]

/-- What a response to the accepted record leaves is what the operation on the idle state leaves. -/
theorem critRecordResponse_ends {s : State} (hs : s.settled = true) (ha : s.aon.squall.st = .accepted) {st : BitVec 2}
    {q : Squall} {d : Dev} {es : List Event} {o : List Out}
    (hf : s.idle.critResponse st.toNat = { s with aon := { s.aon with squall := q }, dev := { d with out := o, evq := es } })
    (hd : d.evd = s.dev.evd) (hq : d.sqReq = s.dev.sqReq) (hone : es.length ≤ 1)
    (hwake : es.any Event.wakesStw = false) :
    exec (.critRecordResponse st) s = .next { s.ends es o d with aon := { s.aon with squall := q } } := by
  rw [exec_critRecordResponse ha, actAll_ends_squall hs hf hd hq hone hwake]

/-! ### Writes of the reported record's registers (R326) -/

/-- No clamp starts to act where the bounded fields and their bounds read as before (R23). -/
theorem clampEvents_same {d was : Dev} {base i off : Nat} (h : d.clampsOf base i off = was.clampsOf base i off) :
    d.clampEvents was base i off = d := by
  have hz : ∀ l : List (Nat × Bool), (List.zip l l).filter (fun p => !p.1.2 && p.2.2) = [] := by
    intro l
    induction l with
    | nil => rfl
    | cons x r ih => cases x.2 <;> simp_all
  simp [Dev.clampEvents, h, hz]

/-- The registers of the reported record that a write reaches. -/
def critFlds : List Fld := [THERM.CRIT_WDATA_DATA, THERM.CRIT_IDX_DONE, THERM.CRIT_IDX_IDX]

theorem bitsAt_lt (x lo wid : Nat) : bitsAt x lo wid < 2 ^ wid := Nat.mod_lt _ (Nat.two_pow_pos wid)

/-- A field of the reported record takes every value (R108). -/
theorem critFlds_taken {f : Fld} (hf : f ∈ critFlds) (s : State) (a : Acc) (v : Nat) :
    s.fldRefused a f 0 0 v = false := by
  have hval : ∀ g : Fld, g ∈ critFlds → s.dev.valueRefused g 0 0 v = false := by
    intro g hg
    have hlt := bitsAt_lt v g.lo g.wid
    simp only [critFlds, List.mem_cons, List.not_mem_nil, or_false] at hg
    rcases hg with rfl | rfl | rfl <;>
      · simp only [THERM.CRIT_WDATA_DATA, THERM.CRIT_IDX_DONE, THERM.CRIT_IDX_IDX] at hlt ⊢
        simp [Dev.valueRefused, Fld.of, THERM.ZLIM_T_CTRL, THERM.ZTRIP_T_TRIP, THERM.XTMEM_T1]
        exact decide_eq_false (by omega)
  have hlock : ∀ g ∈ critFlds, lockOf g = none := by decide
  have hpage : ∀ g ∈ critFlds, g.page = 0x17 := by decide
  simp [State.fldRefused, hval f hf, Dev.profileRefused, State.changeRefused, Dev.hardRefused, hlock f hf, hpage f hf]

/-- A secure access may write the fields of the reported record. -/
theorem critFlds_okWrite {f : Fld} (hf : f ∈ critFlds) {a : Acc} (ha : a.sec = true) : f.grd.okWrite 0 a = true := by
  simp only [critFlds, List.mem_cons, List.not_mem_nil, or_false] at hf
  rcases hf with rfl | rfl | rfl <;> exact ha

/-- A write of the index does not reach the fields that the clamps of the THERM page compare. -/
theorem clampsOf_wr_critIdx (d : Dev) (x : Nat) :
    (d.wr THERM.CRIT_IDX_IDX x).clampsOf 0x17 0 THERM.CRIT_IDX_DONE.off
      = d.clampsOf 0x17 0 THERM.CRIT_IDX_DONE.off := by
  have hp : clampPairs.filter (fun c => (c.1.page == 0x17 && (c.1.off == THERM.CRIT_IDX_DONE.off || decide (0 < c.1.stride)))
      || (c.2.1.page == 0x17 && c.2.1.off == THERM.CRIT_IDX_DONE.off))
      = [(THERM.ZTRIP_T_TRIP, THERM.HARD_T_HARD_TTRIP, false, true)] := by decide
  have hz : ∀ j, (d.wr THERM.CRIT_IDX_IDX x).rd THERM.ZTRIP_T_TRIP 0 j = d.rd THERM.ZTRIP_T_TRIP 0 j := fun j =>
    Dev.rd_wr_ne _ _ _ _ _ _ _ _ (by simp only [Fld.key, THERM.ZTRIP_T_TRIP, THERM.CRIT_IDX_IDX]; omega)
  have hh : ∀ j, (d.wr THERM.CRIT_IDX_IDX x).rd THERM.HARD_T_HARD_TTRIP 0 j = d.rd THERM.HARD_T_HARD_TTRIP 0 j := fun j =>
    Dev.rd_wr_ne _ _ _ _ _ _ _ _ (by simp [Fld.key, THERM.HARD_T_HARD_TTRIP, THERM.CRIT_IDX_IDX])
  have hi : (d.wr THERM.CRIT_IDX_IDX x).clampInsts THERM.ZTRIP_T_TRIP = d.clampInsts THERM.ZTRIP_T_TRIP := rfl
  simp [Dev.clampsOf, hp, Dev.clampActs, hz, hh, hi]

/-- The registers of the reported record that a write reaches: CRIT_WDATA and CRIT_IDX. -/
def critRegs : List Reg :=
  [⟨THERM.CRIT_WDATA_DATA.off, 1, 0, [THERM.CRIT_WDATA_DATA]⟩,
   ⟨THERM.CRIT_IDX_DONE.off, 1, 0, [THERM.CRIT_IDX_DONE, THERM.CRIT_IDX_IDX]⟩]

/-- Where the registers of the reported record stand, and that none of them holds a HARD_ field, a LOCK bit or GOV.SAFE. -/
theorem critRegs_static : ∀ r ∈ critRegs,
    (∀ f ∈ r.flds, f ∈ critFlds) ∧
    r.flds.any (fun f => (hardFlds.any (fun h => h.1.same f)) || f.same GOV.SAFE_MODE || f.same GOV.SAFE_LEVEL_MAX
      || lockFlds.any (fun l => l.same f)) = false ∧
    (0x17 * 1024 + r.off / 4) / 1024 = 0x17 ∧ (0x17 * 1024 + r.off / 4) % 1024 * 4 = r.off ∧
    ¬ r.off < 0x40 ∧ regAt 0x17 r.off = some (r, 0) ∧ (r.off == 0x380 || r.off == 0x384) = false ∧
    (r.off == THERM.SQ_STAT_CAUSE.off || r.off == THERM.INPUTS_COOLANT.off) = false := by decide

/-- A write that raises one event at most raises it as it is (R108). -/
theorem onceBad_of_length_le_one {l : List Event} (h : l.length ≤ 1) : onceBad l = l := by
  match l, h with
  | [], _ => rfl
  | [e], _ => simp [onceBad]

/-- What a secure write does to a register of the reported record: its fields are stored, then it has its effect. -/
theorem busWrite_critReg {s : State} {a : Acc} {v : Nat} {r : Reg} (hr : r ∈ critRegs)
    (hy : s.dev.ready 0x17 = true) (ha : a.sec = true) (he : s.dev.evq = [])
    (hc : (r.flds.foldl (s.store a 0 0 v) s.dev).clampsOf 0x17 0 r.off = s.dev.clampsOf 0x17 0 r.off)
    {d : Dev} (hd : (r.flds.foldl (s.store a 0 0 v) s.dev).wroteTherm s.dev (s.accepts a 0 0 v) r.off v = d)
    (hl : d.evq.length ≤ 1) :
    s.busWrite a (0x17 * 1024 + r.off / 4) v = { s with dev := d } := by
  obtain ⟨hflds, hhard, hpage, hoff, hbody, hreg, hx, haon⟩ := critRegs_static r hr
  have hmeet : r.flds.any (fun f => s.meets a f 0 0 v) = false := by
    simp only [List.any_eq_false, State.meets]
    intro f hf
    simp [critFlds_okWrite (hflds f hf) ha]
  have href : r.flds.any (fun f => s.refuses a f 0 0 v) = false := by
    simp only [List.any_eq_false, State.refuses]
    intro f hf
    simp [critFlds_taken (hflds f hf)]
  have hpres : s.dev.regPresent 0x17 0 r.off 0 = true := by simp [Dev.regPresent, hx]
  have hw : s.writeReg a r 0x17 0 0 v
      = { s with dev := d } := by
    rw [← hd]
    simp only [State.writeReg, href, hhard, Bool.false_eq_true, if_false, clampEvents_same hc, State.wroteAon, haon,
      Dev.wrote]
  have hb : pageBase 0x17 = 0x17 := rfl
  have hi : pageInst 0x17 = 0 := rfl
  have ht := busWrite_takes s a (0x17 * 1024 + r.off / 4) v r 0
  rw [hpage, hoff, hb, hi] at ht
  rw [ht rfl hbody hreg hpres hy hmeet rfl rfl, hw]
  simp [he, onceBad_of_length_le_one hl]

/-- CRIT_WDATA takes a word of the reported record, and the index moves on (R326). -/
theorem busWrite_critWdata {s : State} {a : Acc} {v : Nat} (hy : s.dev.ready 0x17 = true) (ha : a.sec = true)
    (he : s.dev.evq = []) :
    s.busWrite a (THERM.CRIT_WDATA_DATA.adr 0 0) v = { s with dev := s.dev.critWord v } := by
  have hm : THERM.CRIT_WDATA_DATA ∈ critFlds := by decide
  have hok : s.accepts a 0 0 v THERM.CRIT_WDATA_DATA = true := by
    simp [State.accepts, critFlds_okWrite hm ha, critFlds_taken hm]
  exact busWrite_critReg (r := ⟨THERM.CRIT_WDATA_DATA.off, 1, 0, [THERM.CRIT_WDATA_DATA]⟩) (by decide) hy ha he rfl
    (if_pos hok) (by simp [Dev.critWord, he])

/-- CRIT_IDX stores the index, and a 1 in DONE completes the record (R326). -/
theorem busWrite_critIdx {s : State} {a : Acc} {v : Nat} (hy : s.dev.ready 0x17 = true) (ha : a.sec = true)
    (he : s.dev.evq = []) :
    s.busWrite a (THERM.CRIT_IDX_DONE.adr 0 0) v =
      { s with dev := if bitsAt v 31 1 = 1 then (s.dev.wr THERM.CRIT_IDX_IDX (bitsAt v 0 4)).critDone
                      else s.dev.wr THERM.CRIT_IDX_IDX (bitsAt v 0 4) } := by
  have hi : THERM.CRIT_IDX_IDX ∈ critFlds := by decide
  have hn : THERM.CRIT_IDX_DONE ∈ critFlds := by decide
  have hidx : s.accepts a 0 0 v THERM.CRIT_IDX_IDX = true := by
    simp [State.accepts, critFlds_okWrite hi ha, critFlds_taken hi]
  have hdone : s.accepts a 0 0 v THERM.CRIT_IDX_DONE = true := by
    simp [State.accepts, critFlds_okWrite hn ha, critFlds_taken hn]
  have hmask : THERM.CRIT_IDX_IDX.of v &&& s.dev.liveMask THERM.CRIT_IDX_IDX 0 = bitsAt v 0 4 := by
    have hm : s.dev.liveMask THERM.CRIT_IDX_IDX 0 = 2 ^ 4 - 1 := rfl
    rw [hm, Nat.and_two_pow_sub_one_eq_mod]
    exact Nat.mod_eq_of_lt (bitsAt_lt v 0 4)
  have hst : [THERM.CRIT_IDX_DONE, THERM.CRIT_IDX_IDX].foldl (s.store a 0 0 v) s.dev
      = s.dev.wr THERM.CRIT_IDX_IDX (bitsAt v 0 4) := by
    rw [← hmask]
    exact if_pos (by rw [hidx]; rfl)
  refine busWrite_critReg (r := ⟨THERM.CRIT_IDX_DONE.off, 1, 0, [THERM.CRIT_IDX_DONE, THERM.CRIT_IDX_IDX]⟩)
    (by decide) hy ha he ?_ ?_ ?_
  · dsimp only
    rw [hst]
    exact clampsOf_wr_critIdx _ _
  · dsimp only
    rw [hst]
    have hset : THERM.CRIT_IDX_DONE.set1 (s.accepts a 0 0 v) v = decide (bitsAt v 31 1 = 1) := by
      rw [Fld.set1, hdone]
      simp [Fld.of, THERM.CRIT_IDX_DONE, Bool.beq_eq_decide_eq]
    show (if THERM.CRIT_IDX_DONE.set1 (s.accepts a 0 0 v) v then _ else _) = _
    rw [hset]
    simp
  · split <;> simp [Dev.critDone, Dev.ev, he]

theorem exec_critWdataWrite (a : Acc) (v : BitVec 32) (s : State) :
    exec (.critWdataWrite a v) s = .next (s.actAll (fun s => s.busWrite a (THERM.CRIT_WDATA_DATA.adr 0 0) v.toNat)) := rfl

theorem exec_critIdxDone (a : Acc) (v : BitVec 32) (s : State) :
    exec (.critIdxDone a v) s = .next (s.actAll (fun s => s.busWrite a (THERM.CRIT_IDX_DONE.adr 0 0) v.toNat)) := rfl

end Sys2Proof.Machine
end

section
open Sys2Proof Sys2Proof.Machine

/-- Settles O35: each clause runs one command on a quiet device by the rule of its operation. -/
theorem criticalRecordTransfer : Obligations.CriticalRecordTransfer := by
  unfold Obligations.CriticalRecordTransfer
  have hbad : ∀ {st : BitVec 2}, st ≠ 0#2 → st.toNat ≠ 0 := fun hx h => hx (BitVec.eq_of_toNat_eq h)
  refine ⟨?_, ?_, ?_, ?_, ?_, ?_, ?_, ?_, ?_, ?_, ?_, ?_⟩
  · intro s hs hw hp ho
    rw [exec_critRecordPresent]
    exact congrArg Host.Outcome.next
      (actAll_ends_squall hs (critPresent_presents (s := s.idle) hw hp ho) rfl rfl (by simp) rfl)
  · intro s hs h
    rw [exec_critRecordPresent]
    exact congrArg Host.Outcome.next (actAll_ends_device hs (critPresent_same (s := s.idle) h) rfl rfl (by simp) rfl)
  · rintro st s hs ha rfl hv hp hw
    refine critRecordResponse_ends hs ha ?_ rfl rfl (by simp) rfl
    exact critResponse_ok (s := s.idle) (critAdvance_off hv) (nvPump_idle hw)
  · rintro st s hs ha rfl hv hp hw
    refine critRecordResponse_ends hs ha ?_ rfl rfl (by simp) rfl
    exact critResponse_ok (s := s.idle) (critAdvance_on hv) (nvPump_idle hw)
  · rintro st r l s hs ha rfl hv hp hw hb ho
    refine critRecordResponse_ends hs ha ?_ rfl rfl (by simp) rfl
    refine (critResponse_ok (s := s.idle) (critAdvance_on hv) (nvPump_presents hp hw hb ho)).trans ?_
    simp only [Dev.send, Dev.updNv, Dev.critIn, State.idle, Dev.idle, Dev.wr, List.nil_append, Dev.rd]
  · intro st s hs ha hx hf
    exact critRecordResponse_ends hs ha (critResponse_retries (s := s.idle) (hbad hx) hf) rfl rfl (by simp) rfl
  · intro st s hs ha hx hf hp hw
    refine critRecordResponse_ends hs ha ?_ rfl rfl (by simp) rfl
    exact critResponse_gives_up (s := s.idle) (hbad hx) hf (nvPump_idle hw)
  · intro st r l s hs ha hx hf hp hw hb ho
    refine critRecordResponse_ends hs ha ?_ rfl rfl (by simp) rfl
    refine (critResponse_gives_up (s := s.idle) (hbad hx) hf (nvPump_presents hp hw hb ho)).trans ?_
    simp only [Dev.send, Dev.updNv, Dev.critIn, State.idle, Dev.idle, Dev.ev, List.nil_append, State.event]
  · intro st s ha
    exact if_neg (by simpa using ha)
  · intro a v s hs hy ha _
    rw [exec_critWdataWrite]
    exact congrArg Host.Outcome.next
      (actAll_ends_device hs (busWrite_critWdata (s := s.idle) hy ha rfl) rfl rfl (by simp) rfl)
  · intro a v s hs hy ha hv
    rw [exec_critIdxDone]
    refine congrArg Host.Outcome.next (actAll_ends_device hs ?_ rfl rfl (by simp) rfl)
    refine (busWrite_critIdx (s := s.idle) hy ha rfl).trans ?_
    rw [if_neg (by omega)]
    rfl
  · intro a v s hs hy ha hv
    rw [exec_critIdxDone]
    refine congrArg Host.Outcome.next (actAll_ends_device hs ?_ rfl rfl (by simp) rfl)
    refine (busWrite_critIdx (s := s.idle) hy ha rfl).trans ?_
    rw [if_pos hv]
    rfl
end

section
/-!
SUPPORT. Two settled states that no run reaches and that no hypothesis of the statements about the ledger's memory port and
about the Warden's NV requests excludes, and what the model does in them.
-/
namespace Sys2Proof.Machine

/-- A flush whose last write-back is on its way, with a write among the reads of the memory port: only a read is ever put
there. -/
def misplacedWrite : State :=
  { dev := { memPort := { reads := [.slot 20 5 true], writes := [.slot 20 5 true] }, led := { flushing := true } } }

/-- A PROV_WRITE outstanding at the NV port whose tag does not fit the word of its answer: the Warden keeps tags below 16. -/
def wideTag : State := { dev := { nv := { out := [⟨.prov 1744, true, 0, []⟩] } } }

/-- Whether a flush of the ledger runs in the state that an outcome leaves. -/
def flushingAfter : Host.Outcome State Fault Refusal → Bool
  | .next t => t.dev.led.flushing
  | _ => false

/-- The words of the answers to the host that wait in the state that an outcome leaves. -/
def waitingWords : Host.Outcome State Fault Refusal → List Nat
  | .next t => t.dev.wrd.outH.map (·.word)
  | _ => []

theorem misplacedWrite_settled : misplacedWrite.settled = true := by decide +kernel

/-- The write among the reads counts as a write-back that is left, so the last real one does not end the flush. -/
theorem memWriteDone_misplacedWrite_keeps_flushing :
    flushingAfter (exec .memWriteDone misplacedWrite) = true := by decide +kernel

theorem wideTag_settled : wideTag.settled = true := by decide +kernel

/-- The operation byte of the answer wraps, and the word that waits is 0. -/
theorem nvResponse_wideTag_waitingWords :
    waitingWords (exec (.nvResponse 0#2 0#512) wideTag) = [0] := by decide +kernel

end Sys2Proof.Machine
end

section
open Sys2Proof Sys2Proof.Machine

/-- Refutes O40 in its clause about the MEM_WRITE_DONE that ends a flush: of the port's reads the clause excludes those that
mend a slot, and not a write of the flush among them, which the model counts as left. -/
theorem not_ledgerAndMemoryPort : ¬ Obligations.LedgerAndMemoryPort := by
  unfold Obligations.LedgerAndMemoryPort
  intro h
  obtain ⟨-, -, -, -, -, -, -, -, -, -, -, -, -, -, -, -, -, -, -, -, -, -, -, -, hover, -⟩ := h
  have hout := congrArg flushingAfter (hover (.slot 20 5 true) misplacedWrite misplacedWrite_settled
    rfl rfl rfl rfl (by decide +kernel) (by decide +kernel))
  rw [memWriteDone_misplacedWrite_keeps_flushing] at hout
  exact absurd hout (by decide +kernel)

/-- Refutes O49 in its clause about the response to a PROV_WRITE: with a tag of 1744 the word of the answer in the model is 0,
the one the clause states is not. -/
theorem not_wardenServicesAndNvPort : ¬ Obligations.WardenServicesAndNvPort := by
  unfold Obligations.WardenServicesAndNvPort
  intro h
  obtain ⟨-, -, -, -, -, -, -, -, -, -, -, -, -, -, -, -, -, -, hprov, -⟩ := h
  have hout := congrArg waitingWords (hprov 0#2 0#512 ⟨.prov 1744, true, 0, []⟩ [] 1744 wideTag wideTag_settled
    rfl rfl (by decide +kernel))
  rw [nvResponse_wideTag_waitingWords] at hout
  exact absurd hout (by decide +kernel)
end
